-- ==== Sys2Proof/Word.lean ====
section
/-! DEFINITION. The word types of the XD6416 registers and fields, and the sparse table type the state is built from. -/

namespace Sys2Proof

/-- A vendor register as software reads and writes it: 32 bits (R10, R12). -/
abbrev Word := BitVec 32

/-- One byte of a payload, a feature address or a status byte. -/
abbrev Byte := BitVec 8

/-- A 64-bit unit: Associative Engine units, NVMe 64-bit fields. -/
abbrev U64 := BitVec 64

/-- A sparse table: keys strictly rising, an unlisted key holds the default its user names. -/
abbrev Table (α : Type) := List (Nat × α)

/-- Bits `lo` to `lo + width - 1` of a number. -/
def bits (v lo width : Nat) : Nat := v / 2 ^ lo % 2 ^ width

/-- The number `n` seen as a two's complement number of `width` bits. -/
def signed (n width : Nat) : Int :=
  if n % 2 ^ width < 2 ^ (width - 1) then (n % 2 ^ width : Nat) else (n % 2 ^ width : Nat) - (2 ^ width : Nat)

/-- An integer as its `width`-bit two's complement pattern. -/
def unsigned (i : Int) (width : Nat) : Nat := (i % (2 ^ width : Nat)).toNat

/-- Division rounded up; 0 for a zero divisor. -/
def ceilDiv (a b : Nat) : Nat := (a + b - 1) / b

/-- The nearest number in lo..hi. -/
def clampN (lo hi v : Nat) : Nat := if v < lo then lo else if hi < v then hi else v

/-- A Boolean as the bit software reads. -/
def bit (b : Bool) : Nat := if b then 1 else 0

end Sys2Proof
end

