-- ==== Sys2Proof/Syntax/Branch.lean ====
section
/-! DEFINITION. Operand types of the Branch Link commands: what a received packet carries. -/

namespace Sys2Proof

/-- The link and transaction header of a received packet (R329): LSEQ, whether its CRC is good, whether its GCM tag verifies, its nonce counter, TYPE, LEN and the LAST flag. -/
structure BlHdr where
  lseq : Nat
  crcOk : Bool
  authOk : Bool
  counter : Nat
  typ : Nat
  len : Nat
  last : Bool
  deriving DecidableEq, Repr

/-- A command packet (R336): header, tag, and the body's fields. `reserved`: a reserved value stands in the body. -/
structure BlCmd where
  h : BlHdr
  tag : Nat
  opcode : Nat
  cls : Nat
  fua : Bool
  volume : Nat
  coef : Nat
  count : Nat
  start : Nat
  reserved : Bool
  deriving DecidableEq, Repr

/-- A HELLO or HELLO_ACK payload as HELLO_CHECK reads it (R334, R446): whether its signature, its chain and, in a HELLO_ACK, its digest of the HELLO verify, and its fields. [DEDUCED, log 17] -/
structure Hello where
  h : BlHdr
  sigOk : Bool
  chainOk : Bool
  digestOk : Bool
  serial : Nat
  mode : Nat
  member : Nat
  level : Nat
  svn : Nat
  boot : Nat
  session : Nat
  /-- SHA-384 digest of the payload as received -/
  digest : Nat
  deriving DecidableEq, Repr

end Sys2Proof
end

