-- ==== Sys2Proof/Syntax/Flash.lean ====
section
/-! DEFINITION. Operand types of the flash commands: what the NAND, the codec and the sensors give back to a command. -/

namespace Sys2Proof

/-- Traffic classes in priority order (R34). -/
inductive TClass where
  | express | stopping | goods
  deriving DecidableEq, Repr

/-- Owner of a codeword that is read (R129). -/
inductive JobOwner where
  /-- host read: command context, IU index, part -/
  | host (ctx iu part : Nat)
  /-- a Shunting-yard copy (R171) -/
  | relocation
  /-- a Lengthman sample (R177) -/
  | patrol
  /-- a verification sample (R154) -/
  | verify
  /-- sense j of a tracking read, -2 to 2 (R122) -/
  | tracking (j : Int)
  /-- a sample of a block check (R182) -/
  | check
  /-- die-read or media-pass segment of the self-test (R315) -/
  | selfTest
  | other
  deriving DecidableEq, Repr

/-- The worst sample of a block (R178): corrected bits, decode level, ERASED, UNCORR. -/
structure SampleWorst where
  corrected : Nat
  level : Nat
  erased : Bool
  uncorr : Bool
  deriving DecidableEq, Repr

/-- The operation address a routine is dispatched with: planes (bit mask), block, page and codeword slots (bit mask) of the die, the class of the work and the number its owner gave it. -/
structure OpArg where
  planes : Nat
  block : Nat
  page : Nat
  slots : Nat
  cls : TClass
  owner : Nat
  /-- for a read: what it is made for -/
  why : JobOwner
  deriving DecidableEq, Repr

/-- What one execution of a microword meets on the bus, or one stretch of a hold: the sequencer cycles its bus cycles or the hold take, the status byte it reads, whether that byte has a bit set that the NAND reserves (R76), the level of RB_N, whether its DMA reports an error and every DMA of the leg is complete, the result of a training compare, the value a 4-byte read gives FP, and the bits of the stored codeword (0 to 175) upset since the word was last read (R84, R85). -/
structure WordEnv where
  cycles : Nat
  status : Byte
  statusBad : Bool
  rbHigh : Bool
  dmaError : Bool
  dmaDone : Bool
  calPass : Bool
  fp : Word
  flips : List Nat
  deriving DecidableEq, Repr

/-- What the words of one leg meet, in execution order. [DESIGN CHOICE, log 6] -/
abbrev LegEnv := List WordEnv

/-- An operand of an operation that runs a routine, with what the bus gives the words of the routine. -/
structure OnBus (α : Type) where
  val : α
  env : LegEnv
  deriving DecidableEq, Repr

/-- A status byte read from a die (R39, R76): the byte, whether a bit is set in it that the NAND reserves, and what the bus gives the STATUS routine. -/
structure StatusRead where
  byte : Byte
  reserved : Bool
  env : LegEnv
  deriving DecidableEq, Repr

/-- Work pending on a channel at a planning cutoff (R30, R34, R49): command sequences and data slots that Stopping work waits for, and those that Goods work waits for. [DESIGN CHOICE, log 21] -/
structure ChWork where
  ch : Nat
  stopCmds : Nat
  stopSlots : Nat
  goodsCmds : Nat
  goodsSlots : Nat
  deriving DecidableEq, Repr

/-- The address an ADDR cycle of a microword drives (R87, ADDR_SRC): of the context operation, with the parts the source names; the plane from C0; immediate bytes; a feature address. -/
inductive BusAddr where
  | operation (column row : Bool) (die planes block page slot : Nat)
  | rowLun (die block page : Nat)
  | rowPlane (die plane block page : Nat)
  | imm (v : Nat)
  | feature (f : Nat)
  deriving DecidableEq, Repr

/-- The bus cycles of one microword (R87): chip enables asserted, cycle kind, timing, command bytes, address with its number of cycles, DQ mode, DMA operation and length in bytes. -/
structure BusCycle where
  ce : Nat
  kind : Nat
  timing : Nat
  cmds : List Nat
  addr : Option (BusAddr × Nat)
  dq : Nat
  dma : Nat
  len : Nat
  deriving DecidableEq, Repr

/-- One trim item found by training (R68): item of SB_CH_TRIM_SEL, value, eye margin in delay steps. -/
structure Trim where
  item : Nat
  value : Nat
  margin : Nat
  deriving DecidableEq, Repr

/-- One eye measurement of a DRIFT or WDRIFT step (R71): the item, the step toward the centre of the eye (-1, 0 or 1) and the margin. -/
structure EyeMeas where
  item : Nat
  toCentre : Int
  margin : Nat
  deriving DecidableEq, Repr

/-- Geometry a parameter page declares (R64, R65). -/
structure Geometry where
  /-- planes field of the entry: 0 one, 1 two, 2 four, 3 invalid -/
  planes : Nat
  /-- 0 SLC, 1 MLC, 2 TLC, 3 QLC, 4-7 invalid -/
  cell : Nat
  slcOk : Bool
  blocksM1 : Nat
  pagesM1 : Nat
  pageBytes : Nat
  capGbit : Nat
  /-- the page offers independent plane reads -/
  ipr : Bool
  /-- the page offers an interface option that R58 marks supported -/
  iface : Bool
  /-- the page requires an interface option that R58 marks not supported -/
  needs : Bool
  deriving DecidableEq, Repr

/-- What one chip enable answers during identification (R64). -/
structure CeIdent where
  responds : Bool
  pageOk : Bool
  idBytes : List Byte
  luns : Nat
  geom : Geometry
  deriving DecidableEq, Repr

/-- What training finds on one chip enable: at each rate of R59, in MT/s, whether it passes, and the trims there. -/
structure CeTrain where
  ce : Nat
  passAt : List Nat
  trims : List Trim
  deriving DecidableEq, Repr

/-- What a decoder gives for one codeword (R113, R116, R123): zero bits of the raw codeword, convergence, CRC-32, the LBA, namespace and part tags, corrected bits, iterations and unsatisfied checks at the end. [DESIGN CHOICE, log 6; DEDUCED, log 25] -/
structure DecRes where
  zeroBits : Nat
  converged : Bool
  crcOk : Bool
  lba : Nat
  nsid : Nat
  corrected : Nat
  iter : Nat
  unsat : Nat
  deriving DecidableEq, Repr

end Sys2Proof
end

