-- ==== Sys2Proof/Syntax/Host.lean ====
section
/-! DEFINITION. Operand types of the host commands: blocks, submission entries, queues, data structures. -/

namespace Sys2Proof

/-- The bytes of one logical block. -/
abbrev Block := List Byte

/-- A 40-bit map entry (R137). -/
abbrev MapEntry := BitVec 40

/-- What the checks of a command's data pointer find (R281): the status it would complete with, none when it is valid. [DESIGN CHOICE, log 6] -/
inductive PtrCheck where
  | ok
  | prpOffset | sglType | sglCount | sglLength | sglSegment | sglOffset
  deriving DecidableEq, Repr

/-- A submission queue entry as the front end reads it, field by field (NVMe names). `arg` holds the command-specific fields of an admin command, in the order its row of this model names them. [DESIGN CHOICE, log 49] -/
structure Sqe where
  opcode : Nat
  cid : Nat
  fuse : Nat
  nsid : Nat
  slba : Nat
  /-- 0's-based number of logical blocks -/
  nlb : Nat
  fua : Bool
  prinfo : Nat
  /-- directive type (2 Data Placement) and specific -/
  dtype : Nat
  dspec : Nat
  /-- Dataset Management AD; Copy descriptor format -/
  ad : Bool
  fmt : Nat
  /-- ranges of Dataset Management or source ranges of Copy: starting LBA and number of blocks -/
  ranges : List (Nat × Nat)
  /-- bytes transferred -/
  bytes : Nat
  ptr : PtrCheck
  /-- every data pointer lies in the Controller Memory Buffer -/
  cmbData : Bool
  /-- a data pointer straddles the edge of the buffer window -/
  cmbEdge : Bool
  arg : List Nat
  deriving DecidableEq, Repr

/-- A submission entry with nothing in it: what a firmware context holds. -/
def Sqe.empty : Sqe := ⟨0, 0, 0, 0, 0, 0, false, 0, 0, 0, false, 0, [], 0, .ok, false, false, []⟩

/-- An internal range of firmware (R237): first and last index, namespace slot, writer. -/
structure IlRange where
  first : Nat
  last : Nat
  nsx : Nat
  writer : Bool
  deriving DecidableEq, Repr

/-- Streams of a die group (R148). -/
inductive Stream where
  | host (handle : Nat)
  | relocation
  | metadata
  | holdup
  deriving DecidableEq, Repr

end Sys2Proof
end

