-- ==== Sys2Proof/Syntax/Mem.lean ====
section
/-! DEFINITION. Operand types of the memory commands. -/

namespace Sys2Proof

/-- An error of one symbol of a stored DRAM word: device 0-9, symbol 0-7 of the device, the bits that differ (R390). -/
structure SymErr where
  dev : Nat
  sym : Nat
  pat : BitVec 16
  deriving DecidableEq, Repr

/-- A write of a block to an SRAM word: the new bytes and which of the eight it writes (R393, R394). -/
structure SramWrite where
  data : BitVec 64
  bytes : BitVec 8
  deriving DecidableEq, Repr

/-- A word the Platelayer reads (R401, R402): a DRAM word by its address, with the errors the array adds; a word of an SRAM group, with what its block has written there since and the bits the array inverts (64 to 71 the check bits); a control-store word of a channel, with the bits inverted (R85). -/
inductive ScrubTarget where
  | dram (word : Nat) (upset : List SymErr)
  | sram (group word : Nat) (writes : List SramWrite) (upset : List Nat)
  | store (ch addr : Nat) (upset : List Nat)
  deriving DecidableEq, Repr

end Sys2Proof
end

