-- ==== Sys2Proof/Syntax/Params.lean ====
section
/-! DEFINITION. The Rulebook's integer parameters: one name per path of the spec's parameter tables, with range and default (R27, R28, R528 to R530). -/

namespace Sys2Proof

/-- An integer Rulebook parameter. A family (flash profile 0-7, memory port 0-9, thermal input 0-17, channel 0-15) takes its index. -/
inductive Param where
  /-- `rb.timetable.express_per_tick` (R57) -/
  | timetableExpressPerTick
  /-- `rb.timetable.min_progress_ticks` (R57) -/
  | timetableMinProgressTicks
  /-- `rb.timetable.max_suspend_span_ticks` (R57) -/
  | timetableMaxSuspendSpanTicks
  /-- `rb.timetable.express_admit_ticks` (R57) -/
  | timetableExpressAdmitTicks
  /-- `rb.timetable.max_programs` (R57) -/
  | timetableMaxPrograms
  /-- `rb.timetable.max_erases` (R57) -/
  | timetableMaxErases
  /-- `rb.timetable.program_tokens` (R57) -/
  | timetableProgramTokens
  /-- `rb.timetable.erase_tokens` (R57) -/
  | timetableEraseTokens
  /-- `rb.timetable.maint_ticks_per_period` (R57) -/
  | timetableMaintTicksPerPeriod
  /-- `rb.timetable.goods_floor_pct` (R57) -/
  | timetableGoodsFloorPct
  /-- `rb.timetable.goods_urgent_floor_pct` (R57) -/
  | timetableGoodsUrgentFloorPct
  /-- `rb.timetable.ceiling_monitor` (R57) -/
  | timetableCeilingMonitor
  /-- `rb.flash.interface` (R81) -/
  | flashInterface
  /-- `rb.flash.rate_mts` (R81) -/
  | flashRateMts
  /-- `rb.flash.min_rate_mts` (R81) -/
  | flashMinRateMts
  /-- `rb.flash.drive_ohm` (R81) -/
  | flashDriveOhm
  /-- `rb.flash.nand_odt_ohm` (R81) -/
  | flashNandOdtOhm
  /-- `rb.flash.expected_dies` (R81) -/
  | flashExpectedDies
  /-- `rb.flash.drift_margin_min` (R81) -/
  | flashDriftMarginMin
  /-- `rb.flash.cal_interval_ms` (R81) -/
  | flashCalIntervalMs
  /-- `rb.flash.cal_force_periods` (R81) -/
  | flashCalForcePeriods
  /-- `rb.flash.retrain_delta_c` (R81) -/
  | flashRetrainDeltaC
  /-- `rb.flash.die_fail_limit` (R81) -/
  | flashDieFailLimit
  /-- `rb.flash.profile#.t_r_ns` (R81) -/
  | flashProfileTRNs (k : Nat)
  /-- `rb.flash.profile#.t_prog_us` (R81) -/
  | flashProfileTProgUs (k : Nat)
  /-- `rb.flash.profile#.t_prog_slc_us` (R81) -/
  | flashProfileTProgSlcUs (k : Nat)
  /-- `rb.flash.profile#.t_bers_us` (R81) -/
  | flashProfileTBersUs (k : Nat)
  /-- `rb.flash.profile#.psusp_lat_ns` (R81) -/
  | flashProfilePsuspLatNs (k : Nat)
  /-- `rb.flash.profile#.esusp_lat_ns` (R81) -/
  | flashProfileEsuspLatNs (k : Nat)
  /-- `rb.flash.profile#.rrst_lat_ns` (R81) -/
  | flashProfileRrstLatNs (k : Nat)
  /-- `rb.flash.profile#.resume_lat_ns` (R81) -/
  | flashProfileResumeLatNs (k : Nat)
  /-- `rb.flash.profile#.susp_limit` (R81) -/
  | flashProfileSuspLimit (k : Nat)
  /-- `rb.flash.profile#.ipr` (R81) -/
  | flashProfileIpr (k : Nat)
  /-- `rb.flash.profile#.dispatch_set` (R81) -/
  | flashProfileDispatchSet (k : Nat)
  /-- `rb.microcode.customer_enable` (R112) -/
  | microcodeCustomerEnable
  /-- `rb.microcode.min_customer_svn` (R112) -/
  | microcodeMinCustomerSvn
  /-- `rb.microcode.vendor_op_interval_h` (R112) -/
  | microcodeVendorOpIntervalH
  /-- `rb.microcode.trace_mode` (R112) -/
  | microcodeTraceMode
  /-- `rb.read.parity_bytes` (R132) -/
  | readParityBytes
  /-- `rb.read.hard_iter_max` (R132) -/
  | readHardIterMax
  /-- `rb.read.soft_iter_max` (R132) -/
  | readSoftIterMax
  /-- `rb.read.soft3_enable` (R132) -/
  | readSoft3Enable
  /-- `rb.read.retry_steps` (R132) -/
  | readRetrySteps
  /-- `rb.read.soft_delta` (R132) -/
  | readSoftDelta
  /-- `rb.read.track_step` (R132) -/
  | readTrackStep
  /-- `rb.read.ew_threshold` (R132) -/
  | readEwThreshold
  /-- `rb.read.band_edge1_c` (R132) -/
  | readBandEdge1C
  /-- `rb.read.band_edge2_c` (R132) -/
  | readBandEdge2C
  /-- `rb.read.band_edge3_c` (R132) -/
  | readBandEdge3C
  /-- `rb.translation.default_iu_kib` (R168) -/
  | translationDefaultIuKib
  /-- `rb.translation.overprovision_pct` (R168) -/
  | translationOverprovisionPct
  /-- `rb.translation.fdp_enable` (R168) -/
  | translationFdpEnable
  /-- `rb.translation.fdp_handles` (R168) -/
  | translationFdpHandles
  /-- `rb.translation.worker_parity` (R168) -/
  | translationWorkerParity
  /-- `rb.translation.pad_after_us` (R168) -/
  | translationPadAfterUs
  /-- `rb.translation.wt_pad_us` (R168) -/
  | translationWtPadUs
  /-- `rb.translation.journal_commit_us` (R168) -/
  | translationJournalCommitUs
  /-- `rb.translation.journal_live_mib` (R168) -/
  | translationJournalLiveMib
  /-- `rb.translation.verify_cb_max` (R168) -/
  | translationVerifyCbMax
  /-- `rb.translation.sidings_low` (R168) -/
  | translationSidingsLow
  /-- `rb.shunting.start_free` (R196) -/
  | shuntingStartFree
  /-- `rb.shunting.urgent_free` (R196) -/
  | shuntingUrgentFree
  /-- `rb.shunting.max_debt_units` (R196) -/
  | shuntingMaxDebtUnits
  /-- `rb.patrol.period_days` (R196) -/
  | patrolPeriodDays
  /-- `rb.patrol.disturb_scheme` (R196) -/
  | patrolDisturbScheme
  /-- `rb.patrol.refresh_cb` (R196) -/
  | patrolRefreshCb
  /-- `rb.patrol.milepost_limit` (R196) -/
  | patrolMilepostLimit
  /-- `rb.wear.static_margin` (R196) -/
  | wearStaticMargin
  /-- `rb.wear.static_per_day` (R196) -/
  | wearStaticPerDay
  /-- `rb.wear.rated_pe` (R196) -/
  | wearRatedPe
  /-- `rb.wear.bufstop_reserve` (R196) -/
  | wearBufstopReserve
  /-- `rb.wear.spare_threshold_pct` (R196) -/
  | wearSpareThresholdPct
  /-- `rb.wear.ew_rate_ppm` (R196) -/
  | wearEwRatePpm
  /-- `rb.wear.retry_rate_ppm` (R196) -/
  | wearRetryRatePpm
  /-- `rb.wear.class_loss_ppm` (R196) -/
  | wearClassLossPpm
  /-- `rb.holdup.enable` (R221) -/
  | holdupEnable
  /-- `rb.holdup.sense_div` (R221) -/
  | holdupSenseDiv
  /-- `rb.holdup.vin_div` (R221) -/
  | holdupVinDiv
  /-- `rb.holdup.vin_fail_mv` (R221) -/
  | holdupVinFailMv
  /-- `rb.holdup.vin_filter_us` (R221) -/
  | holdupVinFilterUs
  /-- `rb.holdup.v_min_mv` (R221) -/
  | holdupVMinMv
  /-- `rb.holdup.discharge_ma` (R221) -/
  | holdupDischargeMa
  /-- `rb.holdup.measure_drop_mv` (R221) -/
  | holdupMeasureDropMv
  /-- `rb.holdup.efficiency_pct` (R221) -/
  | holdupEfficiencyPct
  /-- `rb.holdup.flush_power_mw` (R221) -/
  | holdupFlushPowerMw
  /-- `rb.holdup.flush_programs` (R221) -/
  | holdupFlushPrograms
  /-- `rb.holdup.reserve_us` (R221) -/
  | holdupReserveUs
  /-- `rb.holdup.min_parcels` (R221) -/
  | holdupMinParcels
  /-- `rb.holdup.remeasure_h` (R221) -/
  | holdupRemeasureH
  /-- `rb.holdup.sag_ms` (R221) -/
  | holdupSagMs
  /-- `rb.assoc.bank_rate` (R243) -/
  | assocBankRate
  /-- `rb.assoc.fw_entries_max` (R243) -/
  | assocFwEntriesMax
  /-- `rb.pcie.max_speed_gts` (R272) -/
  | pcieMaxSpeedGts
  /-- `rb.pcie.subsys_vendor_id` (R272) -/
  | pcieSubsysVendorId
  /-- `rb.pcie.subsys_id` (R272) -/
  | pcieSubsysId
  /-- `rb.pcie.cmb_mib` (R272) -/
  | pcieCmbMib
  /-- `rb.pcie.diag_bar_enable` (R272) -/
  | pcieDiagBarEnable
  /-- `rb.pcie.aspm_l1_enable` (R272) -/
  | pcieAspmL1Enable
  /-- `rb.pcie.relaxed_ordering` (R272) -/
  | pcieRelaxedOrdering
  /-- `rb.pcie.mrrs_cap_bytes` (R272) -/
  | pcieMrrsCapBytes
  /-- `rb.branch.port_mask` (R352) -/
  | branchPortMask
  /-- `rb.branch.discovery_ms` (R352) -/
  | branchDiscoveryMs
  /-- `rb.branch.cmd_timeout_ms` (R352) -/
  | branchCmdTimeoutMs
  /-- `rb.branch.replay_timeout_ns` (R352) -/
  | branchReplayTimeoutNs
  /-- `rb.branch.max_outstanding` (R352) -/
  | branchMaxOutstanding
  /-- `rb.branch.min_worker_svn` (R352) -/
  | branchMinWorkerSvn
  /-- `rb.array.layout` (R383) -/
  | arrayLayout
  /-- `rb.array.member_mask` (R383) -/
  | arrayMemberMask
  /-- `rb.array.spare_mask` (R383) -/
  | arraySpareMask
  /-- `rb.array.journal_member` (R383) -/
  | arrayJournalMember
  /-- `rb.array.djournal_idle_ms` (R383) -/
  | arrayDjournalIdleMs
  /-- `rb.array.slow_member_ms` (R383) -/
  | arraySlowMemberMs
  /-- `rb.array.timeout_fail_count` (R383) -/
  | arrayTimeoutFailCount
  /-- `rb.array.rebuild_mib_s` (R383) -/
  | arrayRebuildMibS
  /-- `rb.array.rebuild_urgent_mib_s` (R383) -/
  | arrayRebuildUrgentMibS
  /-- `rb.array.inspect_period_days` (R383) -/
  | arrayInspectPeriodDays
  /-- `rb.dram.hash_ch` (R408) -/
  | dramHashCh
  /-- `rb.dram.hash_bg0` (R408) -/
  | dramHashBg0
  /-- `rb.dram.hash_bg1` (R408) -/
  | dramHashBg1
  /-- `rb.dram.hash_bg2` (R408) -/
  | dramHashBg2
  /-- `rb.dram.hash_ba0` (R408) -/
  | dramHashBa0
  /-- `rb.dram.hash_ba1` (R408) -/
  | dramHashBa1
  /-- `rb.dram.port#_target_ns` (R408) -/
  | dramPortTargetNs (k : Nat)
  /-- `rb.dram.uninit_count` (R408) -/
  | dramUninitCount
  /-- `rb.platelayer.enable` (R408) -/
  | platelayerEnable
  /-- `rb.platelayer.dram_pass_h` (R408) -/
  | platelayerDramPassH
  /-- `rb.platelayer.sram_pass_s` (R408) -/
  | platelayerSramPassS
  /-- `rb.cipher.opal_enable` (R427) -/
  | cipherOpalEnable
  /-- `rb.cipher.opal_users` (R427) -/
  | cipherOpalUsers
  /-- `rb.guard.tamper_enable` (R455) -/
  | guardTamperEnable
  /-- `rb.guard.tamper_active_high` (R455) -/
  | guardTamperActiveHigh
  /-- `rb.guard.mctp_enable` (R455) -/
  | guardMctpEnable
  /-- `rb.thermal.input_enable` (R490) -/
  | thermalInputEnable
  /-- `rb.thermal.composite_mask` (R490) -/
  | thermalCompositeMask
  /-- `rb.thermal.offset_c#` (R490) -/
  | thermalOffsetC (k : Nat)
  /-- `rb.thermal.chan_sensor#` (R490) -/
  | thermalChanSensor (k : Nat)
  /-- `rb.thermal.max_slew_c` (R490) -/
  | thermalMaxSlewC
  /-- `rb.thermal.warn_c` (R490) -/
  | thermalWarnC
  /-- `rb.thermal.throttle_c` (R490) -/
  | thermalThrottleC
  /-- `rb.thermal.shutdown_c` (R490) -/
  | thermalShutdownC
  /-- `rb.thermal.hysteresis_c` (R490) -/
  | thermalHysteresisC
  /-- `rb.power.ps1_fetch_kcps` (R490) -/
  | powerPs1FetchKcps
  /-- `rb.power.ps2_fetch_kcps` (R490) -/
  | powerPs2FetchKcps
  /-- `rb.token.rate_per_us` (R490) -/
  | tokenRatePerUs
  /-- `rb.token.pool_max` (R490) -/
  | tokenPoolMax
  /-- `rb.token.max_wait_us` (R490) -/
  | tokenMaxWaitUs
  /-- `rb.token.weight_channel` (R490) -/
  | tokenWeightChannel
  /-- `rb.token.weight_dram` (R490) -/
  | tokenWeightDram
  /-- `rb.token.weight_soft_dec` (R490) -/
  | tokenWeightSoftDec
  /-- `rb.token.weight_core` (R490) -/
  | tokenWeightCore
  /-- `rb.token.weight_serdes` (R490) -/
  | tokenWeightSerdes
  /-- `rb.token.weight_ae_bank` (R490) -/
  | tokenWeightAeBank
  /-- `rb.token.weight_leaf` (R490) -/
  | tokenWeightLeaf
  /-- `rb.board.vdd_core_high` (R532) -/
  | boardVddCoreHigh
  deriving DecidableEq, Repr

namespace Param

/-- How many of the parameter there are (1 outside a family). -/
def fam : Param → Nat
  | .timetableExpressPerTick => 1
  | .timetableMinProgressTicks => 1
  | .timetableMaxSuspendSpanTicks => 1
  | .timetableExpressAdmitTicks => 1
  | .timetableMaxPrograms => 1
  | .timetableMaxErases => 1
  | .timetableProgramTokens => 1
  | .timetableEraseTokens => 1
  | .timetableMaintTicksPerPeriod => 1
  | .timetableGoodsFloorPct => 1
  | .timetableGoodsUrgentFloorPct => 1
  | .timetableCeilingMonitor => 1
  | .flashInterface => 1
  | .flashRateMts => 1
  | .flashMinRateMts => 1
  | .flashDriveOhm => 1
  | .flashNandOdtOhm => 1
  | .flashExpectedDies => 1
  | .flashDriftMarginMin => 1
  | .flashCalIntervalMs => 1
  | .flashCalForcePeriods => 1
  | .flashRetrainDeltaC => 1
  | .flashDieFailLimit => 1
  | .flashProfileTRNs _ => 8
  | .flashProfileTProgUs _ => 8
  | .flashProfileTProgSlcUs _ => 8
  | .flashProfileTBersUs _ => 8
  | .flashProfilePsuspLatNs _ => 8
  | .flashProfileEsuspLatNs _ => 8
  | .flashProfileRrstLatNs _ => 8
  | .flashProfileResumeLatNs _ => 8
  | .flashProfileSuspLimit _ => 8
  | .flashProfileIpr _ => 8
  | .flashProfileDispatchSet _ => 8
  | .microcodeCustomerEnable => 1
  | .microcodeMinCustomerSvn => 1
  | .microcodeVendorOpIntervalH => 1
  | .microcodeTraceMode => 1
  | .readParityBytes => 1
  | .readHardIterMax => 1
  | .readSoftIterMax => 1
  | .readSoft3Enable => 1
  | .readRetrySteps => 1
  | .readSoftDelta => 1
  | .readTrackStep => 1
  | .readEwThreshold => 1
  | .readBandEdge1C => 1
  | .readBandEdge2C => 1
  | .readBandEdge3C => 1
  | .translationDefaultIuKib => 1
  | .translationOverprovisionPct => 1
  | .translationFdpEnable => 1
  | .translationFdpHandles => 1
  | .translationWorkerParity => 1
  | .translationPadAfterUs => 1
  | .translationWtPadUs => 1
  | .translationJournalCommitUs => 1
  | .translationJournalLiveMib => 1
  | .translationVerifyCbMax => 1
  | .translationSidingsLow => 1
  | .shuntingStartFree => 1
  | .shuntingUrgentFree => 1
  | .shuntingMaxDebtUnits => 1
  | .patrolPeriodDays => 1
  | .patrolDisturbScheme => 1
  | .patrolRefreshCb => 1
  | .patrolMilepostLimit => 1
  | .wearStaticMargin => 1
  | .wearStaticPerDay => 1
  | .wearRatedPe => 1
  | .wearBufstopReserve => 1
  | .wearSpareThresholdPct => 1
  | .wearEwRatePpm => 1
  | .wearRetryRatePpm => 1
  | .wearClassLossPpm => 1
  | .holdupEnable => 1
  | .holdupSenseDiv => 1
  | .holdupVinDiv => 1
  | .holdupVinFailMv => 1
  | .holdupVinFilterUs => 1
  | .holdupVMinMv => 1
  | .holdupDischargeMa => 1
  | .holdupMeasureDropMv => 1
  | .holdupEfficiencyPct => 1
  | .holdupFlushPowerMw => 1
  | .holdupFlushPrograms => 1
  | .holdupReserveUs => 1
  | .holdupMinParcels => 1
  | .holdupRemeasureH => 1
  | .holdupSagMs => 1
  | .assocBankRate => 1
  | .assocFwEntriesMax => 1
  | .pcieMaxSpeedGts => 1
  | .pcieSubsysVendorId => 1
  | .pcieSubsysId => 1
  | .pcieCmbMib => 1
  | .pcieDiagBarEnable => 1
  | .pcieAspmL1Enable => 1
  | .pcieRelaxedOrdering => 1
  | .pcieMrrsCapBytes => 1
  | .branchPortMask => 1
  | .branchDiscoveryMs => 1
  | .branchCmdTimeoutMs => 1
  | .branchReplayTimeoutNs => 1
  | .branchMaxOutstanding => 1
  | .branchMinWorkerSvn => 1
  | .arrayLayout => 1
  | .arrayMemberMask => 1
  | .arraySpareMask => 1
  | .arrayJournalMember => 1
  | .arrayDjournalIdleMs => 1
  | .arraySlowMemberMs => 1
  | .arrayTimeoutFailCount => 1
  | .arrayRebuildMibS => 1
  | .arrayRebuildUrgentMibS => 1
  | .arrayInspectPeriodDays => 1
  | .dramHashCh => 1
  | .dramHashBg0 => 1
  | .dramHashBg1 => 1
  | .dramHashBg2 => 1
  | .dramHashBa0 => 1
  | .dramHashBa1 => 1
  | .dramPortTargetNs _ => 10
  | .dramUninitCount => 1
  | .platelayerEnable => 1
  | .platelayerDramPassH => 1
  | .platelayerSramPassS => 1
  | .cipherOpalEnable => 1
  | .cipherOpalUsers => 1
  | .guardTamperEnable => 1
  | .guardTamperActiveHigh => 1
  | .guardMctpEnable => 1
  | .thermalInputEnable => 1
  | .thermalCompositeMask => 1
  | .thermalOffsetC _ => 18
  | .thermalChanSensor _ => 16
  | .thermalMaxSlewC => 1
  | .thermalWarnC => 1
  | .thermalThrottleC => 1
  | .thermalShutdownC => 1
  | .thermalHysteresisC => 1
  | .powerPs1FetchKcps => 1
  | .powerPs2FetchKcps => 1
  | .tokenRatePerUs => 1
  | .tokenPoolMax => 1
  | .tokenMaxWaitUs => 1
  | .tokenWeightChannel => 1
  | .tokenWeightDram => 1
  | .tokenWeightSoftDec => 1
  | .tokenWeightCore => 1
  | .tokenWeightSerdes => 1
  | .tokenWeightAeBank => 1
  | .tokenWeightLeaf => 1
  | .boardVddCoreHigh => 1

/-- The lowest value of the range. -/
def lo : Param → Int
  | .timetableExpressPerTick => 1
  | .timetableMinProgressTicks => 1
  | .timetableMaxSuspendSpanTicks => 4
  | .timetableExpressAdmitTicks => 4
  | .timetableMaxPrograms => 16
  | .timetableMaxErases => 8
  | .timetableProgramTokens => 1
  | .timetableEraseTokens => 1
  | .timetableMaintTicksPerPeriod => 1
  | .timetableGoodsFloorPct => 5
  | .timetableGoodsUrgentFloorPct => 20
  | .timetableCeilingMonitor => 0
  | .flashInterface => 0
  | .flashRateMts => 1600
  | .flashMinRateMts => 1600
  | .flashDriveOhm => 25
  | .flashNandOdtOhm => 0
  | .flashExpectedDies => 0
  | .flashDriftMarginMin => 4
  | .flashCalIntervalMs => 10
  | .flashCalForcePeriods => 16
  | .flashRetrainDeltaC => 5
  | .flashDieFailLimit => 1
  | .flashProfileTRNs _ => 10000
  | .flashProfileTProgUs _ => 1
  | .flashProfileTProgSlcUs _ => 1
  | .flashProfileTBersUs _ => 1
  | .flashProfilePsuspLatNs _ => 0
  | .flashProfileEsuspLatNs _ => 0
  | .flashProfileRrstLatNs _ => 0
  | .flashProfileResumeLatNs _ => 0
  | .flashProfileSuspLimit _ => 1
  | .flashProfileIpr _ => 0
  | .flashProfileDispatchSet _ => 0
  | .microcodeCustomerEnable => 0
  | .microcodeMinCustomerSvn => 0
  | .microcodeVendorOpIntervalH => 0
  | .microcodeTraceMode => 0
  | .readParityBytes => 0
  | .readHardIterMax => 4
  | .readSoftIterMax => 10
  | .readSoft3Enable => 0
  | .readRetrySteps => 1
  | .readSoftDelta => 1
  | .readTrackStep => 1
  | .readEwThreshold => 16
  | .readBandEdge1C => (-5)
  | .readBandEdge2C => (-5)
  | .readBandEdge3C => (-5)
  | .translationDefaultIuKib => 4
  | .translationOverprovisionPct => 7
  | .translationFdpEnable => 0
  | .translationFdpHandles => 1
  | .translationWorkerParity => 0
  | .translationPadAfterUs => 100
  | .translationWtPadUs => 50
  | .translationJournalCommitUs => 100
  | .translationJournalLiveMib => 256
  | .translationVerifyCbMax => 16
  | .translationSidingsLow => 1
  | .shuntingStartFree => 3
  | .shuntingUrgentFree => 2
  | .shuntingMaxDebtUnits => 8
  | .patrolPeriodDays => 1
  | .patrolDisturbScheme => 0
  | .patrolRefreshCb => 16
  | .patrolMilepostLimit => 10000
  | .wearStaticMargin => 50
  | .wearStaticPerDay => 0
  | .wearRatedPe => 100
  | .wearBufstopReserve => 2
  | .wearSpareThresholdPct => 1
  | .wearEwRatePpm => 1
  | .wearRetryRatePpm => 1
  | .wearClassLossPpm => 1
  | .holdupEnable => 0
  | .holdupSenseDiv => 2
  | .holdupVinDiv => 2
  | .holdupVinFailMv => 1000
  | .holdupVinFilterUs => 2
  | .holdupVMinMv => 1000
  | .holdupDischargeMa => 10
  | .holdupMeasureDropMv => 100
  | .holdupEfficiencyPct => 50
  | .holdupFlushPowerMw => 1000
  | .holdupFlushPrograms => 8
  | .holdupReserveUs => 1000
  | .holdupMinParcels => 256
  | .holdupRemeasureH => 0
  | .holdupSagMs => 10
  | .assocBankRate => 1000
  | .assocFwEntriesMax => 0
  | .pcieMaxSpeedGts => 8
  | .pcieSubsysVendorId => 0
  | .pcieSubsysId => 0
  | .pcieCmbMib => 0
  | .pcieDiagBarEnable => 0
  | .pcieAspmL1Enable => 0
  | .pcieRelaxedOrdering => 0
  | .pcieMrrsCapBytes => 512
  | .branchPortMask => 0
  | .branchDiscoveryMs => 1000
  | .branchCmdTimeoutMs => 100
  | .branchReplayTimeoutNs => 1000
  | .branchMaxOutstanding => 64
  | .branchMinWorkerSvn => 0
  | .arrayLayout => 0
  | .arrayMemberMask => 1
  | .arraySpareMask => 0
  | .arrayJournalMember => 0
  | .arrayDjournalIdleMs => 10
  | .arraySlowMemberMs => 500
  | .arrayTimeoutFailCount => 1
  | .arrayRebuildMibS => 50
  | .arrayRebuildUrgentMibS => 50
  | .arrayInspectPeriodDays => 1
  | .dramHashCh => 0
  | .dramHashBg0 => 0
  | .dramHashBg1 => 0
  | .dramHashBg2 => 0
  | .dramHashBa0 => 0
  | .dramHashBa1 => 0
  | .dramPortTargetNs _ => 50
  | .dramUninitCount => 0
  | .platelayerEnable => 0
  | .platelayerDramPassH => 1
  | .platelayerSramPassS => 10
  | .cipherOpalEnable => 0
  | .cipherOpalUsers => 1
  | .guardTamperEnable => 0
  | .guardTamperActiveHigh => 0
  | .guardMctpEnable => 0
  | .thermalInputEnable => 0
  | .thermalCompositeMask => 0
  | .thermalOffsetC _ => (-20)
  | .thermalChanSensor _ => 0
  | .thermalMaxSlewC => 2
  | .thermalWarnC => 60
  | .thermalThrottleC => 65
  | .thermalShutdownC => 70
  | .thermalHysteresisC => 1
  | .powerPs1FetchKcps => 500
  | .powerPs2FetchKcps => 200
  | .tokenRatePerUs => 1
  | .tokenPoolMax => 16
  | .tokenMaxWaitUs => 10
  | .tokenWeightChannel => 1
  | .tokenWeightDram => 1
  | .tokenWeightSoftDec => 1
  | .tokenWeightCore => 1
  | .tokenWeightSerdes => 1
  | .tokenWeightAeBank => 1
  | .tokenWeightLeaf => 1
  | .boardVddCoreHigh => 0

/-- The highest value of the range. -/
def hi : Param → Int
  | .timetableExpressPerTick => 4
  | .timetableMinProgressTicks => 8
  | .timetableMaxSuspendSpanTicks => 64
  | .timetableExpressAdmitTicks => 8
  | .timetableMaxPrograms => 256
  | .timetableMaxErases => 128
  | .timetableProgramTokens => 15
  | .timetableEraseTokens => 15
  | .timetableMaintTicksPerPeriod => 4
  | .timetableGoodsFloorPct => 50
  | .timetableGoodsUrgentFloorPct => 80
  | .timetableCeilingMonitor => 1
  | .flashInterface => 1
  | .flashRateMts => 3600
  | .flashMinRateMts => 3600
  | .flashDriveOhm => 50
  | .flashNandOdtOhm => 150
  | .flashExpectedDies => 512
  | .flashDriftMarginMin => 32
  | .flashCalIntervalMs => 1000
  | .flashCalForcePeriods => 1024
  | .flashRetrainDeltaC => 30
  | .flashDieFailLimit => 16
  | .flashProfileTRNs _ => 200000
  | .flashProfileTProgUs _ => 10000
  | .flashProfileTProgSlcUs _ => 10000
  | .flashProfileTBersUs _ => 30000
  | .flashProfilePsuspLatNs _ => 65535
  | .flashProfileEsuspLatNs _ => 65535
  | .flashProfileRrstLatNs _ => 65535
  | .flashProfileResumeLatNs _ => 65535
  | .flashProfileSuspLimit _ => 255
  | .flashProfileIpr _ => 1
  | .flashProfileDispatchSet _ => 15
  | .microcodeCustomerEnable => 1
  | .microcodeMinCustomerSvn => 255
  | .microcodeVendorOpIntervalH => 8760
  | .microcodeTraceMode => 2
  | .readParityBytes => 864
  | .readHardIterMax => 12
  | .readSoftIterMax => 63
  | .readSoft3Enable => 1
  | .readRetrySteps => 8
  | .readSoftDelta => 16
  | .readTrackStep => 8
  | .readEwThreshold => 400
  | .readBandEdge1C => 110
  | .readBandEdge2C => 110
  | .readBandEdge3C => 110
  | .translationDefaultIuKib => 16
  | .translationOverprovisionPct => 50
  | .translationFdpEnable => 1
  | .translationFdpHandles => 32
  | .translationWorkerParity => 1
  | .translationPadAfterUs => 100000
  | .translationWtPadUs => 10000
  | .translationJournalCommitUs => 10000
  | .translationJournalLiveMib => 8192
  | .translationVerifyCbMax => 800
  | .translationSidingsLow => 64
  | .shuntingStartFree => 64
  | .shuntingUrgentFree => 63
  | .shuntingMaxDebtUnits => 1024
  | .patrolPeriodDays => 14
  | .patrolDisturbScheme => 2
  | .patrolRefreshCb => 800
  | .patrolMilepostLimit => 10000000
  | .wearStaticMargin => 5000
  | .wearStaticPerDay => 64
  | .wearRatedPe => 100000
  | .wearBufstopReserve => 16
  | .wearSpareThresholdPct => 50
  | .wearEwRatePpm => 1000000
  | .wearRetryRatePpm => 1000000
  | .wearClassLossPpm => 1000000
  | .holdupEnable => 1
  | .holdupSenseDiv => 64
  | .holdupVinDiv => 64
  | .holdupVinFailMv => 60000
  | .holdupVinFilterUs => 100
  | .holdupVMinMv => 60000
  | .holdupDischargeMa => 1000
  | .holdupMeasureDropMv => 2000
  | .holdupEfficiencyPct => 100
  | .holdupFlushPowerMw => 40000
  | .holdupFlushPrograms => 64
  | .holdupReserveUs => 20000
  | .holdupMinParcels => 65536
  | .holdupRemeasureH => 168
  | .holdupSagMs => 10000
  | .assocBankRate => 12000
  | .assocFwEntriesMax => 2048
  | .pcieMaxSpeedGts => 64
  | .pcieSubsysVendorId => 65535
  | .pcieSubsysId => 65535
  | .pcieCmbMib => 256
  | .pcieDiagBarEnable => 1
  | .pcieAspmL1Enable => 1
  | .pcieRelaxedOrdering => 1
  | .pcieMrrsCapBytes => 4096
  | .branchPortMask => 63
  | .branchDiscoveryMs => 60000
  | .branchCmdTimeoutMs => 10000
  | .branchReplayTimeoutNs => 20000
  | .branchMaxOutstanding => 512
  | .branchMinWorkerSvn => 255
  | .arrayLayout => 3
  | .arrayMemberMask => 127
  | .arraySpareMask => 126
  | .arrayJournalMember => 6
  | .arrayDjournalIdleMs => 10000
  | .arraySlowMemberMs => 30000
  | .arrayTimeoutFailCount => 16
  | .arrayRebuildMibS => 4000
  | .arrayRebuildUrgentMibS => 6000
  | .arrayInspectPeriodDays => 30
  | .dramHashCh => 68719476735
  | .dramHashBg0 => 68719476735
  | .dramHashBg1 => 68719476735
  | .dramHashBg2 => 68719476735
  | .dramHashBa0 => 68719476735
  | .dramHashBa1 => 68719476735
  | .dramPortTargetNs _ => 1000000
  | .dramUninitCount => 1
  | .platelayerEnable => 1
  | .platelayerDramPassH => 168
  | .platelayerSramPassS => 86400
  | .cipherOpalEnable => 1
  | .cipherOpalUsers => 16
  | .guardTamperEnable => 1
  | .guardTamperActiveHigh => 1
  | .guardMctpEnable => 1
  | .thermalInputEnable => 262143
  | .thermalCompositeMask => 262143
  | .thermalOffsetC _ => 20
  | .thermalChanSensor _ => 17
  | .thermalMaxSlewC => 50
  | .thermalWarnC => 100
  | .thermalThrottleC => 105
  | .thermalShutdownC => 110
  | .thermalHysteresisC => 10
  | .powerPs1FetchKcps => 6500
  | .powerPs2FetchKcps => 6500
  | .tokenRatePerUs => 16
  | .tokenPoolMax => 255
  | .tokenMaxWaitUs => 1000
  | .tokenWeightChannel => 15
  | .tokenWeightDram => 15
  | .tokenWeightSoftDec => 15
  | .tokenWeightCore => 15
  | .tokenWeightSerdes => 15
  | .tokenWeightAeBank => 15
  | .tokenWeightLeaf => 15
  | .boardVddCoreHigh => 1

/-- The default of the parameter; of the flash profile fields, which have none, 0. -/
def dflt : Param → Int
  | .timetableExpressPerTick => 4
  | .timetableMinProgressTicks => 1
  | .timetableMaxSuspendSpanTicks => 16
  | .timetableExpressAdmitTicks => 4
  | .timetableMaxPrograms => 128
  | .timetableMaxErases => 64
  | .timetableProgramTokens => 2
  | .timetableEraseTokens => 4
  | .timetableMaintTicksPerPeriod => 2
  | .timetableGoodsFloorPct => 20
  | .timetableGoodsUrgentFloorPct => 50
  | .timetableCeilingMonitor => 1
  | .flashInterface => 0
  | .flashRateMts => 3600
  | .flashMinRateMts => 2400
  | .flashDriveOhm => 35
  | .flashNandOdtOhm => 75
  | .flashExpectedDies => 0
  | .flashDriftMarginMin => 12
  | .flashCalIntervalMs => 100
  | .flashCalForcePeriods => 128
  | .flashRetrainDeltaC => 10
  | .flashDieFailLimit => 3
  | .flashProfileTRNs _ => 0
  | .flashProfileTProgUs _ => 0
  | .flashProfileTProgSlcUs _ => 0
  | .flashProfileTBersUs _ => 0
  | .flashProfilePsuspLatNs _ => 0
  | .flashProfileEsuspLatNs _ => 0
  | .flashProfileRrstLatNs _ => 0
  | .flashProfileResumeLatNs _ => 0
  | .flashProfileSuspLimit _ => 0
  | .flashProfileIpr _ => 0
  | .flashProfileDispatchSet _ => 0
  | .microcodeCustomerEnable => 0
  | .microcodeMinCustomerSvn => 0
  | .microcodeVendorOpIntervalH => 0
  | .microcodeTraceMode => 0
  | .readParityBytes => 0
  | .readHardIterMax => 10
  | .readSoftIterMax => 40
  | .readSoft3Enable => 1
  | .readRetrySteps => 8
  | .readSoftDelta => 4
  | .readTrackStep => 2
  | .readEwThreshold => 80
  | .readBandEdge1C => 25
  | .readBandEdge2C => 55
  | .readBandEdge3C => 85
  | .translationDefaultIuKib => 16
  | .translationOverprovisionPct => 12
  | .translationFdpEnable => 0
  | .translationFdpHandles => 8
  | .translationWorkerParity => 0
  | .translationPadAfterUs => 10000
  | .translationWtPadUs => 500
  | .translationJournalCommitUs => 1000
  | .translationJournalLiveMib => 4096
  | .translationVerifyCbMax => 160
  | .translationSidingsLow => 3
  | .shuntingStartFree => 12
  | .shuntingUrgentFree => 6
  | .shuntingMaxDebtUnits => 64
  | .patrolPeriodDays => 7
  | .patrolDisturbScheme => 2
  | .patrolRefreshCb => 240
  | .patrolMilepostLimit => 100000
  | .wearStaticMargin => 500
  | .wearStaticPerDay => 2
  | .wearRatedPe => 3000
  | .wearBufstopReserve => 3
  | .wearSpareThresholdPct => 10
  | .wearEwRatePpm => 1000
  | .wearRetryRatePpm => 100
  | .wearClassLossPpm => 1
  | .holdupEnable => 1
  | .holdupSenseDiv => 16
  | .holdupVinDiv => 16
  | .holdupVinFailMv => 10800
  | .holdupVinFilterUs => 10
  | .holdupVMinMv => 7000
  | .holdupDischargeMa => 100
  | .holdupMeasureDropMv => 500
  | .holdupEfficiencyPct => 85
  | .holdupFlushPowerMw => 9000
  | .holdupFlushPrograms => 20
  | .holdupReserveUs => 3000
  | .holdupMinParcels => 4096
  | .holdupRemeasureH => 24
  | .holdupSagMs => 1000
  | .assocBankRate => 4000
  | .assocFwEntriesMax => 1024
  | .pcieMaxSpeedGts => 64
  | .pcieSubsysVendorId => 7578
  | .pcieSubsysId => 1
  | .pcieCmbMib => 64
  | .pcieDiagBarEnable => 0
  | .pcieAspmL1Enable => 1
  | .pcieRelaxedOrdering => 1
  | .pcieMrrsCapBytes => 4096
  | .branchPortMask => 63
  | .branchDiscoveryMs => 10000
  | .branchCmdTimeoutMs => 2000
  | .branchReplayTimeoutNs => 4000
  | .branchMaxOutstanding => 512
  | .branchMinWorkerSvn => 0
  | .arrayLayout => 2
  | .arrayMemberMask => 127
  | .arraySpareMask => 0
  | .arrayJournalMember => 0
  | .arrayDjournalIdleMs => 100
  | .arraySlowMemberMs => 2000
  | .arrayTimeoutFailCount => 3
  | .arrayRebuildMibS => 500
  | .arrayRebuildUrgentMibS => 1500
  | .arrayInspectPeriodDays => 7
  | .dramHashCh => 2863136896
  | .dramHashBg0 => 4581244928
  | .dramHashBg1 => 9162489856
  | .dramHashBg2 => 18324979712
  | .dramHashBa0 => 8624144384
  | .dramHashBa1 => 34897920000
  | .dramPortTargetNs k => ([250, 400, 1000, 2000, 500, 300, 800, 4000, 100000, 10000] : List Int).getD k 0
  | .dramUninitCount => 0
  | .platelayerEnable => 1
  | .platelayerDramPassH => 24
  | .platelayerSramPassS => 600
  | .cipherOpalEnable => 1
  | .cipherOpalUsers => 8
  | .guardTamperEnable => 0
  | .guardTamperActiveHigh => 0
  | .guardMctpEnable => 1
  | .thermalInputEnable => 245823
  | .thermalCompositeMask => 245823
  | .thermalOffsetC _ => 0
  | .thermalChanSensor k => 14 + (k / 4 : Nat)
  | .thermalMaxSlewC => 10
  | .thermalWarnC => 84
  | .thermalThrottleC => 92
  | .thermalShutdownC => 105
  | .thermalHysteresisC => 3
  | .powerPs1FetchKcps => 3000
  | .powerPs2FetchKcps => 1200
  | .tokenRatePerUs => 4
  | .tokenPoolMax => 64
  | .tokenMaxWaitUs => 50
  | .tokenWeightChannel => 8
  | .tokenWeightDram => 8
  | .tokenWeightSoftDec => 6
  | .tokenWeightCore => 2
  | .tokenWeightSerdes => 1
  | .tokenWeightAeBank => 1
  | .tokenWeightLeaf => 1
  | .boardVddCoreHigh => 0

/-- The path as a number and an index, for the canonical order of the store. -/
def index : Param → Nat
  | .timetableExpressPerTick => 0
  | .timetableMinProgressTicks => 0
  | .timetableMaxSuspendSpanTicks => 0
  | .timetableExpressAdmitTicks => 0
  | .timetableMaxPrograms => 0
  | .timetableMaxErases => 0
  | .timetableProgramTokens => 0
  | .timetableEraseTokens => 0
  | .timetableMaintTicksPerPeriod => 0
  | .timetableGoodsFloorPct => 0
  | .timetableGoodsUrgentFloorPct => 0
  | .timetableCeilingMonitor => 0
  | .flashInterface => 0
  | .flashRateMts => 0
  | .flashMinRateMts => 0
  | .flashDriveOhm => 0
  | .flashNandOdtOhm => 0
  | .flashExpectedDies => 0
  | .flashDriftMarginMin => 0
  | .flashCalIntervalMs => 0
  | .flashCalForcePeriods => 0
  | .flashRetrainDeltaC => 0
  | .flashDieFailLimit => 0
  | .flashProfileTRNs k => k
  | .flashProfileTProgUs k => k
  | .flashProfileTProgSlcUs k => k
  | .flashProfileTBersUs k => k
  | .flashProfilePsuspLatNs k => k
  | .flashProfileEsuspLatNs k => k
  | .flashProfileRrstLatNs k => k
  | .flashProfileResumeLatNs k => k
  | .flashProfileSuspLimit k => k
  | .flashProfileIpr k => k
  | .flashProfileDispatchSet k => k
  | .microcodeCustomerEnable => 0
  | .microcodeMinCustomerSvn => 0
  | .microcodeVendorOpIntervalH => 0
  | .microcodeTraceMode => 0
  | .readParityBytes => 0
  | .readHardIterMax => 0
  | .readSoftIterMax => 0
  | .readSoft3Enable => 0
  | .readRetrySteps => 0
  | .readSoftDelta => 0
  | .readTrackStep => 0
  | .readEwThreshold => 0
  | .readBandEdge1C => 0
  | .readBandEdge2C => 0
  | .readBandEdge3C => 0
  | .translationDefaultIuKib => 0
  | .translationOverprovisionPct => 0
  | .translationFdpEnable => 0
  | .translationFdpHandles => 0
  | .translationWorkerParity => 0
  | .translationPadAfterUs => 0
  | .translationWtPadUs => 0
  | .translationJournalCommitUs => 0
  | .translationJournalLiveMib => 0
  | .translationVerifyCbMax => 0
  | .translationSidingsLow => 0
  | .shuntingStartFree => 0
  | .shuntingUrgentFree => 0
  | .shuntingMaxDebtUnits => 0
  | .patrolPeriodDays => 0
  | .patrolDisturbScheme => 0
  | .patrolRefreshCb => 0
  | .patrolMilepostLimit => 0
  | .wearStaticMargin => 0
  | .wearStaticPerDay => 0
  | .wearRatedPe => 0
  | .wearBufstopReserve => 0
  | .wearSpareThresholdPct => 0
  | .wearEwRatePpm => 0
  | .wearRetryRatePpm => 0
  | .wearClassLossPpm => 0
  | .holdupEnable => 0
  | .holdupSenseDiv => 0
  | .holdupVinDiv => 0
  | .holdupVinFailMv => 0
  | .holdupVinFilterUs => 0
  | .holdupVMinMv => 0
  | .holdupDischargeMa => 0
  | .holdupMeasureDropMv => 0
  | .holdupEfficiencyPct => 0
  | .holdupFlushPowerMw => 0
  | .holdupFlushPrograms => 0
  | .holdupReserveUs => 0
  | .holdupMinParcels => 0
  | .holdupRemeasureH => 0
  | .holdupSagMs => 0
  | .assocBankRate => 0
  | .assocFwEntriesMax => 0
  | .pcieMaxSpeedGts => 0
  | .pcieSubsysVendorId => 0
  | .pcieSubsysId => 0
  | .pcieCmbMib => 0
  | .pcieDiagBarEnable => 0
  | .pcieAspmL1Enable => 0
  | .pcieRelaxedOrdering => 0
  | .pcieMrrsCapBytes => 0
  | .branchPortMask => 0
  | .branchDiscoveryMs => 0
  | .branchCmdTimeoutMs => 0
  | .branchReplayTimeoutNs => 0
  | .branchMaxOutstanding => 0
  | .branchMinWorkerSvn => 0
  | .arrayLayout => 0
  | .arrayMemberMask => 0
  | .arraySpareMask => 0
  | .arrayJournalMember => 0
  | .arrayDjournalIdleMs => 0
  | .arraySlowMemberMs => 0
  | .arrayTimeoutFailCount => 0
  | .arrayRebuildMibS => 0
  | .arrayRebuildUrgentMibS => 0
  | .arrayInspectPeriodDays => 0
  | .dramHashCh => 0
  | .dramHashBg0 => 0
  | .dramHashBg1 => 0
  | .dramHashBg2 => 0
  | .dramHashBa0 => 0
  | .dramHashBa1 => 0
  | .dramPortTargetNs k => k
  | .dramUninitCount => 0
  | .platelayerEnable => 0
  | .platelayerDramPassH => 0
  | .platelayerSramPassS => 0
  | .cipherOpalEnable => 0
  | .cipherOpalUsers => 0
  | .guardTamperEnable => 0
  | .guardTamperActiveHigh => 0
  | .guardMctpEnable => 0
  | .thermalInputEnable => 0
  | .thermalCompositeMask => 0
  | .thermalOffsetC k => k
  | .thermalChanSensor k => k
  | .thermalMaxSlewC => 0
  | .thermalWarnC => 0
  | .thermalThrottleC => 0
  | .thermalShutdownC => 0
  | .thermalHysteresisC => 0
  | .powerPs1FetchKcps => 0
  | .powerPs2FetchKcps => 0
  | .tokenRatePerUs => 0
  | .tokenPoolMax => 0
  | .tokenMaxWaitUs => 0
  | .tokenWeightChannel => 0
  | .tokenWeightDram => 0
  | .tokenWeightSoftDec => 0
  | .tokenWeightCore => 0
  | .tokenWeightSerdes => 0
  | .tokenWeightAeBank => 0
  | .tokenWeightLeaf => 0
  | .boardVddCoreHigh => 0

/-- The path that names the parameter in a record (R525); a family carries its index digits. -/
def path : Param → String
  | .timetableExpressPerTick => "rb.timetable.express_per_tick"
  | .timetableMinProgressTicks => "rb.timetable.min_progress_ticks"
  | .timetableMaxSuspendSpanTicks => "rb.timetable.max_suspend_span_ticks"
  | .timetableExpressAdmitTicks => "rb.timetable.express_admit_ticks"
  | .timetableMaxPrograms => "rb.timetable.max_programs"
  | .timetableMaxErases => "rb.timetable.max_erases"
  | .timetableProgramTokens => "rb.timetable.program_tokens"
  | .timetableEraseTokens => "rb.timetable.erase_tokens"
  | .timetableMaintTicksPerPeriod => "rb.timetable.maint_ticks_per_period"
  | .timetableGoodsFloorPct => "rb.timetable.goods_floor_pct"
  | .timetableGoodsUrgentFloorPct => "rb.timetable.goods_urgent_floor_pct"
  | .timetableCeilingMonitor => "rb.timetable.ceiling_monitor"
  | .flashInterface => "rb.flash.interface"
  | .flashRateMts => "rb.flash.rate_mts"
  | .flashMinRateMts => "rb.flash.min_rate_mts"
  | .flashDriveOhm => "rb.flash.drive_ohm"
  | .flashNandOdtOhm => "rb.flash.nand_odt_ohm"
  | .flashExpectedDies => "rb.flash.expected_dies"
  | .flashDriftMarginMin => "rb.flash.drift_margin_min"
  | .flashCalIntervalMs => "rb.flash.cal_interval_ms"
  | .flashCalForcePeriods => "rb.flash.cal_force_periods"
  | .flashRetrainDeltaC => "rb.flash.retrain_delta_c"
  | .flashDieFailLimit => "rb.flash.die_fail_limit"
  | .flashProfileTRNs k => "rb.flash.profile" ++ toString k ++ ".t_r_ns"
  | .flashProfileTProgUs k => "rb.flash.profile" ++ toString k ++ ".t_prog_us"
  | .flashProfileTProgSlcUs k => "rb.flash.profile" ++ toString k ++ ".t_prog_slc_us"
  | .flashProfileTBersUs k => "rb.flash.profile" ++ toString k ++ ".t_bers_us"
  | .flashProfilePsuspLatNs k => "rb.flash.profile" ++ toString k ++ ".psusp_lat_ns"
  | .flashProfileEsuspLatNs k => "rb.flash.profile" ++ toString k ++ ".esusp_lat_ns"
  | .flashProfileRrstLatNs k => "rb.flash.profile" ++ toString k ++ ".rrst_lat_ns"
  | .flashProfileResumeLatNs k => "rb.flash.profile" ++ toString k ++ ".resume_lat_ns"
  | .flashProfileSuspLimit k => "rb.flash.profile" ++ toString k ++ ".susp_limit"
  | .flashProfileIpr k => "rb.flash.profile" ++ toString k ++ ".ipr"
  | .flashProfileDispatchSet k => "rb.flash.profile" ++ toString k ++ ".dispatch_set"
  | .microcodeCustomerEnable => "rb.microcode.customer_enable"
  | .microcodeMinCustomerSvn => "rb.microcode.min_customer_svn"
  | .microcodeVendorOpIntervalH => "rb.microcode.vendor_op_interval_h"
  | .microcodeTraceMode => "rb.microcode.trace_mode"
  | .readParityBytes => "rb.read.parity_bytes"
  | .readHardIterMax => "rb.read.hard_iter_max"
  | .readSoftIterMax => "rb.read.soft_iter_max"
  | .readSoft3Enable => "rb.read.soft3_enable"
  | .readRetrySteps => "rb.read.retry_steps"
  | .readSoftDelta => "rb.read.soft_delta"
  | .readTrackStep => "rb.read.track_step"
  | .readEwThreshold => "rb.read.ew_threshold"
  | .readBandEdge1C => "rb.read.band_edge1_c"
  | .readBandEdge2C => "rb.read.band_edge2_c"
  | .readBandEdge3C => "rb.read.band_edge3_c"
  | .translationDefaultIuKib => "rb.translation.default_iu_kib"
  | .translationOverprovisionPct => "rb.translation.overprovision_pct"
  | .translationFdpEnable => "rb.translation.fdp_enable"
  | .translationFdpHandles => "rb.translation.fdp_handles"
  | .translationWorkerParity => "rb.translation.worker_parity"
  | .translationPadAfterUs => "rb.translation.pad_after_us"
  | .translationWtPadUs => "rb.translation.wt_pad_us"
  | .translationJournalCommitUs => "rb.translation.journal_commit_us"
  | .translationJournalLiveMib => "rb.translation.journal_live_mib"
  | .translationVerifyCbMax => "rb.translation.verify_cb_max"
  | .translationSidingsLow => "rb.translation.sidings_low"
  | .shuntingStartFree => "rb.shunting.start_free"
  | .shuntingUrgentFree => "rb.shunting.urgent_free"
  | .shuntingMaxDebtUnits => "rb.shunting.max_debt_units"
  | .patrolPeriodDays => "rb.patrol.period_days"
  | .patrolDisturbScheme => "rb.patrol.disturb_scheme"
  | .patrolRefreshCb => "rb.patrol.refresh_cb"
  | .patrolMilepostLimit => "rb.patrol.milepost_limit"
  | .wearStaticMargin => "rb.wear.static_margin"
  | .wearStaticPerDay => "rb.wear.static_per_day"
  | .wearRatedPe => "rb.wear.rated_pe"
  | .wearBufstopReserve => "rb.wear.bufstop_reserve"
  | .wearSpareThresholdPct => "rb.wear.spare_threshold_pct"
  | .wearEwRatePpm => "rb.wear.ew_rate_ppm"
  | .wearRetryRatePpm => "rb.wear.retry_rate_ppm"
  | .wearClassLossPpm => "rb.wear.class_loss_ppm"
  | .holdupEnable => "rb.holdup.enable"
  | .holdupSenseDiv => "rb.holdup.sense_div"
  | .holdupVinDiv => "rb.holdup.vin_div"
  | .holdupVinFailMv => "rb.holdup.vin_fail_mv"
  | .holdupVinFilterUs => "rb.holdup.vin_filter_us"
  | .holdupVMinMv => "rb.holdup.v_min_mv"
  | .holdupDischargeMa => "rb.holdup.discharge_ma"
  | .holdupMeasureDropMv => "rb.holdup.measure_drop_mv"
  | .holdupEfficiencyPct => "rb.holdup.efficiency_pct"
  | .holdupFlushPowerMw => "rb.holdup.flush_power_mw"
  | .holdupFlushPrograms => "rb.holdup.flush_programs"
  | .holdupReserveUs => "rb.holdup.reserve_us"
  | .holdupMinParcels => "rb.holdup.min_parcels"
  | .holdupRemeasureH => "rb.holdup.remeasure_h"
  | .holdupSagMs => "rb.holdup.sag_ms"
  | .assocBankRate => "rb.assoc.bank_rate"
  | .assocFwEntriesMax => "rb.assoc.fw_entries_max"
  | .pcieMaxSpeedGts => "rb.pcie.max_speed_gts"
  | .pcieSubsysVendorId => "rb.pcie.subsys_vendor_id"
  | .pcieSubsysId => "rb.pcie.subsys_id"
  | .pcieCmbMib => "rb.pcie.cmb_mib"
  | .pcieDiagBarEnable => "rb.pcie.diag_bar_enable"
  | .pcieAspmL1Enable => "rb.pcie.aspm_l1_enable"
  | .pcieRelaxedOrdering => "rb.pcie.relaxed_ordering"
  | .pcieMrrsCapBytes => "rb.pcie.mrrs_cap_bytes"
  | .branchPortMask => "rb.branch.port_mask"
  | .branchDiscoveryMs => "rb.branch.discovery_ms"
  | .branchCmdTimeoutMs => "rb.branch.cmd_timeout_ms"
  | .branchReplayTimeoutNs => "rb.branch.replay_timeout_ns"
  | .branchMaxOutstanding => "rb.branch.max_outstanding"
  | .branchMinWorkerSvn => "rb.branch.min_worker_svn"
  | .arrayLayout => "rb.array.layout"
  | .arrayMemberMask => "rb.array.member_mask"
  | .arraySpareMask => "rb.array.spare_mask"
  | .arrayJournalMember => "rb.array.journal_member"
  | .arrayDjournalIdleMs => "rb.array.djournal_idle_ms"
  | .arraySlowMemberMs => "rb.array.slow_member_ms"
  | .arrayTimeoutFailCount => "rb.array.timeout_fail_count"
  | .arrayRebuildMibS => "rb.array.rebuild_mib_s"
  | .arrayRebuildUrgentMibS => "rb.array.rebuild_urgent_mib_s"
  | .arrayInspectPeriodDays => "rb.array.inspect_period_days"
  | .dramHashCh => "rb.dram.hash_ch"
  | .dramHashBg0 => "rb.dram.hash_bg0"
  | .dramHashBg1 => "rb.dram.hash_bg1"
  | .dramHashBg2 => "rb.dram.hash_bg2"
  | .dramHashBa0 => "rb.dram.hash_ba0"
  | .dramHashBa1 => "rb.dram.hash_ba1"
  | .dramPortTargetNs k => "rb.dram.port" ++ toString k ++ "_target_ns"
  | .dramUninitCount => "rb.dram.uninit_count"
  | .platelayerEnable => "rb.platelayer.enable"
  | .platelayerDramPassH => "rb.platelayer.dram_pass_h"
  | .platelayerSramPassS => "rb.platelayer.sram_pass_s"
  | .cipherOpalEnable => "rb.cipher.opal_enable"
  | .cipherOpalUsers => "rb.cipher.opal_users"
  | .guardTamperEnable => "rb.guard.tamper_enable"
  | .guardTamperActiveHigh => "rb.guard.tamper_active_high"
  | .guardMctpEnable => "rb.guard.mctp_enable"
  | .thermalInputEnable => "rb.thermal.input_enable"
  | .thermalCompositeMask => "rb.thermal.composite_mask"
  | .thermalOffsetC k => "rb.thermal.offset_c" ++ toString k
  | .thermalChanSensor k => "rb.thermal.chan_sensor" ++ toString k
  | .thermalMaxSlewC => "rb.thermal.max_slew_c"
  | .thermalWarnC => "rb.thermal.warn_c"
  | .thermalThrottleC => "rb.thermal.throttle_c"
  | .thermalShutdownC => "rb.thermal.shutdown_c"
  | .thermalHysteresisC => "rb.thermal.hysteresis_c"
  | .powerPs1FetchKcps => "rb.power.ps1_fetch_kcps"
  | .powerPs2FetchKcps => "rb.power.ps2_fetch_kcps"
  | .tokenRatePerUs => "rb.token.rate_per_us"
  | .tokenPoolMax => "rb.token.pool_max"
  | .tokenMaxWaitUs => "rb.token.max_wait_us"
  | .tokenWeightChannel => "rb.token.weight_channel"
  | .tokenWeightDram => "rb.token.weight_dram"
  | .tokenWeightSoftDec => "rb.token.weight_soft_dec"
  | .tokenWeightCore => "rb.token.weight_core"
  | .tokenWeightSerdes => "rb.token.weight_serdes"
  | .tokenWeightAeBank => "rb.token.weight_ae_bank"
  | .tokenWeightLeaf => "rb.token.weight_leaf"
  | .boardVddCoreHigh => "rb.board.vdd_core_high"

/-- The parameters outside a family, part 1. -/
def some1 : List Param := [.timetableExpressPerTick, .timetableMinProgressTicks, .timetableMaxSuspendSpanTicks, .timetableExpressAdmitTicks, .timetableMaxPrograms, .timetableMaxErases, .timetableProgramTokens, .timetableEraseTokens, .timetableMaintTicksPerPeriod, .timetableGoodsFloorPct, .timetableGoodsUrgentFloorPct, .timetableCeilingMonitor, .flashInterface, .flashRateMts, .flashMinRateMts, .flashDriveOhm, .flashNandOdtOhm, .flashExpectedDies, .flashDriftMarginMin, .flashCalIntervalMs, .flashCalForcePeriods, .flashRetrainDeltaC, .flashDieFailLimit, .microcodeCustomerEnable]

/-- The parameters outside a family, part 2. -/
def some2 : List Param := [.microcodeMinCustomerSvn, .microcodeVendorOpIntervalH, .microcodeTraceMode, .readParityBytes, .readHardIterMax, .readSoftIterMax, .readSoft3Enable, .readRetrySteps, .readSoftDelta, .readTrackStep, .readEwThreshold, .readBandEdge1C, .readBandEdge2C, .readBandEdge3C, .translationDefaultIuKib, .translationOverprovisionPct, .translationFdpEnable, .translationFdpHandles, .translationWorkerParity, .translationPadAfterUs, .translationWtPadUs, .translationJournalCommitUs, .translationJournalLiveMib, .translationVerifyCbMax]

/-- The parameters outside a family, part 3. -/
def some3 : List Param := [.translationSidingsLow, .shuntingStartFree, .shuntingUrgentFree, .shuntingMaxDebtUnits, .patrolPeriodDays, .patrolDisturbScheme, .patrolRefreshCb, .patrolMilepostLimit, .wearStaticMargin, .wearStaticPerDay, .wearRatedPe, .wearBufstopReserve, .wearSpareThresholdPct, .wearEwRatePpm, .wearRetryRatePpm, .wearClassLossPpm, .holdupEnable, .holdupSenseDiv, .holdupVinDiv, .holdupVinFailMv, .holdupVinFilterUs, .holdupVMinMv, .holdupDischargeMa, .holdupMeasureDropMv]

/-- The parameters outside a family, part 4. -/
def some4 : List Param := [.holdupEfficiencyPct, .holdupFlushPowerMw, .holdupFlushPrograms, .holdupReserveUs, .holdupMinParcels, .holdupRemeasureH, .holdupSagMs, .assocBankRate, .assocFwEntriesMax, .pcieMaxSpeedGts, .pcieSubsysVendorId, .pcieSubsysId, .pcieCmbMib, .pcieDiagBarEnable, .pcieAspmL1Enable, .pcieRelaxedOrdering, .pcieMrrsCapBytes, .branchPortMask, .branchDiscoveryMs, .branchCmdTimeoutMs, .branchReplayTimeoutNs, .branchMaxOutstanding, .branchMinWorkerSvn, .arrayLayout]

/-- The parameters outside a family, part 5. -/
def some5 : List Param := [.arrayMemberMask, .arraySpareMask, .arrayJournalMember, .arrayDjournalIdleMs, .arraySlowMemberMs, .arrayTimeoutFailCount, .arrayRebuildMibS, .arrayRebuildUrgentMibS, .arrayInspectPeriodDays, .dramHashCh, .dramHashBg0, .dramHashBg1, .dramHashBg2, .dramHashBa0, .dramHashBa1, .dramUninitCount, .platelayerEnable, .platelayerDramPassH, .platelayerSramPassS, .cipherOpalEnable, .cipherOpalUsers, .guardTamperEnable, .guardTamperActiveHigh, .guardMctpEnable]

/-- The parameters outside a family, part 6. -/
def some6 : List Param := [.thermalInputEnable, .thermalCompositeMask, .thermalMaxSlewC, .thermalWarnC, .thermalThrottleC, .thermalShutdownC, .thermalHysteresisC, .powerPs1FetchKcps, .powerPs2FetchKcps, .tokenRatePerUs, .tokenPoolMax, .tokenMaxWaitUs, .tokenWeightChannel, .tokenWeightDram, .tokenWeightSoftDec, .tokenWeightCore, .tokenWeightSerdes, .tokenWeightAeBank, .tokenWeightLeaf, .boardVddCoreHigh]

/-- Every parameter (R531, R532). -/
def all : List Param := some1 ++ some2 ++ some3 ++ some4 ++ some5 ++ some6 ++ [(List.range 8).map Param.flashProfileTRNs,
  (List.range 8).map Param.flashProfileTProgUs,
  (List.range 8).map Param.flashProfileTProgSlcUs,
  (List.range 8).map Param.flashProfileTBersUs,
  (List.range 8).map Param.flashProfilePsuspLatNs,
  (List.range 8).map Param.flashProfileEsuspLatNs,
  (List.range 8).map Param.flashProfileRrstLatNs,
  (List.range 8).map Param.flashProfileResumeLatNs,
  (List.range 8).map Param.flashProfileSuspLimit,
  (List.range 8).map Param.flashProfileIpr,
  (List.range 8).map Param.flashProfileDispatchSet,
  (List.range 10).map Param.dramPortTargetNs,
  (List.range 18).map Param.thermalOffsetC,
  (List.range 16).map Param.thermalChanSensor].flatten


end Param

/-- A byte-string Rulebook parameter (R81, R112, R132). -/
inductive BytesParam where
  /-- `rb.flash.profile#.id` -/
  | profileId (k : Nat)
  /-- `rb.microcode.customer_key_digest` -/
  | customerKeyDigest
  /-- `rb.read.profile#.offsets` -/
  | offsets (k : Nat)
  /-- `rb.read.profile#.slc_offsets` -/
  | slcOffsets (k : Nat)
  deriving DecidableEq, Repr

namespace BytesParam

/-- The path that names it in a record (R525). -/
def path : BytesParam → String
  | .profileId k => "rb.flash.profile" ++ toString k ++ ".id"
  | .customerKeyDigest => "rb.microcode.customer_key_digest"
  | .offsets k => "rb.read.profile" ++ toString k ++ ".offsets"
  | .slcOffsets k => "rb.read.profile" ++ toString k ++ ".slc_offsets"

/-- Every byte-string parameter. -/
def all : List BytesParam :=
  [.customerKeyDigest] ++ (List.range 8).map BytesParam.profileId ++ (List.range 8).map BytesParam.offsets ++ (List.range 8).map BytesParam.slcOffsets

/-- The lengths in bytes it may have (R81, R112, R132). -/
def lengths : BytesParam → List Nat
  | .profileId _ => [2, 3, 4, 5, 6]
  | .customerKeyDigest => [48]
  | .offsets _ => [36, 108, 252, 540]
  | .slcOffsets _ => [36]

end BytesParam

end Sys2Proof
end

