-- ==== Sys2Proof/Syntax/Sec.lean ====
section
/-! DEFINITION. Operand types of the cipher, Guard, Depot, start-up, thermal and administration commands. -/

namespace Sys2Proof

/-- Labels a key may be asked for (R410); `other` is none of the table's. -/
inductive KeyLabel where
  | medk | blnk | dpot | attk | other
  deriving DecidableEq, Repr

/-- A key request: label and context fields in the order of R410. -/
structure KeyReq where
  label : KeyLabel
  context : List Nat
  deriving DecidableEq, Repr

/-- An XTS job descriptor (R414, R415, R419): direction, namespace slot, data unit in bytes, first data unit number, the data units. -/
structure XtsJob where
  encrypt : Bool
  slot : Nat
  unit : Nat
  lba : Nat
  blocks : List (List Byte)
  deriving DecidableEq, Repr

/-- Streams of R417: a Branch Link direction (0, 1) with its port, or a Depot secret. -/
inductive GcmStream where
  | link (dir port : Nat)
  | depot (secret : Nat)
  deriving DecidableEq, Repr

/-- A GCM job descriptor (R416, R419): stream, plaintext or ciphertext, bytes of additional authenticated data. -/
structure GcmJob where
  stream : GcmStream
  bytes : List Byte
  aad : Nat
  deriving DecidableEq, Repr

/-- Alarm monitors of R433, by what they watch. -/
inductive AlarmCause where
  | voltage | sysclk | pll | thermal | tamper
  deriving DecidableEq, Repr

/-- An image as its checks read it (R432, R436, R437): class (0 firmware package, 1 Rulebook, 2 customer microcode), its bytes from the first on (of a package its header, of the others the whole image), its length, and the verdicts of the Guard: signing key known, signature verifies, component digests match. [DEDUCED, log 17] -/
structure ImageCheck where
  cls : Nat
  bytes : List Byte
  length : Nat
  keyOk : Bool
  sigOk : Bool
  digestsOk : Bool
  deriving DecidableEq, Repr

/-- Levels of the sampled straps (R4, R493, R511). -/
structure Straps where
  mode : Nat
  member : Nat
  bifur : Bool
  bootsrc : Bool
  geom : Nat
  test : Nat
  deriving DecidableEq, Repr

/-- A record of a Rulebook blob (R525), its NAME taken as the parameter it names. -/
inductive RbRecord where
  | int (p : Param) (v : Int)
  | bytes (p : BytesParam) (v : List Byte)
  deriving DecidableEq, Repr

/-- A Rulebook blob (R524): its bytes, and whether its signature verifies. [DEDUCED, log 17] -/
structure RulebookImage where
  bytes : List Byte
  sigOk : Bool
  deriving DecidableEq, Repr

/-- A customer microcode image (R106): its bytes, and whether its signature verifies. [DEDUCED, log 17] -/
structure MicroImage where
  bytes : List Byte
  sigOk : Bool
  deriving DecidableEq, Repr

/-- A stage of the boot chain with what it measures (R438). -/
inductive BootStage where
  | config
  /-- Guard image, and boot stage, of boot images A and B -/
  | guard (a b : ImageCheck)
  | boot (a b : ImageCheck)
  /-- the Gwynon microcode components of the slots, with what the active one's loads -/
  | microcode (slots : List (Nat × ImageCheck)) (words : List (Nat × BitVec 176)) (descs : List (Nat × BitVec 64)) (dispatch : List (Nat × BitVec 16))
  /-- operating firmware of the slots that hold a package -/
  | firmware (slots : List (Nat × ImageCheck))
  | rulebook
  | custMicrocode
  | clock
  | alarm
  deriving DecidableEq, Repr

/-- A diagnostic ticket (R504): its 256 bytes, whether the Guard ROM holds the digest of its key, whether its signature verifies. [DEDUCED, log 17] -/
structure Ticket where
  bytes : List Byte
  keyOk : Bool
  sigOk : Bool
  deriving DecidableEq, Repr

/-- A temperature reading of one input (R472, R473): reading, and open or short as the front end sees it. [DESIGN CHOICE, log 6] -/
structure TempReading where
  temp : Int
  isOpen : Bool
  isShort : Bool
  deriving DecidableEq, Repr

/-- Thresholds of R477. -/
inductive Threshold where
  | warning | throttle | shutdown
  deriving DecidableEq, Repr

/-- An SPDM request (R448). [DEDUCED, log 17] -/
inductive SpdmReq where
  | getVersion
  | getCapabilities
  | negotiateAlgorithms (p384 sha384 : Bool)
  | getDigests
  | getCertificate (slot offset len : Nat)
  | challenge (slot nonce : Nat)
  | getMeasurements (index : Nat) (sign : Bool)
  | other
  deriving DecidableEq, Repr

/-- An Opal method carried by Security Send (R421 to R425). -/
inductive OpalPayload where
  | activate
  /-- row (none Global): enables and lock state, and whether it names RangeStart or RangeLength -/
  | set (slot : Option Nat) (readEn writeEn readLocked writeLocked namesRange : Bool) (lockOnReset : Nat)
  | genKey (slot : Option Nat)
  | revert
  | discovery
  | notAuthorized
  deriving DecidableEq, Repr

/-- Data structure of a Namespace Management create (R313): size and capacity in logical blocks, FLBAS, byte 3,072, NMIC, placement handles. -/
structure NsData where
  nsze : Nat
  ncap : Nat
  flbas : Nat
  iuByte : Nat
  nmic : Nat
  handles : List Nat
  deriving DecidableEq, Repr

/-- An entry of the Autonomous Power State Transition table: power state and idle time in ms. -/
structure ApstEntry where
  ps : Nat
  ms : Nat
  deriving DecidableEq, Repr

/-- A configuration write (R246 to R272): the field written and its value. -/
inductive CfgWrite where
  | command (mse bme intxDisable : Bool)
  | bar (n : Nat) (value : Nat)
  | deviceControl (relaxed tag10 : Bool) (mrrs mps : Nat)
  | initiateFlr
  | deviceControl2 (cto : Nat) (disable : Bool)
  | linkControl (aspmL1 : Bool)
  | l1Substates (l11 l12 : Bool)
  | powerState (d3 : Bool)
  | msixControl (enable mask : Bool)
  | aerStatusClear (err : Nat)
  | aerMask (err : Nat) (masked : Bool)
  | aerSeverity (err : Nat) (fatal : Bool)
  deriving DecidableEq, Repr

/-- A DLLP received (R261). -/
inductive Dllp where
  | ack | nak | bad | protocolError | fcError
  deriving DecidableEq, Repr

/-- What the flash gives back to a recovery (R215): first journal record sequence that does not decode, hold-up locations that do not decode and cannot be rebuilt, hold-up superblocks whose summary does not read. -/
structure RecoveryEnv where
  journalEnd : Option Nat
  badLocs : List Nat
  badSummaries : List Nat
  deriving DecidableEq, Repr

end Sys2Proof
end

