-- ==== Sys2Proof/Syntax.lean ====
section
/-! DEFINITION. The commands of the block: one constructor per row of the opcode table, in its order, with what the outside gives the command. -/

namespace Sys2Proof

/-- A command (R1: what the block takes from outside, or an event at its pins, in its flash or in its partners). -/
inductive Instr where
  /-- POWER_ON_RESET (R491): VDD_GUARD rising through its threshold resets the whole device, the Guard core included. -/
  | powerOnReset (offMs : Nat)
  /-- RST_N_ASSERT (R492): RST_N falls; after ready the device runs an abrupt shutdown, then holds every block outside the Guard in reset. -/
  | rstNAssert (lowNs : Nat)
  /-- RST_N_RELEASE (R492): RST_N rises and the held full reset takes effect. -/
  | rstNRelease
  /-- GUARD_FULL_RESET (R491): The Guard performs a full reset of everything outside its partition. -/
  | guardFullReset
  /-- STRAP_SAMPLE (R493): 20 µs after a full reset is released, the device samples the straps and selects the mode. -/
  | strapSample (x : Straps)
  /-- PERST_N_ASSERT (R270): PERST_N resets both PCIe ports and links without resampling the straps. -/
  | perstNAssert
  /-- PERST_N_DEASSERT (R496): PERST_N deassertion allows link training to start. -/
  | perstNDeassert
  /-- LINK_TRAINING_START (R496): PCIe link training starts within 20 ms of the later of PERST_N release and link release. -/
  | linkTrainingStart (p : Nat)
  /-- HOT_RESET (R270): A hot reset applies the FLR actions to the port concerned. -/
  | hotReset (p : Nat)
  /-- PCIE_LINK_DOWN (R270): A PCIe link down applies the FLR actions to its port. -/
  | pcieLinkDown (p : Nat)
  /-- L1_ENTRY (R246): The port enters ASPM L1 or an L1 substate enabled by the host. -/
  | l1Entry (p : Nat) (sub : Nat)
  /-- L1_EXIT (R246): The port leaves L1, and its SerDes wake takes tokens at top priority. -/
  | l1Exit (p : Nat)
  /-- FLR (R267): A write of Initiate Function Level Reset stops fetching and TLPs and starts the controller reset of the port. -/
  | flr (p : Nat)
  /-- FLR_FINISH (R267): The FLR finishes, buffer valid bits are cleared and configuration requests complete normally. -/
  | flrFinish (p : Nat) (lastTlpNs : Nat) (durNs : Nat)
  /-- CONFIG_WRITE (R252): A configuration write to a BAR or to Command changes the decoding of later TLPs. -/
  | configWrite (p : Nat) (w : CfgWrite)
  /-- MEM_WRITE_TLP (R251): An inbound posted memory write is decoded against BAR0, BAR2 and BAR4 and applied, or dropped as a window miss. -/
  | memWriteTlp (p : Nat) (addr : Nat) (bytes : List Byte) (poisoned : Bool)
  /-- MEM_READ_TLP (R251): An inbound memory read is decoded and answered, or completed with Unsupported Request. -/
  | memReadTlp (p : Nat) (addr : Nat) (len : Nat) (ue : Bool)
  /-- HOST_READ_COMPLETION (R260): A completion for one of the device's own read requests arrives and delivers its data. -/
  | hostReadCompletion (p : Nat) (tag : Nat) (len : Nat) (poisoned : Bool) (list : PtrCheck)
  /-- COMPLETION_TIMEOUT (R265): A read request's completion timeout expires; the command ends and the tag is quarantined. -/
  | completionTimeout (p : Nat) (tag : Nat)
  /-- TAG_QUARANTINE_END (R266): The quarantine of a timed-out PCIe tag ends and the tag becomes free. -/
  | tagQuarantineEnd (p : Nat) (tag : Nat)
  /-- MSIX_TABLE_WRITE (R258): A write to an MSI-X table entry or mask changes later messages. -/
  | msixTableWrite (p : Nat) (vector : Nat) (dword : Nat) (v : Word)
  /-- CC_ENABLE (R274): CC.EN going from 0 to 1 checks CC and sets CSTS.RDY, or sets CSTS.CFS. -/
  | ccEnable (k : Nat) (css : Nat) (mps : Nat) (ams : Nat)
  /-- CONTROLLER_RESET (R298): CC.EN going from 1 to 0 stops fetching, deletes the I/O queues and ends commands without completion. -/
  | controllerReset (k : Nat)
  /-- NORMAL_SHUTDOWN (R275): CC.SHN 0b01 starts a normal shutdown that completes outstanding commands. -/
  | normalShutdown (k : Nat)
  /-- ABRUPT_SHUTDOWN (R275): CC.SHN 0b10 starts an abrupt shutdown that ends outstanding commands. -/
  | abruptShutdown (k : Nat)
  /-- SHUTDOWN_COMPLETE (R275): Dirty parcels are programmed, the journal is committed, the clean-shutdown mark is written and SHST becomes 0b10. -/
  | shutdownComplete (k : Nat)
  /-- SQ_TAIL_DOORBELL (R277): A submission queue tail doorbell write is checked and makes entries available for fetch. -/
  | sqTailDoorbell (k : Nat) (q : Nat) (tail : Nat)
  /-- CQ_HEAD_DOORBELL (R277): A completion queue head doorbell write is checked and frees completion entries. -/
  | cqHeadDoorbell (k : Nat) (q : Nat) (head : Nat)
  /-- INTMS_WRITE (R278): A write to INTMS masks INTA. -/
  | intmsWrite (k : Nat) (v : Word)
  /-- INTMC_WRITE (R278): A write to INTMC unmasks INTA. -/
  | intmcWrite (k : Nat) (v : Word)
  /-- COMMAND_FETCH (R280): The front end arbitrates, takes a submission entry into a free context and stamps its fetch sequence number. -/
  | commandFetch (k : Nat) (e : Sqe) (ue : Bool)
  /-- SERIALISED_START (R302): A serialised admin command starts once every earlier serialised command has completed. -/
  | serialisedStart (n : Nat)
  /-- IL_INSERT (R233): Interlocking entries are inserted, once enough are free, as ACTIVE or WAITING with a blocker count. -/
  | ilInsert (n : Nat) (fw : Option IlRange)
  /-- IL_REMOVE (R234): Entries are invalidated and later conflicting commands are decremented and released. -/
  | ilRemove (n : Nat)
  /-- COMPLETION_POINT (R235): The completion-point IL_CAS changes ACTIVE to DONE. -/
  | completionPoint (n : Nat)
  /-- ABORT_IL_CAS (R235): The abort IL_CAS changes WAITING or ACTIVE to ABORTED and reports the state it found. -/
  | abortIlCas (n : Nat)
  /-- COMPLETION_POST (R278): After its data writes, the device writes the completion entry and signals the vector or INTA. -/
  | completionPost (n : Nat) (admitNs : Nat) (arrayNs : Nat) (xferNs : Nat)
  /-- COALESCE_TIMEOUT (R305): The coalescing time of a vector expires and its message is sent. -/
  | coalesceTimeout (p : Nat) (v : Nat)
  /-- PC_SEARCH_PIN (R239): The Mainline searches the Parcels index and pins a unique CURRENT match. -/
  | pcSearchPin (n : Nat) (iu : Nat) (part : Nat) (ue : Bool)
  /-- PC_PIN_ADDR (R240): The parcel named by an INBUF entry is pinned, or the lookup is retried. -/
  | pcPinAddr (n : Nat) (iu : Nat) (part : Nat) (p : Nat) (ue : Bool)
  /-- PC_UNPIN (R239): The pin count of a parcel is decremented after its DMA. -/
  | pcUnpin (p : Nat)
  /-- PC_INSERT (R239): A Parcels entry is written CURRENT, clearing a superseded parcel. -/
  | pcInsert (p : Nat) (nsx : Nat) (iu : Nat) (part : Nat) (superseded : Option Nat)
  /-- PC_RELEASE (R239): A parcel entry is invalidated if it is unpinned and no longer current, or else reported busy. -/
  | pcRelease (p : Nat)
  /-- PC_CLEAR (R239): CURRENT of a parcel is cleared before a map change away from it. -/
  | pcClear (p : Nat)
  /-- AE_SEARCH (R224): A diagnostic search of the Associative Engine returns HIT, WINNER, COUNT and MULTI. -/
  | aeSearch (port : Nat) (w : Nat) (key : List U64) (mask : List U64) (banks : List Nat) (startBank : Nat) (startIndex : Nat)
  /-- AE_SEARCH_WINDOW (R227): A new 1 µs bank-search window opens and admits searches that were waiting. -/
  | aeSearchWindow
  /-- AE_PORT_RESTART (R228): Firmware rewrites an uncorrectable entry and restarts the stopped engine port. -/
  | aePortRestart (port : Nat)
  /-- MAP_LINE_READ (R138): A map line returns from DRAM and its entry flags decide the read path. -/
  | mapLineRead (n : Nat) (iu : Nat) (ue : Bool)
  /-- MAP_WRITE (R139): The map assist stores an entry unconditionally and returns the entry it replaced. -/
  | mapWrite (slot : Nat) (iu : Nat) (entry : MapEntry)
  /-- MAP_CAS (R139): The map assist stores an entry only if the current entry equals the expected value. -/
  | mapCas (slot : Nat) (iu : Nat) (expected : MapEntry) (entry : MapEntry)
  /-- MAP_LINE_REBUILD (R140): A map line with an uncorrectable error is rebuilt from its checkpoint and the journal. -/
  | mapLineRebuild (slot : Nat) (line : Nat) (readable : Bool)
  /-- TICK_CUTOFF (R30): At each planning cutoff the Timetable freezes its inputs and plans the next tick for each channel. -/
  | tickCutoff (work : List ChWork)
  /-- TICK_BOUNDARY (R29): The tick count advances and the plan of the new tick takes effect. -/
  | tickBoundary
  /-- TT_ENABLE (R32): A write of 1 to TT_CTRL.ENABLE starts planning unless a channel layout check fails. -/
  | ttEnable
  /-- TT_BUDGET_EFF_WRITE (R50): A write to TT_BUDGET_EFF sets the effective program and erase limits, clipped to TT_BUDGET_CFG. -/
  | ttBudgetEffWrite (prog : Nat) (erase : Nat)
  /-- TICK_LO_READ (R29): A read of TT_TICK_LO latches the upper count into TT_TICK_HI. -/
  | tickLoRead
  /-- LEG_START (R96): The signal box starts a planned leg of a parked routine in its window place or data slot. -/
  | legStart (d : Nat) (owner : Nat) (env : LegEnv)
  /-- HOLD_RELEASE (R92): The condition of a hold word becomes true and the routine continues. -/
  | holdRelease (ch : Nat) (env : LegEnv)
  /-- REQUEST_TAKEN (R100): A posted suspend or abort is taken at a station and its service routine and unwind run. -/
  | requestTaken (d : Nat) (env : LegEnv) (unwind : LegEnv)
  /-- STATION_WATCHDOG (R102): 1024 cycles without a station halt the signal box with cause WATCHDOG. -/
  | stationWatchdog (ch : Nat)
  /-- SB_RESTART (R103): A write of SB_SEQ_CTRL.RESTART restarts a halted signal box. -/
  | sbRestart (ch : Nat)
  /-- OP_TIMEOUT (R75): A LUN that is not ready after twice the declared time plus 100 µs is reset and its operation reported failed. -/
  | opTimeout (d : Nat) (inv : Bool)
  /-- RB_STUCK (R77): RB_N low for 100 ms with no LUN busy isolates the channel. -/
  | rbStuck (ch : Nat)
  /-- OP_READ (R93): Dispatch of the READ routine of the die's set. -/
  | opRead (d : Nat) (a : OpArg)
  /-- OP_READ_SLC (R93): Dispatch of the READ_SLC routine. -/
  | opReadSlc (d : Nat) (a : OpArg)
  /-- OP_READ_RETRY (R93): Dispatch of the READ_RETRY routine. -/
  | opReadRetry (d : Nat) (a : OpArg)
  /-- OP_READ_SOFT (R93): Dispatch of the READ_SOFT routine. -/
  | opReadSoft (d : Nat) (a : OpArg)
  /-- OP_PROG (R93): Dispatch of the PROG routine. -/
  | opProg (d : Nat) (a : OpArg)
  /-- OP_PROG_SLC (R93): Dispatch of the PROG_SLC routine. -/
  | opProgSlc (d : Nat) (a : OpArg)
  /-- OP_ERASE (R93): Dispatch of the ERASE routine. -/
  | opErase (d : Nat) (a : OpArg)
  /-- OP_SUSPEND_PROG (R101): Dispatch of the SUSPEND_PROG service routine. -/
  | opSuspendProg (d : Nat) (env : LegEnv) (unwind : LegEnv)
  /-- OP_SUSPEND_ERASE (R101): Dispatch of the SUSPEND_ERASE service routine. -/
  | opSuspendErase (d : Nat) (env : LegEnv) (unwind : LegEnv)
  /-- OP_RESUME_PROG (R101): Dispatch of the RESUME_PROG routine, with reapply where the station requires it. -/
  | opResumeProg (d : Nat) (env : LegEnv) (reapply : LegEnv)
  /-- OP_RESUME_ERASE (R101): Dispatch of the RESUME_ERASE routine. -/
  | opResumeErase (d : Nat) (env : LegEnv) (reapply : LegEnv)
  /-- OP_ABORT (R39): Dispatch of the ABORT (LUN reset) routine, which stops lower-class reads and data-in. -/
  | opAbort (d : Nat) (env : LegEnv) (unwind : LegEnv)
  /-- OP_STATUS (R93): Dispatch of the STATUS routine. -/
  | opStatus (d : Nat) (status : StatusRead)
  /-- OP_RESET_CE (R103): Dispatch of RESET_CE, which returns the NAND features to their defaults. -/
  | opResetCe (ch : Nat) (ce : OnBus Nat)
  /-- OP_SET_FEATURE (R93): Dispatch of the SET_FEATURE routine. -/
  | opSetFeature (d : Nat) (feat : Byte) (v : OnBus Word)
  /-- OP_GET_FEATURE (R93): Dispatch of the GET_FEATURE routine. -/
  | opGetFeature (d : Nat) (feat : OnBus Byte)
  /-- OP_IDENTIFY (R64): Dispatch of IDENTIFY from set 0 to read the parameter page. -/
  | opIdentify (ch : Nat) (ce : Nat) (answer : OnBus CeIdent)
  /-- OP_ZQ_LONG (R68): Dispatch of long-form NAND ZQ calibration. -/
  | opZqLong (ch : Nat) (ce : OnBus Nat)
  /-- OP_ZQ_SHORT (R71): Dispatch of the periodic short ZQ calibration step. -/
  | opZqShort (ch : Nat) (ce : OnBus Nat)
  /-- OP_DCC (R68): Dispatch of RE duty-cycle correction. -/
  | opDcc (ch : Nat) (ce : OnBus Nat)
  /-- OP_READ_TRAIN (R68): Dispatch of read DQ training. -/
  | opReadTrain (ch : Nat) (ce : Nat) (ts : OnBus (List Trim))
  /-- OP_WRITE_TRAIN (R68): Dispatch of write DQ training. -/
  | opWriteTrain (ch : Nat) (ce : Nat) (ts : OnBus (List Trim))
  /-- OP_TRAIN_VERIFY (R68): Dispatch of the training verify pass. -/
  | opTrainVerify (ch : Nat) (ce : Nat) (ok : OnBus Bool)
  /-- OP_DRIFT (R71): Dispatch of the DRIFT read-delay step. -/
  | opDrift (ch : Nat) (ce : Nat) (ms : OnBus (List EyeMeas))
  /-- OP_WDRIFT (R71): Dispatch of the WDRIFT write-delay step. -/
  | opWdrift (ch : Nat) (ce : Nat) (ms : OnBus (List EyeMeas))
  /-- OP_VENDOR (R95): Dispatch of a VENDOR0 to VENDOR3 routine in the Goods class at its interval. -/
  | opVendor (d : Nat) (n : Nat)
  /-- CS_WRITE (R109): A load-port WRITE stores a control-store word in the chosen boxes before LOAD_LOCK. -/
  | csWrite (bcast : Bool) (box : Nat)
  /-- CS_READ (R109): A load-port READ returns a word, or zero for Gwynon words at levels 1 and 2. -/
  | csRead (box : Nat)
  /-- TABLE_WRITE (R109): A load-port table write stores a descriptor or dispatch entry. -/
  | tableWrite (index : Nat)
  /-- LOAD_LOCK (R109): Setting LOAD_LOCK locks the load port and the SB_ RWL fields until the next full reset. -/
  | loadLock
  /-- CHANNEL_IDENTIFY (R64): Firmware powers a channel, resets its chip enables, reads parameter pages and fills the die table. -/
  | channelIdentify (ch : Nat) (ces : List CeIdent)
  /-- CHANNEL_TRAIN (R68): Firmware switches the chip enables to high speed and trains them. -/
  | channelTrain (ch : Nat) (ts : List CeTrain) (temp : Int)
  /-- CAL_FORCE_HOLD (R72): A chip enable waiting cal_force_periods periods for calibration holds new lower-class starts. -/
  | calForceHold (ch : Nat) (ce : Nat)
  /-- HARD_DECODE_DONE (R123): A hard-decision decode ends, and the read record decides whether the codeword stops or rises a level. -/
  | hardDecodeDone (n : Nat) (r : DecRes)
  /-- SOFT_DECODE_DONE (R123): A soft-decision decode ends and the codeword stops or goes to reconstruction. -/
  | softDecodeDone (n : Nat) (r : DecRes)
  /-- RECONSTRUCTION (R153): A codeword is rebuilt at level 3 from die parity, or marked UNREC. -/
  | reconstruction (n : Nat) (ok : Bool) (lba : Nat) (nsid : Nat)
  /-- PARCEL_RESERVE (R144): Firmware reserves a write's parcels in fetch order once the dirty limit allows. -/
  | parcelReserve (n : Nat)
  /-- PARCEL_PLACE (R149): Firmware places complete program units into a stream of a die group. -/
  | parcelPlace (g : Nat) (st : Stream) (ps : List Nat) (copies : List Nat) (lost : List Nat)
  /-- PAD_TIMEOUT (R146): An unfilled stripe is padded once its oldest parcel has waited the pad time. -/
  | padTimeout (n : Nat) (j : Nat)
  /-- STRIPE_PASS (R150): When all programs and open parity of a stripe pass, its map updates run. -/
  | stripePass (n : Nat) (j : Nat)
  /-- PROGRAM_FAIL (R155): A failed program closes the superblock, replaces the data and relocates. -/
  | programFail (n : Nat) (j : Nat) (pos : Nat)
  /-- ERASE_FAIL (R156): A failed erase retires the block with a journal record. -/
  | eraseFail (d : Nat) (plane : Nat) (block : Nat)
  /-- BUFFER_STOP_FLUSH_DONE (R192): The Buffer stop flush ends with every dirty parcel programmed. -/
  | bufferStopFlushDone
  /-- JOURNAL_COMMIT (R159): Firmware commits the open journal page, programming two SLC copies. -/
  | journalCommit
  /-- JOURNAL_COMMIT_TIMEOUT (R159): journal_commit_us after its oldest record, the open page is committed. -/
  | journalCommitTimeout
  /-- JOURNAL_PAGE_DURABLE (R159): Both programs of a journal page pass and the durable sequence advances. -/
  | journalPageDurable
  /-- CHECKPOINT_WRITE (R161): Firmware writes a map segment checkpoint by the live-journal thresholds. -/
  | checkpointWrite (seg : Nat)
  /-- SEGMENT_LOAD (R162): A map segment finishes loading at boot and releases commands waiting on it. -/
  | segmentLoad (seg : Nat)
  /-- PATROL_PERIOD (R177): Each period the Lengthman registers its share of the pass's samples. -/
  | patrolPeriod (periodsLeft : Nat)
  /-- TRACKER_AGE (R179): Every 86,400 s of tick count, AGE of every tracker entry increments. -/
  | trackerAge
  /-- BLOCK_CHECK (R182): A block check reads sample pages and acts as a block walk. -/
  | blockCheck (ch : Nat) (die : Nat) (plane : Nat) (block : Nat)
  /-- STATIC_RELOCATION_SCAN (R185): Once a day, lagging superblocks are queued as static relocation victims. -/
  | staticRelocationScan
  /-- INDICATOR_UPDATE (R189): Every hour, endurance indicators 1 to 3 are recomputed. -/
  | indicatorUpdate
  /-- TENDER_SAMPLE (R197): Every 10 µs the Tender samples the bank and input voltages. -/
  | tenderSample (bank : Nat) (vin : Nat)
  /-- TENDER_LIMIT_UPDATE (R201): Every 1 ms the Tender computes usable energy and writes TENDER_MAX. -/
  | tenderLimitUpdate
  /-- REPEAT_MEASUREMENT (R199): A write of FT_HU_CTRL.MEASURE starts a repeat bank measurement. -/
  | repeatMeasurement
  /-- REMEASURE_TIMER (R199): remeasure_h hours after the last measurement, a repeat measurement starts. -/
  | remeasureTimer
  /-- MEASURE_DISCHARGE_START (R199): Once the dirty count is at or below the lowered limit, the discharge may start. -/
  | measureDischargeStart
  /-- BANK_SETTLED (R198): The bank stops rising; the charger is disabled and the load switched on. -/
  | bankSettled
  /-- BANK_FALL_TIMED (R198): The bank falls by measure_drop_mv and the capacitance is computed. -/
  | bankFallTimed (us : Nat)
  /-- MEASURE_TIMEOUT (R198): A measurement whose settle or fall exceeds its limit fails. -/
  | measureTimeout
  /-- SAG_TIMEOUT (R203): TENDER_MAX below min_parcels for sag_ms withdraws the write cache. -/
  | sagTimeout
  /-- POWER_FAIL_DECLARE (R205): Input below vin_fail_mv for the filter time declares power fail and starts the flush. -/
  | powerFailDeclare
  /-- FLUSH_PROGRAM_LOAD (R209): Firmware loads flush programs as budget places free up. -/
  | flushProgramLoad
  /-- FLUSH_PROGRAM_DONE (R209): A flush program passes or fails and is placed again. -/
  | flushProgramDone (idx : Nat) (ok : Bool)
  /-- BANK_DEPLETED (R211): The bank reaches v_min_mv before the flush ends; program starts stop. -/
  | bankDepleted
  /-- INPUT_RECOVERED (R206): After the flush, input above vin_fail_mv for 100 ms leads to a Guard full reset. -/
  | inputRecovered
  /-- RECOVERY (R215): A boot without the clean-shutdown mark replays the journal and the hold-up superblocks. -/
  | recovery (env : RecoveryEnv)
  /-- BL_LINK_TRAIN (R328): A Branch port attempts training, repeated at its retry pace. -/
  | blLinkTrain (p : Nat)
  /-- BRANCH_LINK_DOWN (R349): A failed retrain or lost lock erases session keys and fails the port's commands. -/
  | branchLinkDown (p : Nat)
  /-- HELLO (R334): A worker receives HELLO and checks the manager's attestation. -/
  | hello (h : Hello)
  /-- HELLO_ACK (R334): The manager checks the worker, accepts or refuses it, and unwraps the session keys. -/
  | helloAck (p : Nat) (h : Hello)
  /-- HELLO_REPEAT (R334): HELLO is repeated on a port without a session at its pace. -/
  | helloRepeat (p : Nat)
  /-- BL_READ (R341): A worker READ command returns blocks as DATA packets, then RESP. -/
  | blRead (c : BlCmd)
  /-- BL_WRITE (R337): A worker WRITE takes data by grants through the buffered write path. -/
  | blWrite (c : BlCmd)
  /-- WRITE_DELTA (R337): A worker writes new blocks and returns old XOR new. -/
  | writeDelta (c : BlCmd)
  /-- PARITY_APPLY (R337): A worker replaces each block by itself XOR COEF times the delta. -/
  | parityApply (c : BlCmd)
  /-- DEALLOCATE (R337): A worker deallocates whole IUs of a volume. -/
  | deallocate (c : BlCmd)
  /-- BL_FLUSH (R337): A worker flush covers writes whose RESP was sent. -/
  | blFlush (c : BlCmd)
  /-- BL_IDENTIFY (R337): A worker returns its identity and capacity. -/
  | blIdentify (c : BlCmd)
  /-- VOLUME_CREATE (R337): A worker creates a volume in the named slot. -/
  | volumeCreate (c : BlCmd) (capacity : Nat) (iuShift : Nat)
  /-- VOLUME_DELETE (R337): A worker deletes a volume. -/
  | volumeDelete (c : BlCmd)
  /-- BL_SANITIZE (R337): A worker runs the named sanitize action. -/
  | blSanitize (c : BlCmd) (sanact : Nat) (owpass : Nat) (ovrpat : Word)
  /-- BL_SET_TIME (R337): A worker sets its Station clock. -/
  | blSetTime (c : BlCmd) (ms : Nat)
  /-- XFER_RDY (R340): The manager receives a grant and sends DATA for the granted blocks. -/
  | xferRdy (p : Nat) (h : BlHdr) (tag : Nat) (first : Nat) (count : Nat)
  /-- DATA (R340): A DATA packet is checked and delivered. -/
  | data (p : Nat) (h : BlHdr) (tag : Nat) (index : Nat) (bytes : List Byte)
  /-- GRANT_OPEN (R340): Once parcels are reserved, the worker opens the tag's next grant. -/
  | grantOpen (tag : Nat)
  /-- RESP (R338): The manager receives a response and settles the member command. -/
  | resp (p : Nat) (h : BlHdr) (tag : Nat) (status : Nat) (detail : Nat) (count : Nat) (unrec : List Nat) (zeros : List Nat)
  /-- BL_ABORT (R344): A worker performs the abort IL_CAS for a tag and answers ABORT_ACK. -/
  | blAbort (h : BlHdr) (tag : Nat)
  /-- ABORT_ACK (R344): The manager receives the abort outcome. -/
  | abortAck (p : Nat) (h : BlHdr) (tag : Nat) (noSuchTag : Bool)
  /-- LOG_READ (R347): A worker returns the named log as DATA, then RESP. -/
  | logRead (h : BlHdr) (tag : Nat) (logId : Nat) (numd : Nat) (offset : Nat) (bootCounter : Nat)
  /-- RESUME (R348): A worker unfreezes or answers STALE. -/
  | resume (h : BlHdr) (lastEntry : Nat)
  /-- RESUME_ACK (R348): The manager receives RESUMED or STALE. -/
  | resumeAck (p : Nat) (h : BlHdr) (stale : Bool) (newest : Nat)
  /-- EVENT (R346): The manager receives a worker event: frozen, health changed or Buffer stop. -/
  | event (p : Nat) (h : BlHdr) (code : Nat) (entry : Nat)
  /-- ACK (R331): An ACK releases acknowledged packets from the replay buffer. -/
  | ack (p : Nat) (lseq : Nat)
  /-- NAK (R331): A NAK triggers replay of every unacknowledged packet. -/
  | nak (p : Nat) (lseq : Nat)
  /-- CREDIT (R333): A CREDIT returns header and data credits to the sender. -/
  | credit (p : Nat) (hdr : Nat) (data : Nat)
  /-- REPLAY_TIMEOUT (R331): No ACK within replay_timeout_ns replays packets; four replays retrain the link. -/
  | replayTimeout (p : Nat)
  /-- CMD_TIMEOUT (R343): A member command times out, ends as failed, sends ABORT and quarantines its tag. -/
  | cmdTimeout (p : Nat) (tag : Nat)
  /-- BL_TAG_QUARANTINE_END (R343): A quarantined Branch Link tag becomes reusable. -/
  | blTagQuarantineEnd (p : Nat) (tag : Nat)
  /-- DISCOVERY_WINDOW_END (R350): discovery_ms after reset, the discovery window ends. -/
  | discoveryWindowEnd
  /-- DESTAGE (R362): Firmware destages committed parcels of an array namespace to the members. -/
  | destage (slot : Nat) (row : Nat) (parcels : List Nat)
  /-- SLOW_MEMBER (R371): A member that does not answer within slow_member_ms during assembly, resync or self-test is FAILED. -/
  | slowMember (m : Nat)
  /-- REBUILD_START (R372): A rebuild target becomes available and the position becomes REBUILDING. -/
  | rebuildStart (pos : Nat) (target : Nat)
  /-- REBUILD_ROW (R373): The rebuild computes and writes the position's strip of one row. -/
  | rebuildRow
  /-- INSPECTION_ROW (R377): The Inspection train checks one row and repairs mismatches. -/
  | inspectionRow (slot : Nat) (row : Nat)
  /-- INSPECT_NOW (R377): A write of AY_CTRL.INSPECT_NOW starts a new Inspection train pass. -/
  | inspectNow
  /-- REGION_CLEAR (R379): A region idle for djournal_idle_ms has its dirty bit cleared. -/
  | regionClear (slot : Nat) (g : Nat)
  /-- RESYNC (R380): After recovery, the dirty regions of the array are resynchronised. -/
  | resync (slot : Nat) (g : Nat)
  /-- DRAM_READ (R391): A DRAM word read is decoded: clean, poisoned, corrected or uncorrectable. -/
  | dramRead (port : Nat) (addr : Nat) (upset : List SymErr)
  /-- DRAM_WRITE (R398): A DRAM write is stored whole or joins the merge buffer. -/
  | dramWrite (port : Nat) (addr : Nat) (bytes : List Byte)
  /-- FLIP_MASK_ARM (R400): A write arms a DRAM or SRAM flip mask. -/
  | flipMaskArm (group : Nat) (v : Word)
  /-- MERGE_RETIRE (R398): A merge-buffer entry retires after 160 ns by read-modify-write. -/
  | mergeRetire (ch : Nat) (w : Nat)
  /-- URGENCY_ESCALATE (R388): A waiting DRAM request's urgency rises as its target time elapses. -/
  | urgencyEscalate (port : Nat) (level : Nat) (latNs : Nat)
  /-- SWEEP_SEGMENT_DONE (R395): The sweeper finishes a segment and sets its valid bit. -/
  | sweepSegmentDone
  /-- SEG_INVAL (R397): A write of ME_SEG_INVAL invalidates a DRAM segment. -/
  | segInval (seg : Nat)
  /-- PLATELAYER_READ (R401): The Platelayer reads and writes back a word at its paced rate. -/
  | platelayerRead (t : ScrubTarget)
  /-- MR4_POLL (R406): Every millisecond, DRAM temperature sets the refresh rate. -/
  | mr4Poll (ch : Nat) (temps : List Int)
  /-- KEY_DERIVE (R409): A key is derived into a free cache entry, waiting for one if needed. -/
  | keyDerive (byGuard : Bool) (r : KeyReq)
  /-- KEY_CACHE_INVALIDATE (R413): Firmware invalidates cache entries of a label or slot. -/
  | keyCacheInvalidate (label : KeyLabel) (slot : Option Nat)
  /-- XTS_JOB (R414): The engine runs an AES-256-XTS job, or refuses it by length limits. -/
  | xtsJob (j : XtsJob)
  /-- GCM_ENCRYPT (R416): The engine encrypts with a generated nonce. -/
  | gcmEncrypt (j : GcmJob)
  /-- GCM_DECRYPT (R416): The engine decrypts and checks the tag. -/
  | gcmDecrypt (j : GcmJob) (nonce : Nat) (tagOk : Bool)
  /-- HWM_ADVANCE (R418): The counter reaching mark minus 2^31 programs a new high-water mark. -/
  | hwmAdvance (ok : Bool)
  /-- OPAL_SET (R423): An Opal Set changing a lock state takes effect after earlier commands. -/
  | opalSet (slot : Option Nat) (readLocked : Bool) (writeLocked : Bool) (namesRange : Bool)
  /-- OPAL_GENKEY (R424): GenKey advances the range key generation and deallocates the namespace. -/
  | opalGenkey (slot : Option Nat)
  /-- OPAL_REVERT (R424): A Revert performs a crypto-erase on all namespaces. -/
  | opalRevert (ok : Bool)
  /-- ALARM_RAISE (R434): An alarm erases keys, stops TLPs and flash starts, and holds the device in reset. -/
  | alarmRaise (cause : AlarmCause) (rails : Nat)
  /-- ALARM_RELEASE (R435): The Guard releases an alarm hold by a full reset. -/
  | alarmRelease
  /-- BOOT_CHAIN_STAGE (R438): A boot chain stage measures its image and appends its Journey Log entry. -/
  | bootChainStage (g : BootStage)
  /-- STATUS (R432): The Guard mailbox returns status, boot counter and level. -/
  | status (slot : Nat)
  /-- VERIFY_IMAGE (R437): The Guard verifies an image and returns its digest. -/
  | verifyImage (slot : Nat) (idx : ImageCheck)
  /-- MEASURE (R432): The Guard appends an ACTIVATION entry. -/
  | measure (slot : Nat) (idx : ImageCheck)
  /-- CHALLENGE (R432): The Guard returns a new nonce and voids the old one. -/
  | challenge (slot : Nat)
  /-- TICKET (R504): The Guard verifies a diagnostic ticket and opens the gate. -/
  | ticket (slot : Nat) (t : Ticket)
  /-- LIFECYCLE (R450): The Guard records or refuses a lifecycle transition. -/
  | lifecycle (slot : Nat) (target : Nat) (confirm : Word)
  /-- MEDIA_KEY_ADVANCE (R425): The Guard advances the media key generation. -/
  | mediaKeyAdvance (slot : Nat) (ok : Bool)
  /-- SET_TIME (R453): The Guard sets the Station clock, making it VALID. -/
  | setTime (slot : Nat) (ms : Nat)
  /-- SPDM (R448): The Guard takes one SPDM request through the mailbox. -/
  | spdm (slot : Nat) (t : Nat) (r : SpdmReq)
  /-- HELLO_BUILD (R446): The Guard builds a signed HELLO or HELLO_ACK payload. -/
  | helloBuild (slot : Nat) (p : Nat)
  /-- HELLO_CHECK (R446): The Guard checks a peer's HELLO payload. -/
  | helloCheck (slot : Nat) (p : Nat) (h : Hello)
  /-- SEAL (R432): The Guard seals a DPOT secret. -/
  | seal (slot : Nat) (secretId : Nat) (bytes : List Byte) (ok : Bool)
  /-- UNSEAL (R432): The Guard unseals a DPOT secret. -/
  | unseal (slot : Nat) (secretId : Nat)
  /-- STAMP (R432): The Guard returns the clock and tick for an incident. -/
  | stamp (slot : Nat)
  /-- GET_VERSION (R448): SPDM GET_VERSION. -/
  | getVersion (t : Nat)
  /-- GET_CAPABILITIES (R448): SPDM GET_CAPABILITIES. -/
  | getCapabilities (t : Nat)
  /-- NEGOTIATE_ALGORITHMS (R448): SPDM NEGOTIATE_ALGORITHMS. -/
  | negotiateAlgorithms (t : Nat) (p384 : Bool) (sha384 : Bool)
  /-- GET_DIGESTS (R448): SPDM GET_DIGESTS. -/
  | getDigests (t : Nat)
  /-- GET_CERTIFICATE (R448): SPDM GET_CERTIFICATE, slot 0. -/
  | getCertificate (t : Nat) (slot : Nat) (off : Nat) (len : Nat)
  /-- SPDM_CHALLENGE (R448): SPDM CHALLENGE. -/
  | spdmChallenge (t : Nat) (slot : Nat) (nonce : Nat)
  /-- GET_MEASUREMENTS (R448): SPDM GET_MEASUREMENTS returns entries of the signed record, or Busy. -/
  | getMeasurements (t : Nat) (idx : Nat) (sg : Bool)
  /-- CLOCK_OSC_STOP (R453): The Station clock oscillator stops for more than 2 ms; VALID clears and LOST is set. -/
  | clockOscStop (us : Nat)
  /-- VBAT_LOW (R453): VBAT below 1.8 V without main power clears VALID. -/
  | vbatLow (mv : Nat)
  /-- SC_TIME_LO_READ (R454): A read of SC_TIME_LO latches the upper milliseconds. -/
  | scTimeLoRead
  /-- DEPOT_PROGRAM (R462): A DP_CMD program writes one word, or is refused by R465. -/
  | depotProgram (guard : Bool) (word : Nat) (value : Nat) (pcBank : Option Nat)
  /-- DEPOT_ERASE (R462): A DP_CMD erase clears one sector, or is refused. -/
  | depotErase (guard : Bool) (word : Nat) (pcBank : Option Nat)
  /-- DEPOT_PROGRAM_DONE (R462): A Depot program ends with read-back OK or PROG_FAIL. -/
  | depotProgramDone (b : Nat) (ok : Bool)
  /-- DEPOT_ERASE_DONE (R462): A Depot erase ends OK or ERASE_FAIL and counts wear. -/
  | depotEraseDone (b : Nat) (ok : Bool)
  /-- DEPOT_READ (R459): A Depot word read returns after the wait states, suspending a busy bank. -/
  | depotRead (guard : Bool) (addr : Nat) (upset : Nat)
  /-- DEPOT_SUSPEND (R466): A pending read suspends a program or erase after its minimum run. -/
  | depotSuspend (b : Nat)
  /-- DEPOT_RESUME (R466): A suspended Depot operation resumes when reads go idle or after 3 µs. -/
  | depotResume (b : Nat)
  /-- DP_WP_SET (R467): A write of DP_WP_SET sets a sector's write-protect bit. -/
  | dpWpSet (x : Nat)
  /-- TEMP_SAMPLE (R472): Every 1 ms the thermal manager reads inputs and updates composite and bands. -/
  | tempSample (inputs : List TempReading)
  /-- THRESHOLD_CROSSED (R477): The composite stays 10 ms at or above a threshold. -/
  | thresholdCrossed (t : Threshold)
  /-- THRESHOLD_CLEARED (R477): The composite stays 10 ms below threshold minus hysteresis. -/
  | thresholdCleared (t : Threshold)
  /-- THROTTLE_STEP_UP (R478): Every 500 ms while throttle is crossed, the step rises. -/
  | throttleStepUp
  /-- THROTTLE_STEP_DOWN (R478): Every 2 s while throttle is cleared, the step falls. -/
  | throttleStepDown
  /-- THERMAL_RESTART (R482): After a thermal flush, 10 s below the warning limit leads to a full reset. -/
  | thermalRestart (highestC : Int)
  /-- NON_OPERATIONAL_ENTER (R486): Once idle, the device flushes and gates blocks to enter PS3 or PS4. -/
  | nonOperationalEnter (ps : Nat)
  /-- APST_TIMEOUT (R485): Idle time of Autonomous Power State Transition expires. -/
  | apstTimeout (k : Nat)
  /-- TOKEN_REFILL (R487): The token pool refills and grants head-of-line requests. -/
  | tokenRefill (us : Nat)
  /-- TOKEN_AGE (R488): A request waiting max_wait_us moves to priority 1. -/
  | tokenAge (id : Nat) (waitedUs : Nat)
  /-- DRAM_TRAINING (R497): The boot stage trains the DRAM channels, or stops with DRAM_FAIL. -/
  | dramTraining (ch : Nat) (attempts : List Bool) (densityOk : Bool)
  /-- CONTROLLER_READY (R494): Once its conditions hold, the controller reports ready. -/
  | controllerReady
  /-- RECOVERY_LOAD (R501): The Guard ROM enters the recovery load on BOOTSRC or no passing image. -/
  | recoveryLoad
  /-- RL_STATUS (R501): Recovery-load status is returned. -/
  | rlStatus
  /-- RL_WRITE (R501): Package bytes are programmed into firmware slot 1. -/
  | rlWrite (offset : Nat) (bytes : List Byte)
  /-- RL_COMMIT (R501): The package is verified, copied to the boot images and the device reset. -/
  | rlCommit (len : Nat) (idx : ImageCheck) (depotOk : Bool)
  /-- STARTUP_STATUS_READ (R502): The start-up status block is returned at SMBus command 0xD0. -/
  | startupStatusRead (ms : Nat)
  /-- FLUSH (R20): An NVMe Flush marks dirty parcels below its cut for programming. -/
  | flush (n : Nat)
  /-- WRITE (R285): An NVMe Write follows the buffered-write path. -/
  | write (n : Nat) (data : List Block)
  /-- READ (R284): An NVMe Read runs on the Mainline or in firmware. -/
  | read (n : Nat)
  /-- WRITE_UNCORRECTABLE (R286): Covered IUs are written UNREC. -/
  | writeUncorrectable (n : Nat)
  /-- COMPARE (R287): The range is read, decrypted and compared. -/
  | compare (n : Nat) (data : List Block)
  /-- WRITE_ZEROES (R286): Whole IUs become DEALLOC and partial IUs are merged with zeros. -/
  | writeZeroes (n : Nat)
  /-- DATASET_MANAGEMENT (R286): Deallocate makes whole covered IUs DEALLOC. -/
  | datasetManagement (n : Nat)
  /-- VERIFY (R287): The range is read and decoded without transfer. -/
  | verify (n : Nat)
  /-- RESERVATION_REGISTER (R289): Reservation Register, dual-port only. -/
  | reservationRegister (n : Nat) (rrega : Nat) (crkey : Nat) (nrkey : Nat) (iekey : Bool) (cptpl : Nat)
  /-- RESERVATION_REPORT (R289): Reservation Report, dual-port only. -/
  | reservationReport (n : Nat)
  /-- RESERVATION_ACQUIRE (R289): Reservation Acquire, dual-port only. -/
  | reservationAcquire (n : Nat) (racqa : Nat) (rtype : Nat) (crkey : Nat) (prkey : Nat) (iekey : Bool)
  /-- RESERVATION_RELEASE (R289): Reservation Release, dual-port only. -/
  | reservationRelease (n : Nat) (rrela : Nat) (rtype : Nat) (crkey : Nat) (iekey : Bool)
  /-- IO_MANAGEMENT_RECEIVE (R282): Reclaim unit handle status is returned. -/
  | ioManagementReceive (n : Nat)
  /-- IO_MANAGEMENT_SEND (R282): Reclaim unit handles are updated. -/
  | ioManagementSend (n : Nat) (pids : List Nat)
  /-- COPY (R288): Source ranges are read, re-encrypted and written as one destination write. -/
  | copy (n : Nat)
  /-- CREATE_IO_SQ (R276): An I/O submission queue is created or the command fails. -/
  | createIoSq (n : Nat)
  /-- CREATE_IO_CQ (R276): An I/O completion queue is created or the command fails. -/
  | createIoCq (n : Nat)
  /-- DELETE_IO_SQ (R297): In-flight commands of the queue are aborted, then the queue is deleted. -/
  | deleteIoSq (n : Nat)
  /-- DELETE_IO_CQ (R276): A completion queue is deleted unless a submission queue names it. -/
  | deleteIoCq (n : Nat)
  /-- GET_LOG_PAGE (R308): A log page is returned. -/
  | getLogPage (n : Nat)
  /-- IDENTIFY (R303): Identify data is returned. -/
  | identify (n : Nat)
  /-- ABORT (R292): An Abort names a queue and CID and races the command's completion. -/
  | abort (n : Nat)
  /-- GET_FEATURES (R305): A feature's value is returned. -/
  | getFeatures (n : Nat)
  /-- ARBITRATION (R279): Set Features Arbitration sets burst and weights. -/
  | arbitration (n : Nat)
  /-- POWER_MANAGEMENT (R484): Set Features Power Management selects a power state. -/
  | powerManagement (n : Nat)
  /-- TEMPERATURE_THRESHOLD (R305): Set Features Temperature Threshold sets a host threshold. -/
  | temperatureThreshold (n : Nat)
  /-- VOLATILE_WRITE_CACHE (R306): Set Features Volatile Write Cache enables or disables the cache. -/
  | volatileWriteCache (n : Nat)
  /-- NUMBER_OF_QUEUES (R276): Set Features Number of Queues returns 255 and 255. -/
  | numberOfQueues (n : Nat)
  /-- INTERRUPT_COALESCING (R305): Set Features Interrupt Coalescing sets THR and TIME. -/
  | interruptCoalescing (n : Nat)
  /-- INTERRUPT_VECTOR_CONFIGURATION (R305): Set Features Interrupt Vector Configuration sets coalescing disable. -/
  | interruptVectorConfiguration (n : Nat)
  /-- WRITE_ATOMICITY_NORMAL (R305): Set Features Write Atomicity Normal is accepted with no effect. -/
  | writeAtomicityNormal (n : Nat)
  /-- ASYNC_EVENT_CONFIGURATION (R305): Set Features Asynchronous Event Configuration enables events. -/
  | asyncEventConfiguration (n : Nat)
  /-- AUTONOMOUS_POWER_STATE_TRANSITION (R485): Set Features APST configures autonomous transitions. -/
  | autonomousPowerStateTransition (n : Nat) (table : List ApstEntry)
  /-- TIMESTAMP (R323): Set Features Timestamp writes the Station clock. -/
  | timestamp (n : Nat) (ms : Nat)
  /-- NON_OPERATIONAL_POWER_STATE_CONFIG (R305): Set Features Non-Operational Power State Config. -/
  | nonOperationalPowerStateConfig (n : Nat)
  /-- FLEXIBLE_DATA_PLACEMENT (R307): Set Features FDP enables or disables FDP when no namespace exists. -/
  | flexibleDataPlacement (n : Nat)
  /-- FDP_EVENTS (R305): Set Features FDP Events per reclaim unit handle. -/
  | fdpEvents (n : Nat)
  /-- RESERVATION_NOTIFICATION_MASK (R305): Set Features Reservation Notification Mask, dual-port only. -/
  | reservationNotificationMask (n : Nat)
  /-- RESERVATION_PERSISTENCE (R305): Set Features Reservation Persistence, dual-port only. -/
  | reservationPersistence (n : Nat)
  /-- VENDOR_EVENT_ENABLE (R310): Set Features 0xC0 enables vendor events. -/
  | vendorEventEnable (n : Nat)
  /-- ASYNC_EVENT_REQUEST (R302): An Asynchronous Event Request is held until an event occurs. -/
  | asyncEventRequest (n : Nat)
  /-- NS_CREATE (R313): Namespace Management create allocates an NSID, slot and map granules. -/
  | nsCreate (n : Nat) (d : NsData)
  /-- NS_DELETE (R313): Namespace Management delete releases the namespace and journals it. -/
  | nsDelete (n : Nat)
  /-- NAMESPACE_ATTACHMENT (R313): A namespace is attached to or detached from controllers 1 and 2. -/
  | namespaceAttachment (n : Nat) (ctrls : List Nat)
  /-- FIRMWARE_IMAGE_DOWNLOAD (R320): Package bytes are placed in the staging buffer. -/
  | firmwareImageDownload (n : Nat) (bytes : List Byte)
  /-- FIRMWARE_COMMIT (R321): The staged package is verified, stored and activated by its commit action. -/
  | firmwareCommit (n : Nat) (img : ImageCheck)
  /-- ACTIVATION_DRAIN_DONE (R322): After the last outstanding command completes, the new firmware is loaded and fetching resumes. -/
  | activationDrainDone (img : ImageCheck)
  /-- SELF_TEST_SHORT (R315): Device Self-test STC 0x1 starts the short test. -/
  | selfTestShort (n : Nat)
  /-- SELF_TEST_EXTENDED (R316): Device Self-test STC 0x2 starts the extended test. -/
  | selfTestExtended (n : Nat)
  /-- SELF_TEST_ABORT (R317): STC 0xF races the test's completion point. -/
  | selfTestAbort (n : Nat)
  /-- SELF_TEST_COMPLETE (R317): The test reaches its completion point and logs its result. -/
  | selfTestComplete (failSeg : Option Nat)
  /-- MEDIA_PASS_RESUME (R316): The media pass resumes 10 ms after the last I/O completes. -/
  | mediaPassResume
  /-- DIRECTIVE_SEND (R301): Directive Send. -/
  | directiveSend (n : Nat)
  /-- DIRECTIVE_RECEIVE (R301): Directive Receive. -/
  | directiveReceive (n : Nat)
  /-- FORMAT_NVM (R314): Format NVM deallocates and may change LBAF or erase. -/
  | formatNvm (n : Nat) (guardOk : Bool)
  /-- SECURITY_SEND (R421): Security Send carries Opal protocol data. -/
  | securitySend (n : Nat) (payload : OpalPayload)
  /-- SECURITY_RECEIVE (R421): Security Receive returns Opal responses. -/
  | securityReceive (n : Nat)
  /-- EXIT_FAILURE_MODE (R318): Sanitize Exit Failure Mode leaves failure mode. -/
  | exitFailureMode (n : Nat)
  /-- BLOCK_ERASE (R318): Sanitize Block Erase erases every non-retired block. -/
  | blockErase (n : Nat)
  /-- OVERWRITE (R318): Sanitize Overwrite programs OVRPAT over every page. -/
  | overwrite (n : Nat)
  /-- SANITIZE_CRYPTO_ERASE (R318): Sanitize Crypto Erase advances the media key generation. -/
  | sanitizeCryptoErase (n : Nat)
  /-- SANITIZE_COMPLETE (R319): A sanitize finishes and clears the map, or enters failure mode. -/
  | sanitizeComplete (ok : Bool)
  /-- DEPOT_IMAGE_DOWNLOAD (R324): Image bytes go into the 1 MiB staging buffer. -/
  | depotImageDownload (n : Nat) (bytes : List Byte)
  /-- DEPOT_IMAGE_COMMIT (R325): A staged Rulebook or microcode image is checked and written to the Depot. -/
  | depotImageCommit (n : Nat) (sigOk : Bool)
  /-- GUARD_CHALLENGE (R324): Vendor command 0xC2 returns a Guard nonce. -/
  | guardChallenge (n : Nat)
  /-- DIAGNOSTIC_TICKET (R324): Vendor command 0xC3 delivers a ticket. -/
  | diagnosticTicket (n : Nat) (ticket : Ticket)
  /-- LIFECYCLE_REQUEST (R450): Vendor command 0xC4 requests a lifecycle transition. -/
  | lifecycleRequest (n : Nat)
  /-- HOLD_UP_MEASURE (R324): Vendor command 0xC5 runs a repeat measurement. -/
  | holdUpMeasure (n : Nat)
  /-- JOURNEY_LOG_ARCHIVE_READ (R442): Vendor command 0xC6 returns an archived boot record. -/
  | journeyLogArchiveRead (n : Nat)
  /-- DIE_TABLE_READ (R324): Vendor command 0xC7 returns die-table entries. -/
  | dieTableRead (n : Nat)
  /-- TICKET_EXPIRE (R505): A ticket's duration passes; the gate closes and injections are disarmed. -/
  | ticketExpire
  /-- LCRC (R507): FG_PCIE KIND 1 arms LCRC corruption. -/
  | lcrc (p : Nat) (count : Nat)
  /-- POISON (R507): FG_PCIE KIND 2 arms poisoning of read data. -/
  | poison (p : Nat) (count : Nat)
  /-- CPL_DELAY (R507): FG_PCIE KIND 3 arms a completion hold. -/
  | cplDelay (p : Nat) (count : Nat) (us : Nat)
  /-- DROP (R507): FG_BL KIND 1 arms a packet drop. -/
  | drop (p : Nat) (count : Nat)
  /-- CORRUPT_CRC (R507): FG_BL KIND 2 arms a CRC bit flip. -/
  | corruptCrc (p : Nat) (count : Nat)
  /-- CORRUPT_AUTH (R507): FG_BL KIND 3 arms a payload bit flip. -/
  | corruptAuth (p : Nat) (count : Nat)
  /-- REORDER (R507): FG_BL KIND 4 arms a swap of two packets. -/
  | reorder (p : Nat) (count : Nat)
  /-- DELAY (R507): FG_BL KIND 5 arms a packet hold. -/
  | delay (p : Nat) (count : Nat) (us : Nat)
  /-- READ_FAIL (R507): FG_NAND KIND 1 arms decode failures on a die. -/
  | readFail (count : Nat) (levels : Nat)
  /-- PROG_FAIL (R507): FG_NAND KIND 2 arms a program failure. -/
  | progFail (count : Nat)
  /-- SLOW (R508): FG_NAND KIND 3 delays every operation of a die. -/
  | slow (extraUs : Nat)
  /-- LANE_TEST_START (R509): RUN set takes the lane's port out of service and starts a PRBS loopback test. -/
  | laneTestStart (loop : Nat) (pattern : Nat)
  /-- LANE_TEST_STOP (R509): RUN cleared stops the test and retrains the port. -/
  | laneTestStop
  /-- JRNL_LO_READ (R167): A read of FT_JRNL_LO latches the upper durable sequence. -/
  | jrnlLoRead
  /-- NONCE_LO_READ (R426): A read of CE_NONCE_LO latches the upper counter. -/
  | nonceLoRead
  /-- RB_ROW_LO_READ (R382): A read of AY_RB_ROW_LO latches the upper checkpoint row. -/
  | rbRowLoRead
  /-- READ_CLEAR (R10): A read of an RC field returns its value and clears it. -/
  | readClear (off : Nat)
  /-- REGISTER_WRITE (R10): A write to a register without its own row acts by its access code. -/
  | registerWrite (off : Nat) (v : Word)
  /-- BRANCH_LINK_UP (R333): A Branch port's training or retrain succeeds: the port grants its initial credits and the manager sends HELLO. -/
  | branchLinkUp (p : Nat) (lanes : Nat)
  /-- PCIE_LINK_UP (R245): A PCIe port finishes link training at its negotiated speed, width and FLIT or non-flit mode. -/
  | pcieLinkUp (p : Nat) (gts : Nat) (width : Nat) (flit : Bool)
  /-- POWER_LOSS (R211): The supplies, VDD_GUARD included, fall away, for example with the bank removed or shorted, and the device stops wherever it stands. -/
  | powerLoss
  /-- LANE_PATTERN_LOCK (R509): The lane-test checker locks to the PRBS pattern, sets FG_LANE_CTRL.LOCKED and begins counting bit errors. -/
  | lanePatternLock (errors : Nat)
  /-- PCIE_REPLAY_TIMER_TIMEOUT (R261): The PCIe replay timer expires, or the replay count rolls over, giving a correctable error and a replay or a link retrain. -/
  | pcieReplayTimerTimeout (p : Nat) (rollover : Bool)
  /-- DLLP_RECEIVED (R261): A DLLP arrives from the PCIe partner: an Ack, a Nak that starts a replay, a flow-control update granting credit, or a bad DLLP or receiver error. -/
  | dllpReceived (p : Nat) (d : Dllp)
  /-- INJECTION_HOLD_EXPIRE (R507): The DELAY_US hold of a Fogman CPL_DELAY or Branch Link DELAY injection ends, and the held completion or packet is released. -/
  | injectionHoldExpire (branch : Bool) (p : Nat)
  deriving DecidableEq, Repr

end Sys2Proof
end

