-- ==== Sys2Proof/Decode.lean ====
section
/-! DEFINITION. Words of the opcode table. -/

namespace Sys2Proof

/-- The command a word spells: none, for no row of the table gives bits. [DESIGN CHOICE, log 1] -/
def decodeTableWord (_nbits _w : Nat) : Option Instr := none

end Sys2Proof
end

