-- ==== Sys2Proof/Config.lean ====
section
/-! DEFINITION. What the spec leaves open: free values (constants without a body, so that no proof sees them). -/

namespace Sys2Proof.Config

/-- The value a NAND feature has before any Set Features: the NAND's own, given by no rule of the spec. Die and feature address. [DESIGN CHOICE, log 14] -/
opaque nandFeatureDefault : Nat → Nat → Word

/-- What the SEC-DED code of half a control-store word makes of three upset bits or more (R84 gives no matrix): none, uncorrectable; else whether it corrects a bit, and the bits then wrong. Word, upset bits. [DESIGN CHOICE, log 24] -/
opaque csBeyond : Nat → List Nat → Option (Bool × List Nat)

/-- The eight check bits of half a control-store word (R84 gives no matrix): the 13-bit word address, the 80 data bits. [DESIGN CHOICE, log 24] -/
opaque csCheck : Nat → BitVec 80 → BitVec 8

/-- Cycles the verifier counts for a timer loaded from a die-table field (R87, R111): it runs before any die is known. [DESIGN CHOICE, log 24] -/
opaque dieTimer : Nat → Nat

/-- What decryption under a key other than the one a block was encrypted with gives: no rule states it. Slot, creation count, media generation, range generation, LBA, plaintext. [DESIGN CHOICE, log 11] -/
opaque undecrypted : Nat → Nat → Nat → Nat → Nat → List Byte → List Byte

/-- The ciphertext of a logical block (R414): the XTS function itself is computed by the engine; slot, creation count, media generation, range generation, LBA, plaintext. [DESIGN CHOICE, log 11] -/
opaque xtsEncrypt : Nat → Nat → Nat → Nat → Nat → List Byte → List Byte

/-- The plaintext of ciphertext that came back from a member as bytes (R24, R335), arguments as for `xtsEncrypt`. [DESIGN CHOICE, log 11] -/
opaque xtsDecrypt : Nat → Nat → Nat → Nat → Nat → List Byte → List Byte

/-- What errors of a DRAM word in several devices look like to the decoder (R391 gives only a probability): those of one device 0 to 9, for three devices or more also 10 no error or 11 poison, or none of these. Word address and errors by symbol. [DESIGN CHOICE, log 12] -/
opaque rsAlias : Nat → List (Nat × BitVec 16) → Option Nat

/-- The byte at an offset of a word that the decoder then corrects wrongly. [DESIGN CHOICE, log 12] -/
opaque rsMiscorrected : Nat → List (Nat × BitVec 16) → Nat → BitVec 8

/-- The ciphertext of a GCM job (R416): label number and key context, nonce counter, plaintext. [DESIGN CHOICE, log 11] -/
opaque gcmEncrypt : Nat → List Nat → Nat → List Byte → List Byte

/-- A byte of the tag of a GCM job (R329, R416): label number and key context, nonce counter, additional data, plaintext, offset. [DESIGN CHOICE, log 11] -/
opaque gcmTag : Nat → List Nat → Nat → List Byte → List Byte → Nat → Byte

/-- The plaintext of a GCM job whose tag verifies. [DESIGN CHOICE, log 11] -/
opaque gcmDecrypt : Nat → List Nat → Nat → List Byte → List Byte

/-- What a random source gives (R425, R432): the number of the draw; salts, nonces, challenges. [DESIGN CHOICE, log 10] -/
opaque random : Nat → Nat

/-- Whether an RST_N pulse of 1 to 10 us is taken (R492): either may happen. [DESIGN CHOICE, log 15] -/
opaque shortPulse : Nat → Bool

/-- Whether a Depot operation that a reset cuts has ended as meant, or leaves what it acts on undefined (R462, R469): either may happen. [DESIGN CHOICE, log 14] -/
opaque depotOpEnds : Nat → Bool

/-- The class of the incident that a failed nonce mark logs: R418 names none. [DESIGN CHOICE, log 15] -/
opaque markIncidentClass : Nat

/-- A byte of the session keys as the Guard wraps them (R447): number of the draw, offset. [DESIGN CHOICE, log 13] -/
opaque guardByte : Nat → Nat → Byte

/-- A byte of a key derived under the device root key, which is the fuses' own (R409): label number, context, offset. [DESIGN CHOICE, log 11] -/
opaque rootKdf : Nat → List Nat → Nat → Byte

/-- Private keys fixed at manufacture (R428, R444): 0 the device identity key, 1 the manufacturing CA, 2 the root CA. [DESIGN CHOICE, log 13] -/
opaque fixedKey : Nat → Nat

/-- A byte of the public key x then y of a P-384 private key: the curve's own arithmetic, stated in no rule. [DESIGN CHOICE, log 13] -/
opaque p384Public : Nat → Nat → Byte

/-- A byte of an ECDSA P-384 signature r then s: private key, message, number of the draw, offset (R440, R444, R446). [DESIGN CHOICE, log 13] -/
opaque ecdsaByte : Nat → List Nat → Nat → Nat → Byte

/-- The X.509 encoding of a certificate of R444, which gives its keys and its extension, not its bytes: which, serial or the extension's fields, public key, private key of its signer, number of the draw. [DESIGN CHOICE, log 13] -/
opaque certificate : Nat → List Nat → List Nat → Nat → Nat → List Byte

/-- A byte of a host log page or data structure whose content the spec leaves to the base specification or does not state: page, offset, number of the draw. [DESIGN CHOICE, log 13] -/
opaque openByte : Nat → Nat → Nat → Byte

/-- A byte of a copy of the array header: R354 names its contents and gives them no layout. Array identifier, generation, offset. [DESIGN CHOICE, log 13] -/
opaque headerByte : Nat → Nat → Nat → Byte

/-- What a Depot word holds after a program or erase of it failed (R462): word number, number of the draw. [DESIGN CHOICE, log 14] -/
opaque failedWord : Nat → Nat → BitVec 64

/-- A byte of the LDPC parity of a payload (R113): the code comes from a base matrix the spec does not give. Payload, PAR, offset. [DESIGN CHOICE, log 63] -/
opaque ldpcParity : List Byte → Nat → Nat → Byte

/-- A dword of configuration space, as far as the spec leaves it to the base specification (R247, R248): offset. [DESIGN CHOICE, log 45] -/
opaque configBits : Nat → Word

/-- The seed of the scrambling sequence of a place (R115): die, plane, block, page, slot; the spec gives no formula. [DESIGN CHOICE, log 63] -/
opaque prbsSeed : Nat → Nat → Nat → Nat → Nat → BitVec 31

/-- A byte of a codeword whose content the spec names but lays out nowhere: superblock headers, summaries, pads (R146, R148). Serial, place, offset. [DESIGN CHOICE, log 63] -/
opaque codewordByte : Nat → Nat → Nat → Byte

/-- What the SRAM code makes of three or more wrong bits (R393): none when it reports them uncorrectable, else whether it counts a correction and the data it takes. Word, bits, stored data. [DESIGN CHOICE, log 59] -/
opaque sramBeyond : Nat → List Nat → BitVec 64 → Option (Bool × BitVec 64)

/-- Whether the signature of an image verifies that no commit has checked: bytes that came into an area by single programs (R325, R457). Type, bytes. [DESIGN CHOICE, log 17] -/
opaque imageSigned : Nat → List Byte → Bool

end Sys2Proof.Config
end

