-- ==== Sys2Proof/Machine/Field.lean ====
section
/-! DEFINITION. A register field: where it stands in the diagnostic window, how software may touch it, what it resets to. -/

namespace Sys2Proof

/-- Access codes of R10. -/
inductive Access where
  | rw | ro | wo | w1c | rc | rwl | gd
  deriving DecidableEq, Repr

/-- What a write stores when the written value is outside the field's legal values (R56, R80, R131, R242, R407). -/
inductive Clip where
  /-- every value of the width is stored -/
  | free
  /-- the nearest value of the range is stored -/
  | range (lo hi : Nat)
  /-- a value outside the list is stored as the last operand -/
  | oneOf (allowed : List Nat) (other : Nat)
  /-- the nearest multiple of 32 from 224 to 864, the higher one halfway (R131) -/
  | par
  deriving DecidableEq, Repr

/-- One field of a vendor register. -/
structure Field where
  /-- offset of the 32-bit register in the window -/
  off : Nat
  /-- lowest bit -/
  lo : Nat
  width : Nat
  access : Access
  reset : Nat
  clip : Clip
  deriving DecidableEq, Repr

/-- The key of a field in the register file: fields do not overlap, so offset and lowest bit name it. -/
def Field.key (f : Field) : Nat := f.off * 32 + f.lo

/-- The value a write of `v` stores (R56, R80, R131). -/
def Clip.apply (c : Clip) (v : Nat) : Nat :=
  match c with
  | .free => v
  | .range lo hi => clampN lo hi v
  | .oneOf allowed other => if v ∈ allowed then v else other
  | .par => clampN 224 864 ((v + 16) / 32 * 32)

end Sys2Proof
end

