-- ==== Sys2Proof/Machine/Regs.lean ====
section
/-! DEFINITION. Every field of the vendor registers in the diagnostic window, as the register tables of the spec give it: offset in the window (R506), lowest bit, width, access code (R10) and reset value. A register repeated n times takes its number. -/

namespace Sys2Proof.Reg

/-- `TT_CTRL.ENABLE` (R56): 1: the Timetable plans ticks. 0: no flash operation is dispatched -/
def TT_CTRL_ENABLE : Field := ⟨0, 0, 1, .rwl, 0, .free⟩
/-- `TT_CTRL.LOCK` (R56): 1: locks all TT_ RWL fields, this one included -/
def TT_CTRL_LOCK : Field := ⟨0, 1, 1, .rwl, 0, .free⟩
/-- `TT_CTRL.CEIL_MON` (R56): 1: ceiling monitor of R54 on -/
def TT_CTRL_CEIL_MON : Field := ⟨0, 2, 1, .rwl, 1, .free⟩
/-- `TT_STATUS.RUNNING` (R56): 1: ticks are being planned -/
def TT_STATUS_RUNNING : Field := ⟨4, 0, 1, .ro, 0, .free⟩
/-- `TT_STATUS.CEIL_VIOL` (R56): a ceiling violation was recorded -/
def TT_STATUS_CEIL_VIOL : Field := ⟨4, 1, 1, .w1c, 0, .free⟩
/-- `TT_STATUS.TOKEN_STARVED` (R56): a draining die's resume was denied tokens at a cutoff -/
def TT_STATUS_TOKEN_STARVED : Field := ⟨4, 2, 1, .w1c, 0, .free⟩
/-- `TT_TICK_LO.COUNT_LO` (R56): tick count [31:0]; a read latches [63:32] into TT_TICK_HI -/
def TT_TICK_LO_COUNT_LO : Field := ⟨8, 0, 32, .ro, 0, .free⟩
/-- `TT_TICK_HI.COUNT_HI` (R56): tick count [63:32] as latched by the last TT_TICK_LO read -/
def TT_TICK_HI_COUNT_HI : Field := ⟨12, 0, 32, .ro, 0, .free⟩
/-- `TT_EXPRESS_CFG.E_LIMIT` (R56): Express issues and transfers per channel per tick, 1–4, before the clip of R37 -/
def TT_EXPRESS_CFG_E_LIMIT : Field := ⟨16, 0, 3, .rwl, 4, .range 1 4⟩
/-- `TT_EXPRESS_CFG.PROGRESS` (R56): protection P in ticks, 1–8 -/
def TT_EXPRESS_CFG_PROGRESS : Field := ⟨16, 4, 4, .rwl, 1, .range 1 8⟩
/-- `TT_EXPRESS_CFG.MAX_SPAN` (R56): span in ticks at which a die drains, 4–64 -/
def TT_EXPRESS_CFG_MAX_SPAN : Field := ⟨16, 8, 8, .rwl, 16, .range 4 64⟩
/-- `TT_EXPRESS_CFG.ADMIT_TICKS` (R56): admission bound checked by the monitor, 4–8 -/
def TT_EXPRESS_CFG_ADMIT_TICKS : Field := ⟨16, 16, 4, .rwl, 4, .range 4 8⟩
/-- `TT_BUDGET_CFG.MAX_PROG` (R56): concurrent program ceiling, 16–256 -/
def TT_BUDGET_CFG_MAX_PROG : Field := ⟨20, 0, 9, .rwl, 128, .range 16 256⟩
/-- `TT_BUDGET_CFG.MAX_ERASE` (R56): concurrent erase ceiling, 8–128 -/
def TT_BUDGET_CFG_MAX_ERASE : Field := ⟨20, 16, 8, .rwl, 64, .range 8 128⟩
/-- `TT_BUDGET_EFF.PROG` (R56): effective program limit under R50 -/
def TT_BUDGET_EFF_PROG : Field := ⟨24, 0, 9, .rw, 128, .free⟩
/-- `TT_BUDGET_EFF.ERASE` (R56): effective erase limit under R50 -/
def TT_BUDGET_EFF_ERASE : Field := ⟨24, 16, 8, .rw, 64, .free⟩
/-- `TT_BUDGET_STAT.PROG_ACTIVE` (R56): programs counted, suspended ones included -/
def TT_BUDGET_STAT_PROG_ACTIVE : Field := ⟨28, 0, 9, .ro, 0, .free⟩
/-- `TT_BUDGET_STAT.ERASE_ACTIVE` (R56): erases counted, suspended ones included -/
def TT_BUDGET_STAT_ERASE_ACTIVE : Field := ⟨28, 16, 8, .ro, 0, .free⟩
/-- `TT_TOKEN_WT.PROG` (R56): tokens per program start or resume, 1–15 -/
def TT_TOKEN_WT_PROG : Field := ⟨32, 0, 4, .rwl, 2, .range 1 15⟩
/-- `TT_TOKEN_WT.ERASE` (R56): tokens per erase start or resume, 1–15 -/
def TT_TOKEN_WT_ERASE : Field := ⟨32, 4, 4, .rwl, 4, .range 1 15⟩
/-- `TT_MAINT_CFG.PER_PERIOD` (R56): maintenance ticks per channel per period: 1, 2 or 4; any other value is stored as 2 -/
def TT_MAINT_CFG_PER_PERIOD : Field := ⟨36, 0, 3, .rwl, 2, .oneOf [1, 2, 4] 2⟩
/-- `TT_GOODS_CFG.FLOOR` (R56): Goods floor in percent, 5–50 -/
def TT_GOODS_CFG_FLOOR : Field := ⟨40, 0, 7, .rwl, 20, .range 5 50⟩
/-- `TT_GOODS_CFG.URGENT_FLOOR` (R56): urgent Goods floor in percent, 20–80 -/
def TT_GOODS_CFG_URGENT_FLOOR : Field := ⟨40, 8, 7, .rwl, 50, .range 20 80⟩
/-- `TT_GOODS_CFG.URGENT` (R56): 1: URGENT_FLOOR applies -/
def TT_GOODS_CFG_URGENT : Field := ⟨40, 16, 1, .rw, 0, .free⟩
/-- `TT_DIE_SEL.DIE` (R56): die number 0–511 shown in TT_DIE_STATE -/
def TT_DIE_SEL_DIE : Field := ⟨44, 0, 9, .rw, 0, .free⟩
/-- `TT_DIE_STATE.STATE` (R56): die state, encoded as in the die-state table -/
def TT_DIE_STATE_STATE : Field := ⟨48, 0, 4, .ro, 15, .free⟩
/-- `TT_DIE_STATE.SUSP_COUNT` (R56): suspensions of the current operation -/
def TT_DIE_STATE_SUSP_COUNT : Field := ⟨48, 4, 8, .ro, 0, .free⟩
/-- `TT_DIE_STATE.SPAN` (R56): span in ticks, saturating at 255 -/
def TT_DIE_STATE_SPAN : Field := ⟨48, 12, 8, .ro, 0, .free⟩
/-- `TT_DIE_STATE.PROTECTED` (R56): protected under R43 -/
def TT_DIE_STATE_PROTECTED : Field := ⟨48, 20, 1, .ro, 0, .free⟩
/-- `TT_DIE_STATE.DRAINING` (R56): draining under R44 -/
def TT_DIE_STATE_DRAINING : Field := ⟨48, 21, 1, .ro, 0, .free⟩
/-- `TT_DIE_STATE.EXHAUSTED` (R56): exhausted under R41 -/
def TT_DIE_STATE_EXHAUSTED : Field := ⟨48, 22, 1, .ro, 0, .free⟩
/-- `TT_DIE_STATE.NON_EXPRESS` (R56): non-Express under R42 -/
def TT_DIE_STATE_NON_EXPRESS : Field := ⟨48, 23, 1, .ro, 0, .free⟩
/-- `TT_DIE_STATE.EXP_INFLIGHT` (R56): Express reads in progress, 0–4 -/
def TT_DIE_STATE_EXP_INFLIGHT : Field := ⟨48, 24, 3, .ro, 0, .free⟩
/-- `TT_EXP_ADMITTED.COUNT` (R56): Express reads planned, wrapping -/
def TT_EXP_ADMITTED_COUNT : Field := ⟨52, 0, 32, .ro, 0, .free⟩
/-- `TT_EXP_QUEUED_A.UNIT` (R56): queued for read unit, saturating -/
def TT_EXP_QUEUED_A_UNIT : Field := ⟨56, 0, 16, .rc, 0, .free⟩
/-- `TT_EXP_QUEUED_A.CHAN` (R56): queued for channel reservations, saturating -/
def TT_EXP_QUEUED_A_CHAN : Field := ⟨56, 16, 16, .rc, 0, .free⟩
/-- `TT_EXP_QUEUED_B.HELD` (R56): queued for an exhausted or draining die, saturating -/
def TT_EXP_QUEUED_B_HELD : Field := ⟨60, 0, 16, .rc, 0, .free⟩
/-- `TT_EXP_QUEUED_B.DEMOTED` (R56): demoted under R42, saturating -/
def TT_EXP_QUEUED_B_DEMOTED : Field := ⟨60, 16, 16, .rc, 0, .free⟩
/-- `TT_CEIL_VIOL_CNT.COUNT` (R56): ceiling violations, saturating -/
def TT_CEIL_VIOL_CNT_COUNT : Field := ⟨64, 0, 16, .rc, 0, .free⟩
/-- `TT_CEIL_VIOL_REC.DIE` (R56): die of the recorded violation -/
def TT_CEIL_VIOL_REC_DIE : Field := ⟨68, 0, 9, .ro, 0, .free⟩
/-- `TT_CEIL_VIOL_REC.PHASE` (R56): 0b00 admission, 0b01 array, 0b10 transfer -/
def TT_CEIL_VIOL_REC_PHASE : Field := ⟨68, 9, 2, .ro, 0, .free⟩
/-- `TT_CEIL_VIOL_REC.EXCESS` (R56): excess over the bound in units of 128 ns, saturating -/
def TT_CEIL_VIOL_REC_EXCESS : Field := ⟨68, 16, 16, .ro, 0, .free⟩
/-- `TT_CH_BUS[n].SLOT_CYC` (R56): slot length in timebase cycles, set under R32 -/
def TT_CH_BUS_SLOT_CYC (n : Nat) : Field := ⟨256 + 16 * n, 0, 10, .rwl, 176, .free⟩
/-- `TT_CH_BUS[n].SLOTS` (R56): data slots per tick -/
def TT_CH_BUS_SLOTS (n : Nat) : Field := ⟨256 + 16 * n, 12, 3, .rwl, 5, .free⟩
/-- `TT_CH_BUS[n].CMD_CAP` (R56): command sequences per window -/
def TT_CH_BUS_CMD_CAP (n : Nat) : Field := ⟨256 + 16 * n, 16, 4, .rwl, 8, .free⟩
/-- `TT_CH_STAT[n].MAINT_NOW` (R56): the current tick is a maintenance tick of the channel -/
def TT_CH_STAT_MAINT_NOW (n : Nat) : Field := ⟨260 + 16 * n, 0, 1, .ro, 0, .free⟩
/-- `TT_CH_STAT[n].CFG_ERR` (R56): layout check of R32 failed -/
def TT_CH_STAT_CFG_ERR (n : Nat) : Field := ⟨260 + 16 * n, 1, 1, .ro, 0, .free⟩
/-- `TT_CH_STAT[n].EXP_ISSUES` (R56): Express issues in the most recently completed tick of the channel, not the tick in progress -/
def TT_CH_STAT_EXP_ISSUES (n : Nat) : Field := ⟨260 + 16 * n, 4, 4, .ro, 0, .free⟩
/-- `TT_CH_STAT[n].EXP_XFERS` (R56): Express transfers, in codewords (R37), in the most recently completed tick of the channel -/
def TT_CH_STAT_EXP_XFERS (n : Nat) : Field := ⟨260 + 16 * n, 8, 4, .ro, 0, .free⟩
/-- `TT_CH_STAT[n].GOODS_SHARE` (R56): Goods share of non-Express slots in the most recently completed period, percent -/
def TT_CH_STAT_GOODS_SHARE (n : Nat) : Field := ⟨260 + 16 * n, 16, 8, .ro, 0, .free⟩
/-- `SB_CH_CFG[n].ENABLE` (R80): 1: channel in use -/
def SB_CH_CFG_ENABLE (n : Nat) : Field := ⟨98304 + 64 * n, 0, 1, .rwl, 0, .free⟩
/-- `SB_CH_CFG[n].IFACE` (R80): 0 ONFI NV-LPDDR4; 1 Toggle DDR -/
def SB_CH_CFG_IFACE (n : Nat) : Field := ⟨98304 + 64 * n, 1, 1, .rwl, 0, .free⟩
/-- `SB_CH_CFG[n].RATE` (R80): 0b000 1600, 0b001 2000, 0b010 2400, 0b011 2800, 0b100 3200, 0b101 3600 MT/s; 0b110 and 0b111 are stored as 0b101 -/
def SB_CH_CFG_RATE (n : Nat) : Field := ⟨98304 + 64 * n, 2, 3, .rwl, 5, .oneOf [0, 1, 2, 3, 4, 5] 5⟩
/-- `SB_CH_CFG[n].CE_MASK` (R80): populated chip enables -/
def SB_CH_CFG_CE_MASK (n : Nat) : Field := ⟨98304 + 64 * n, 5, 8, .rwl, 0, .free⟩
/-- `SB_CH_CFG[n].LUNS` (R80): LUNs per chip enable: 0b00 one, 0b01 two, 0b11 four; 0b10 is stored as 0b01 -/
def SB_CH_CFG_LUNS (n : Nat) : Field := ⟨98304 + 64 * n, 13, 2, .rwl, 0, .oneOf [0, 1, 3] 1⟩
/-- `SB_CH_CFG[n].ODT_EN` (R80): 1: controller termination on reads -/
def SB_CH_CFG_ODT_EN (n : Nat) : Field := ⟨98304 + 64 * n, 15, 1, .rwl, 1, .free⟩
/-- `SB_CH_CFG[n].DRV` (R80): controller driver: 0b000 25 Ω, 0b001 35 Ω, 0b010 50 Ω; other values are stored as 0b001 -/
def SB_CH_CFG_DRV (n : Nat) : Field := ⟨98304 + 64 * n, 16, 3, .rwl, 1, .oneOf [0, 1, 2] 1⟩
/-- `SB_CH_CFG[n].NAND_ODT` (R80): requested NAND termination: 0 off, 1 50 Ω, 2 75 Ω, 3 100 Ω, 4 150 Ω; 5–7 are stored as 2 -/
def SB_CH_CFG_NAND_ODT (n : Nat) : Field := ⟨98304 + 64 * n, 19, 3, .rwl, 2, .oneOf [0, 1, 2, 3, 4] 2⟩
/-- `SB_CH_STAT[n].PRESENT` (R80): 0: fused off (XD6408, n ≥ 8) -/
def SB_CH_STAT_PRESENT (n : Nat) : Field := ⟨98308 + 64 * n, 0, 1, .ro, 1, .free⟩
/-- `SB_CH_STAT[n].POWERED` (R80): channel power switch closed -/
def SB_CH_STAT_POWERED (n : Nat) : Field := ⟨98308 + 64 * n, 1, 1, .ro, 0, .free⟩
/-- `SB_CH_STAT[n].TRAINED` (R80): boot training finished -/
def SB_CH_STAT_TRAINED (n : Nat) : Field := ⟨98308 + 64 * n, 2, 1, .ro, 0, .free⟩
/-- `SB_CH_STAT[n].ISOLATED` (R80): channel isolated under R77 -/
def SB_CH_STAT_ISOLATED (n : Nat) : Field := ⟨98308 + 64 * n, 3, 1, .ro, 0, .free⟩
/-- `SB_CH_STAT[n].RATE_ACT` (R80): rate in force, encoded as SB_CH_CFG.RATE -/
def SB_CH_STAT_RATE_ACT (n : Nat) : Field := ⟨98308 + 64 * n, 4, 3, .ro, 0, .free⟩
/-- `SB_CH_STAT[n].RETRAIN_PEND` (R80): a RETRAIN is scheduled -/
def SB_CH_STAT_RETRAIN_PEND (n : Nat) : Field := ⟨98308 + 64 * n, 7, 1, .ro, 0, .free⟩
/-- `SB_CH_STAT[n].CE_TRAINED` (R80): chip enables trained -/
def SB_CH_STAT_CE_TRAINED (n : Nat) : Field := ⟨98308 + 64 * n, 8, 8, .ro, 0, .free⟩
/-- `SB_CH_STAT[n].CE_ISOLATED` (R80): chip enables isolated whole -/
def SB_CH_STAT_CE_ISOLATED (n : Nat) : Field := ⟨98308 + 64 * n, 16, 8, .ro, 0, .free⟩
/-- `SB_CH_STAT[n].RB` (R80): current RB_N level -/
def SB_CH_STAT_RB (n : Nat) : Field := ⟨98308 + 64 * n, 24, 1, .ro, 1, .free⟩
/-- `SB_CH_STAT[n].WP` (R80): current WP_N level -/
def SB_CH_STAT_WP (n : Nat) : Field := ⟨98308 + 64 * n, 25, 1, .ro, 0, .free⟩
/-- `SB_CH_ERR[n].TRAIN_FAIL` (R80): a chip enable failed training -/
def SB_CH_ERR_TRAIN_FAIL (n : Nat) : Field := ⟨98312 + 64 * n, 0, 1, .w1c, 0, .free⟩
/-- `SB_CH_ERR[n].ID_FAIL` (R80): no valid parameter page, or no profile match -/
def SB_CH_ERR_ID_FAIL (n : Nat) : Field := ⟨98312 + 64 * n, 1, 1, .w1c, 0, .free⟩
/-- `SB_CH_ERR[n].GEOM` (R80): a die failed R66 or R67 -/
def SB_CH_ERR_GEOM (n : Nat) : Field := ⟨98312 + 64 * n, 2, 1, .w1c, 0, .free⟩
/-- `SB_CH_ERR[n].OP_TIMEOUT` (R80): R75 -/
def SB_CH_ERR_OP_TIMEOUT (n : Nat) : Field := ⟨98312 + 64 * n, 3, 1, .w1c, 0, .free⟩
/-- `SB_CH_ERR[n].STATUS_INVALID` (R80): invalid status byte -/
def SB_CH_ERR_STATUS_INVALID (n : Nat) : Field := ⟨98312 + 64 * n, 4, 1, .w1c, 0, .free⟩
/-- `SB_CH_ERR[n].PROG_FAIL` (R80): program status FAIL -/
def SB_CH_ERR_PROG_FAIL (n : Nat) : Field := ⟨98312 + 64 * n, 5, 1, .w1c, 0, .free⟩
/-- `SB_CH_ERR[n].ERASE_FAIL` (R80): erase status FAIL -/
def SB_CH_ERR_ERASE_FAIL (n : Nat) : Field := ⟨98312 + 64 * n, 6, 1, .w1c, 0, .free⟩
/-- `SB_CH_ERR[n].DRIFT_LOW` (R80): margin below minimum in DRIFT or WDRIFT -/
def SB_CH_ERR_DRIFT_LOW (n : Nat) : Field := ⟨98312 + 64 * n, 7, 1, .w1c, 0, .free⟩
/-- `SB_CH_ERR[n].WATCHDOG` (R80): station watchdog trip -/
def SB_CH_ERR_WATCHDOG (n : Nat) : Field := ⟨98312 + 64 * n, 8, 1, .w1c, 0, .free⟩
/-- `SB_CH_ERR[n].DIE_ISOLATED` (R80): a die of the channel was isolated -/
def SB_CH_ERR_DIE_ISOLATED (n : Nat) : Field := ⟨98312 + 64 * n, 9, 1, .w1c, 0, .free⟩
/-- `SB_CH_ERR[n].CH_ISOLATED` (R80): the channel was isolated -/
def SB_CH_ERR_CH_ISOLATED (n : Nat) : Field := ⟨98312 + 64 * n, 10, 1, .w1c, 0, .free⟩
/-- `SB_CH_ERRCNT[n].TIMEOUTS` (R80): saturating -/
def SB_CH_ERRCNT_TIMEOUTS (n : Nat) : Field := ⟨98316 + 64 * n, 0, 8, .rc, 0, .free⟩
/-- `SB_CH_ERRCNT[n].STATUS_INV` (R80): saturating -/
def SB_CH_ERRCNT_STATUS_INV (n : Nat) : Field := ⟨98316 + 64 * n, 8, 8, .rc, 0, .free⟩
/-- `SB_CH_ERRCNT[n].PROG_FAILS` (R80): saturating -/
def SB_CH_ERRCNT_PROG_FAILS (n : Nat) : Field := ⟨98316 + 64 * n, 16, 8, .rc, 0, .free⟩
/-- `SB_CH_ERRCNT[n].ERASE_FAILS` (R80): saturating -/
def SB_CH_ERRCNT_ERASE_FAILS (n : Nat) : Field := ⟨98316 + 64 * n, 24, 8, .rc, 0, .free⟩
/-- `SB_CH_CAL[n].DRIFT_MOVES` (R80): delay moves made by DRIFT and WDRIFT, saturating -/
def SB_CH_CAL_DRIFT_MOVES (n : Nat) : Field := ⟨98320 + 64 * n, 0, 8, .rc, 0, .free⟩
/-- `SB_CH_CAL[n].RETRAINS` (R80): RETRAINs this boot, saturating -/
def SB_CH_CAL_RETRAINS (n : Nat) : Field := ⟨98320 + 64 * n, 8, 8, .ro, 0, .free⟩
/-- `SB_CH_CAL[n].DEFERRED` (R80): holds under R72, saturating -/
def SB_CH_CAL_DEFERRED (n : Nat) : Field := ⟨98320 + 64 * n, 16, 8, .rc, 0, .free⟩
/-- `SB_CH_CAL[n].TRAIN_TEMP` (R80): sensor temperature at last full training, °C, two's complement -/
def SB_CH_CAL_TRAIN_TEMP (n : Nat) : Field := ⟨98320 + 64 * n, 24, 8, .ro, 0, .free⟩
/-- `SB_CH_TRIM_SEL[n].CE` (R80): chip enable shown -/
def SB_CH_TRIM_SEL_CE (n : Nat) : Field := ⟨98324 + 64 * n, 0, 3, .rw, 0, .free⟩
/-- `SB_CH_TRIM_SEL[n].ITEM` (R80): 0–7 read delay of DQ0–DQ7; 8–15 write delay of DQ0–DQ7; 16 read DQS; 17 write DQS; 18 read reference; 19 NAND reference; 20–31 read as zero -/
def SB_CH_TRIM_SEL_ITEM (n : Nat) : Field := ⟨98324 + 64 * n, 3, 5, .rw, 0, .free⟩
/-- `SB_CH_TRIM[n].VALUE` (R80): trim value of the selected item -/
def SB_CH_TRIM_VALUE (n : Nat) : Field := ⟨98328 + 64 * n, 0, 8, .ro, 0, .free⟩
/-- `SB_CH_TRIM[n].MARGIN` (R80): eye width of the item in delay steps; 0 for reference items -/
def SB_CH_TRIM_MARGIN (n : Nat) : Field := ⟨98328 + 64 * n, 8, 8, .ro, 0, .free⟩
/-- `SB_DIE_ISOL[n].MAP` (R80): bit 4 × CE + LUN: die isolated -/
def SB_DIE_ISOL_MAP (n : Nat) : Field := ⟨98332 + 64 * n, 0, 32, .ro, 0, .free⟩
/-- `SB_GLOBAL.LOCK` (R80): locks all SB_ RWL fields of this chapter, this one included -/
def SB_GLOBAL_LOCK : Field := ⟨99328, 0, 1, .rwl, 0, .free⟩
/-- `SB_ISOL_LAST.DIE` (R80): die of the last isolation -/
def SB_ISOL_LAST_DIE : Field := ⟨99332, 0, 9, .ro, 0, .free⟩
/-- `SB_ISOL_LAST.CAUSE` (R80): 0x0 none, 0x1 TRAIN, 0x2 ID, 0x3 NO_PROFILE, 0x4 GEOMETRY, 0x5 TIMEOUT, 0x6 STATUS, 0x7 FIRMWARE, 0x8 CHANNEL, 0x9 WATCHDOG -/
def SB_ISOL_LAST_CAUSE : Field := ⟨99332, 9, 4, .ro, 0, .free⟩
/-- `SB_ISOL_LAST.TICK` (R80): tick count [15:0] at isolation -/
def SB_ISOL_LAST_TICK : Field := ⟨99332, 16, 16, .ro, 0, .free⟩
/-- `SB_SEQ_CTRL[n].RESTART` (R111): 1: restarts a halted box under R103 -/
def SB_SEQ_CTRL_RESTART (n : Nat) : Field := ⟨102400 + 64 * n, 0, 1, .wo, 0, .free⟩
/-- `SB_SEQ_CTRL[n].TRACE_EN` (R111): 1: TRACE fields record -/
def SB_SEQ_CTRL_TRACE_EN (n : Nat) : Field := ⟨102400 + 64 * n, 1, 1, .rw, 0, .free⟩
/-- `SB_SEQ_CTRL[n].TRACE_FREEZE` (R111): 1: trace buffer frozen; set also by TRACE 0b11 -/
def SB_SEQ_CTRL_TRACE_FREEZE (n : Nat) : Field := ⟨102400 + 64 * n, 2, 1, .rw, 0, .free⟩
/-- `SB_SEQ_STAT[n].PC` (R111): current word address -/
def SB_SEQ_STAT_PC (n : Nat) : Field := ⟨102404 + 64 * n, 0, 13, .ro, 0, .free⟩
/-- `SB_SEQ_STAT[n].DEPTH` (R111): micro-stack depth, 0–8; 9–15 unused -/
def SB_SEQ_STAT_DEPTH (n : Nat) : Field := ⟨102404 + 64 * n, 13, 4, .ro, 0, .free⟩
/-- `SB_SEQ_STAT[n].HALTED` (R111): box halted -/
def SB_SEQ_STAT_HALTED (n : Nat) : Field := ⟨102404 + 64 * n, 17, 1, .ro, 0, .free⟩
/-- `SB_SEQ_STAT[n].HALT_CAUSE` (R111): 0 none, 1 WATCHDOG, 2 CS_UE, 3 ERR_ACT, 4 STACK; 5–7 unused -/
def SB_SEQ_STAT_HALT_CAUSE (n : Nat) : Field := ⟨102404 + 64 * n, 18, 3, .ro, 0, .free⟩
/-- `SB_SEQ_STAT[n].CTX_DIE` (R111): 4 × CE + LUN of the running routine -/
def SB_SEQ_STAT_CTX_DIE (n : Nat) : Field := ⟨102404 + 64 * n, 21, 5, .ro, 0, .free⟩
/-- `SB_SEQ_STAT[n].IN_LEG` (R111): a leg is running -/
def SB_SEQ_STAT_IN_LEG (n : Nat) : Field := ⟨102404 + 64 * n, 26, 1, .ro, 0, .free⟩
/-- `SB_SEQ_STAT[n].AT_STATION` (R111): the current word is a station -/
def SB_SEQ_STAT_AT_STATION (n : Nat) : Field := ⟨102404 + 64 * n, 27, 1, .ro, 0, .free⟩
/-- `SB_SEQ_STAT[n].BAND` (R111): band supplied under R104 -/
def SB_SEQ_STAT_BAND (n : Nat) : Field := ⟨102404 + 64 * n, 28, 2, .ro, 0, .free⟩
/-- `SB_SEQ_ERR[n].CS_CORR` (R111): corrected control-store error -/
def SB_SEQ_ERR_CS_CORR (n : Nat) : Field := ⟨102408 + 64 * n, 0, 1, .w1c, 0, .free⟩
/-- `SB_SEQ_ERR[n].CS_UE` (R111): uncorrectable control-store error -/
def SB_SEQ_ERR_CS_UE (n : Nat) : Field := ⟨102408 + 64 * n, 1, 1, .w1c, 0, .free⟩
/-- `SB_SEQ_ERR[n].OVERRUN` (R111): R99 -/
def SB_SEQ_ERR_OVERRUN (n : Nat) : Field := ⟨102408 + 64 * n, 2, 1, .w1c, 0, .free⟩
/-- `SB_SEQ_ERR[n].STACK` (R111): R91 -/
def SB_SEQ_ERR_STACK (n : Nat) : Field := ⟨102408 + 64 * n, 3, 1, .w1c, 0, .free⟩
/-- `SB_SEQ_ERR[n].ERR_HALT` (R111): ERR_ACT 3 executed -/
def SB_SEQ_ERR_ERR_HALT (n : Nat) : Field := ⟨102408 + 64 * n, 4, 1, .w1c, 0, .free⟩
/-- `SB_SEQ_ERR[n].REQ_STALE` (R111): R100 -/
def SB_SEQ_ERR_REQ_STALE (n : Nat) : Field := ⟨102408 + 64 * n, 5, 1, .w1c, 0, .free⟩
/-- `SB_SEQ_ERR[n].UNWIND` (R111): an unwind ran -/
def SB_SEQ_ERR_UNWIND (n : Nat) : Field := ⟨102408 + 64 * n, 6, 1, .w1c, 0, .free⟩
/-- `SB_SEQ_CNT[n].CS_CORR` (R111): saturating -/
def SB_SEQ_CNT_CS_CORR (n : Nat) : Field := ⟨102412 + 64 * n, 0, 8, .rc, 0, .free⟩
/-- `SB_SEQ_CNT[n].OVERRUNS` (R111): saturating -/
def SB_SEQ_CNT_OVERRUNS (n : Nat) : Field := ⟨102412 + 64 * n, 8, 8, .rc, 0, .free⟩
/-- `SB_SEQ_CNT[n].UNWINDS` (R111): saturating -/
def SB_SEQ_CNT_UNWINDS (n : Nat) : Field := ⟨102412 + 64 * n, 16, 8, .rc, 0, .free⟩
/-- `SB_SEQ_CNT[n].USER_EVENTS` (R111): EVENT 0x20–0x3F, saturating -/
def SB_SEQ_CNT_USER_EVENTS (n : Nat) : Field := ⟨102412 + 64 * n, 24, 8, .rc, 0, .free⟩
/-- `SB_SEQ_WDOG[n].MAX_DIST` (R111): largest station distance this boot, cycles -/
def SB_SEQ_WDOG_MAX_DIST (n : Nat) : Field := ⟨102416 + 64 * n, 0, 11, .ro, 0, .free⟩
/-- `SB_SEQ_WDOG[n].TRIP_PC` (R111): word of the last WATCHDOG halt -/
def SB_SEQ_WDOG_TRIP_PC (n : Nat) : Field := ⟨102416 + 64 * n, 16, 13, .ro, 0, .free⟩
/-- `SB_SEQ_WDOG[n].TRIPS` (R111): halts this boot, saturating at 7 -/
def SB_SEQ_WDOG_TRIPS (n : Nat) : Field := ⟨102416 + 64 * n, 29, 3, .ro, 0, .free⟩
/-- `SB_TRACE_CTRL[n].WR_PTR` (R111): next entry of the 256-entry buffer -/
def SB_TRACE_CTRL_WR_PTR (n : Nat) : Field := ⟨102420 + 64 * n, 0, 8, .ro, 0, .free⟩
/-- `SB_TRACE_CTRL[n].RD_IDX` (R111): entry shown in SB_TRACE_DATA -/
def SB_TRACE_CTRL_RD_IDX (n : Nat) : Field := ⟨102420 + 64 * n, 8, 8, .rw, 0, .free⟩
/-- `SB_TRACE_DATA[n].PC` (R111): recorded address -/
def SB_TRACE_DATA_PC (n : Nat) : Field := ⟨102424 + 64 * n, 0, 13, .ro, 0, .free⟩
/-- `SB_TRACE_DATA[n].STATUS` (R111): recorded status register -/
def SB_TRACE_DATA_STATUS (n : Nat) : Field := ⟨102424 + 64 * n, 13, 8, .ro, 0, .free⟩
/-- `SB_TRACE_DATA[n].TICK` (R111): tick count [10:0] -/
def SB_TRACE_DATA_TICK (n : Nat) : Field := ⟨102424 + 64 * n, 21, 11, .ro, 0, .free⟩
/-- `SB_CS_ADDR.ADDR` (R111): word address -/
def SB_CS_ADDR_ADDR : Field := ⟨103424, 0, 13, .rwl, 0, .free⟩
/-- `SB_CS_DATA[n].DATA` (R111): word bits [191:0]; [175:160] check bits; [191:176] zero -/
def SB_CS_DATA_DATA (n : Nat) : Field := ⟨103428 + 4 * n, 0, 32, .rwl, 0, .free⟩
/-- `SB_CS_CTRL.WRITE` (R111): 1: writes DATA at ADDR in the boxes chosen by BCAST and BOX -/
def SB_CS_CTRL_WRITE : Field := ⟨103452, 0, 1, .rwl, 0, .free⟩
/-- `SB_CS_CTRL.READ` (R111): 1: reads ADDR of BOX into DATA under R109 -/
def SB_CS_CTRL_READ : Field := ⟨103452, 1, 1, .wo, 0, .free⟩
/-- `SB_CS_CTRL.BCAST` (R111): 1: WRITE reaches all boxes -/
def SB_CS_CTRL_BCAST : Field := ⟨103452, 2, 1, .rwl, 1, .free⟩
/-- `SB_CS_CTRL.BOX` (R111): box for READ, and for WRITE when BCAST is 0 -/
def SB_CS_CTRL_BOX : Field := ⟨103452, 4, 4, .rw, 0, .free⟩
/-- `SB_CS_CTRL.LOAD_LOCK` (R111): R109 and R110 -/
def SB_CS_CTRL_LOAD_LOCK : Field := ⟨103452, 8, 1, .rwl, 0, .free⟩
/-- `SB_TABLE_SEL.INDEX` (R111): 0–511 descriptor; 512–1023 dispatch entry (set × 32 + op) -/
def SB_TABLE_SEL_INDEX : Field := ⟨103456, 0, 10, .rwl, 0, .free⟩
/-- `SB_TABLE_SEL.WRITE` (R111): 1: writes TABLE_LO and TABLE_HI at INDEX -/
def SB_TABLE_SEL_WRITE : Field := ⟨103456, 10, 1, .rwl, 0, .free⟩
/-- `SB_TABLE_LO.DATA` (R111): descriptor bits [31:0] and [63:32]; a dispatch entry uses TABLE_LO [15:0] -/
def SB_TABLE_LO_DATA : Field := ⟨103460, 0, 32, .rwl, 0, .free⟩
/-- `SB_TABLE_HI.DATA` (R111): descriptor bits [31:0] and [63:32]; a dispatch entry uses TABLE_LO [15:0] -/
def SB_TABLE_HI_DATA : Field := ⟨103464, 0, 32, .rwl, 0, .free⟩
/-- `SB_MC_STAT.GWY_LOADED` (R111): Gwynon image loaded -/
def SB_MC_STAT_GWY_LOADED : Field := ⟨103468, 0, 1, .ro, 0, .free⟩
/-- `SB_MC_STAT.CUST_LOADED` (R111): customer image loaded -/
def SB_MC_STAT_CUST_LOADED : Field := ⟨103468, 1, 1, .ro, 0, .free⟩
/-- `SB_MC_STAT.CUST_REJECT` (R111): 0 none, 1 disabled, 2 key digest, 3 signature, 4 SVN, 5 verifier, 6 format -/
def SB_MC_STAT_CUST_REJECT : Field := ⟨103468, 2, 3, .ro, 0, .free⟩
/-- `SB_MC_STAT.CUST_SVN` (R111): SVN of the loaded image -/
def SB_MC_STAT_CUST_SVN : Field := ⟨103468, 8, 8, .ro, 0, .free⟩
/-- `LD_CTRL.ENABLE` (R131): 1: codec accepts codewords -/
def LD_CTRL_ENABLE : Field := ⟨4096, 0, 1, .rwl, 0, .free⟩
/-- `LD_CTRL.LOCK` (R131): locks all LD_ RWL fields, this one included -/
def LD_CTRL_LOCK : Field := ⟨4096, 1, 1, .rwl, 0, .free⟩
/-- `LD_STAT.READY` (R131): tables loaded and codec running -/
def LD_STAT_READY : Field := ⟨4100, 0, 1, .ro, 0, .free⟩
/-- `LD_STAT.TBL_ERR` (R131): an offset table failed its SRAM check; band base rows in use -/
def LD_STAT_TBL_ERR : Field := ⟨4100, 1, 1, .ro, 0, .free⟩
/-- `LD_CODE_CFG.PAR` (R131): parity bytes, 224–864, multiple of 32 -/
def LD_CODE_CFG_PAR : Field := ⟨4104, 0, 10, .rwl, 480, .par⟩
/-- `LD_HARD_CFG.ITER_MAX` (R131): hard iterations, 4–12 -/
def LD_HARD_CFG_ITER_MAX : Field := ⟨4108, 0, 4, .rwl, 10, .range 4 12⟩
/-- `LD_SOFT_CFG.ITER_MAX` (R131): soft iterations, 10–63 -/
def LD_SOFT_CFG_ITER_MAX : Field := ⟨4112, 0, 6, .rwl, 40, .range 10 63⟩
/-- `LD_SOFT_CFG.SOFT3_EN` (R131): 1: SOFT3 attempted after SOFT2 -/
def LD_SOFT_CFG_SOFT3_EN : Field := ⟨4112, 8, 1, .rwl, 1, .free⟩
/-- `LD_EW_CFG.THRESH` (R131): early-warning threshold, 16–400 bits -/
def LD_EW_CFG_THRESH : Field := ⟨4116, 0, 10, .rwl, 80, .range 16 400⟩
/-- `LD_BAND_CFG.EDGE1` (R131): °C, two's complement -/
def LD_BAND_CFG_EDGE1 : Field := ⟨4120, 0, 8, .rwl, 25, .free⟩
/-- `LD_BAND_CFG.EDGE2` (R131): °C -/
def LD_BAND_CFG_EDGE2 : Field := ⟨4120, 8, 8, .rwl, 55, .free⟩
/-- `LD_BAND_CFG.EDGE3` (R131): °C -/
def LD_BAND_CFG_EDGE3 : Field := ⟨4120, 16, 8, .rwl, 85, .free⟩
/-- `LD_CNT_READ.EW` (R131): codewords with EW, saturating -/
def LD_CNT_READ_EW : Field := ⟨4128, 0, 24, .rc, 0, .free⟩
/-- `LD_CNT_READ.ERASED` (R131): ERASED codewords, saturating -/
def LD_CNT_READ_ERASED : Field := ⟨4128, 24, 8, .rc, 0, .free⟩
/-- `LD_CNT_LEVEL.RETRY` (R131): codewords ended at level 1, saturating -/
def LD_CNT_LEVEL_RETRY : Field := ⟨4132, 0, 16, .rc, 0, .free⟩
/-- `LD_CNT_LEVEL.SOFT` (R131): codewords ended at level 2, saturating -/
def LD_CNT_LEVEL_SOFT : Field := ⟨4132, 16, 8, .rc, 0, .free⟩
/-- `LD_CNT_LEVEL.RECON` (R131): codewords sent to level 3, saturating -/
def LD_CNT_LEVEL_RECON : Field := ⟨4132, 24, 8, .rc, 0, .free⟩
/-- `LD_CNT_ERR.MISCORR` (R131): R124, saturating -/
def LD_CNT_ERR_MISCORR : Field := ⟨4136, 0, 16, .rc, 0, .free⟩
/-- `LD_CNT_ERR.TAG_MISMATCH` (R131): R124, saturating -/
def LD_CNT_ERR_TAG_MISMATCH : Field := ⟨4136, 16, 8, .rc, 0, .free⟩
/-- `LD_CNT_ERR.UNCORR` (R131): records with UNCORR, saturating -/
def LD_CNT_ERR_UNCORR : Field := ⟨4136, 24, 8, .rc, 0, .free⟩
/-- `LD_CNT_HOST.LEFT_CLASS` (R131): host reads under R128, saturating -/
def LD_CNT_HOST_LEFT_CLASS : Field := ⟨4140, 0, 32, .rc, 0, .free⟩
/-- `LD_TBL_SEL.PROFILE` (R131): profile 0–7 -/
def LD_TBL_SEL_PROFILE : Field := ⟨4144, 0, 3, .rw, 0, .free⟩
/-- `LD_TBL_SEL.BAND` (R131): band -/
def LD_TBL_SEL_BAND : Field := ⟨4144, 3, 2, .rw, 0, .free⟩
/-- `LD_TBL_SEL.ROW` (R131): 0–8; 9–15 read as zero -/
def LD_TBL_SEL_ROW : Field := ⟨4144, 5, 4, .rw, 0, .free⟩
/-- `LD_TBL_SEL.GROUP` (R131): group of R119 -/
def LD_TBL_SEL_GROUP : Field := ⟨4144, 9, 2, .rw, 0, .free⟩
/-- `LD_TBL_SEL.SLC` (R131): 1: the SLC offset of ROW, in TBL_DATA [7:0] -/
def LD_TBL_SEL_SLC : Field := ⟨4144, 11, 1, .rw, 0, .free⟩
/-- `LD_TBL_DATA.DATA` (R131): selected group or SLC offset -/
def LD_TBL_DATA_DATA : Field := ⟨4148, 0, 32, .ro, 0, .free⟩
/-- `LD_DEC_STAT[n].QUEUED` (R131): codewords waiting, the one in progress excluded, saturating; n 0–15: the hard-decision decoder's own queue; n 16–19: each of the four shows the length of the one shared soft-decision queue -/
def LD_DEC_STAT_QUEUED (n : Nat) : Field := ⟨4352 + 4 * n, 0, 8, .ro, 0, .free⟩
/-- `LD_DEC_STAT[n].BUSY` (R131): decoder n is decoding a codeword -/
def LD_DEC_STAT_BUSY (n : Nat) : Field := ⟨4352 + 4 * n, 8, 1, .ro, 0, .free⟩
/-- `LD_DEC_STAT[n].EXPRESS_Q` (R131): an Express codeword is queued at decoder n; always 0 for n 16–19 -/
def LD_DEC_STAT_EXPRESS_Q (n : Nat) : Field := ⟨4352 + 4 * n, 9, 1, .ro, 0, .free⟩
/-- `FT_CTRL.ENABLE` (R167): 1: the map assist accepts operations -/
def FT_CTRL_ENABLE : Field := ⟨8192, 0, 1, .rwl, 0, .free⟩
/-- `FT_CTRL.LOCK` (R167): locks all FT_ RWL fields, this one included -/
def FT_CTRL_LOCK : Field := ⟨8192, 1, 1, .rwl, 0, .free⟩
/-- `FT_STAT.MAP_READY` (R167): every segment loaded (R162) -/
def FT_STAT_MAP_READY : Field := ⟨8196, 0, 1, .ro, 0, .free⟩
/-- `FT_STAT.VWC` (R167): write cache present -/
def FT_STAT_VWC : Field := ⟨8196, 1, 1, .ro, 0, .free⟩
/-- `FT_STAT.JRNL_HOLD` (R167): reservations held at the live-journal limit -/
def FT_STAT_JRNL_HOLD : Field := ⟨8196, 2, 1, .ro, 0, .free⟩
/-- `FT_STAT.DIRTY_WAIT` (R167): a reservation waits on the dirty limit -/
def FT_STAT_DIRTY_WAIT : Field := ⟨8196, 3, 1, .ro, 0, .free⟩
/-- `FT_STAT.PAD` (R167): a pad program ran (R146) -/
def FT_STAT_PAD : Field := ⟨8196, 4, 1, .w1c, 0, .free⟩
/-- `FT_DIRTY.LIMIT` (R167): dirty limit in parcels; a value above TENDER_MAX is stored as TENDER_MAX -/
def FT_DIRTY_LIMIT : Field := ⟨8200, 0, 17, .rw, 0, .free⟩
/-- `FT_DIRTY_MAX.TENDER_MAX` (R167): limit from the Tender measurement, 0–65,536 -/
def FT_DIRTY_MAX_TENDER_MAX : Field := ⟨8204, 0, 17, .ro, 0, .free⟩
/-- `FT_PARCEL.DIRTY` (R167): current dirty count -/
def FT_PARCEL_DIRTY : Field := ⟨8208, 0, 17, .ro, 0, .free⟩
/-- `FT_JRNL_LO.DURABLE_LO` (R167): durable sequence [31:0]; a read latches [63:32] into FT_JRNL_HI -/
def FT_JRNL_LO_DURABLE_LO : Field := ⟨8212, 0, 32, .ro, 0, .free⟩
/-- `FT_JRNL_HI.DURABLE_HI` (R167): durable sequence [63:32] as latched -/
def FT_JRNL_HI_DURABLE_HI : Field := ⟨8216, 0, 32, .ro, 0, .free⟩
/-- `FT_JRNL_STAT.LIVE_MIB` (R167): live journal, MiB -/
def FT_JRNL_STAT_LIVE_MIB : Field := ⟨8220, 0, 16, .ro, 0, .free⟩
/-- `FT_JRNL_STAT.URGENT` (R167): live journal above three quarters -/
def FT_JRNL_STAT_URGENT : Field := ⟨8220, 16, 1, .ro, 0, .free⟩
/-- `FT_CKPT_STAT.SEG_DIRTY` (R167): segments changed since their checkpoint -/
def FT_CKPT_STAT_SEG_DIRTY : Field := ⟨8224, 0, 16, .ro, 0, .free⟩
/-- `FT_CKPT_STAT.SEG_UNLOADED` (R167): segments not yet loaded -/
def FT_CKPT_STAT_SEG_UNLOADED : Field := ⟨8224, 16, 16, .ro, 0, .free⟩
/-- `FT_MAP_CNT.CAS_FAIL` (R167): R145, saturating -/
def FT_MAP_CNT_CAS_FAIL : Field := ⟨8228, 0, 16, .rc, 0, .free⟩
/-- `FT_MAP_CNT.LINE_UE` (R167): R140, saturating -/
def FT_MAP_CNT_LINE_UE : Field := ⟨8228, 16, 8, .rc, 0, .free⟩
/-- `FT_MAP_CNT.TAG_UNREC` (R167): R142, saturating -/
def FT_MAP_CNT_TAG_UNREC : Field := ⟨8228, 24, 8, .rc, 0, .free⟩
/-- `FT_PARITY_CNT.RECON_OK` (R167): R153, saturating -/
def FT_PARITY_CNT_RECON_OK : Field := ⟨8232, 0, 16, .rc, 0, .free⟩
/-- `FT_PARITY_CNT.RECON_FAIL` (R167): R153, saturating -/
def FT_PARITY_CNT_RECON_FAIL : Field := ⟨8232, 16, 8, .rc, 0, .free⟩
/-- `FT_PARITY_CNT.PROG_FAIL` (R167): R155, saturating -/
def FT_PARITY_CNT_PROG_FAIL : Field := ⟨8232, 24, 8, .rc, 0, .free⟩
/-- `FT_VERIFY_CNT.PASS` (R167): superblocks passed, saturating -/
def FT_VERIFY_CNT_PASS : Field := ⟨8236, 0, 16, .rc, 0, .free⟩
/-- `FT_VERIFY_CNT.FAIL` (R167): superblocks failed, saturating -/
def FT_VERIFY_CNT_FAIL : Field := ⟨8236, 16, 8, .rc, 0, .free⟩
/-- `FT_VERIFY_CNT.RETIRED` (R167): blocks retired, saturating -/
def FT_VERIFY_CNT_RETIRED : Field := ⟨8236, 24, 8, .rc, 0, .free⟩
/-- `FT_GRP_SEL.GROUP` (R167): die group shown; on the XD6408, groups 8–15 show zero -/
def FT_GRP_SEL_GROUP : Field := ⟨8240, 0, 4, .rw, 0, .free⟩
/-- `FT_GRP_STAT.DIES` (R167): in-service dies -/
def FT_GRP_STAT_DIES : Field := ⟨8244, 0, 6, .ro, 0, .free⟩
/-- `FT_GRP_STAT.OPEN` (R167): open superblocks -/
def FT_GRP_STAT_OPEN : Field := ⟨8244, 6, 6, .ro, 0, .free⟩
/-- `FT_GRP_STAT.UNVERIFIED` (R167): closed superblocks awaiting verification -/
def FT_GRP_STAT_UNVERIFIED : Field := ⟨8244, 12, 6, .ro, 0, .free⟩
/-- `FT_GRP_STAT.FREE_MIN` (R167): free superblocks (R164), saturating -/
def FT_GRP_STAT_FREE_MIN : Field := ⟨8244, 18, 12, .ro, 0, .free⟩
/-- `FT_GRP_STAT.LOW` (R167): below the low mark -/
def FT_GRP_STAT_LOW : Field := ⟨8244, 30, 1, .ro, 0, .free⟩
/-- `FT_GRP_STAT.CLOSED_TO_NEW` (R167): R147 -/
def FT_GRP_STAT_CLOSED_TO_NEW : Field := ⟨8244, 31, 1, .ro, 0, .free⟩
/-- `FT_GC_STAT.SOURCE` (R195): source of the active victim: 0 none, 1–6 as in the victim sources table; 7 unused -/
def FT_GC_STAT_SOURCE : Field := ⟨8256, 0, 3, .ro, 0, .free⟩
/-- `FT_GC_STAT.BELOW_START` (R195): below the start mark -/
def FT_GC_STAT_BELOW_START : Field := ⟨8256, 3, 1, .ro, 0, .free⟩
/-- `FT_GC_STAT.BELOW_URGENT` (R195): below the urgent mark -/
def FT_GC_STAT_BELOW_URGENT : Field := ⟨8256, 4, 1, .ro, 0, .free⟩
/-- `FT_GC_STAT.HOST_WAIT` (R195): host program units waiting under R175 or R176 -/
def FT_GC_STAT_HOST_WAIT : Field := ⟨8256, 5, 1, .ro, 0, .free⟩
/-- `FT_GC_STAT.DEBT` (R195): collection debt in whole program units, saturating -/
def FT_GC_STAT_DEBT : Field := ⟨8256, 8, 8, .ro, 0, .free⟩
/-- `FT_GC_STAT.QUEUED` (R195): superblocks queued in sources 2–6, saturating -/
def FT_GC_STAT_QUEUED : Field := ⟨8256, 20, 12, .ro, 0, .free⟩
/-- `FT_GC_CNT.VICTIMS` (R195): victims completed, saturating -/
def FT_GC_CNT_VICTIMS : Field := ⟨8260, 0, 16, .rc, 0, .free⟩
/-- `FT_GC_CNT.WAITS` (R195): times host program units began to wait, saturating -/
def FT_GC_CNT_WAITS : Field := ⟨8260, 16, 16, .rc, 0, .free⟩
/-- `FT_PATROL_STAT.PASS` (R195): pass number n, modulo 256 -/
def FT_PATROL_STAT_PASS : Field := ⟨8264, 0, 8, .ro, 0, .free⟩
/-- `FT_PATROL_STAT.DONE_PCT` (R195): share of the current pass done, percent -/
def FT_PATROL_STAT_DONE_PCT : Field := ⟨8264, 8, 7, .ro, 0, .free⟩
/-- `FT_PATROL_STAT.LATE` (R195): a pass ended with samples outstanding (R177) -/
def FT_PATROL_STAT_LATE : Field := ⟨8264, 15, 1, .w1c, 0, .free⟩
/-- `FT_PATROL_STAT.SCHEME` (R195): scheme in force under R184 -/
def FT_PATROL_STAT_SCHEME : Field := ⟨8264, 16, 2, .ro, 2, .free⟩
/-- `FT_PATROL_CNT.SAMPLES_K` (R195): samples read, in thousands, saturating -/
def FT_PATROL_CNT_SAMPLES_K : Field := ⟨8268, 0, 16, .rc, 0, .free⟩
/-- `FT_PATROL_CNT.REFRESH` (R195): superblocks queued as source 4, saturating -/
def FT_PATROL_CNT_REFRESH : Field := ⟨8268, 16, 8, .rc, 0, .free⟩
/-- `FT_PATROL_CNT.URGENT` (R195): superblocks queued as source 3, saturating -/
def FT_PATROL_CNT_URGENT : Field := ⟨8268, 24, 8, .rc, 0, .free⟩
/-- `FT_MILEPOST_CNT.TRIPS` (R195): counters that reached the limit, saturating -/
def FT_MILEPOST_CNT_TRIPS : Field := ⟨8272, 0, 16, .rc, 0, .free⟩
/-- `FT_MILEPOST_CNT.CHECK_REFRESH` (R195): block checks that queued a refresh, saturating -/
def FT_MILEPOST_CNT_CHECK_REFRESH : Field := ⟨8272, 16, 8, .rc, 0, .free⟩
/-- `FT_MILEPOST_CNT.CHECK_CLEAN` (R195): block checks with no action, saturating -/
def FT_MILEPOST_CNT_CHECK_CLEAN : Field := ⟨8272, 24, 8, .rc, 0, .free⟩
/-- `FT_WEAR_STAT.EW_RATE` (R195): indicator 1, current hour -/
def FT_WEAR_STAT_EW_RATE : Field := ⟨8276, 0, 1, .ro, 0, .free⟩
/-- `FT_WEAR_STAT.RETRY_RATE` (R195): indicator 2, current hour -/
def FT_WEAR_STAT_RETRY_RATE : Field := ⟨8276, 1, 1, .ro, 0, .free⟩
/-- `FT_WEAR_STAT.CLASS_LOSS` (R195): indicator 3, current hour -/
def FT_WEAR_STAT_CLASS_LOSS : Field := ⟨8276, 2, 1, .ro, 0, .free⟩
/-- `FT_WEAR_STAT.PCT_USED_100` (R195): indicator 4 -/
def FT_WEAR_STAT_PCT_USED_100 : Field := ⟨8276, 3, 1, .ro, 0, .free⟩
/-- `FT_WEAR_STAT.SPARE_LOW` (R195): indicator 5 -/
def FT_WEAR_STAT_SPARE_LOW : Field := ⟨8276, 4, 1, .ro, 0, .free⟩
/-- `FT_WEAR_STAT.BUFFER_STOP` (R195): indicator 6 -/
def FT_WEAR_STAT_BUFFER_STOP : Field := ⟨8276, 5, 1, .ro, 0, .free⟩
/-- `FT_WEAR_STAT.BSTOP_FLUSHED` (R195): R192 flush finished -/
def FT_WEAR_STAT_BSTOP_FLUSHED : Field := ⟨8276, 6, 1, .ro, 0, .free⟩
/-- `FT_WEAR_STAT.STICKY` (R195): indicators 1–3 set in any hour since last cleared -/
def FT_WEAR_STAT_STICKY : Field := ⟨8276, 8, 3, .w1c, 0, .free⟩
/-- `FT_WEAR_STAT.PCT_USED` (R195): Percentage Used under R190 -/
def FT_WEAR_STAT_PCT_USED : Field := ⟨8276, 16, 8, .ro, 0, .free⟩
/-- `FT_WEAR_STAT.AVAIL_SPARE` (R195): Available Spare under R187, smallest over groups -/
def FT_WEAR_STAT_AVAIL_SPARE : Field := ⟨8276, 24, 8, .ro, 100, .free⟩
/-- `FT_WEAR_PE.MEAN_PE` (R195): mean erase count of in-service blocks, saturating -/
def FT_WEAR_PE_MEAN_PE : Field := ⟨8280, 0, 16, .ro, 0, .free⟩
/-- `FT_WEAR_PE.MAX_PE` (R195): highest erase count of an in-service block, saturating -/
def FT_WEAR_PE_MAX_PE : Field := ⟨8280, 16, 16, .ro, 0, .free⟩
/-- `FT_SPARE_STAT.GOOD_MIN` (R195): G*g* -/
def FT_SPARE_STAT_GOOD_MIN : Field := ⟨8284, 0, 13, .ro, 0, .free⟩
/-- `FT_SPARE_STAT.REQUIRED` (R195): ⌈Q*g*⌉ -/
def FT_SPARE_STAT_REQUIRED : Field := ⟨8284, 16, 13, .ro, 0, .free⟩
/-- `FT_HU_CTRL.MEASURE` (R220): 1: starts a repeat measurement under R199 -/
def FT_HU_CTRL_MEASURE : Field := ⟨8288, 0, 1, .wo, 0, .free⟩
/-- `FT_HU_STAT.MEASURED` (R220): a measurement has succeeded this boot -/
def FT_HU_STAT_MEASURED : Field := ⟨8292, 0, 1, .ro, 0, .free⟩
/-- `FT_HU_STAT.CACHE_PRESENT` (R220): R202 -/
def FT_HU_STAT_CACHE_PRESENT : Field := ⟨8292, 1, 1, .ro, 0, .free⟩
/-- `FT_HU_STAT.WITHDRAWN` (R220): R203 -/
def FT_HU_STAT_WITHDRAWN : Field := ⟨8292, 2, 1, .ro, 0, .free⟩
/-- `FT_HU_STAT.MEASURING` (R220): a measurement is in progress -/
def FT_HU_STAT_MEASURING : Field := ⟨8292, 3, 1, .ro, 0, .free⟩
/-- `FT_HU_STAT.SAG` (R220): TENDER_MAX is below min_parcels now -/
def FT_HU_STAT_SAG : Field := ⟨8292, 4, 1, .ro, 0, .free⟩
/-- `FT_HU_STAT.FLUSH_DONE` (R220): R210 -/
def FT_HU_STAT_FLUSH_DONE : Field := ⟨8292, 5, 1, .ro, 0, .free⟩
/-- `FT_HU_STAT.LAST_UNCLEAN` (R220): this boot was a recovery -/
def FT_HU_STAT_LAST_UNCLEAN : Field := ⟨8292, 6, 1, .ro, 0, .free⟩
/-- `FT_HU_STAT.LAST_FLUSH_OK` (R220): 0: the last flush was incomplete (R216) -/
def FT_HU_STAT_LAST_FLUSH_OK : Field := ⟨8292, 7, 1, .ro, 1, .free⟩
/-- `FT_HU_STAT.LAST_CAUSE` (R220): last flush: 0b00 none, 0b01 power fail, 0b10 thermal -/
def FT_HU_STAT_LAST_CAUSE : Field := ⟨8292, 8, 2, .ro, 0, .free⟩
/-- `FT_HU_CAP.CAP` (R220): C in units of 10 µF, saturating -/
def FT_HU_CAP_CAP : Field := ⟨8296, 0, 16, .ro, 0, .free⟩
/-- `FT_HU_CAP.AVAIL` (R220): T_avail of R201 in units of 10 µs, 0 when negative, saturating -/
def FT_HU_CAP_AVAIL : Field := ⟨8296, 16, 16, .ro, 0, .free⟩
/-- `FT_HU_VOLT.BANK_MV` (R220): bank voltage, mV -/
def FT_HU_VOLT_BANK_MV : Field := ⟨8300, 0, 16, .ro, 0, .free⟩
/-- `FT_HU_VOLT.VIN_MV` (R220): input voltage, mV -/
def FT_HU_VOLT_VIN_MV : Field := ⟨8300, 16, 16, .ro, 0, .free⟩
/-- `FT_HU_FLUSH.PARCELS` (R220): parcels in the summaries of the last flush -/
def FT_HU_FLUSH_PARCELS : Field := ⟨8304, 0, 17, .ro, 0, .free⟩
/-- `FT_HU_FLUSH.DURATION` (R220): last flush duration in units of 100 µs, saturating -/
def FT_HU_FLUSH_DURATION : Field := ⟨8304, 17, 15, .ro, 0, .free⟩
/-- `FT_HU_CNT.GLITCHES` (R220): R205, saturating -/
def FT_HU_CNT_GLITCHES : Field := ⟨8308, 0, 8, .rc, 0, .free⟩
/-- `FT_HU_CNT.MEASURE_FAILS` (R220): R198, saturating -/
def FT_HU_CNT_MEASURE_FAILS : Field := ⟨8308, 8, 8, .rc, 0, .free⟩
/-- `FT_HU_CNT.SAG_EVENTS` (R220): R203, saturating -/
def FT_HU_CNT_SAG_EVENTS : Field := ⟨8308, 16, 8, .rc, 0, .free⟩
/-- `FT_HU_CNT.UNCLEAN` (R220): recoveries since the first format, saturating -/
def FT_HU_CNT_UNCLEAN : Field := ⟨8308, 24, 8, .ro, 0, .free⟩
/-- `AE_CTRL.ENABLE` (R242): 1: the engine accepts operations -/
def AE_CTRL_ENABLE : Field := ⟨12288, 0, 1, .rwl, 0, .free⟩
/-- `AE_CTRL.LOCK` (R242): locks all AE_ RWL fields, this one included -/
def AE_CTRL_LOCK : Field := ⟨12288, 1, 1, .rwl, 0, .free⟩
/-- `AE_BANK_CFG0.WIDTH_0` (R242): bank j, j = 0–15: 0b00 off, 0b01 width 1, 0b10 width 2, 0b11 width 4 -/
def AE_BANK_CFG0_WIDTH_0 : Field := ⟨12292, 0, 2, .rwl, 0, .free⟩
/-- `AE_BANK_CFG0.WIDTH_1` (R242): bank j, j = 0–15: 0b00 off, 0b01 width 1, 0b10 width 2, 0b11 width 4 -/
def AE_BANK_CFG0_WIDTH_1 : Field := ⟨12292, 2, 2, .rwl, 0, .free⟩
/-- `AE_BANK_CFG0.WIDTH_2` (R242): bank j, j = 0–15: 0b00 off, 0b01 width 1, 0b10 width 2, 0b11 width 4 -/
def AE_BANK_CFG0_WIDTH_2 : Field := ⟨12292, 4, 2, .rwl, 0, .free⟩
/-- `AE_BANK_CFG0.WIDTH_3` (R242): bank j, j = 0–15: 0b00 off, 0b01 width 1, 0b10 width 2, 0b11 width 4 -/
def AE_BANK_CFG0_WIDTH_3 : Field := ⟨12292, 6, 2, .rwl, 0, .free⟩
/-- `AE_BANK_CFG0.WIDTH_4` (R242): bank j, j = 0–15: 0b00 off, 0b01 width 1, 0b10 width 2, 0b11 width 4 -/
def AE_BANK_CFG0_WIDTH_4 : Field := ⟨12292, 8, 2, .rwl, 0, .free⟩
/-- `AE_BANK_CFG0.WIDTH_5` (R242): bank j, j = 0–15: 0b00 off, 0b01 width 1, 0b10 width 2, 0b11 width 4 -/
def AE_BANK_CFG0_WIDTH_5 : Field := ⟨12292, 10, 2, .rwl, 0, .free⟩
/-- `AE_BANK_CFG0.WIDTH_6` (R242): bank j, j = 0–15: 0b00 off, 0b01 width 1, 0b10 width 2, 0b11 width 4 -/
def AE_BANK_CFG0_WIDTH_6 : Field := ⟨12292, 12, 2, .rwl, 0, .free⟩
/-- `AE_BANK_CFG0.WIDTH_7` (R242): bank j, j = 0–15: 0b00 off, 0b01 width 1, 0b10 width 2, 0b11 width 4 -/
def AE_BANK_CFG0_WIDTH_7 : Field := ⟨12292, 14, 2, .rwl, 0, .free⟩
/-- `AE_BANK_CFG0.WIDTH_8` (R242): bank j, j = 0–15: 0b00 off, 0b01 width 1, 0b10 width 2, 0b11 width 4 -/
def AE_BANK_CFG0_WIDTH_8 : Field := ⟨12292, 16, 2, .rwl, 0, .free⟩
/-- `AE_BANK_CFG0.WIDTH_9` (R242): bank j, j = 0–15: 0b00 off, 0b01 width 1, 0b10 width 2, 0b11 width 4 -/
def AE_BANK_CFG0_WIDTH_9 : Field := ⟨12292, 18, 2, .rwl, 0, .free⟩
/-- `AE_BANK_CFG0.WIDTH_10` (R242): bank j, j = 0–15: 0b00 off, 0b01 width 1, 0b10 width 2, 0b11 width 4 -/
def AE_BANK_CFG0_WIDTH_10 : Field := ⟨12292, 20, 2, .rwl, 0, .free⟩
/-- `AE_BANK_CFG0.WIDTH_11` (R242): bank j, j = 0–15: 0b00 off, 0b01 width 1, 0b10 width 2, 0b11 width 4 -/
def AE_BANK_CFG0_WIDTH_11 : Field := ⟨12292, 22, 2, .rwl, 0, .free⟩
/-- `AE_BANK_CFG0.WIDTH_12` (R242): bank j, j = 0–15: 0b00 off, 0b01 width 1, 0b10 width 2, 0b11 width 4 -/
def AE_BANK_CFG0_WIDTH_12 : Field := ⟨12292, 24, 2, .rwl, 0, .free⟩
/-- `AE_BANK_CFG0.WIDTH_13` (R242): bank j, j = 0–15: 0b00 off, 0b01 width 1, 0b10 width 2, 0b11 width 4 -/
def AE_BANK_CFG0_WIDTH_13 : Field := ⟨12292, 26, 2, .rwl, 0, .free⟩
/-- `AE_BANK_CFG0.WIDTH_14` (R242): bank j, j = 0–15: 0b00 off, 0b01 width 1, 0b10 width 2, 0b11 width 4 -/
def AE_BANK_CFG0_WIDTH_14 : Field := ⟨12292, 28, 2, .rwl, 0, .free⟩
/-- `AE_BANK_CFG0.WIDTH_15` (R242): bank j, j = 0–15: 0b00 off, 0b01 width 1, 0b10 width 2, 0b11 width 4 -/
def AE_BANK_CFG0_WIDTH_15 : Field := ⟨12292, 30, 2, .rwl, 0, .free⟩
/-- `AE_BANK_CFG1.WIDTH_16` (R242): bank 16 + j, j = 0–7, encoded as WIDTH_j -/
def AE_BANK_CFG1_WIDTH_16 : Field := ⟨12296, 0, 2, .rwl, 0, .free⟩
/-- `AE_BANK_CFG1.WIDTH_17` (R242): bank 16 + j, j = 0–7, encoded as WIDTH_j -/
def AE_BANK_CFG1_WIDTH_17 : Field := ⟨12296, 2, 2, .rwl, 0, .free⟩
/-- `AE_BANK_CFG1.WIDTH_18` (R242): bank 16 + j, j = 0–7, encoded as WIDTH_j -/
def AE_BANK_CFG1_WIDTH_18 : Field := ⟨12296, 4, 2, .rwl, 0, .free⟩
/-- `AE_BANK_CFG1.WIDTH_19` (R242): bank 16 + j, j = 0–7, encoded as WIDTH_j -/
def AE_BANK_CFG1_WIDTH_19 : Field := ⟨12296, 6, 2, .rwl, 0, .free⟩
/-- `AE_BANK_CFG1.WIDTH_20` (R242): bank 16 + j, j = 0–7, encoded as WIDTH_j -/
def AE_BANK_CFG1_WIDTH_20 : Field := ⟨12296, 8, 2, .rwl, 0, .free⟩
/-- `AE_BANK_CFG1.WIDTH_21` (R242): bank 16 + j, j = 0–7, encoded as WIDTH_j -/
def AE_BANK_CFG1_WIDTH_21 : Field := ⟨12296, 10, 2, .rwl, 0, .free⟩
/-- `AE_BANK_CFG1.WIDTH_22` (R242): bank 16 + j, j = 0–7, encoded as WIDTH_j -/
def AE_BANK_CFG1_WIDTH_22 : Field := ⟨12296, 12, 2, .rwl, 0, .free⟩
/-- `AE_BANK_CFG1.WIDTH_23` (R242): bank 16 + j, j = 0–7, encoded as WIDTH_j -/
def AE_BANK_CFG1_WIDTH_23 : Field := ⟨12296, 14, 2, .rwl, 0, .free⟩
/-- `AE_PWR_CFG.BANK_RATE` (R242): bank-searches per µs, 1000–12,000 -/
def AE_PWR_CFG_BANK_RATE : Field := ⟨12300, 0, 16, .rwl, 4000, .range 1000 12000⟩
/-- `AE_PWR_STAT.RATE_AVG` (R242): bank-searches per µs, averaged over the last period -/
def AE_PWR_STAT_RATE_AVG : Field := ⟨12304, 0, 16, .ro, 0, .free⟩
/-- `AE_PWR_STAT.LIMITED` (R242): a search waited under R227 -/
def AE_PWR_STAT_LIMITED : Field := ⟨12304, 16, 1, .w1c, 0, .free⟩
/-- `AE_IL_CFG.FW_MAX` (R242): SPACE 1 entries, 0–2048 -/
def AE_IL_CFG_FW_MAX : Field := ⟨12308, 0, 12, .rwl, 1024, .range 0 2048⟩
/-- `AE_IL_STAT.USED` (R242): valid Interlocking entries -/
def AE_IL_STAT_USED : Field := ⟨12312, 0, 15, .ro, 0, .free⟩
/-- `AE_IL_STAT.WAITING` (R242): contexts in WAITING -/
def AE_IL_STAT_WAITING : Field := ⟨12312, 16, 14, .ro, 0, .free⟩
/-- `AE_IL_STAT.FULL` (R242): an IL_INSERT waits for free entries -/
def AE_IL_STAT_FULL : Field := ⟨12312, 30, 1, .ro, 0, .free⟩
/-- `AE_PC_STAT.VALID` (R242): valid Parcels entries -/
def AE_PC_STAT_VALID : Field := ⟨12324, 0, 17, .ro, 0, .free⟩
/-- `AE_IL_CNT.OVERLAPS` (R242): host insertions that became WAITING, saturating -/
def AE_IL_CNT_OVERLAPS : Field := ⟨12316, 0, 16, .rc, 0, .free⟩
/-- `AE_IL_CNT.FULL_WAITS` (R242): R233, saturating -/
def AE_IL_CNT_FULL_WAITS : Field := ⟨12316, 16, 8, .rc, 0, .free⟩
/-- `AE_IL_CNT.MULTI` (R242): R236, saturating -/
def AE_IL_CNT_MULTI : Field := ⟨12316, 24, 8, .rc, 0, .free⟩
/-- `AE_IL_RACE.ABORT_WON` (R242): abort IL_CAS succeeded, saturating -/
def AE_IL_RACE_ABORT_WON : Field := ⟨12320, 0, 16, .rc, 0, .free⟩
/-- `AE_IL_RACE.ABORT_LOST` (R242): abort IL_CAS found DONE, saturating -/
def AE_IL_RACE_ABORT_LOST : Field := ⟨12320, 16, 16, .rc, 0, .free⟩
/-- `AE_PC_CNT.PIN_RETRY` (R242): R240, saturating -/
def AE_PC_CNT_PIN_RETRY : Field := ⟨12328, 0, 16, .rc, 0, .free⟩
/-- `AE_PC_CNT.MULTI` (R242): R241, saturating -/
def AE_PC_CNT_MULTI : Field := ⟨12328, 16, 8, .rc, 0, .free⟩
/-- `AE_PC_CNT.RELEASE_BUSY` (R242): R240, saturating -/
def AE_PC_CNT_RELEASE_BUSY : Field := ⟨12328, 24, 8, .rc, 0, .free⟩
/-- `AE_ERR.CORR` (R242): corrected unit (R228) -/
def AE_ERR_CORR : Field := ⟨12332, 0, 1, .w1c, 0, .free⟩
/-- `AE_ERR.UNCORR` (R242): uncorrectable unit (R228) -/
def AE_ERR_UNCORR : Field := ⟨12332, 1, 1, .w1c, 0, .free⟩
/-- `AE_ERR.WIDTH_ERR` (R242): R225 -/
def AE_ERR_WIDTH_ERR : Field := ⟨12332, 2, 1, .w1c, 0, .free⟩
/-- `AE_ERR.PC_MULTI` (R242): R241 -/
def AE_ERR_PC_MULTI : Field := ⟨12332, 3, 1, .w1c, 0, .free⟩
/-- `AE_ERR_CNT.CORR` (R242): saturating -/
def AE_ERR_CNT_CORR : Field := ⟨12336, 0, 16, .rc, 0, .free⟩
/-- `AE_ERR_CNT.UNCORR` (R242): saturating -/
def AE_ERR_CNT_UNCORR : Field := ⟨12336, 16, 16, .rc, 0, .free⟩
/-- `AE_DIAG_SEL.UNIT` (R242): unit within the bank -/
def AE_DIAG_SEL_UNIT : Field := ⟨12340, 0, 12, .rw, 0, .free⟩
/-- `AE_DIAG_SEL.BANK` (R242): bank 0–23; 24–31 read as zero -/
def AE_DIAG_SEL_BANK : Field := ⟨12340, 12, 5, .rw, 0, .free⟩
/-- `AE_DIAG_SEL.CARE` (R242): 0: DIAG_LO and DIAG_HI show V; 1: they show C -/
def AE_DIAG_SEL_CARE : Field := ⟨12340, 17, 1, .rw, 0, .free⟩
/-- `AE_DIAG_LO.DATA_LO` (R242): selected word [31:0] -/
def AE_DIAG_LO_DATA_LO : Field := ⟨12344, 0, 32, .ro, 0, .free⟩
/-- `AE_DIAG_HI.DATA_HI` (R242): selected word [63:32] -/
def AE_DIAG_HI_DATA_HI : Field := ⟨12348, 0, 32, .ro, 0, .free⟩
/-- `AE_DIAG_INFO.VALID` (R242): valid bit of the entry holding the unit -/
def AE_DIAG_INFO_VALID : Field := ⟨12352, 0, 1, .ro, 0, .free⟩
/-- `AE_DIAG_INFO.PIN` (R242): PIN of a Parcels entry; 0 for banks 0–7 -/
def AE_DIAG_INFO_PIN : Field := ⟨12352, 16, 16, .ro, 0, .free⟩
/-- `BL_CTRL.ENABLE` (R351): 1: ports of PORT_EN train -/
def BL_CTRL_ENABLE : Field := ⟨16384, 0, 1, .rwl, 0, .free⟩
/-- `BL_CTRL.LOCK` (R351): locks all BL_ RWL fields, this one included -/
def BL_CTRL_LOCK : Field := ⟨16384, 1, 1, .rwl, 0, .free⟩
/-- `BL_CTRL.PORT_EN` (R351): ports in use, B0 in bit 8 -/
def BL_CTRL_PORT_EN : Field := ⟨16384, 8, 6, .rwl, 0, .free⟩
/-- `BL_GSTAT.ROLE` (R351): 0 off, 1 manager, 2 worker -/
def BL_GSTAT_ROLE : Field := ⟨16388, 0, 2, .ro, 0, .free⟩
/-- `BL_GSTAT.UP` (R351): ports with a session -/
def BL_GSTAT_UP : Field := ⟨16388, 8, 6, .ro, 0, .free⟩
/-- `BL_GSTAT.FROZEN_ANY` (R351): a queue of any port is frozen -/
def BL_GSTAT_FROZEN_ANY : Field := ⟨16388, 16, 1, .ro, 0, .free⟩
/-- `BL_ELOG_SEL.ENTRY` (R351): 0 newest entry of this device's error log -/
def BL_ELOG_SEL_ENTRY : Field := ⟨16392, 0, 5, .rw, 0, .free⟩
/-- `BL_ELOG_SEL.WORD` (R351): dword 0–7 of the entry -/
def BL_ELOG_SEL_WORD : Field := ⟨16392, 5, 3, .rw, 0, .free⟩
/-- `BL_ELOG_DATA.DATA` (R351): selected dword -/
def BL_ELOG_DATA_DATA : Field := ⟨16396, 0, 32, .ro, 0, .free⟩
/-- `BL_STAT[n].STATE` (R351): 0 off or absent, 1 training, 2 hello, 3 up, 4 refused, 5 down -/
def BL_STAT_STATE (n : Nat) : Field := ⟨16640 + 64 * n, 0, 3, .ro, 0, .free⟩
/-- `BL_STAT[n].MEMBER` (R351): member number of the worker -/
def BL_STAT_MEMBER (n : Nat) : Field := ⟨16640 + 64 * n, 3, 3, .ro, 0, .free⟩
/-- `BL_STAT[n].FROZEN` (R351): receiving queue frozen -/
def BL_STAT_FROZEN (n : Nat) : Field := ⟨16640 + 64 * n, 6, 1, .ro, 0, .free⟩
/-- `BL_STAT[n].SEND_FROZEN` (R351): R346 -/
def BL_STAT_SEND_FROZEN (n : Nat) : Field := ⟨16640 + 64 * n, 7, 1, .ro, 0, .free⟩
/-- `BL_STAT[n].REFUSE_CAUSE` (R351): 0 none, 1 signature, 2 member number, 3 DUPLICATE, 4 level, 5 SVN, 6 mode -/
def BL_STAT_REFUSE_CAUSE (n : Nat) : Field := ⟨16640 + 64 * n, 8, 4, .ro, 0, .free⟩
/-- `BL_STAT[n].SESSION` (R351): session number -/
def BL_STAT_SESSION (n : Nat) : Field := ⟨16640 + 64 * n, 16, 16, .ro, 0, .free⟩
/-- `BL_LINK[n].WIDTH` (R351): 0 down, 1 x1, 2 x2 -/
def BL_LINK_WIDTH (n : Nat) : Field := ⟨16644 + 64 * n, 0, 2, .ro, 0, .free⟩
/-- `BL_LINK[n].RETRAINS` (R351): saturating -/
def BL_LINK_RETRAINS (n : Nat) : Field := ⟨16644 + 64 * n, 8, 8, .rc, 0, .free⟩
/-- `BL_LINK[n].REPLAYS` (R351): saturating -/
def BL_LINK_REPLAYS (n : Nat) : Field := ⟨16644 + 64 * n, 16, 16, .rc, 0, .free⟩
/-- `BL_CNT[n].OUTSTANDING` (R351): tags outstanding -/
def BL_CNT_OUTSTANDING (n : Nat) : Field := ⟨16648 + 64 * n, 0, 10, .ro, 0, .free⟩
/-- `BL_CNT[n].QUARANTINED` (R351): tags quarantined -/
def BL_CNT_QUARANTINED (n : Nat) : Field := ⟨16648 + 64 * n, 16, 10, .ro, 0, .free⟩
/-- `BL_ERRCNT[n].AUTH` (R351): AUTH and NONCE errors, saturating -/
def BL_ERRCNT_AUTH (n : Nat) : Field := ⟨16652 + 64 * n, 0, 8, .rc, 0, .free⟩
/-- `BL_ERRCNT[n].LATE` (R351): R343, saturating -/
def BL_ERRCNT_LATE (n : Nat) : Field := ⟨16652 + 64 * n, 8, 8, .rc, 0, .free⟩
/-- `BL_ERRCNT[n].TIMEOUTS` (R351): R343, saturating -/
def BL_ERRCNT_TIMEOUTS (n : Nat) : Field := ⟨16652 + 64 * n, 16, 8, .rc, 0, .free⟩
/-- `BL_ERRCNT[n].FROZEN_CMDS` (R351): R346, saturating -/
def BL_ERRCNT_FROZEN_CMDS (n : Nat) : Field := ⟨16652 + 64 * n, 24, 8, .rc, 0, .free⟩
/-- `AY_CTRL.ENABLE` (R382): 1: array engine running -/
def AY_CTRL_ENABLE : Field := ⟨20480, 0, 1, .rwl, 0, .free⟩
/-- `AY_CTRL.LOCK` (R382): locks all AY_ RWL fields, this one included -/
def AY_CTRL_LOCK : Field := ⟨20480, 1, 1, .rwl, 0, .free⟩
/-- `AY_CTRL.INSPECT_NOW` (R382): 1: starts a new Inspection train pass -/
def AY_CTRL_INSPECT_NOW : Field := ⟨20480, 2, 1, .wo, 0, .free⟩
/-- `AY_CTRL.REBUILD_PAUSE` (R382): 1: rebuild holds at its next row -/
def AY_CTRL_REBUILD_PAUSE : Field := ⟨20480, 3, 1, .rw, 0, .free⟩
/-- `AY_STAT.LAYOUT` (R382): rb.array.layout -/
def AY_STAT_LAYOUT : Field := ⟨20484, 0, 2, .ro, 0, .free⟩
/-- `AY_STAT.WIDTH` (R382): n -/
def AY_STAT_WIDTH : Field := ⟨20484, 2, 3, .ro, 0, .free⟩
/-- `AY_STAT.STATE` (R382): 0 none, 1 normal, 2 degraded, 3 rebuilding, 4 offline -/
def AY_STAT_STATE : Field := ⟨20484, 5, 3, .ro, 0, .free⟩
/-- `AY_STAT.RESYNC` (R382): R380 in progress -/
def AY_STAT_RESYNC : Field := ⟨20484, 8, 1, .ro, 0, .free⟩
/-- `AY_STAT.EMAP_FULL` (R382): R375 -/
def AY_STAT_EMAP_FULL : Field := ⟨20484, 9, 1, .ro, 0, .free⟩
/-- `AY_STAT.SPARE_FAILURES` (R382): further position failures tolerated -/
def AY_STAT_SPARE_FAILURES : Field := ⟨20484, 10, 2, .ro, 0, .free⟩
/-- `AY_REBUILD.NS` (R382): namespace slot being rebuilt -/
def AY_REBUILD_NS : Field := ⟨20488, 0, 7, .ro, 0, .free⟩
/-- `AY_REBUILD.POSITION` (R382): position being rebuilt -/
def AY_REBUILD_POSITION : Field := ⟨20488, 8, 3, .ro, 0, .free⟩
/-- `AY_REBUILD.TARGET` (R382): member number of the target -/
def AY_REBUILD_TARGET : Field := ⟨20488, 11, 4, .ro, 0, .free⟩
/-- `AY_RB_ROW_LO.ROW_LO` (R382): checkpoint row [31:0]; a read latches [63:32] -/
def AY_RB_ROW_LO_ROW_LO : Field := ⟨20492, 0, 32, .ro, 0, .free⟩
/-- `AY_RB_ROW_HI.ROW_HI` (R382): checkpoint row [63:32] as latched -/
def AY_RB_ROW_HI_ROW_HI : Field := ⟨20496, 0, 32, .ro, 0, .free⟩
/-- `AY_EMAP.ENTRIES` (R382): entries in all media error maps, saturating -/
def AY_EMAP_ENTRIES : Field := ⟨20500, 0, 16, .ro, 0, .free⟩
/-- `AY_RB_RATE.MIB_S` (R382): rebuild write rate over the last second, MiB/s -/
def AY_RB_RATE_MIB_S : Field := ⟨20504, 0, 16, .ro, 0, .free⟩
/-- `AY_INSPECT.PASS` (R382): pass number, modulo 256 -/
def AY_INSPECT_PASS : Field := ⟨20508, 0, 8, .ro, 0, .free⟩
/-- `AY_INSPECT.DONE_PCT` (R382): share of the current pass done, percent -/
def AY_INSPECT_DONE_PCT : Field := ⟨20508, 8, 7, .ro, 0, .free⟩
/-- `AY_CNT_DEGRADED.READS` (R382): degraded reads, saturating -/
def AY_CNT_DEGRADED_READS : Field := ⟨20512, 0, 32, .rc, 0, .free⟩
/-- `AY_CNT_INSPECT.REPAIRS` (R382): R377 repairs, saturating -/
def AY_CNT_INSPECT_REPAIRS : Field := ⟨20516, 0, 16, .rc, 0, .free⟩
/-- `AY_CNT_INSPECT.MARKS` (R382): cause-4 marks, saturating -/
def AY_CNT_INSPECT_MARKS : Field := ⟨20516, 16, 16, .rc, 0, .free⟩
/-- `AY_CNT_TIMEOUT.EVENTS` (R382): R370 events, saturating -/
def AY_CNT_TIMEOUT_EVENTS : Field := ⟨20520, 0, 16, .rc, 0, .free⟩
/-- `AY_POS[n].MEMBER` (R382): member number -/
def AY_POS_MEMBER (n : Nat) : Field := ⟨20544 + 4 * n, 0, 3, .ro, 0, .free⟩
/-- `AY_POS[n].STATE` (R382): 0 unused, 1 ONLINE, 2 FAILED, 3 REBUILDING -/
def AY_POS_STATE (n : Nat) : Field := ⟨20544 + 4 * n, 4, 2, .ro, 0, .free⟩
/-- `AY_POS[n].CAUSE` (R382): 0 none, 1 link down, 2 timeout, 3 slow member, 4 Buffer stop, 5 no dies, 6 absent at assembly, 7 replacement -/
def AY_POS_CAUSE (n : Nat) : Field := ⟨20544 + 4 * n, 8, 4, .ro, 0, .free⟩
/-- `AY_POS[n].HOLDER` (R382): holds a journal copy -/
def AY_POS_HOLDER (n : Nat) : Field := ⟨20544 + 4 * n, 12, 1, .ro, 0, .free⟩
/-- `MC_CTRL.ENABLE` (R407): 1: controller serves requests -/
def MC_CTRL_ENABLE : Field := ⟨24576, 0, 1, .rwl, 0, .free⟩
/-- `MC_CTRL.LOCK` (R407): locks all MC_ and ME_ RWL fields, this one included -/
def MC_CTRL_LOCK : Field := ⟨24576, 1, 1, .rwl, 0, .free⟩
/-- `MC_CTRL.GEOM` (R407): DRAM_GEOM sampled -/
def MC_CTRL_GEOM : Field := ⟨24576, 2, 2, .ro, 0, .free⟩
/-- `MC_STAT.TRAINED` (R407): both channels trained -/
def MC_STAT_TRAINED : Field := ⟨24580, 0, 1, .ro, 0, .free⟩
/-- `MC_STAT.REF2X` (R407): bit c: channel c at double refresh -/
def MC_STAT_REF2X : Field := ⟨24580, 1, 2, .ro, 0, .free⟩
/-- `MC_STAT.SELF_REFRESH` (R407): channels in self-refresh -/
def MC_STAT_SELF_REFRESH : Field := ⟨24580, 3, 1, .ro, 0, .free⟩
/-- `MC_STAT.RANGE_ERR` (R407): R385, saturating -/
def MC_STAT_RANGE_ERR : Field := ⟨24580, 16, 16, .rc, 0, .free⟩
/-- `MC_HASH_LO[n].MASK_LO` (R407): i = 0 CH, 1–3 BG0–BG2, 4–5 BA0–BA1 -/
def MC_HASH_LO_MASK_LO (n : Nat) : Field := ⟨24592 + 8 * n, 0, 32, .rwl, ([2863136896, 286277632, 572555264, 1145110528, 34209792, 538181632] : List Nat).getD n 0, .free⟩
/-- `MC_HASH_HI[n].MASK_HI` (R407): mask bits [35:32] -/
def MC_HASH_HI_MASK_HI (n : Nat) : Field := ⟨24596 + 8 * n, 0, 4, .rwl, ([0, 1, 2, 4, 2, 8] : List Nat).getD n 0, .free⟩
/-- `MC_PORT_CFG[n].TARGET_NS` (R407): 50–1,000,000 ns -/
def MC_PORT_CFG_TARGET_NS (n : Nat) : Field := ⟨24704 + 4 * n, 0, 20, .rwl, ([250, 400, 1000, 2000, 500, 300, 800, 4000, 100000, 10000] : List Nat).getD n 0, .range 50 1000000⟩
/-- `MC_PORT_STAT[n].LATE` (R407): requests that reached L3, saturating -/
def MC_PORT_STAT_LATE (n : Nat) : Field := ⟨24768 + 4 * n, 0, 16, .rc, 0, .free⟩
/-- `MC_PORT_STAT[n].MAX_LAT` (R407): longest latency since read, units of 16 ns, saturating -/
def MC_PORT_STAT_MAX_LAT (n : Nat) : Field := ⟨24768 + 4 * n, 16, 16, .rc, 0, .free⟩
/-- `ME_CTRL.SCRUB_EN` (R407): R401 -/
def ME_CTRL_SCRUB_EN : Field := ⟨28672, 0, 1, .rwl, 0, .free⟩
/-- `ME_CTRL.UNINIT_CNT` (R407): R395 -/
def ME_CTRL_UNINIT_CNT : Field := ⟨28672, 1, 1, .rwl, 0, .free⟩
/-- `ME_STAT.SWEEP_DONE` (R407): every segment valid -/
def ME_STAT_SWEEP_DONE : Field := ⟨28676, 0, 1, .ro, 0, .free⟩
/-- `ME_STAT.PRIO_WAIT` (R407): segments in the priority list -/
def ME_STAT_PRIO_WAIT : Field := ⟨28676, 1, 5, .ro, 0, .free⟩
/-- `ME_STAT.SWEEP_SEG` (R407): segment being swept -/
def ME_STAT_SWEEP_SEG : Field := ⟨28676, 16, 15, .ro, 0, .free⟩
/-- `ME_SEG_INVAL.SEGMENT` (R407): R397 -/
def ME_SEG_INVAL_SEGMENT : Field := ⟨28680, 0, 15, .wo, 0, .free⟩
/-- `ME_CNT_DRAM.CE` (R407): saturating -/
def ME_CNT_DRAM_CE : Field := ⟨28684, 0, 16, .rc, 0, .free⟩
/-- `ME_CNT_DRAM.UE` (R407): saturating -/
def ME_CNT_DRAM_UE : Field := ⟨28684, 16, 8, .rc, 0, .free⟩
/-- `ME_CNT_DRAM.POISON` (R407): saturating -/
def ME_CNT_DRAM_POISON : Field := ⟨28684, 24, 8, .rc, 0, .free⟩
/-- `ME_CNT_SRAM.CE` (R407): saturating -/
def ME_CNT_SRAM_CE : Field := ⟨28688, 0, 16, .rc, 0, .free⟩
/-- `ME_CNT_SRAM.UE` (R407): saturating -/
def ME_CNT_SRAM_UE : Field := ⟨28688, 16, 16, .rc, 0, .free⟩
/-- `ME_CNT_UNINIT.COUNT` (R407): saturating -/
def ME_CNT_UNINIT_COUNT : Field := ⟨28692, 0, 32, .rc, 0, .free⟩
/-- `ME_ERR_ADDR.WORD` (R407): word address of the last error, PA[35:7] or SRAM word -/
def ME_ERR_ADDR_WORD : Field := ⟨28696, 0, 29, .ro, 0, .free⟩
/-- `ME_ERR_INFO.PORT` (R407): port of the last error -/
def ME_ERR_INFO_PORT : Field := ⟨28700, 0, 4, .ro, 0, .free⟩
/-- `ME_ERR_INFO.KIND` (R407): 0 none, 1 DRAM corrected, 2 DRAM uncorrectable, 3 poisoned, 4 SRAM corrected, 5 SRAM uncorrectable -/
def ME_ERR_INFO_KIND : Field := ⟨28700, 4, 4, .ro, 0, .free⟩
/-- `ME_ERR_INFO.DEVICE` (R407): DRAM device -/
def ME_ERR_INFO_DEVICE : Field := ⟨28700, 8, 4, .ro, 0, .free⟩
/-- `ME_ERR_INFO.GROUP` (R407): SRAM group -/
def ME_ERR_INFO_GROUP : Field := ⟨28700, 12, 3, .ro, 0, .free⟩
/-- `ME_MERGE_STAT.USED_0` (R407): entries in use, channel 0 -/
def ME_MERGE_STAT_USED_0 : Field := ⟨28704, 0, 5, .ro, 0, .free⟩
/-- `ME_MERGE_STAT.USED_1` (R407): entries in use, channel 1 -/
def ME_MERGE_STAT_USED_1 : Field := ⟨28704, 8, 5, .ro, 0, .free⟩
/-- `ME_MERGE_STAT.RMW` (R407): read-modify-writes, saturating -/
def ME_MERGE_STAT_RMW : Field := ⟨28704, 16, 16, .rc, 0, .free⟩
/-- `ME_SCRUB_STAT.DRAM_PASS` (R407): modulo 256 -/
def ME_SCRUB_STAT_DRAM_PASS : Field := ⟨28708, 0, 8, .ro, 0, .free⟩
/-- `ME_SCRUB_STAT.DRAM_PCT` (R407): share of the current pass done, percent -/
def ME_SCRUB_STAT_DRAM_PCT : Field := ⟨28708, 8, 7, .ro, 0, .free⟩
/-- `ME_SCRUB_STAT.SRAM_PASS` (R407): modulo 256 -/
def ME_SCRUB_STAT_SRAM_PASS : Field := ⟨28708, 16, 8, .ro, 0, .free⟩
/-- `ME_FLIP_D[n].ARM` (R407): R400; clears when applied -/
def ME_FLIP_D_ARM (n : Nat) : Field := ⟨28736 + 4 * n, 0, 1, .rw, 0, .free⟩
/-- `ME_FLIP_D[n].TWO` (R407): also DEV_B -/
def ME_FLIP_D_TWO (n : Nat) : Field := ⟨28736 + 4 * n, 1, 1, .rw, 0, .free⟩
/-- `ME_FLIP_D[n].DEV_A` (R407): device 0–9 -/
def ME_FLIP_D_DEV_A (n : Nat) : Field := ⟨28736 + 4 * n, 2, 4, .rw, 0, .free⟩
/-- `ME_FLIP_D[n].DEV_B` (R407): device 0–9 -/
def ME_FLIP_D_DEV_B (n : Nat) : Field := ⟨28736 + 4 * n, 6, 4, .rw, 0, .free⟩
/-- `ME_FLIP_D[n].SYM` (R407): symbols 0–7 -/
def ME_FLIP_D_SYM (n : Nat) : Field := ⟨28736 + 4 * n, 10, 8, .rw, 0, .free⟩
/-- `ME_FLIP_D[n].PATTERN` (R407): XOR per selected symbol -/
def ME_FLIP_D_PATTERN (n : Nat) : Field := ⟨28736 + 4 * n, 16, 16, .rw, 0, .free⟩
/-- `ME_FLIP_S[n].ARM` (R407): R400; clears when applied -/
def ME_FLIP_S_ARM (n : Nat) : Field := ⟨28752 + 4 * n, 0, 1, .rw, 0, .free⟩
/-- `ME_FLIP_S[n].TWO` (R407): also BIT_B -/
def ME_FLIP_S_TWO (n : Nat) : Field := ⟨28752 + 4 * n, 1, 1, .rw, 0, .free⟩
/-- `ME_FLIP_S[n].BIT_A` (R407): bit 0–71 -/
def ME_FLIP_S_BIT_A (n : Nat) : Field := ⟨28752 + 4 * n, 2, 7, .rw, 0, .free⟩
/-- `ME_FLIP_S[n].BIT_B` (R407): bit 0–71 -/
def ME_FLIP_S_BIT_B (n : Nat) : Field := ⟨28752 + 4 * n, 9, 7, .rw, 0, .free⟩
/-- `ME_FLIP_HIT.WORD` (R407): word of the last applied mask -/
def ME_FLIP_HIT_WORD : Field := ⟨28784, 0, 29, .ro, 0, .free⟩
/-- `ME_FLIP_HIT_GRP.GROUP` (R407): 0–1 DRAM channel, 2–9 SRAM group 0–7 -/
def ME_FLIP_HIT_GRP_GROUP : Field := ⟨28788, 0, 4, .ro, 0, .free⟩
/-- `CE_CTRL.ENABLE` (R426): 1: engine accepts jobs -/
def CE_CTRL_ENABLE : Field := ⟨32768, 0, 1, .rwl, 0, .free⟩
/-- `CE_CTRL.LOCK` (R426): locks all CE_ RWL fields, this one included -/
def CE_CTRL_LOCK : Field := ⟨32768, 1, 1, .rwl, 0, .free⟩
/-- `CE_STAT.ROOT_LOADED` (R426): root key loaded (R409) -/
def CE_STAT_ROOT_LOADED : Field := ⟨32772, 0, 1, .ro, 0, .free⟩
/-- `CE_STAT.ERASED` (R426): keys erased by an alarm (R420) -/
def CE_STAT_ERASED : Field := ⟨32772, 1, 1, .ro, 0, .free⟩
/-- `CE_STAT.GCM_HOLD` (R426): encryption waits at the high-water mark (R418) -/
def CE_STAT_GCM_HOLD : Field := ⟨32772, 2, 1, .ro, 0, .free⟩
/-- `CE_STAT.OPAL_ACTIVE` (R426): the Locking SP is activated -/
def CE_STAT_OPAL_ACTIVE : Field := ⟨32772, 3, 1, .ro, 0, .free⟩
/-- `CE_ERR.LEN` (R426): R419 -/
def CE_ERR_LEN : Field := ⟨32776, 0, 1, .w1c, 0, .free⟩
/-- `CE_ERR.AUTH` (R426): R416 -/
def CE_ERR_AUTH : Field := ⟨32776, 1, 1, .w1c, 0, .free⟩
/-- `CE_ERR.KEY_ERASED` (R426): R420 -/
def CE_ERR_KEY_ERASED : Field := ⟨32776, 2, 1, .w1c, 0, .free⟩
/-- `CE_ERR.HWM_FAIL` (R426): R418 -/
def CE_ERR_HWM_FAIL : Field := ⟨32776, 3, 1, .w1c, 0, .free⟩
/-- `CE_ERR.REFUSED` (R426): R410 -/
def CE_ERR_REFUSED : Field := ⟨32776, 4, 1, .w1c, 0, .free⟩
/-- `CE_KC_STAT.VALID` (R426): valid entries -/
def CE_KC_STAT_VALID : Field := ⟨32780, 0, 7, .ro, 0, .free⟩
/-- `CE_KC_STAT.IN_USE` (R426): entries with a non-zero use count -/
def CE_KC_STAT_IN_USE : Field := ⟨32780, 8, 7, .ro, 0, .free⟩
/-- `CE_KC_STAT.FULL_WAITS` (R426): R411, saturating -/
def CE_KC_STAT_FULL_WAITS : Field := ⟨32780, 16, 8, .rc, 0, .free⟩
/-- `CE_KC_STAT.MISSES` (R426): derivations, saturating -/
def CE_KC_STAT_MISSES : Field := ⟨32780, 24, 8, .rc, 0, .free⟩
/-- `CE_NONCE_LO.COUNT_LO` (R426): counter [31:0]; a read latches [63:32] -/
def CE_NONCE_LO_COUNT_LO : Field := ⟨32784, 0, 32, .ro, 0, .free⟩
/-- `CE_NONCE_HI.COUNT_HI` (R426): counter [63:32] as latched -/
def CE_NONCE_HI_COUNT_HI : Field := ⟨32788, 0, 32, .ro, 0, .free⟩
/-- `CE_HWM_LO.MARK_LO` (R426): durable mark [31:0] -/
def CE_HWM_LO_MARK_LO : Field := ⟨32792, 0, 32, .gd, 0, .free⟩
/-- `CE_HWM_HI.MARK_HI` (R426): durable mark [63:32] -/
def CE_HWM_HI_MARK_HI : Field := ⟨32796, 0, 32, .gd, 0, .free⟩
/-- `CE_GEN.GEN` (R426): media key generation G -/
def CE_GEN_GEN : Field := ⟨32800, 0, 32, .gd, 0, .free⟩
/-- `CE_CNT.AUTH_FAILS` (R426): saturating -/
def CE_CNT_AUTH_FAILS : Field := ⟨32804, 0, 16, .rc, 0, .free⟩
/-- `CE_CNT.LEN_ERRS` (R426): saturating -/
def CE_CNT_LEN_ERRS : Field := ⟨32804, 16, 16, .rc, 0, .free⟩
/-- `GD_STAT.LEVEL` (R454): level in force -/
def GD_STAT_LEVEL : Field := ⟨36864, 0, 2, .gd, 0, .free⟩
/-- `GD_STAT.PENDING` (R454): pending target level; 0b11 none -/
def GD_STAT_PENDING : Field := ⟨36864, 2, 2, .gd, 3, .free⟩
/-- `GD_STAT.SIGNED` (R454): record signed this boot (R441) -/
def GD_STAT_SIGNED : Field := ⟨36864, 4, 1, .gd, 0, .free⟩
/-- `GD_STAT.ROOT_OK` (R454): root key loaded under R409 -/
def GD_STAT_ROOT_OK : Field := ⟨36864, 5, 1, .gd, 0, .free⟩
/-- `GD_STAT.RECOVERY` (R454): no boot image passed, under R438 -/
def GD_STAT_RECOVERY : Field := ⟨36864, 6, 1, .gd, 0, .free⟩
/-- `GD_STAT.ENTRIES` (R454): entries in the current record -/
def GD_STAT_ENTRIES : Field := ⟨36864, 8, 8, .gd, 0, .free⟩
/-- `GD_BOOT_CNT.COUNT` (R454): boot counter -/
def GD_BOOT_CNT_COUNT : Field := ⟨36868, 0, 32, .gd, 0, .free⟩
/-- `GD_ALARM.VOLT` (R454): voltage alarm this boot -/
def GD_ALARM_VOLT : Field := ⟨36872, 0, 1, .gd, 0, .free⟩
/-- `GD_ALARM.CLOCK` (R454): SYSCLK or PLL alarm -/
def GD_ALARM_CLOCK : Field := ⟨36872, 1, 1, .gd, 0, .free⟩
/-- `GD_ALARM.THERMAL` (R454): hard trip -/
def GD_ALARM_THERMAL : Field := ⟨36872, 2, 1, .gd, 0, .free⟩
/-- `GD_ALARM.TAMPER` (R454): tamper -/
def GD_ALARM_TAMPER : Field := ⟨36872, 3, 1, .gd, 0, .free⟩
/-- `GD_ALARM.RAIL` (R454): bit per rail of the alarm monitors table, in table order -/
def GD_ALARM_RAIL : Field := ⟨36872, 4, 8, .gd, 0, .free⟩
/-- `GD_ALARM.LAST_CAUSE` (R454): bits [3:0] as held from the previous boot -/
def GD_ALARM_LAST_CAUSE : Field := ⟨36872, 16, 4, .gd, 0, .free⟩
/-- `GD_MIN_SVN.MIN` (R454): package SVN minimum (R437) -/
def GD_MIN_SVN_MIN : Field := ⟨36876, 0, 8, .gd, 0, .free⟩
/-- `GD_MIN_SVN.RUNNING` (R454): SVN of the running package -/
def GD_MIN_SVN_RUNNING : Field := ⟨36876, 8, 8, .gd, 0, .free⟩
/-- `GD_TICKET.ACTIVE` (R454): a diagnostic ticket is in force -/
def GD_TICKET_ACTIVE : Field := ⟨36880, 0, 1, .gd, 0, .free⟩
/-- `GD_TJ.TJ_MAX` (R454): highest on-die junction temperature this boot, °C -/
def GD_TJ_TJ_MAX : Field := ⟨36884, 0, 8, .gd, 0, .free⟩
/-- `SC_TIME_LO.MS_LO` (R454): ms [31:0]; a read latches [47:32] -/
def SC_TIME_LO_MS_LO : Field := ⟨36928, 0, 32, .gd, 0, .free⟩
/-- `SC_TIME_HI.MS_HI` (R454): ms [47:32] as latched -/
def SC_TIME_HI_MS_HI : Field := ⟨36932, 0, 16, .gd, 0, .free⟩
/-- `SC_STAT.VALID` (R454): R453 -/
def SC_STAT_VALID : Field := ⟨36936, 0, 1, .gd, 0, .free⟩
/-- `SC_STAT.LOST` (R454): R453; cleared by the next set -/
def SC_STAT_LOST : Field := ⟨36936, 1, 1, .gd, 0, .free⟩
/-- `SC_STAT.ON_VBAT` (R454): clock ran from VBAT since the last boot -/
def SC_STAT_ON_VBAT : Field := ⟨36936, 2, 1, .gd, 0, .free⟩
/-- `SC_STAT.SETS` (R454): sets this boot, saturating -/
def SC_STAT_SETS : Field := ⟨36936, 8, 8, .gd, 0, .free⟩
/-- `DP_WS.WS` (R471): wait states under R459 -/
def DP_WS_WS : Field := ⟨40960, 0, 4, .rw, 8, .free⟩
/-- `DP_ADDR.WORD` (R471): word address; a sector is named by any of its words -/
def DP_ADDR_WORD : Field := ⟨40964, 3, 21, .rw, 0, .free⟩
/-- `DP_DATA_LO.DATA_LO` (R471): program data [31:0] -/
def DP_DATA_LO_DATA_LO : Field := ⟨40968, 0, 32, .rw, 0, .free⟩
/-- `DP_DATA_HI.DATA_HI` (R471): program data [63:32] -/
def DP_DATA_HI_DATA_HI : Field := ⟨40972, 0, 32, .rw, 0, .free⟩
/-- `DP_CMD.OP` (R471): 0b01 program, 0b10 erase; 0b00 and 0b11 no effect -/
def DP_CMD_OP : Field := ⟨40976, 0, 2, .wo, 0, .free⟩
/-- `DP_STAT.CORE_BUSY` (R471): core-port command queued or running -/
def DP_STAT_CORE_BUSY : Field := ⟨40980, 0, 1, .ro, 0, .free⟩
/-- `DP_STAT.BANK_BUSY` (R471): bit b: bank b has an operation -/
def DP_STAT_BANK_BUSY : Field := ⟨40980, 1, 2, .ro, 0, .free⟩
/-- `DP_STAT.BANK_SUSP` (R471): bit b: bank b's operation suspended -/
def DP_STAT_BANK_SUSP : Field := ⟨40980, 3, 2, .ro, 0, .free⟩
/-- `DP_STAT.RESULT` (R471): last core-port command: 0 OK, 1 BUSY_SELF, 2 PROTECTED, 3 OWNER, 4 NOT_ERASED, 5 PROG_FAIL, 6 ERASE_FAIL -/
def DP_STAT_RESULT : Field := ⟨40980, 8, 4, .ro, 0, .free⟩
/-- `DP_ERR.BUSY_SELF` (R471): R465 -/
def DP_ERR_BUSY_SELF : Field := ⟨40984, 0, 1, .w1c, 0, .free⟩
/-- `DP_ERR.PROTECTED` (R471): R465 -/
def DP_ERR_PROTECTED : Field := ⟨40984, 1, 1, .w1c, 0, .free⟩
/-- `DP_ERR.OWNER` (R471): R465 -/
def DP_ERR_OWNER : Field := ⟨40984, 2, 1, .w1c, 0, .free⟩
/-- `DP_ERR.NOT_ERASED` (R471): R465 -/
def DP_ERR_NOT_ERASED : Field := ⟨40984, 3, 1, .w1c, 0, .free⟩
/-- `DP_ERR.PROG_FAIL` (R471): R462 -/
def DP_ERR_PROG_FAIL : Field := ⟨40984, 4, 1, .w1c, 0, .free⟩
/-- `DP_ERR.ERASE_FAIL` (R471): R462 -/
def DP_ERR_ERASE_FAIL : Field := ⟨40984, 5, 1, .w1c, 0, .free⟩
/-- `DP_ERR.WEAR` (R471): R463 -/
def DP_ERR_WEAR : Field := ⟨40984, 6, 1, .w1c, 0, .free⟩
/-- `DP_ERR.OVERRUN` (R471): R464 -/
def DP_ERR_OVERRUN : Field := ⟨40984, 7, 1, .w1c, 0, .free⟩
/-- `DP_ERR.UNCORR` (R471): R460 -/
def DP_ERR_UNCORR : Field := ⟨40984, 8, 1, .w1c, 0, .free⟩
/-- `DP_WP_SET.SECTOR` (R471): sets that sector's write-protect bit -/
def DP_WP_SET_SECTOR : Field := ⟨40988, 0, 12, .wo, 0, .free⟩
/-- `DP_WP_SEL.GROUP` (R471): sectors 32 × GROUP to 32 × GROUP + 31 -/
def DP_WP_SEL_GROUP : Field := ⟨40992, 0, 7, .rw, 0, .free⟩
/-- `DP_WP.BITS` (R471): write-protect bits of the selected group -/
def DP_WP_BITS : Field := ⟨40996, 0, 32, .ro, 0, .free⟩
/-- `DP_SECT_SEL.SECTOR` (R471): sector shown in DP_SECT_INFO -/
def DP_SECT_SEL_SECTOR : Field := ⟨41000, 0, 12, .rw, 0, .free⟩
/-- `DP_SECT_INFO.ERASES` (R471): erase count, saturating -/
def DP_SECT_INFO_ERASES : Field := ⟨41004, 0, 16, .ro, 0, .free⟩
/-- `DP_SECT_INFO.WORN` (R471): more than 10,000 erases -/
def DP_SECT_INFO_WORN : Field := ⟨41004, 16, 1, .ro, 0, .free⟩
/-- `DP_CNT.CORR` (R471): corrected reads, saturating -/
def DP_CNT_CORR : Field := ⟨41008, 0, 16, .rc, 0, .free⟩
/-- `DP_CNT.SUSPENDS` (R471): suspensions under R466, saturating -/
def DP_CNT_SUSPENDS : Field := ⟨41008, 16, 16, .rc, 0, .free⟩
/-- `TH_CTRL.ENABLE` (R489): 1: thresholds applied -/
def TH_CTRL_ENABLE : Field := ⟨45056, 0, 1, .rwl, 0, .free⟩
/-- `TH_CTRL.LOCK` (R489): locks all TH_ and TK_ RWL fields, this one included -/
def TH_CTRL_LOCK : Field := ⟨45056, 1, 1, .rwl, 0, .free⟩
/-- `TH_STAT.COMPOSITE` (R489): °C, two's complement -/
def TH_STAT_COMPOSITE : Field := ⟨45060, 0, 8, .ro, 0, .free⟩
/-- `TH_STAT.WARN` (R489): R477 -/
def TH_STAT_WARN : Field := ⟨45060, 8, 1, .ro, 0, .free⟩
/-- `TH_STAT.THROTTLE` (R489): R477 -/
def TH_STAT_THROTTLE : Field := ⟨45060, 9, 1, .ro, 0, .free⟩
/-- `TH_STAT.STOPPING` (R489): R480 -/
def TH_STAT_STOPPING : Field := ⟨45060, 10, 1, .ro, 0, .free⟩
/-- `TH_STAT.STEP` (R489): throttle step 0–4 -/
def TH_STAT_STEP : Field := ⟨45060, 11, 3, .ro, 0, .free⟩
/-- `TH_STAT.DRAM_HOT` (R489): R478 -/
def TH_STAT_DRAM_HOT : Field := ⟨45060, 14, 1, .ro, 0, .free⟩
/-- `TH_SENS_SEL.INPUT` (R489): input 0–17 shown in TH_SENS -/
def TH_SENS_SEL_INPUT : Field := ⟨45064, 0, 5, .rw, 0, .free⟩
/-- `TH_SENS.TEMP` (R489): °C, two's complement -/
def TH_SENS_TEMP : Field := ⟨45068, 0, 8, .ro, 0, .free⟩
/-- `TH_SENS.ENABLED` (R489): enabled under R472 -/
def TH_SENS_ENABLED : Field := ⟨45068, 8, 1, .ro, 0, .free⟩
/-- `TH_SENS.BROKEN` (R489): R473 -/
def TH_SENS_BROKEN : Field := ⟨45068, 9, 1, .ro, 0, .free⟩
/-- `TH_SENS.CAUSE` (R489): 0 none, 1 open, 2 short, 3 slew -/
def TH_SENS_CAUSE : Field := ⟨45068, 10, 2, .ro, 0, .free⟩
/-- `TH_SENS.MAX` (R489): highest reading this boot, °C -/
def TH_SENS_MAX : Field := ⟨45068, 16, 8, .ro, 0, .free⟩
/-- `TH_BROKEN.MAP` (R489): bit per input -/
def TH_BROKEN_MAP : Field := ⟨45072, 0, 18, .ro, 0, .free⟩
/-- `TH_CNT.BROKEN_EVENTS` (R489): saturating -/
def TH_CNT_BROKEN_EVENTS : Field := ⟨45076, 0, 8, .rc, 0, .free⟩
/-- `TH_CNT.THROTTLE_ENTRIES` (R489): saturating -/
def TH_CNT_THROTTLE_ENTRIES : Field := ⟨45076, 8, 8, .rc, 0, .free⟩
/-- `TH_CNT.STEP_CHANGES` (R489): saturating -/
def TH_CNT_STEP_CHANGES : Field := ⟨45076, 16, 16, .rc, 0, .free⟩
/-- `TH_TIME.WARN_MIN` (R489): minutes at or above warning, saturating -/
def TH_TIME_WARN_MIN : Field := ⟨45080, 0, 16, .ro, 0, .free⟩
/-- `TH_TIME.CRIT_MIN` (R489): minutes at or above shutdown, saturating -/
def TH_TIME_CRIT_MIN : Field := ⟨45080, 16, 16, .ro, 0, .free⟩
/-- `TK_RATE.RATE` (R489): tokens per µs, 1–16 -/
def TK_RATE_RATE : Field := ⟨49152, 0, 5, .rwl, 4, .free⟩
/-- `TK_RATE.POOL_MAX` (R489): 16–255 -/
def TK_RATE_POOL_MAX : Field := ⟨49152, 8, 8, .rwl, 64, .free⟩
/-- `TK_WT.CHANNEL` (R489): 1–15 -/
def TK_WT_CHANNEL : Field := ⟨49156, 0, 4, .rwl, 8, .free⟩
/-- `TK_WT.DRAM` (R489): 1–15 -/
def TK_WT_DRAM : Field := ⟨49156, 4, 4, .rwl, 8, .free⟩
/-- `TK_WT.SOFT_DEC` (R489): 1–15 -/
def TK_WT_SOFT_DEC : Field := ⟨49156, 8, 4, .rwl, 6, .free⟩
/-- `TK_WT.CORE` (R489): 1–15 -/
def TK_WT_CORE : Field := ⟨49156, 12, 4, .rwl, 2, .free⟩
/-- `TK_WT.SERDES` (R489): 1–15 -/
def TK_WT_SERDES : Field := ⟨49156, 16, 4, .rwl, 1, .free⟩
/-- `TK_WT.AE_BANK` (R489): 1–15 -/
def TK_WT_AE_BANK : Field := ⟨49156, 20, 4, .rwl, 1, .free⟩
/-- `TK_WT.LEAF` (R489): 1–15 -/
def TK_WT_LEAF : Field := ⟨49156, 24, 4, .rwl, 1, .free⟩
/-- `TK_STAT.LEVEL` (R489): tokens in the pool -/
def TK_STAT_LEVEL : Field := ⟨49160, 0, 8, .ro, 64, .free⟩
/-- `TK_STAT.QUEUED` (R489): requests waiting, saturating -/
def TK_STAT_QUEUED : Field := ⟨49160, 8, 8, .ro, 0, .free⟩
/-- `TK_STAT.AGED` (R489): R488 -/
def TK_STAT_AGED : Field := ⟨49160, 16, 1, .w1c, 0, .free⟩
/-- `TK_CNT.WAITS` (R489): requests that waited, each counted once however many cutoffs it took (R488), saturating -/
def TK_CNT_WAITS : Field := ⟨49164, 0, 16, .rc, 0, .free⟩
/-- `TK_CNT.MAX_WAIT` (R489): longest wait since read, units of 100 ns, saturating -/
def TK_CNT_MAX_WAIT : Field := ⟨49164, 16, 16, .rc, 0, .free⟩
/-- `FG_STAT.GATE_OPEN` (R510): R503 -/
def FG_STAT_GATE_OPEN : Field := ⟨53248, 0, 1, .ro, 0, .free⟩
/-- `FG_STAT.DENIED` (R510): R503 -/
def FG_STAT_DENIED : Field := ⟨53248, 1, 1, .w1c, 0, .free⟩
/-- `FG_STAT.DISARMED` (R510): R505 -/
def FG_STAT_DISARMED : Field := ⟨53248, 2, 1, .w1c, 0, .free⟩
/-- `FG_PCIE.PORT` (R510): 0 A, 1 B -/
def FG_PCIE_PORT : Field := ⟨53252, 0, 1, .rw, 0, .free⟩
/-- `FG_PCIE.KIND` (R510): 0 none; 1–3 as R507 -/
def FG_PCIE_KIND : Field := ⟨53252, 1, 2, .rw, 0, .free⟩
/-- `FG_PCIE.COUNT` (R510): R507 -/
def FG_PCIE_COUNT : Field := ⟨53252, 8, 8, .rw, 0, .free⟩
/-- `FG_PCIE.DELAY_US` (R510): µs -/
def FG_PCIE_DELAY_US : Field := ⟨53252, 16, 16, .rw, 0, .free⟩
/-- `FG_BL.PORT` (R510): 0–5 -/
def FG_BL_PORT : Field := ⟨53256, 0, 3, .rw, 0, .free⟩
/-- `FG_BL.KIND` (R510): 0 none; 1–5 as R507; 6–7 stored as 0 -/
def FG_BL_KIND : Field := ⟨53256, 3, 3, .rw, 0, .oneOf [0, 1, 2, 3, 4, 5] 0⟩
/-- `FG_BL.COUNT` (R510): R507 -/
def FG_BL_COUNT : Field := ⟨53256, 8, 8, .rw, 0, .free⟩
/-- `FG_BL.DELAY_US` (R510): µs -/
def FG_BL_DELAY_US : Field := ⟨53256, 16, 16, .rw, 0, .free⟩
/-- `FG_NAND_DIE.DIE` (R510): die 0–511; taken by FG_NAND when it is armed (R507) -/
def FG_NAND_DIE_DIE : Field := ⟨53260, 0, 9, .rw, 0, .free⟩
/-- `FG_NAND.KIND` (R510): 0 none; 1–3 as R507 -/
def FG_NAND_KIND : Field := ⟨53264, 0, 2, .rw, 0, .free⟩
/-- `FG_NAND.LEVELS` (R510): highest failing level; 0b11 stored as 0b10 -/
def FG_NAND_LEVELS : Field := ⟨53264, 2, 2, .rw, 0, .oneOf [0, 1, 2] 2⟩
/-- `FG_NAND.COUNT` (R510): R507 -/
def FG_NAND_COUNT : Field := ⟨53264, 8, 8, .rw, 0, .free⟩
/-- `FG_NAND.EXTRA_US` (R510): µs -/
def FG_NAND_EXTRA_US : Field := ⟨53264, 16, 16, .rw, 0, .free⟩
/-- `FG_CNT.INJECTED` (R510): saturating -/
def FG_CNT_INJECTED : Field := ⟨53268, 0, 16, .rc, 0, .free⟩
/-- `FG_DEPOT_PAGE.PAGE` (R510): R506 -/
def FG_DEPOT_PAGE_PAGE : Field := ⟨53272, 0, 6, .rw, 0, .free⟩
/-- `FG_LANE_SEL.LANE` (R510): R509 -/
def FG_LANE_SEL_LANE : Field := ⟨53280, 0, 4, .rw, 0, .free⟩
/-- `FG_LANE_CTRL.LOOP` (R510): 0 none, 1 near-end, 2 far-end retimed, 3 stored as 0 -/
def FG_LANE_CTRL_LOOP : Field := ⟨53284, 0, 2, .rw, 0, .oneOf [0, 1, 2] 0⟩
/-- `FG_LANE_CTRL.PATTERN` (R510): 0 off, 1 PRBS7, 2 PRBS15, 3 PRBS23, 4 PRBS31 -/
def FG_LANE_CTRL_PATTERN : Field := ⟨53284, 2, 3, .rw, 0, .free⟩
/-- `FG_LANE_CTRL.RUN` (R510): 1: test running -/
def FG_LANE_CTRL_RUN : Field := ⟨53284, 8, 1, .rw, 0, .free⟩
/-- `FG_LANE_CTRL.LOCKED` (R510): pattern lock -/
def FG_LANE_CTRL_LOCKED : Field := ⟨53284, 9, 1, .ro, 0, .free⟩
/-- `FG_LANE_ERR.ERRORS` (R510): saturating -/
def FG_LANE_ERR_ERRORS : Field := ⟨53288, 0, 32, .rc, 0, .free⟩
/-- `CK_DOM_SEL.DOMAIN` (R510): clock domain 0–235 -/
def CK_DOM_SEL_DOMAIN : Field := ⟨57344, 0, 8, .rw, 0, .free⟩
/-- `CK_DOM_STAT.GATED` (R510): domain gated -/
def CK_DOM_STAT_GATED : Field := ⟨57348, 0, 1, .ro, 0, .free⟩
/-- `CK_DOM_STAT.POWERED` (R510): power switch closed -/
def CK_DOM_STAT_POWERED : Field := ⟨57348, 1, 1, .ro, 0, .free⟩

/-- Fields of the TT_ registers, part 0. -/
def fieldsTT0 : List Field :=
  [TT_CTRL_ENABLE, TT_CTRL_LOCK, TT_CTRL_CEIL_MON, TT_STATUS_RUNNING, TT_STATUS_CEIL_VIOL, TT_STATUS_TOKEN_STARVED, TT_TICK_LO_COUNT_LO, TT_TICK_HI_COUNT_HI, TT_EXPRESS_CFG_E_LIMIT, TT_EXPRESS_CFG_PROGRESS, TT_EXPRESS_CFG_MAX_SPAN, TT_EXPRESS_CFG_ADMIT_TICKS, TT_BUDGET_CFG_MAX_PROG, TT_BUDGET_CFG_MAX_ERASE, TT_BUDGET_EFF_PROG, TT_BUDGET_EFF_ERASE, TT_BUDGET_STAT_PROG_ACTIVE, TT_BUDGET_STAT_ERASE_ACTIVE, TT_TOKEN_WT_PROG, TT_TOKEN_WT_ERASE, TT_MAINT_CFG_PER_PERIOD, TT_GOODS_CFG_FLOOR, TT_GOODS_CFG_URGENT_FLOOR, TT_GOODS_CFG_URGENT, TT_DIE_SEL_DIE, TT_DIE_STATE_STATE, TT_DIE_STATE_SUSP_COUNT, TT_DIE_STATE_SPAN, TT_DIE_STATE_PROTECTED, TT_DIE_STATE_DRAINING]

/-- Fields of the TT_ registers, part 1. -/
def fieldsTT1 : List Field :=
  [TT_DIE_STATE_EXHAUSTED, TT_DIE_STATE_NON_EXPRESS, TT_DIE_STATE_EXP_INFLIGHT, TT_EXP_ADMITTED_COUNT, TT_EXP_QUEUED_A_UNIT, TT_EXP_QUEUED_A_CHAN, TT_EXP_QUEUED_B_HELD, TT_EXP_QUEUED_B_DEMOTED, TT_CEIL_VIOL_CNT_COUNT, TT_CEIL_VIOL_REC_DIE, TT_CEIL_VIOL_REC_PHASE, TT_CEIL_VIOL_REC_EXCESS] ++
  (List.range 16).map TT_CH_BUS_SLOT_CYC ++
  (List.range 16).map TT_CH_BUS_SLOTS ++
  (List.range 16).map TT_CH_BUS_CMD_CAP ++
  (List.range 16).map TT_CH_STAT_MAINT_NOW ++
  (List.range 16).map TT_CH_STAT_CFG_ERR ++
  (List.range 16).map TT_CH_STAT_EXP_ISSUES ++
  (List.range 16).map TT_CH_STAT_EXP_XFERS ++
  (List.range 16).map TT_CH_STAT_GOODS_SHARE

/-- Fields of the SB_ registers, part 0. -/
def fieldsSB0 : List Field :=
  (List.range 16).map SB_CH_CFG_ENABLE ++
  (List.range 16).map SB_CH_CFG_IFACE ++
  (List.range 16).map SB_CH_CFG_RATE ++
  (List.range 16).map SB_CH_CFG_CE_MASK ++
  (List.range 16).map SB_CH_CFG_LUNS ++
  (List.range 16).map SB_CH_CFG_ODT_EN ++
  (List.range 16).map SB_CH_CFG_DRV ++
  (List.range 16).map SB_CH_CFG_NAND_ODT ++
  (List.range 16).map SB_CH_STAT_PRESENT ++
  (List.range 16).map SB_CH_STAT_POWERED ++
  (List.range 16).map SB_CH_STAT_TRAINED ++
  (List.range 16).map SB_CH_STAT_ISOLATED ++
  (List.range 16).map SB_CH_STAT_RATE_ACT ++
  (List.range 16).map SB_CH_STAT_RETRAIN_PEND ++
  (List.range 16).map SB_CH_STAT_CE_TRAINED ++
  (List.range 16).map SB_CH_STAT_CE_ISOLATED ++
  (List.range 16).map SB_CH_STAT_RB ++
  (List.range 16).map SB_CH_STAT_WP ++
  (List.range 16).map SB_CH_ERR_TRAIN_FAIL ++
  (List.range 16).map SB_CH_ERR_ID_FAIL ++
  (List.range 16).map SB_CH_ERR_GEOM ++
  (List.range 16).map SB_CH_ERR_OP_TIMEOUT ++
  (List.range 16).map SB_CH_ERR_STATUS_INVALID ++
  (List.range 16).map SB_CH_ERR_PROG_FAIL ++
  (List.range 16).map SB_CH_ERR_ERASE_FAIL ++
  (List.range 16).map SB_CH_ERR_DRIFT_LOW ++
  (List.range 16).map SB_CH_ERR_WATCHDOG ++
  (List.range 16).map SB_CH_ERR_DIE_ISOLATED ++
  (List.range 16).map SB_CH_ERR_CH_ISOLATED ++
  (List.range 16).map SB_CH_ERRCNT_TIMEOUTS

/-- Fields of the SB_ registers, part 1. -/
def fieldsSB1 : List Field :=
  (List.range 16).map SB_CH_ERRCNT_STATUS_INV ++
  (List.range 16).map SB_CH_ERRCNT_PROG_FAILS ++
  (List.range 16).map SB_CH_ERRCNT_ERASE_FAILS ++
  (List.range 16).map SB_CH_CAL_DRIFT_MOVES ++
  (List.range 16).map SB_CH_CAL_RETRAINS ++
  (List.range 16).map SB_CH_CAL_DEFERRED ++
  (List.range 16).map SB_CH_CAL_TRAIN_TEMP ++
  (List.range 16).map SB_CH_TRIM_SEL_CE ++
  (List.range 16).map SB_CH_TRIM_SEL_ITEM ++
  (List.range 16).map SB_CH_TRIM_VALUE ++
  (List.range 16).map SB_CH_TRIM_MARGIN ++
  (List.range 16).map SB_DIE_ISOL_MAP ++
  [SB_GLOBAL_LOCK, SB_ISOL_LAST_DIE, SB_ISOL_LAST_CAUSE, SB_ISOL_LAST_TICK] ++
  (List.range 16).map SB_SEQ_CTRL_RESTART ++
  (List.range 16).map SB_SEQ_CTRL_TRACE_EN ++
  (List.range 16).map SB_SEQ_CTRL_TRACE_FREEZE ++
  (List.range 16).map SB_SEQ_STAT_PC ++
  (List.range 16).map SB_SEQ_STAT_DEPTH ++
  (List.range 16).map SB_SEQ_STAT_HALTED ++
  (List.range 16).map SB_SEQ_STAT_HALT_CAUSE ++
  (List.range 16).map SB_SEQ_STAT_CTX_DIE ++
  (List.range 16).map SB_SEQ_STAT_IN_LEG ++
  (List.range 16).map SB_SEQ_STAT_AT_STATION ++
  (List.range 16).map SB_SEQ_STAT_BAND ++
  (List.range 16).map SB_SEQ_ERR_CS_CORR ++
  (List.range 16).map SB_SEQ_ERR_CS_UE ++
  (List.range 16).map SB_SEQ_ERR_OVERRUN

/-- Fields of the SB_ registers, part 2. -/
def fieldsSB2 : List Field :=
  (List.range 16).map SB_SEQ_ERR_STACK ++
  (List.range 16).map SB_SEQ_ERR_ERR_HALT ++
  (List.range 16).map SB_SEQ_ERR_REQ_STALE ++
  (List.range 16).map SB_SEQ_ERR_UNWIND ++
  (List.range 16).map SB_SEQ_CNT_CS_CORR ++
  (List.range 16).map SB_SEQ_CNT_OVERRUNS ++
  (List.range 16).map SB_SEQ_CNT_UNWINDS ++
  (List.range 16).map SB_SEQ_CNT_USER_EVENTS ++
  (List.range 16).map SB_SEQ_WDOG_MAX_DIST ++
  (List.range 16).map SB_SEQ_WDOG_TRIP_PC ++
  (List.range 16).map SB_SEQ_WDOG_TRIPS ++
  (List.range 16).map SB_TRACE_CTRL_WR_PTR ++
  (List.range 16).map SB_TRACE_CTRL_RD_IDX ++
  (List.range 16).map SB_TRACE_DATA_PC ++
  (List.range 16).map SB_TRACE_DATA_STATUS ++
  (List.range 16).map SB_TRACE_DATA_TICK ++
  [SB_CS_ADDR_ADDR] ++
  (List.range 6).map SB_CS_DATA_DATA ++
  [SB_CS_CTRL_WRITE, SB_CS_CTRL_READ, SB_CS_CTRL_BCAST, SB_CS_CTRL_BOX, SB_CS_CTRL_LOAD_LOCK, SB_TABLE_SEL_INDEX, SB_TABLE_SEL_WRITE, SB_TABLE_LO_DATA, SB_TABLE_HI_DATA, SB_MC_STAT_GWY_LOADED, SB_MC_STAT_CUST_LOADED, SB_MC_STAT_CUST_REJECT]

/-- Fields of the SB_ registers, part 3. -/
def fieldsSB3 : List Field :=
  [SB_MC_STAT_CUST_SVN]

/-- Fields of the LD_ registers, part 0. -/
def fieldsLD0 : List Field :=
  [LD_CTRL_ENABLE, LD_CTRL_LOCK, LD_STAT_READY, LD_STAT_TBL_ERR, LD_CODE_CFG_PAR, LD_HARD_CFG_ITER_MAX, LD_SOFT_CFG_ITER_MAX, LD_SOFT_CFG_SOFT3_EN, LD_EW_CFG_THRESH, LD_BAND_CFG_EDGE1, LD_BAND_CFG_EDGE2, LD_BAND_CFG_EDGE3, LD_CNT_READ_EW, LD_CNT_READ_ERASED, LD_CNT_LEVEL_RETRY, LD_CNT_LEVEL_SOFT, LD_CNT_LEVEL_RECON, LD_CNT_ERR_MISCORR, LD_CNT_ERR_TAG_MISMATCH, LD_CNT_ERR_UNCORR, LD_CNT_HOST_LEFT_CLASS, LD_TBL_SEL_PROFILE, LD_TBL_SEL_BAND, LD_TBL_SEL_ROW, LD_TBL_SEL_GROUP, LD_TBL_SEL_SLC, LD_TBL_DATA_DATA] ++
  (List.range 20).map LD_DEC_STAT_QUEUED ++
  (List.range 20).map LD_DEC_STAT_BUSY ++
  (List.range 20).map LD_DEC_STAT_EXPRESS_Q

/-- Fields of the FT_ registers, part 0. -/
def fieldsFT0 : List Field :=
  [FT_CTRL_ENABLE, FT_CTRL_LOCK, FT_STAT_MAP_READY, FT_STAT_VWC, FT_STAT_JRNL_HOLD, FT_STAT_DIRTY_WAIT, FT_STAT_PAD, FT_DIRTY_LIMIT, FT_DIRTY_MAX_TENDER_MAX, FT_PARCEL_DIRTY, FT_JRNL_LO_DURABLE_LO, FT_JRNL_HI_DURABLE_HI, FT_JRNL_STAT_LIVE_MIB, FT_JRNL_STAT_URGENT, FT_CKPT_STAT_SEG_DIRTY, FT_CKPT_STAT_SEG_UNLOADED, FT_MAP_CNT_CAS_FAIL, FT_MAP_CNT_LINE_UE, FT_MAP_CNT_TAG_UNREC, FT_PARITY_CNT_RECON_OK, FT_PARITY_CNT_RECON_FAIL, FT_PARITY_CNT_PROG_FAIL, FT_VERIFY_CNT_PASS, FT_VERIFY_CNT_FAIL, FT_VERIFY_CNT_RETIRED, FT_GRP_SEL_GROUP, FT_GRP_STAT_DIES, FT_GRP_STAT_OPEN, FT_GRP_STAT_UNVERIFIED, FT_GRP_STAT_FREE_MIN]

/-- Fields of the FT_ registers, part 1. -/
def fieldsFT1 : List Field :=
  [FT_GRP_STAT_LOW, FT_GRP_STAT_CLOSED_TO_NEW, FT_GC_STAT_SOURCE, FT_GC_STAT_BELOW_START, FT_GC_STAT_BELOW_URGENT, FT_GC_STAT_HOST_WAIT, FT_GC_STAT_DEBT, FT_GC_STAT_QUEUED, FT_GC_CNT_VICTIMS, FT_GC_CNT_WAITS, FT_PATROL_STAT_PASS, FT_PATROL_STAT_DONE_PCT, FT_PATROL_STAT_LATE, FT_PATROL_STAT_SCHEME, FT_PATROL_CNT_SAMPLES_K, FT_PATROL_CNT_REFRESH, FT_PATROL_CNT_URGENT, FT_MILEPOST_CNT_TRIPS, FT_MILEPOST_CNT_CHECK_REFRESH, FT_MILEPOST_CNT_CHECK_CLEAN, FT_WEAR_STAT_EW_RATE, FT_WEAR_STAT_RETRY_RATE, FT_WEAR_STAT_CLASS_LOSS, FT_WEAR_STAT_PCT_USED_100, FT_WEAR_STAT_SPARE_LOW, FT_WEAR_STAT_BUFFER_STOP, FT_WEAR_STAT_BSTOP_FLUSHED, FT_WEAR_STAT_STICKY, FT_WEAR_STAT_PCT_USED, FT_WEAR_STAT_AVAIL_SPARE]

/-- Fields of the FT_ registers, part 2. -/
def fieldsFT2 : List Field :=
  [FT_WEAR_PE_MEAN_PE, FT_WEAR_PE_MAX_PE, FT_SPARE_STAT_GOOD_MIN, FT_SPARE_STAT_REQUIRED, FT_HU_CTRL_MEASURE, FT_HU_STAT_MEASURED, FT_HU_STAT_CACHE_PRESENT, FT_HU_STAT_WITHDRAWN, FT_HU_STAT_MEASURING, FT_HU_STAT_SAG, FT_HU_STAT_FLUSH_DONE, FT_HU_STAT_LAST_UNCLEAN, FT_HU_STAT_LAST_FLUSH_OK, FT_HU_STAT_LAST_CAUSE, FT_HU_CAP_CAP, FT_HU_CAP_AVAIL, FT_HU_VOLT_BANK_MV, FT_HU_VOLT_VIN_MV, FT_HU_FLUSH_PARCELS, FT_HU_FLUSH_DURATION, FT_HU_CNT_GLITCHES, FT_HU_CNT_MEASURE_FAILS, FT_HU_CNT_SAG_EVENTS, FT_HU_CNT_UNCLEAN]

/-- Fields of the AE_ registers, part 0. -/
def fieldsAE0 : List Field :=
  [AE_CTRL_ENABLE, AE_CTRL_LOCK, AE_BANK_CFG0_WIDTH_0, AE_BANK_CFG0_WIDTH_1, AE_BANK_CFG0_WIDTH_2, AE_BANK_CFG0_WIDTH_3, AE_BANK_CFG0_WIDTH_4, AE_BANK_CFG0_WIDTH_5, AE_BANK_CFG0_WIDTH_6, AE_BANK_CFG0_WIDTH_7, AE_BANK_CFG0_WIDTH_8, AE_BANK_CFG0_WIDTH_9, AE_BANK_CFG0_WIDTH_10, AE_BANK_CFG0_WIDTH_11, AE_BANK_CFG0_WIDTH_12, AE_BANK_CFG0_WIDTH_13, AE_BANK_CFG0_WIDTH_14, AE_BANK_CFG0_WIDTH_15, AE_BANK_CFG1_WIDTH_16, AE_BANK_CFG1_WIDTH_17, AE_BANK_CFG1_WIDTH_18, AE_BANK_CFG1_WIDTH_19, AE_BANK_CFG1_WIDTH_20, AE_BANK_CFG1_WIDTH_21, AE_BANK_CFG1_WIDTH_22, AE_BANK_CFG1_WIDTH_23, AE_PWR_CFG_BANK_RATE, AE_PWR_STAT_RATE_AVG, AE_PWR_STAT_LIMITED, AE_IL_CFG_FW_MAX]

/-- Fields of the AE_ registers, part 1. -/
def fieldsAE1 : List Field :=
  [AE_IL_STAT_USED, AE_IL_STAT_WAITING, AE_IL_STAT_FULL, AE_PC_STAT_VALID, AE_IL_CNT_OVERLAPS, AE_IL_CNT_FULL_WAITS, AE_IL_CNT_MULTI, AE_IL_RACE_ABORT_WON, AE_IL_RACE_ABORT_LOST, AE_PC_CNT_PIN_RETRY, AE_PC_CNT_MULTI, AE_PC_CNT_RELEASE_BUSY, AE_ERR_CORR, AE_ERR_UNCORR, AE_ERR_WIDTH_ERR, AE_ERR_PC_MULTI, AE_ERR_CNT_CORR, AE_ERR_CNT_UNCORR, AE_DIAG_SEL_UNIT, AE_DIAG_SEL_BANK, AE_DIAG_SEL_CARE, AE_DIAG_LO_DATA_LO, AE_DIAG_HI_DATA_HI, AE_DIAG_INFO_VALID, AE_DIAG_INFO_PIN]

/-- Fields of the BL_ registers, part 0. -/
def fieldsBL0 : List Field :=
  [BL_CTRL_ENABLE, BL_CTRL_LOCK, BL_CTRL_PORT_EN, BL_GSTAT_ROLE, BL_GSTAT_UP, BL_GSTAT_FROZEN_ANY, BL_ELOG_SEL_ENTRY, BL_ELOG_SEL_WORD, BL_ELOG_DATA_DATA] ++
  (List.range 6).map BL_STAT_STATE ++
  (List.range 6).map BL_STAT_MEMBER ++
  (List.range 6).map BL_STAT_FROZEN ++
  (List.range 6).map BL_STAT_SEND_FROZEN ++
  (List.range 6).map BL_STAT_REFUSE_CAUSE ++
  (List.range 6).map BL_STAT_SESSION ++
  (List.range 6).map BL_LINK_WIDTH ++
  (List.range 6).map BL_LINK_RETRAINS ++
  (List.range 6).map BL_LINK_REPLAYS ++
  (List.range 6).map BL_CNT_OUTSTANDING ++
  (List.range 6).map BL_CNT_QUARANTINED ++
  (List.range 6).map BL_ERRCNT_AUTH ++
  (List.range 6).map BL_ERRCNT_LATE ++
  (List.range 6).map BL_ERRCNT_TIMEOUTS ++
  (List.range 6).map BL_ERRCNT_FROZEN_CMDS

/-- Fields of the AY_ registers, part 0. -/
def fieldsAY0 : List Field :=
  [AY_CTRL_ENABLE, AY_CTRL_LOCK, AY_CTRL_INSPECT_NOW, AY_CTRL_REBUILD_PAUSE, AY_STAT_LAYOUT, AY_STAT_WIDTH, AY_STAT_STATE, AY_STAT_RESYNC, AY_STAT_EMAP_FULL, AY_STAT_SPARE_FAILURES, AY_REBUILD_NS, AY_REBUILD_POSITION, AY_REBUILD_TARGET, AY_RB_ROW_LO_ROW_LO, AY_RB_ROW_HI_ROW_HI, AY_EMAP_ENTRIES, AY_RB_RATE_MIB_S, AY_INSPECT_PASS, AY_INSPECT_DONE_PCT, AY_CNT_DEGRADED_READS, AY_CNT_INSPECT_REPAIRS, AY_CNT_INSPECT_MARKS, AY_CNT_TIMEOUT_EVENTS] ++
  (List.range 7).map AY_POS_MEMBER ++
  (List.range 7).map AY_POS_STATE ++
  (List.range 7).map AY_POS_CAUSE ++
  (List.range 7).map AY_POS_HOLDER

/-- Fields of the MC_ registers, part 0. -/
def fieldsMC0 : List Field :=
  [MC_CTRL_ENABLE, MC_CTRL_LOCK, MC_CTRL_GEOM, MC_STAT_TRAINED, MC_STAT_REF2X, MC_STAT_SELF_REFRESH, MC_STAT_RANGE_ERR] ++
  (List.range 6).map MC_HASH_LO_MASK_LO ++
  (List.range 6).map MC_HASH_HI_MASK_HI ++
  (List.range 10).map MC_PORT_CFG_TARGET_NS ++
  (List.range 10).map MC_PORT_STAT_LATE ++
  (List.range 10).map MC_PORT_STAT_MAX_LAT

/-- Fields of the ME_ registers, part 0. -/
def fieldsME0 : List Field :=
  [ME_CTRL_SCRUB_EN, ME_CTRL_UNINIT_CNT, ME_STAT_SWEEP_DONE, ME_STAT_PRIO_WAIT, ME_STAT_SWEEP_SEG, ME_SEG_INVAL_SEGMENT, ME_CNT_DRAM_CE, ME_CNT_DRAM_UE, ME_CNT_DRAM_POISON, ME_CNT_SRAM_CE, ME_CNT_SRAM_UE, ME_CNT_UNINIT_COUNT, ME_ERR_ADDR_WORD, ME_ERR_INFO_PORT, ME_ERR_INFO_KIND, ME_ERR_INFO_DEVICE, ME_ERR_INFO_GROUP, ME_MERGE_STAT_USED_0, ME_MERGE_STAT_USED_1, ME_MERGE_STAT_RMW, ME_SCRUB_STAT_DRAM_PASS, ME_SCRUB_STAT_DRAM_PCT, ME_SCRUB_STAT_SRAM_PASS] ++
  (List.range 2).map ME_FLIP_D_ARM ++
  (List.range 2).map ME_FLIP_D_TWO ++
  (List.range 2).map ME_FLIP_D_DEV_A ++
  (List.range 2).map ME_FLIP_D_DEV_B ++
  (List.range 2).map ME_FLIP_D_SYM ++
  (List.range 2).map ME_FLIP_D_PATTERN ++
  (List.range 8).map ME_FLIP_S_ARM

/-- Fields of the ME_ registers, part 1. -/
def fieldsME1 : List Field :=
  (List.range 8).map ME_FLIP_S_TWO ++
  (List.range 8).map ME_FLIP_S_BIT_A ++
  (List.range 8).map ME_FLIP_S_BIT_B ++
  [ME_FLIP_HIT_WORD, ME_FLIP_HIT_GRP_GROUP]

/-- Fields of the CE_ registers, part 0. -/
def fieldsCE0 : List Field :=
  [CE_CTRL_ENABLE, CE_CTRL_LOCK, CE_STAT_ROOT_LOADED, CE_STAT_ERASED, CE_STAT_GCM_HOLD, CE_STAT_OPAL_ACTIVE, CE_ERR_LEN, CE_ERR_AUTH, CE_ERR_KEY_ERASED, CE_ERR_HWM_FAIL, CE_ERR_REFUSED, CE_KC_STAT_VALID, CE_KC_STAT_IN_USE, CE_KC_STAT_FULL_WAITS, CE_KC_STAT_MISSES, CE_NONCE_LO_COUNT_LO, CE_NONCE_HI_COUNT_HI, CE_HWM_LO_MARK_LO, CE_HWM_HI_MARK_HI, CE_GEN_GEN, CE_CNT_AUTH_FAILS, CE_CNT_LEN_ERRS]

/-- Fields of the GD_ registers, part 0. -/
def fieldsGD0 : List Field :=
  [GD_STAT_LEVEL, GD_STAT_PENDING, GD_STAT_SIGNED, GD_STAT_ROOT_OK, GD_STAT_RECOVERY, GD_STAT_ENTRIES, GD_BOOT_CNT_COUNT, GD_ALARM_VOLT, GD_ALARM_CLOCK, GD_ALARM_THERMAL, GD_ALARM_TAMPER, GD_ALARM_RAIL, GD_ALARM_LAST_CAUSE, GD_MIN_SVN_MIN, GD_MIN_SVN_RUNNING, GD_TICKET_ACTIVE, GD_TJ_TJ_MAX]

/-- Fields of the SC_ registers, part 0. -/
def fieldsSC0 : List Field :=
  [SC_TIME_LO_MS_LO, SC_TIME_HI_MS_HI, SC_STAT_VALID, SC_STAT_LOST, SC_STAT_ON_VBAT, SC_STAT_SETS]

/-- Fields of the DP_ registers, part 0. -/
def fieldsDP0 : List Field :=
  [DP_WS_WS, DP_ADDR_WORD, DP_DATA_LO_DATA_LO, DP_DATA_HI_DATA_HI, DP_CMD_OP, DP_STAT_CORE_BUSY, DP_STAT_BANK_BUSY, DP_STAT_BANK_SUSP, DP_STAT_RESULT, DP_ERR_BUSY_SELF, DP_ERR_PROTECTED, DP_ERR_OWNER, DP_ERR_NOT_ERASED, DP_ERR_PROG_FAIL, DP_ERR_ERASE_FAIL, DP_ERR_WEAR, DP_ERR_OVERRUN, DP_ERR_UNCORR, DP_WP_SET_SECTOR, DP_WP_SEL_GROUP, DP_WP_BITS, DP_SECT_SEL_SECTOR, DP_SECT_INFO_ERASES, DP_SECT_INFO_WORN, DP_CNT_CORR, DP_CNT_SUSPENDS]

/-- Fields of the TH_ registers, part 0. -/
def fieldsTH0 : List Field :=
  [TH_CTRL_ENABLE, TH_CTRL_LOCK, TH_STAT_COMPOSITE, TH_STAT_WARN, TH_STAT_THROTTLE, TH_STAT_STOPPING, TH_STAT_STEP, TH_STAT_DRAM_HOT, TH_SENS_SEL_INPUT, TH_SENS_TEMP, TH_SENS_ENABLED, TH_SENS_BROKEN, TH_SENS_CAUSE, TH_SENS_MAX, TH_BROKEN_MAP, TH_CNT_BROKEN_EVENTS, TH_CNT_THROTTLE_ENTRIES, TH_CNT_STEP_CHANGES, TH_TIME_WARN_MIN, TH_TIME_CRIT_MIN]

/-- Fields of the TK_ registers, part 0. -/
def fieldsTK0 : List Field :=
  [TK_RATE_RATE, TK_RATE_POOL_MAX, TK_WT_CHANNEL, TK_WT_DRAM, TK_WT_SOFT_DEC, TK_WT_CORE, TK_WT_SERDES, TK_WT_AE_BANK, TK_WT_LEAF, TK_STAT_LEVEL, TK_STAT_QUEUED, TK_STAT_AGED, TK_CNT_WAITS, TK_CNT_MAX_WAIT]

/-- Fields of the FG_ registers, part 0. -/
def fieldsFG0 : List Field :=
  [FG_STAT_GATE_OPEN, FG_STAT_DENIED, FG_STAT_DISARMED, FG_PCIE_PORT, FG_PCIE_KIND, FG_PCIE_COUNT, FG_PCIE_DELAY_US, FG_BL_PORT, FG_BL_KIND, FG_BL_COUNT, FG_BL_DELAY_US, FG_NAND_DIE_DIE, FG_NAND_KIND, FG_NAND_LEVELS, FG_NAND_COUNT, FG_NAND_EXTRA_US, FG_CNT_INJECTED, FG_DEPOT_PAGE_PAGE, FG_LANE_SEL_LANE, FG_LANE_CTRL_LOOP, FG_LANE_CTRL_PATTERN, FG_LANE_CTRL_RUN, FG_LANE_CTRL_LOCKED, FG_LANE_ERR_ERRORS]

/-- Fields of the CK_ registers, part 0. -/
def fieldsCK0 : List Field :=
  [CK_DOM_SEL_DOMAIN, CK_DOM_STAT_GATED, CK_DOM_STAT_POWERED]

/-- Every field of every vendor register of the window. -/
def all : List Field :=
  fieldsTT0 ++
  fieldsTT1 ++
  fieldsSB0 ++
  fieldsSB1 ++
  fieldsSB2 ++
  fieldsSB3 ++
  fieldsLD0 ++
  fieldsFT0 ++
  fieldsFT1 ++
  fieldsFT2 ++
  fieldsAE0 ++
  fieldsAE1 ++
  fieldsBL0 ++
  fieldsAY0 ++
  fieldsMC0 ++
  fieldsME0 ++
  fieldsME1 ++
  fieldsCE0 ++
  fieldsGD0 ++
  fieldsSC0 ++
  fieldsDP0 ++
  fieldsTH0 ++
  fieldsTK0 ++
  fieldsFG0 ++
  fieldsCK0

end Sys2Proof.Reg
end

