-- ==== Sys2Proof/Machine/Rulebook.lean ====
section
/-! DEFINITION. The Rulebook store in SRAM (R27, R28): the parameters that differ from their defaults, and the byte-string parameters. -/

namespace Sys2Proof

/-- A Rulebook: integer parameters given a value, and byte strings. A parameter not listed has its default. -/
structure Rulebook where
  ints : List (Param × Int) := []
  bytes : List (BytesParam × List Byte) := []
  deriving DecidableEq, Repr

namespace Rulebook

/-- Looks a parameter up in a list of given values. -/
def findInt : List (Param × Int) → Param → Option Int
  | [], _ => none
  | (q, v) :: t, p => if q = p then some v else findInt t p

/-- Looks a byte string up. -/
def findBytes : List (BytesParam × List Byte) → BytesParam → Option (List Byte)
  | [], _ => none
  | (q, v) :: t, p => if q = p then some v else findBytes t p

/-- The value of an integer parameter. -/
def get (r : Rulebook) (p : Param) : Int :=
  match findInt r.ints p with
  | some v => v
  | none =>
    match p with
    | .flashMinRateMts => min 2400 ((findInt r.ints .flashRateMts).getD 3600)
    | _ => p.dflt

/-- The value of a byte-string parameter; none when the record is absent. -/
def getBytes (r : Rulebook) (p : BytesParam) : Option (List Byte) := findBytes r.bytes p

end Rulebook

end Sys2Proof
end

