-- ==== Sys2Proof/Machine/StateMedia.lean ====
section
/-! DEFINITION. The state of the translation layer, the write buffer, relocation, patrol and hold-up (chapters 06 to 08). Docstrings give rule and reset value. -/

namespace Sys2Proof.Machine

/-- A logical block as it is stored: the key it was encrypted under (slot, creation count, media key generation, range generation), its LBA and its plaintext. Decryption under the same key and LBA gives the plaintext back (R17, R410). -/
structure Cipher where
  /-- namespace slot of the key it was encrypted under (R411) -/
  slot : Nat
  /-- creation count of that namespace (R134) -/
  creation : Nat
  /-- media key generation then (R425) -/
  mediaGen : Nat
  /-- range key generation then (R424) -/
  rangeGen : Nat
  /-- LBA, the tweak of its encryption -/
  lba : Nat
  /-- its plaintext, as the host wrote it -/
  plain : Block
  deriving DecidableEq, Repr

/-- The key slot of a block stored as the bytes it came in: a worker's volume and an array's parity (R335, R361). -/
def rawSlot : Nat := 65535

/-- The key slot of a block that a Write Uncorrectable of an array namespace buffers: zeros on the members, an error to a reader. -/
def lostSlot : Nat := 65534

/-- Parcel states of R143. -/
inductive ParcelState where
  | free | reserved | filled | placed | stripeWait | clean
  deriving DecidableEq, Repr

/-- One parcel of the write buffer (R143 to R145, R208). -/
structure Parcel where
  /-- FREE, RESERVED, FILLED, PLACED, waiting for its stripe, CLEAN (R143) -/
  state : ParcelState := .free
  /-- namespace slot of its IU -/
  slot : Nat := 0
  /-- index of its IU -/
  iu : Nat := 0
  /-- part of the IU, 0 for the first parcel -/
  part : Nat := 0
  /-- first parcel of the IU: the one its map entry names -/
  first : Nat := 0
  /-- its logical blocks, in order -/
  blocks : List Cipher := []
  /-- flash location the write displaced, none when there was none (R145) -/
  displaced : Option Nat := none
  /-- parcel the write superseded, kept until the writer commits (R208, R294) -/
  superseded : Option Nat := none
  /-- its write has passed its completion point (R208) -/
  committed : Bool := false
  /-- command context of the write -/
  ctx : Nat := 0
  /-- fetch sequence of the write -/
  seq : Nat := 0
  /-- completion-point sequence of the write (R20) -/
  cpSeq : Nat := 0
  /-- write sequence given at placement (R141) -/
  wseq : Nat := 0
  /-- MERGE flag of its tag: a merge write (R135, R141) -/
  merge : Bool := false
  /-- raised to the front of the Stopping-class program queue (R20, R203) -/
  urgent : Bool := false
  /-- a recovery restored it: its destage waits for the resync (R362, R380) -/
  restored : Bool := false
  /-- reclaim unit handle and group the write names, when it names one (R149) -/
  place : Option (Nat × Nat) := none
  /-- record group of its command and atomic unit (R214) -/
  grp : Nat := 0
  /-- superblock serial, stripe, position once placed -/
  unit : Option (Nat × Nat × Nat) := none
  deriving DecidableEq, Repr

/-- Codewords of the metadata stream that lie together in one unit (R141, R148): open parity of a stripe, or a checkpoint. -/
structure Meta where
  /-- first codeword of the unit they take -/
  first : Nat
  /-- how many there are -/
  count : Nat
  /-- namespace identifier of their tag (R141) -/
  tag : Nat
  /-- LBA field of their tag: superblock serial or segment number (R141) -/
  lba : Nat
  /-- number of the first of them within the open parity of its stripe, or within its checkpoint -/
  start : Nat
  /-- stripe the open parity is of (R150) -/
  stripe : Nat
  deriving DecidableEq, Repr

/-- A program unit of a superblock (R148): the parcels or relocated source locations it takes, in codeword order. -/
structure PUnit where
  /-- parcels it carries, by number -/
  parcels : List Nat := []
  /-- locations given to the IUs of `parcels` -/
  locs : List Nat := []
  /-- relocated IUs: source location and location given -/
  copies : List (Nat × Nat) := []
  /-- metadata codewords it carries (R141, R150, R161) -/
  metas : List Meta := []
  /-- it holds padding (R146) -/
  pad : Bool := false
  /-- its program ended with FAIL (R155) -/
  failed : Bool := false
  /-- lowest tick at which a parcel was placed (R146) -/
  since : Nat := 0
  deriving DecidableEq, Repr

/-- Life of a superblock (R148 to R160). -/
inductive SbState where
  | open_ | closed | verified | failedVerify | eligible
  deriving DecidableEq, Repr

/-- A superblock (R148). -/
structure Superblock where
  /-- die group it belongs to -/
  group : Nat
  /-- stream it is filled with (R148) -/
  stream : Stream
  /-- open, closed, verified, failed verification or eligible (R148 to R160) -/
  state : SbState := .open_
  /-- dies in ascending number: the positions -/
  dies : List Nat
  /-- block numbers, for each position one per plane -/
  blocks : List (List Nat)
  /-- its layout has a close-parity position (R148, R151) -/
  closeParity : Bool
  /-- it is programmed in SLC mode -/
  slc : Bool
  /-- the PAR of R114 fixed for it (R148) -/
  par : Nat
  /-- program units by stripe * 64 + position -/
  units : Table PUnit := []
  /-- unit being filled, as stripe * 64 + position -/
  cursor : Nat := 0
  /-- codewords of the unit being filled that are used -/
  used : Nat := 0
  /-- stripes that have passed (R150) -/
  passed : List Nat := []
  /-- stripes whose close parity was programmed (R153) -/
  parity : List Nat := []
  /-- valid IUs -/
  valid : Nat := 0
  /-- highest sequence of a record that moved an entry away (R160) -/
  lastInval : Nat := 0
  /-- superblocks that received IUs relocated out of it (R160) -/
  dests : List Nat := []
  /-- it has been thinned (record type 0x08 of R158) -/
  thinned : Bool := false
  /-- open-parity and checkpoint codewords it holds that are not yet obsolete (metadata superblocks) -/
  openParity : Nat := 0
  /-- metadata superblocks that hold its open parity, with the number of codewords (R150, R152) -/
  parityIn : List (Nat × Nat) := []
  /-- positions whose blocks are marked for retirement at its erase (R155) -/
  retirePos : List Nat := []
  /-- verification samples read so far (R154) -/
  verified : Nat := 0
  /-- blocks that gave a failing sample in its verification (R154) -/
  failing : List Nat := []
  /-- a verification sample of it failed (R154) -/
  verifyFailed : Bool := false
  deriving DecidableEq, Repr

/-- A journal record (R158). -/
structure JRecord where
  /-- map entry it records, 40 bits (R158) -/
  entry : Nat
  /-- IU index it concerns (R158) -/
  index : Nat
  /-- NSX, the namespace slot (R158) -/
  nsx : Nat
  /-- record type (R158) -/
  type : Nat
  /-- its sequence number (R158) -/
  seq : Nat
  deriving DecidableEq, Repr

/-- A journal page that is committed: its 1024 records and the places of its two copies, each a block number and a page (R159). -/
structure JPage where
  /-- its records, fillers included -/
  recs : List JRecord
  /-- block number and page of each copy -/
  places : List (Nat × Nat)
  deriving DecidableEq, Repr

/-- A codeword group on flash: what a location (a 40-bit entry's low 37 bits) holds: tags and data of one IU (R113, R141). -/
structure Stored where
  /-- namespace slot -/
  slot : Nat
  /-- namespace identifier of the tag -/
  nsid : Nat
  /-- IU index -/
  iu : Nat
  /-- write sequence of the tag (R141) -/
  wseq : Nat
  /-- written by relocation -/
  reloc : Bool
  /-- merge flag of the tag -/
  merge : Bool
  /-- its logical blocks as stored -/
  blocks : List Cipher
  deriving DecidableEq, Repr

/-- A journal record that waits for the rest of its atomic unit (R214): the record, the write it settles and the flash location it displaces. -/
structure Pending where
  /-- the record that waits -/
  record : JRecord
  /-- fetch sequence * 2^40 + IU of the write it settles -/
  iuTok : Nat
  /-- flash location the record displaces, none when there is none -/
  displaced : Option Nat
  deriving DecidableEq, Repr

/-- What is known of one block (R120, R154, R163, R181). -/
structure BlockInfo where
  /-- serial of the superblock it belongs to; none in the Sidings -/
  serial : Option Nat := none
  /-- eligible and not yet erased (R160, R163) -/
  dirty : Bool := false
  /-- the block is retired (R155) -/
  retired : Bool := false
  /-- it is a block of the journal (R148, R159) -/
  journal : Bool := false
  /-- suspect marks (R154) -/
  suspects : Nat := 0
  /-- Milepost counter in DRAM (R181) -/
  milepost : Nat := 0
  /-- Milepost counter as last saved with the per-block tables (R181) -/
  savedMilepost : Nat := 0
  /-- a block check is queued (R182) -/
  check : Bool := false
  /-- page that caused the queued check, none where a counter did not name one (R182) -/
  checkPage : Option Nat := none
  deriving DecidableEq, Repr

/-- The Lengthman's walk of one block (R177, R178): samples read, the worst of them, the page of the highest corrected bits. -/
structure Walk where
  /-- samples read so far -/
  n : Nat := 0
  /-- worst sample so far -/
  worst : SampleWorst := ⟨0, 0, false, false⟩
  /-- page whose sample had the most corrected bits (R179) -/
  page : Nat := 0
  deriving DecidableEq, Repr

/-- A saved checkpoint of a map segment (R161). -/
structure Checkpoint where
  /-- first sequence replayed on it (R161) -/
  start : Nat
  /-- map entries of the segment, those not DEALLOC -/
  entries : Table Nat
  /-- metadata superblock that holds it, with its number of codewords (R148, R169) -/
  at_ : Option (Nat × Nat) := none
  deriving DecidableEq, Repr

/-- A namespace (R133, R134, R304, R313). -/
structure Namespace where
  /-- namespace identifier -/
  nsid : Nat
  /-- IU shift, 12 or 14 -/
  iuShift : Nat
  /-- LBA format 0 (512 B) or 1 (4 KiB) -/
  lbaf : Nat
  /-- size in logical blocks -/
  nsze : Nat
  /-- creation count, part of the key context (R134) -/
  creation : Nat
  /-- map granules held (R136) -/
  granules : Nat
  /-- controllers it is attached to, a mask -/
  attached : Nat
  /-- array namespace (manager mode) -/
  array : Bool := false
  /-- placement handles (R149) -/
  handles : List Nat := []
  /-- a format of it runs -/
  formatting : Bool := false
  /-- NMIC bit 0: it may be attached to two controllers (R304) -/
  shared : Bool := false
  /-- reservation registrants: controller and key (R289) -/
  registrants : List (Nat × Nat) := []
  /-- reservation holder's controller, none without a reservation (R289) -/
  holder : Option Nat := none
  /-- reservation type (R289) -/
  rtype : Nat := 0
  /-- Persist Through Power Loss (R289) -/
  ptpl : Bool := false
  /-- reservation generation (R289) -/
  resGen : Nat := 0
  deriving DecidableEq, Repr

/-- Collection state of a die group (R169, R175, R186). -/
structure Group where
  /-- active victim's serial -/
  victim : Option Nat := none
  /-- source of the active victim, 1 to 6 (R170) -/
  source : Nat := 0
  /-- queued superblocks: source and serial (R170) -/
  queue : List (Nat × Nat) := []
  /-- collection debt in 1/1,000,000 of a program unit (R175) -/
  debt : Nat := 0
  /-- host programs wait: the debt is above its limit (R175) -/
  hostWait : Bool := false
  /-- a host program unit waits for a superblock that cannot open (R176) -/
  openWait : Bool := false
  /-- a stripe waits for room for its open parity (R150) -/
  metaWait : Bool := false
  /-- numerator of Q (R186) -/
  qNum : Nat := 0
  /-- denominator of Q (R186) -/
  qDen : Nat := 1
  /-- S0 of R186 -/
  s0 : Nat := 0
  /-- superblocks queued as source 6 today (R185) -/
  staticToday : Nat := 0
  deriving DecidableEq, Repr

/-- An incident record (R404). -/
structure Incident where
  /-- incident number (R404) -/
  num : Nat
  /-- Station clock seconds, 32 bits, 0xFFFFFFFF when the clock is not valid (R404) -/
  secs : Nat
  /-- tick count at the incident (R404) -/
  tick : Nat
  /-- incident class (R404) -/
  cls : Nat
  /-- requester port or channel (R404) -/
  port : Nat
  /-- address (R404) -/
  addr : Nat
  /-- device or location within the word (R404) -/
  dev : Nat
  /-- class data -/
  info : List Nat
  deriving DecidableEq, Repr

/-- A hold-up superblock that a flush wrote, with what its summary records (R204). -/
structure HoldSum where
  /-- its serial -/
  serial : Nat
  /-- the summary was programmed -/
  written : Bool := false
  /-- parcels flushed into it -/
  parcels : Nat := 0
  /-- lowest WSEQ among them -/
  lo : Nat := 0
  /-- highest WSEQ among them -/
  hi : Nat := 0
  deriving DecidableEq, Repr

/-- What survives every reset of the device because it lies on flash. [DESIGN CHOICE, log 3] -/
structure Nand where
  /-- user data by location -/
  content : Table Stored := []
  /-- durable journal records, ascending sequence (R158) -/
  journal : List JRecord := []
  /-- journal pages that are durable and not reclaimed: first and last sequence, places of the copies (R159, R161) -/
  jpages : List (Nat × Nat × List (Nat × Nat)) := []
  /-- journal blocks being filled: block number and next page, one for each copy (R159) -/
  jopen : List (Nat × Nat) := []
  /-- checkpoints by segment, the per-block tables' from 2^27 on (R161) -/
  ckpt : Table Checkpoint := []
  /-- superblocks by serial (their headers, R148) -/
  sbs : Table Superblock := []
  /-- block information saved with the checkpoints -/
  blocks : Table BlockInfo := []
  /-- a clean-shutdown mark stands, with the Station clock time (R275) -/
  cleanMark : Option Nat := none
  /-- namespaces by slot -/
  ns : Table Namespace := []
  /-- Station clock, ms, at the last checkpoint, none where it was not valid (R180) -/
  ckptMs : Option Nat := none
  /-- PAR recorded in the headers; none before the first format (R114) -/
  par : Option Nat := none
  /-- TNVMCAP in bytes, fixed at the last format (R165) -/
  tnvmcap : Nat := 0
  /-- recoveries since the first format (FT_HU_CNT.UNCLEAN) -/
  unclean : Nat := 0
  /-- hold-up superblocks written by the last flush (R204, R209) -/
  flushed : List HoldSum := []
  /-- parcels of the last flush (FT_HU_FLUSH) -/
  flushParcels : Nat := 0
  /-- duration of the last flush, units of 100 us (FT_HU_TIME) -/
  flushTime : Nat := 0
  /-- cause of the last flush: 1 power, 2 thermal, 0 none yet -/
  flushCause : Nat := 0
  /-- the last flush was complete -/
  flushOk : Bool := true
  /-- minutes at or above the warning threshold, as saved with the last checkpoint (R477) -/
  warnMin : Nat := 0
  /-- minutes at or above the shutdown threshold, as last saved (R477) -/
  critMin : Nat := 0
  /-- isolated dies whose superblocks have been given up and whose share is settled since the last format (R157, R186) -/
  lostDies : List Nat := []
  /-- creation counts by slot (R304) -/
  creations : Table Nat := []
  /-- incident records as last saved, newest first (R404) -/
  incidents : List Incident := []
  /-- the next incident number (R404) -/
  nextIncident : Nat := 0
  deriving DecidableEq, Repr

/-- Phases of a bank measurement (R198, R199). -/
inductive Measure where
  | idle
  /-- the limit is lowered and the dirty count must fall (repeat measurement) -/
  | lowering
  | settling
  | discharging
  deriving DecidableEq, Repr

/-- Phases of a power-loss flush (R207 to R211). -/
inductive FlushPhase where
  | none
  | running
  /-- FLUSH_DONE: the device waits for the input -/
  | done
  /-- stopped before the end -/
  | stopped
  deriving DecidableEq, Repr

/-- What a flush program writes (R209). -/
inductive FlushKind where
  | data | parity | summary | journal
  deriving DecidableEq, Repr

/-- One flush program (R209): its group, hold-up superblock, stripe and position, the parcels it carries. -/
structure FlushUnit where
  /-- group it was planned in -/
  group : Nat
  /-- what it holds (R209) -/
  kind : FlushKind
  /-- serial of its hold-up superblock (R208) -/
  serial : Nat
  /-- its stripe -/
  stripe : Nat
  /-- its position in the stripe -/
  pos : Nat
  /-- die that programs it -/
  die : Nat
  /-- parcels it carries -/
  parcels : List Nat
  /-- it has been loaded and runs -/
  loaded : Bool := false
  /-- it has ended: passed, or failed and not placed again -/
  ended : Bool := false
  /-- it passed -/
  passed : Bool := false
  deriving DecidableEq, Repr

/-- The media side of the device. [DESIGN CHOICE, log 3; DESIGN CHOICE, log 16; DEDUCED, log 46] -/
structure Media where
  /-- what lies on flash -/
  nand : Nand := {}
  /-- map entries by slot * 2^40 + IU index, 40 bits; unlisted DEALLOC (R137, R138); reset none -/
  map : Table Nat := []
  /-- lines whose INIT is 1, as slot * 2^40 + line (R138, R139); reset none -/
  initLines : List Nat := []
  /-- lines with an uncorrectable error, as slot * 2^40 + line (R140); reset none -/
  badLines : List Nat := []
  /-- parcels by number; unlisted FREE (R143) -/
  parcels : Table Parcel := []
  /-- open journal page: records not yet programmed (R159); reset none -/
  openPage : List JRecord := []
  /-- journal pages whose two programs run, oldest first (R159, R214); reset none -/
  pages : List JPage := []
  /-- sequence of the next record (R158); reset 0 -/
  nextSeq : Nat := 0
  /-- durable sequence: every record below it is durable (R159); reset 0 -/
  durable : Nat := 0
  /-- record groups waiting for the rest of their atomic unit: key, IUs left, records (R214) -/
  groups : Table (Nat × List Pending) := []
  /-- next write sequence (R141); reset 0 -/
  wseq : Nat := 0
  /-- next superblock serial (R148); reset 0 -/
  nextSerial : Nat := 0
  /-- segments in load order not yet loaded (R162); reset none -/
  toLoad : List Nat := []
  /-- segments changed since their checkpoint, with the sequence of the first change (R161) -/
  dirtySegs : Table Nat := []
  /-- die groups by number -/
  groupsSt : Table Group := []
  /-- next group in rotation for writes without a placement directive (R149); reset 0 -/
  rotate : Nat := 0
  /-- patrol pass n (R177); reset 0 -/
  pass : Nat := 0
  /-- samples left in the pass (R177); reset 0 -/
  samplesLeft : Nat := 0
  /-- samples registered in the pass (R177); reset 0 -/
  samplesDone : Nat := 0
  /-- samples of the whole pass (R177); reset 0 -/
  samplesTotal : Nat := 0
  /-- blocks the pass has still to walk, in order (R177); reset none -/
  walkBlocks : List Nat := []
  /-- samples registered and not yet read, as locations (R177); reset none -/
  due : List Nat := []
  /-- next sample of the first of them (R177); reset 0 -/
  walkPos : Nat := 0
  /-- samples of the walk in progress by block (R178); reset none -/
  walk : Table Walk := []
  /-- tracking reads to make: block number, page (R179); reset none -/
  trackDue : List (Nat × Nat) := []
  /-- block checks in progress by block: pages read, the worst sample (R182); reset none -/
  checks : Table (List Nat × SampleWorst) := []
  /-- codewords read and decoded for relocation, by location (R171); reset none -/
  readCopies : List Nat := []
  /-- tracking senses by block: index, corrected bits, good (R122, R179) -/
  sense : Table (List (Int × Nat × Bool)) := []
  /-- codewords read in the hour (R189); reset 0 -/
  hourReads : Nat := 0
  /-- codewords above the early-warning bits in the hour (R189); reset 0 -/
  hourEw : Nat := 0
  /-- codewords that needed level 1 or above in the hour (R189); reset 0 -/
  hourRetry : Nat := 0
  /-- host reads in the hour (R189); reset 0 -/
  hourHost : Nat := 0
  /-- host reads that lost their class in the hour (R189); reset 0 -/
  hourLoss : Nat := 0
  /-- rates of the last full hour, per million: EW, level 1 and above, class loss (R189, R311); reset 0 -/
  rates : List Nat := [0, 0, 0]
  /-- capacitance in uF of the last good measurement (R198); reset 0 -/
  cap : Nat := 0
  /-- step of the bank measurement in progress (R198); reset idle -/
  measure : Measure := .idle
  /-- the last HOLDUP_SENSE conversion was at full scale (R516); reset false -/
  bankFull : Bool := false
  /-- TENDER_MAX may not exceed this until the repeat measurement ends (R199); reset none -/
  measureCap : Option Nat := none
  /-- tick of the end of the last measurement (R199); reset 0 -/
  measuredAt : Nat := 0
  /-- time TENDER_MAX has been below min_parcels, ms (R203); reset 0 -/
  sagMs : Nat := 0
  /-- a repeat measurement is under way, so TENDER_MAX is no sag (R199); reset false -/
  repeatRun : Bool := false
  /-- the boot measurement has ended (R199); reset false -/
  bootMeasured : Bool := false
  /-- consecutive samples of VIN below vin_fail_mv, 10 us apart (R205); reset 0 -/
  vinLow : Nat := 0
  /-- power fail was declared while a thermal flush ran, or after it (R481, R482); reset false -/
  alsoFailed : Bool := false
  /-- time the input has been above it again, us (R206); reset 0 -/
  vinHigh : Nat := 0
  /-- HOLDUP_CHG_EN output (R197); reset high -/
  chgEn : Bool := true
  /-- HOLDUP_DIS output, the discharge load (R198); reset low -/
  dis : Bool := false
  /-- step of the flush after a power-fail declaration or thermal stop (R207); reset none -/
  flush : FlushPhase := .none
  /-- programs of the flush in progress (R209) -/
  flushUnits : List FlushUnit := []
  /-- tick at which it began (R207) -/
  flushStart : Nat := 0
  /-- the write buffer drains before a Buffer stop flush end (R192); reset false -/
  bstopFlush : Bool := false
  /-- positions of superblocks whose valid IUs are relocated in the Stopping class after a program failure (R155) -/
  moves : List (Nat × Nat) := []
  /-- background work is stopped after SHST 0b10 (R275); reset false -/
  quiesced : Bool := false
  deriving DecidableEq, Repr

end Sys2Proof.Machine
end

