-- ==== Sys2Proof/Machine/StateHost.lean ====
section
/-! DEFINITION. The state of the Associative Engine, the NVMe controllers and the command contexts (chapters 09 and 11). Docstrings give rule and reset value. -/

namespace Sys2Proof.Machine

/-- An engine entry (R222): its units' values and care masks; the position is the key it is stored under, bank * 4096 + first unit. -/
structure AeEntry where
  /-- value of each unit, 64 bits (R222) -/
  value : List U64
  /-- care mask of each unit, 64 bits (R222) -/
  care : List U64
  /-- its valid bit (R222) -/
  valid : Bool
  /-- engine SRAM word of a Parcels entry: PIN (R238) -/
  pin : Nat := 0
  deriving DecidableEq, Repr

/-- A search request (R223). -/
structure Search where
  /-- search port, 0 or 1 (R223) -/
  port : Nat
  /-- units of the key, 1 to 8 (R223) -/
  width : Nat
  /-- the key, by unit (R223) -/
  key : List U64
  /-- the search mask, by unit (R223) -/
  mask : List U64
  /-- banks it searches (R223) -/
  banks : List Nat
  /-- first position to report (R223) -/
  start : Nat
  deriving DecidableEq, Repr

/-- Associative Engine (R222 to R241). [DESIGN CHOICE, log 3] -/
structure Ae where
  /-- entries by position; an unlisted position is not valid (R222) -/
  entries : Table AeEntry := []
  /-- search port 0 is stopped by an uncorrectable unit (R228); reset false -/
  stopped0 : Bool := false
  /-- search port 1 is stopped by an uncorrectable unit (R228); reset false -/
  stopped1 : Bool := false
  /-- bank-searches in the 1 us window (R227); reset 0 -/
  window : Nat := 0
  /-- bank-searches since the period began, for RATE_AVG -/
  periodCount : Nat := 0
  /-- windows since the period began, for RATE_AVG -/
  windows : Nat := 0
  /-- searches waiting for the next window or a stopped port, in order (R227, R228); reset none -/
  waiting : List Search := []
  deriving DecidableEq, Repr

/-- State word of a command (R230, R235, R296). -/
inductive IlState where
  | waiting | active | done | aborted
  deriving DecidableEq, Repr

/-- A status field of a completion entry: type (0 generic, 1 command specific, 2 media, 3 path, 7 vendor), code, DNR. -/
structure Status where
  /-- Status Code Type, 3 bits -/
  sct : Nat
  /-- Status Code, 8 bits -/
  sc : Nat
  /-- Do Not Retry -/
  dnr : Bool
  deriving DecidableEq, Repr

/-- Where a command runs (R14). -/
inductive Path where
  | mainline | firmware
  deriving DecidableEq, Repr

/-- A command context (R280). [DEDUCED, log 50] -/
structure Ctx where
  /-- controller, 0 A or 1 B -/
  ctl : Nat
  /-- submission queue it was fetched from -/
  sqid : Nat
  /-- its submission queue entry -/
  sqe : Sqe
  /-- fetch sequence number (R280) -/
  seq : Nat
  /-- how far it has come (R235) -/
  path : Path
  /-- Express class of a Read (R291) -/
  express : Bool := false
  /-- a worker's READ of class 2 (R337) -/
  goods : Bool := false
  /-- positions of its Interlocking entries (R230) -/
  il : List Nat := []
  /-- its entries are in the engine (R233) -/
  inserted : Bool := false
  /-- blocker count (R233) -/
  blockers : Nat := 0
  /-- its command word of R234 -/
  word : IlState := .active
  /-- its meaning has run -/
  started : Bool := false
  /-- status it completes with, once known -/
  status : Option Status := none
  /-- Dword 0 of its completion -/
  dw0 : Nat := 0
  /-- lookups (IU index, part) not yet resolved that its completion waits for -/
  todo : List (Nat × Nat) := []
  /-- open codeword jobs it waits for -/
  jobs : List Nat := []
  /-- parcels pinned for it (R15) -/
  pinned : List Nat := []
  /-- parcels reserved for it (R144) -/
  parcels : List Nat := []
  /-- entries it changed: slot * 2^40 + IU, replaced entry, own entry (R208, R294) -/
  changed : List (Nat × Nat × Nat) := []
  /-- the completion waits until the durable sequence reaches this (R18, R20, R285) -/
  needDurable : Option Nat := none
  /-- written IUs, as fetch sequence * 2^40 + IU of the write, whose journal record a Flush or a write-through completion waits for (R20) -/
  waitIus : List Nat := []
  /-- completes only after step 9 (R18, R285) -/
  throughWrite : Bool := false
  /-- reservation accepted before the Buffer stop (R191) -/
  accepted : Bool := false
  /-- left the first-attempt class (R127) -/
  leftClass : Bool := false
  /-- data read, blocks in LBA order, or the data structure returned -/
  data : List (Nat × Block) := []
  /-- host data of a Compare, by logical block (R287) -/
  cmp : List Block := []
  /-- ciphertext that a merge write keeps, by LBA (R135) -/
  merge : List (Nat × Cipher) := []
  /-- the sources of a Copy, or the old data of a delta, are being or have been read (R288) -/
  fetched : Bool := false
  /-- a worker's command: blocks that are unrecoverable (R338) -/
  lost : List Nat := []
  /-- a worker's command: blocks that are deallocated (R338) -/
  zeros : List Nat := []
  /-- parts that member reads or degraded reads have still to bring (R24, R368) -/
  remote : List (Nat × Nat) := []
  /-- bytes of a returned data structure -/
  bytes : List Nat := []
  /-- completion-point sequence (R20) -/
  cpSeq : Nat := 0
  /-- its completion entry has been posted -/
  posted : Bool := false
  /-- die of its Express reads (R53, R54) -/
  expDie : Option Nat := none
  /-- transfer ticks reserved beyond the first (R53, R54) -/
  extra : Nat := 0
  /-- fetch sequence numbers of the commands whose completion entries come before its own (R293, R297) -/
  after : List Nat := []
  /-- member commands it waits for (R314, R357, R358) -/
  members : Nat := 0
  /-- context an Abort names (R292) -/
  target : Option Nat := none
  /-- bytes of host data not yet asked for (R266) -/
  hostWant : Nat := 0
  /-- delay a slow die added to its array phase, ns (R507, R508) -/
  slow : Nat := 0
  /-- tick of its start event, or in which its Interlocking overlap cleared (R36, R40) -/
  start : Nat := 0
  deriving DecidableEq, Repr

/-- A submission queue (R276). [DEDUCED, log 46] -/
structure SubQueue where
  /-- entries, 1 to 65,536 -/
  size : Nat
  /-- head pointer -/
  head : Nat := 0
  /-- tail, as the doorbell last set it (R278) -/
  tail : Nat := 0
  /-- its completion queue -/
  cqid : Nat
  /-- priority class (R279) -/
  prio : Nat
  /-- base address -/
  base : Nat := 0
  /-- it lies in the controller memory buffer -/
  inCmb : Bool := false
  /-- a Delete of it waits for its commands (R297) -/
  deleting : Bool := false
  /-- doorbell writes whose entries are not all fetched: the tail each set, its tick (R36) -/
  bells : List (Nat × Nat) := []
  deriving DecidableEq, Repr

/-- A completion queue (R276). [DEDUCED, log 46] -/
structure CompQueue where
  /-- entries, 1 to 65,536 -/
  size : Nat
  /-- head, as the doorbell last set it (R278) -/
  head : Nat := 0
  /-- tail pointer -/
  tail : Nat := 0
  /-- phase tag of the next entry -/
  phase : Bool := true
  /-- interrupt vector -/
  vector : Nat
  /-- interrupts enabled -/
  ints : Bool := true
  /-- base address -/
  base : Nat := 0
  /-- it lies in the controller memory buffer -/
  inCmb : Bool := false
  deriving DecidableEq, Repr

/-- A read request the port has outstanding (R260, R265). -/
structure HostRead where
  /-- command context that owns it; none once its command has ended -/
  ctx : Option Nat
  /-- bytes asked for -/
  want : Nat
  /-- bytes received -/
  got : Nat := 0
  /-- the completion timeout it is timed against, in ns (R264) -/
  limitNs : Nat := 40000000
  /-- its completions are held by the Fogman (R507) -/
  held : Bool := false
  /-- bytes held back -/
  kept : Nat := 0
  /-- poison held back -/
  poison : Bool := false
  deriving DecidableEq, Repr

/-- An MSI-X table entry (R256). -/
structure MsixEntry where
  /-- message address, low word (R256) -/
  addrLo : Word := 0
  /-- message address, high word (R256) -/
  addrHi : Word := 0
  /-- message data (R256) -/
  data : Word := 0
  /-- Vector Control; bit 0 Mask, reset 1 (R256) -/
  control : Word := 1
  /-- its PBA bit -/
  pending : Bool := false
  deriving DecidableEq, Repr

/-- Interrupt coalescing of a vector (R305 0x08, 0x09). -/
structure Coalesce where
  /-- completion entries not yet signalled -/
  count : Nat := 0
  /-- CD of Interrupt Vector Configuration -/
  disabled : Bool := false
  deriving DecidableEq, Repr

/-- One error recorded in the AER header log (R262): a key for the header, none where the error records none. -/
inductive AerError where
  | receiverError | badTlp | badDllp | replayRollover | replayTimeout | advisoryNonFatal | correctedInternal | headerOverflow
  | dllProtocol | fcProtocol | receiverOverflow | malformedTlp | poisonedTlp | completionTimeout | unexpectedCompletion
  | unsupportedRequest | completerAbort | uncorrectableInternal
  deriving DecidableEq, Repr

/-- A PCIe port: link, configuration space, windows, tags (R244 to R270). [DESIGN CHOICE, log 3; DEDUCED, log 46] -/
structure Port where
  /-- held in reset: until link training is allowed (R496), in worker mode and strap fault; reset true -/
  inReset : Bool := true
  /-- the link is up; reset false -/
  linkUp : Bool := false
  /-- link speed in GT/s, 2 standing for 2.5; reset 0 -/
  speedGts : Nat := 0
  /-- link width in lanes; reset 0 -/
  width : Nat := 0
  /-- FLIT mode; reset false -/
  flit : Bool := false
  /-- 0 L0, 1 L1, 2 L1.1, 3 L1.2 -/
  l1 : Nat := 0
  /-- link training runs; reset false -/
  training : Bool := false
  /-- Command register: Memory Space Enable; reset false -/
  mse : Bool := false
  /-- Command register: Bus Master Enable; reset false -/
  bme : Bool := false
  /-- Command register: INTx disable; reset false -/
  intxDisable : Bool := false
  /-- base address of BAR0/1 (R249); reset 0 -/
  bar0 : Nat := 0
  /-- base address of BAR2/3 (R249); reset 0 -/
  bar2 : Nat := 0
  /-- base address of BAR4/5 (R249); reset 0 -/
  bar4 : Nat := 0
  /-- Device Control: relaxed ordering enable; base reset 1 -/
  relaxed : Bool := true
  /-- Device Control 2: 10-bit tag requester enable; reset false -/
  tag10 : Bool := false
  /-- Device Control: Max_Read_Request_Size code -/
  mrrs : Nat := 2
  /-- Device Control: Max_Payload_Size code -/
  mps : Nat := 0
  /-- Device Control 2: completion timeout value; reset 0 -/
  cto : Nat := 0
  /-- Device Control 2: completion timeout disable; reset false -/
  ctoDisable : Bool := false
  /-- Link Control: ASPM L1 enable; reset false -/
  aspmL1 : Bool := false
  /-- L1.1 enable; reset false -/
  l11 : Bool := false
  /-- L1.2 enable; reset false -/
  l12 : Bool := false
  /-- power state D3hot; reset D0 -/
  d3 : Bool := false
  /-- MSI-X Enable; reset false -/
  msixEnable : Bool := false
  /-- MSI-X Function Mask; reset false -/
  funcMask : Bool := false
  /-- MSI-X table by vector, 257 entries (R256) -/
  msix : Table MsixEntry := []
  /-- interrupt coalescing state by vector (R298) -/
  coal : Table Coalesce := []
  /-- AER status bits; sticky (R261, R262) -/
  aerStatus : List AerError := []
  /-- AER mask bits that differ from the defaults of R261; sticky (R262) -/
  aerMask : List AerError := [.correctedInternal, .headerOverflow, .uncorrectableInternal]
  /-- AER severity bits that differ from the defaults of R261; sticky (R262) -/
  aerFatal : List AerError := [.dllProtocol, .fcProtocol, .receiverOverflow, .malformedTlp, .uncorrectableInternal]
  /-- header log: recorded errors, oldest first, at most four (R262) -/
  headers : List AerError := []
  /-- read requests outstanding by tag (R260) -/
  reads : Table HostRead := []
  /-- quarantined tags, each with how long from its timeout, in ns (R266) -/
  quarantine : List (Nat × Nat) := []
  /-- reads issued before a function reset, whose completions are discarded without an error (R269): tag and bytes still to come -/
  stale : List (Nat × Nat) := []
  /-- tags that timed out while the Fogman held their completions (R507, R508) -/
  heldLate : List Nat := []
  /-- FLR in progress (R267) -/
  flr : Bool := false
  /-- no TLP until the next function reset (R261 Uncorrectable Internal Error); reset false -/
  tlpStop : Bool := false
  /-- CMBMSC: CRE; reset false -/
  cre : Bool := false
  /-- CMBMSC: CMSE; reset false -/
  cmse : Bool := false
  /-- CMBMSC: CBA; reset 0 -/
  cba : Nat := 0
  /-- bytes of the Controller Memory Buffer by offset; a byte not listed reads as zero (R255) -/
  cmb : Table Byte := []
  /-- VSEC: completion timeouts (R271); reset 0 -/
  timeouts : Nat := 0
  /-- VSEC: completions after their timeout (R271); reset 0 -/
  late : Nat := 0
  /-- VSEC: completions after a reset (R271); reset 0 -/
  afterReset : Nat := 0
  /-- VSEC: requests that hit no window (R271); reset 0 -/
  misses : Nat := 0
  /-- VSEC: poisoned writes dropped (R271); reset 0 -/
  poisonDrop : Nat := 0
  /-- VSEC: duration of the last function reset (R271); reset 0 -/
  flrDuration : Nat := 0
  /-- VSEC: silence before it (R271); reset 0 -/
  flrSilence : Nat := 0
  /-- VSEC: retrains (R271); reset 0 -/
  retrains : Nat := 0
  /-- VSEC: replays (R271); reset 0 -/
  replays : Nat := 0
  deriving DecidableEq, Repr

/-- An NVMe controller (R273 to R280, R305). [DESIGN CHOICE, log 3] -/
structure Controller where
  /-- CC.EN; reset 0 -/
  en : Bool := false
  /-- CC.CSS, 3 bits; reset 0 -/
  css : Nat := 0
  /-- CC.MPS, 4 bits; reset 0 -/
  mps : Nat := 0
  /-- CC.AMS, 3 bits; reset 0 -/
  ams : Nat := 0
  /-- CC.SHN, 2 bits; reset 0 -/
  shn : Nat := 0
  /-- CSTS.RDY; reset 0 -/
  rdy : Bool := false
  /-- CSTS.CFS; reset 0 -/
  cfs : Bool := false
  /-- CSTS.SHST, 2 bits; reset 0 -/
  shst : Nat := 0
  /-- CSTS.PP; reset 0 -/
  pp : Bool := false
  /-- INTMS bit 0; reset 0 -/
  intMask : Bool := false
  /-- INTA asserted -/
  inta : Bool := false
  /-- AQA.ASQS, 12 bits; reset 0 -/
  asqs : Nat := 0
  /-- AQA.ACQS, 12 bits; reset 0 -/
  acqs : Nat := 0
  /-- ASQ, 64 bits; reset 0 -/
  asq : Nat := 0
  /-- ACQ, 64 bits; reset 0 -/
  acq : Nat := 0
  /-- submission queues by identifier, the admin one under 0 (R276) -/
  sqs : Table SubQueue := []
  /-- completion queues by identifier, the admin one under 0 (R276) -/
  cqs : Table CompQueue := []
  /-- weighted round robin: credits of high, medium, low (R279) -/
  credits : List Nat := [0, 0, 0]
  /-- last queue served in each class (R279) -/
  lastServed : List Nat := [0, 0, 0, 0, 0]
  /-- turn in progress: queue and entries left (R279) -/
  turn : Option (Nat × Nat) := none
  /-- Arbitration: AB (R305); reset 7 -/
  ab : Nat := 7
  /-- Arbitration: low priority weight (R305); reset 0 -/
  lpw : Nat := 0
  /-- Arbitration: medium priority weight (R305); reset 0 -/
  mpw : Nat := 0
  /-- Arbitration: high priority weight (R305); reset 0 -/
  hpw : Nat := 0
  /-- outstanding Asynchronous Event Requests: contexts (R302) -/
  aers : List Nat := []
  /-- events waiting for a request: type, information, log page (R277, R310) -/
  events : List (Nat × Nat × Nat) := []
  /-- event types masked until their log page is read -/
  eventMasked : List Nat := []
  /-- Power Management feature: power state (R305); reset 0 -/
  powerState : Nat := 0
  /-- last operational power state (R486); reset 0 -/
  lastOp : Nat := 0
  /-- Temperature Threshold limits crossed at the last sample, as TMPSEL * 2 + (0 over, 1 under) (R309); reset none -/
  crossed : List Nat := []
  /-- Power Management feature: workload hint (R305); reset 0 -/
  workload : Nat := 0
  /-- Temperature Threshold, over, by TMPSEL (R305) -/
  overThresh : Table Nat := []
  /-- Temperature Threshold, under, by TMPSEL (R305) -/
  underThresh : Table Nat := []
  /-- Volatile Write Cache feature (R305, R306); reset on -/
  wce : Bool := true
  /-- a write fetched before this sequence number is write-through: WCE was set after it (R306) -/
  wceSeq : Nat := 0
  /-- Interrupt Coalescing feature: threshold (R305); reset 0 -/
  coalThr : Nat := 0
  /-- Interrupt Coalescing feature: time (R305); reset 0 -/
  coalTime : Nat := 0
  /-- Write Atomicity Normal: Disable Normal (R305); reset false -/
  dn : Bool := false
  /-- Asynchronous Event Configuration (R305); reset 0 -/
  aec : Nat := 0
  /-- Autonomous Power State Transition enable (R305); reset false -/
  apstEnable : Bool := false
  /-- its table: state and idle time (R305); reset none -/
  apst : List (Nat × Nat) := []
  /-- Non-Operational Power State Config: NOPPME (R305); reset false -/
  noppme : Bool := false
  /-- vendor feature: vendor events enabled, a mask (R305, R310); reset 0 -/
  vendorEvents : Nat := 0
  /-- Reservation Notification Mask by namespace slot (R305 0x81) -/
  resMask : Table Nat := []
  /-- reservation notifications, oldest first: log page count, type, NSID (R308 0x80) -/
  resLog : List (Nat × Nat × Nat) := []
  /-- log page count of the next reservation notification (R308) -/
  resCount : Nat := 0
  /-- saved values by feature identifier (R305) -/
  saved : Table (List Nat) := []
  /-- Error Information log, newest first, at most 256: error count, submission queue, CID, status (R308) -/
  errLog : List (Nat × Nat × Nat × Status) := []
  /-- errors counted so far (R308) -/
  errCount : Nat := 0
  /-- Changed Namespace List (R308) -/
  changedNs : List Nat := []
  /-- 512-byte units of host data read since the first format (R309) -/
  dataRead : Nat := 0
  /-- 512-byte units of host data written since the first format (R309) -/
  dataWritten : Nat := 0
  deriving DecidableEq, Repr

/-- A device self-test in progress (R315 to R317). -/
structure SelfTest where
  /-- the extended test, else the short one (R315) -/
  extended : Bool
  /-- its NSID -/
  nsid : Nat
  /-- controller that started it -/
  ctl : Nat
  /-- the media pass is suspended (R316) -/
  suspended : Bool := false
  deriving DecidableEq, Repr

/-- A sanitize operation (R318, R319). -/
structure Sanitize where
  /-- SANACT: 2 block erase, 3 overwrite, 4 crypto erase -/
  action : Nat
  /-- AUSE -/
  ause : Bool
  /-- OWPASS, the overwrite passes -/
  owpass : Nat
  /-- OVRPAT, the overwrite pattern -/
  ovrpat : Word
  /-- OIPBP, the pattern is inverted between passes -/
  oipbp : Bool
  /-- it runs -/
  running : Bool
  /-- it failed and stays so -/
  failed : Bool
  /-- a member answered something other than OK, or could not be reached (R358) -/
  memberBad : Bool
  /-- a die was isolated while it runs, which fails it (R319) -/
  dieLost : Bool := false
  deriving DecidableEq, Repr

/-- State of the administration side, shared by both controllers (chapter 12). [DESIGN CHOICE, log 3; DESIGN CHOICE, log 16] -/
structure Admin where
  /-- next fetch sequence number and completion-point sequence: one counter (R280, R20); reset 0 -/
  seq : Nat := 0
  /-- command contexts by number, at most 16,384 (R280) -/
  ctxs : Table Ctx := []
  /-- the self-test in progress (R315); reset none -/
  selfTest : Option SelfTest := none
  /-- 20 newest self-test results: code, result, NSID, segment (R317) -/
  testLog : List (Nat × Nat × Nat × Nat) := []
  /-- the sanitize operation in progress or failed (R318); reset none -/
  sanitize : Option Sanitize := none
  /-- Sanitize Status: 0 never, 1 completed, 2 in progress, 3 failed (R318) -/
  sanStatus : Nat := 0
  /-- Global Data Erased (R318) -/
  globalErased : Bool := false
  /-- firmware staging buffer: parts as (offset, length) (R320) -/
  fwParts : List (Nat × Nat) := []
  /-- package bytes of the firmware staging buffer (R320) -/
  fwBytes : List Byte := []
  /-- firmware slots by number: what the checks of the stored package give (R321) -/
  fwSlots : Table ImageCheck := []
  /-- active firmware slot (AFI, R321); reset 1 -/
  activeSlot : Nat := 1
  /-- slot that becomes active at the next reset (AFI, R321); reset none -/
  pendingSlot : Option Nat := none
  /-- type of the image in the Depot staging buffer (R324) -/
  depotType : Nat := 0
  /-- bytes of the Depot image staging buffer (R324) -/
  depotBytes : List Byte := []
  /-- activation drains: context that waits, slot (R322); reset none -/
  activation : Option (Nat × Nat) := none
  /-- vendor events pending (R310) -/
  vendorPending : List Nat := []
  /-- FDP enabled (R307); reset false -/
  fdp : Bool := false
  /-- FDP event types disabled, per handle (R305 0x1E) -/
  fdpMasked : List Nat := []
  /-- FDP events so far -/
  fdpEvents : Nat := 0
  /-- IUs relocated, for the FDP statistics -/
  fdpRelocated : Nat := 0
  /-- critical warning bit 4 (R216) -/
  backupFailed : Bool := false
  /-- configuration events of this boot: accepted dies counted below expected_dies (R81); reset none -/
  configEvents : List Nat := []
  /-- LEFT_CLASS accumulated since format (R311) -/
  leftClassTotal : Nat := 0
  /-- media and integrity errors (R309) -/
  mediaErrors : Nat := 0
  /-- Rulebook status of the configuration page (R312) -/
  rbStatus : Nat := 4
  /-- first Rulebook parameter out of range (R312) -/
  rbFirstBad : Nat := 0
  /-- how the PAR in force was chosen (R114, R312); reset 1 -/
  parStatus : Nat := 1
  deriving DecidableEq, Repr

end Sys2Proof.Machine
end

