-- ==== Sys2Proof/Machine/StateBranch.lean ====
section
/-! DEFINITION. The state of the Branch Link and of the array engine (chapters 13 and 14). Docstrings give rule and reset value. -/

namespace Sys2Proof.Machine

/-- A transaction packet as it is sent (R329, R330): TYPE, LAST, TAG, PARAM bytes, payload before the GCM encryption. -/
structure BlPacket where
  /-- TYPE (R330) -/
  typ : Nat
  /-- LAST (R330) -/
  last : Bool := false
  /-- TAG (R330) -/
  tag : Nat := 0
  /-- PARAM bytes (R330) -/
  param : List Nat := []
  /-- payload before encryption -/
  body : List Byte := []
  deriving DecidableEq, Repr

/-- A sent packet in the replay buffer: its LSEQ and nonce counter stand unchanged in a replay (R331, R335). -/
structure BlSent where
  /-- LSEQ (R331) -/
  lseq : Nat
  /-- nonce counter (R335) -/
  counter : Nat
  /-- the packet -/
  packet : BlPacket
  deriving DecidableEq, Repr

/-- What a member command is made for. -/
inductive BlOwner where
  | identify
  | setTime
  /-- a log read of a log identifier -/
  | log (id : Nat)
  /-- a namespace management, format or sanitize context that waits for it -/
  | admin (ctx : Nat)
  /-- the sanitize that runs (R358) -/
  | sanitize
  /-- the sanitize of a spare that is to take a position (R358) -/
  | spare (member : Nat)
  /-- an undegraded host read: context and the IU and part of each block, in block order -/
  | host (ctx : Nat) (parts : List (Nat × Nat))
  /-- an array job, and the position -/
  | job (n pos : Nat)
  /-- nothing waits for it -/
  | none
  deriving DecidableEq, Repr

/-- A command of the manager to a member (R336, R342). -/
structure BlOut where
  /-- what it was sent for -/
  owner : BlOwner
  /-- opcode (R336) -/
  opcode : Nat
  /-- traffic class, 1 Stopping (R336) -/
  cls : Nat := 1
  /-- FUA bit (R336) -/
  fua : Bool := false
  /-- volume it names (R337) -/
  volume : Nat := 0
  /-- coefficient of WRITE_DELTA and PARITY_APPLY (R338) -/
  coef : Nat := 0
  /-- first block -/
  start : Nat := 0
  /-- number of blocks -/
  count : Nat := 1
  /-- further PARAM bytes -/
  extra : List Nat := []
  /-- blocks to send on grants -/
  blocks : List (List Byte) := []
  /-- blocks received, by index; bytes of a log by offset -/
  got : Table (List Byte) := []
  /-- sent again under R370 -/
  again : Bool := false
  /-- a LOG_READ -/
  isLog : Bool := false
  /-- offset in the row of its first block, for an array job -/
  mOff : Nat := 0
  deriving DecidableEq, Repr

/-- A tag outstanding at a worker (R342). -/
structure BlIn where
  /-- context that runs it -/
  ctx : Nat
  /-- opcode (R336) -/
  opcode : Nat
  /-- coefficient (R338) -/
  coef : Nat := 0
  /-- first block -/
  start : Nat := 0
  /-- number of blocks -/
  count : Nat := 1
  /-- blocks received by grant -/
  got : Table (List Byte) := []
  /-- blocks granted so far (R340) -/
  granted : Nat := 0
  /-- grant that is open: first and count (R340) -/
  grant : Option (Nat × Nat) := none
  /-- an ABORT waits for its RESP (R344) -/
  aborted : Bool := false
  deriving DecidableEq, Repr

/-- An error log entry (R347): number, Station clock seconds, tick count, code, port, tag, TYPE, froze, first 12 bytes of the packet. -/
structure BlError where
  /-- entry number (R347) -/
  num : Nat
  /-- Station clock seconds -/
  secs : Nat
  /-- tick count -/
  tick : Nat
  /-- error code -/
  code : Nat
  /-- port -/
  port : Nat
  /-- tag -/
  tag : Nat
  /-- TYPE of the packet -/
  typ : Nat
  /-- it froze the queue -/
  froze : Bool
  /-- first 12 bytes of the packet -/
  bytes : List Nat
  deriving DecidableEq, Repr

/-- A Branch port (R327 to R350). [DEDUCED, log 46] -/
structure BlPort where
  /-- next LSEQ to send (R331); reset 0 -/
  sendSeq : Nat := 0
  /-- next LSEQ expected (R331); reset 0 -/
  recvSeq : Nat := 0
  /-- a NAK was sent and the expected packet has not arrived (R331); reset false -/
  nakSent : Bool := false
  /-- replay buffer, oldest first (R331); reset empty -/
  replay : List BlSent := []
  /-- replays of the oldest packet (R331); reset 0 -/
  replays : Nat := 0
  /-- the link retrains after the fourth replay (R331); reset false -/
  retraining : Bool := false
  /-- header credits this end may use (R333); reset 0 until the link is up -/
  hdr : Nat := 0
  /-- data credits this end may use (R333); reset 0 until the link is up -/
  data : Nat := 0
  /-- packets that wait for credit, a nonce or the link (R333, R418) -/
  waiting : List BlPacket := []
  /-- packet the Fogman holds to swap it with the next one (R507) -/
  swap : Option BlSent := none
  /-- packet the Fogman delays (R507) -/
  delayed : Option BlSent := none
  /-- one more than the last counter accepted in the receiving direction of the session, 0 before the first (R335) -/
  rxNext : Nat := 0
  /-- a session is up: its keys are in the key cache (R334) -/
  session : Bool := false
  /-- lanes that trained -/
  lanes : Nat := 0
  /-- peer's serial (R334) -/
  serial : Nat := 0
  /-- peer's boot counter (R334) -/
  peerBoot : Nat := 0
  /-- the Guard's ephemeral key of the HELLO sent here, as the number of its draw (R446) -/
  ephemeral : Option Nat := none
  /-- digest of the HELLO received last (R446) -/
  helloDigest : Nat := 0
  /-- peer's raw capacity in blocks (R337 IDENTIFY) -/
  raw : Nat := 0
  /-- peer's free capacity in blocks (R337 IDENTIFY) -/
  free : Nat := 0
  /-- manager: commands outstanding by tag (R342) -/
  tags : Table BlOut := []
  /-- manager: commands that wait for a tag (R342) -/
  queue : List BlOut := []
  /-- manager: quarantined tags (R343) -/
  quarantine : List Nat := []
  /-- newest entry number of the peer's error log that the manager has read -/
  readEntry : Nat := 0
  /-- the worker is frozen: commands wait for RESUMED (R346, R348) -/
  held : Bool := false
  /-- R370 events of the member within the last 10 s, by tick -/
  events : List Nat := []
  deriving DecidableEq, Repr

/-- Position states (R354). -/
inductive PosState where
  | unused | online | failed | rebuilding
  deriving DecidableEq, Repr

/-- A position of the array (R354, AY_POS). -/
structure Position where
  /-- member number -/
  member : Nat
  /-- the member's serial -/
  serial : Nat
  /-- ONLINE, FAILED or REBUILDING, or unused (R354) -/
  state : PosState
  /-- cause of a failure (R354) -/
  cause : Nat := 0
  deriving DecidableEq, Repr

/-- A media error map entry (R375): first, count, type, position, cause. -/
structure EmapEntry where
  /-- first block -/
  first : Nat
  /-- number of blocks -/
  count : Nat
  /-- type of the entry (R375) -/
  typ : Nat
  /-- position it concerns -/
  position : Nat
  /-- cause (R375) -/
  cause : Nat
  deriving DecidableEq, Repr

/-- The array header of R354, as member 0 holds it. -/
structure ArrayHeader where
  /-- array identifier (R354) -/
  ident : Nat
  /-- layout, 8 bits (R354) -/
  layout : Nat
  /-- positions in order (R354) -/
  positions : List Position
  /-- rebuild checkpoint: namespace slot and row (R373) -/
  ckpt : Nat × Nat := (0, 0)
  /-- generation of the header (R354) -/
  generation : Nat := 0
  /-- members that are spares (R354) -/
  spares : List Nat := []
  deriving DecidableEq, Repr

/-- What member 0's flash keeps of the array (R354, R375, R378); it survives every reset. [DESIGN CHOICE, log 3] -/
structure ArrayFlash where
  /-- the array header, none without an array (R354) -/
  header : Option ArrayHeader := none
  /-- media error map by namespace slot (R375) -/
  emap : Table (List EmapEntry) := []
  /-- dirty regions by namespace slot (R378), rising -/
  dirty : Table (List Nat) := []
  /-- generation of each journal block, by namespace slot * 2^20 + block (R378) -/
  gens : Table Nat := []
  deriving DecidableEq, Repr

/-- What an array job does. -/
inductive AKind where
  /-- a destage of parcels (R362, R363) -/
  | destage
  /-- a degraded read of one part for a context (R368) -/
  | degraded (ctx iu part : Nat)
  /-- parity from the data, or the other copies from the lowest one (R363, R376, R380) -/
  | recompute
  /-- a rebuild row (R373) -/
  | rebuild (pos : Nat)
  /-- an Inspection train row (R377) -/
  | inspect
  deriving DecidableEq, Repr

/-- Work on one row of an array namespace. Blocks are keyed by position * 64 + block offset within the position's part of the row. -/
structure AJob where
  /-- what the job does -/
  kind : AKind
  /-- namespace slot -/
  slot : Nat
  /-- row of the namespace -/
  row : Nat
  /-- first parcels of the IUs it destages -/
  parcels : List Nat := []
  /-- new blocks by data index * 16 + offset -/
  news : Table (List Byte) := []
  /-- block offsets of the row it concerns, 0 to 15 -/
  offs : List Nat := []
  /-- 0 waits for its lock, 1 marking dirty regions, 2 reads or data commands, 3 parity commands or writes -/
  phase : Nat := 0
  /-- delta method (R363); otherwise parity is computed from the data -/
  delta : Bool := false
  /-- blocks read, by position * 64 + offset -/
  reads : Table (List Byte) := []
  /-- blocks that could not be read -/
  lost : List Nat := []
  /-- deltas returned, by data index * 16 + offset -/
  deltas : Table (List Byte) := []
  /-- parity of the row must be computed again when the commands have ended (R363, R370) -/
  redo : Bool := false
  /-- context of its stripe lock (R364) -/
  lock : Option Nat := none
  /-- its stripe lock is a writer lock (R364) -/
  writer : Bool := false
  /-- member commands outstanding or queued -/
  pend : Nat := 0
  deriving DecidableEq, Repr

/-- The Branch Link and array side of the device. [DESIGN CHOICE, log 3] -/
structure Link where
  /-- ports 0 to 5 -/
  ports : Table BlPort := []
  /-- tags outstanding at a worker (R342) -/
  inTags : Table BlIn := []
  /-- error log entries, newest first (R347); reset none -/
  errors : List BlError := []
  /-- number of the next error log entry, from 1 (R347) -/
  nextErr : Nat := 1
  /-- discovery window open (R350); reset true -/
  window : Bool := true
  /-- assembly has run (R355); reset false -/
  assembled : Bool := false
  /-- array jobs by number -/
  jobs : Table AJob := []
  /-- region whose rows are being resynchronised: namespace slot, region (R380); reset none -/
  resyncing : Option (Nat × Nat) := none
  /-- a worker's critical warning as last reported by EVENT -/
  warned : Nat := 0
  /-- a worker's Buffer stop as last reported by EVENT -/
  stopTold : Bool := false
  /-- members declared FAILED while their link stayed up, and whose link has not gone down since: no rebuild target for their own position (R372); reset none -/
  keptUp : List Nat := []
  /-- spares that have been sanitized for the position they are to take (R358); reset none -/
  spareClean : List Nat := []
  /-- ticks at which rebuild rows of the last second ended (R373, R382); reset none -/
  rebuilds : List Nat := []
  deriving DecidableEq, Repr

end Sys2Proof.Machine
end

