-- ==== Sys2Proof/Machine/StateFlash.lean ====
section
/-! DEFINITION. The state of the flash side: dies, channels, signal boxes, codec (chapters 02 to 05). Every field's docstring ends with its rule and its reset value. -/

namespace Sys2Proof.Machine

/-- Die states of R33. -/
inductive DieState where
  | idle | readX | readL | load | prog | erase | suspProg | suspErase | abort | isolated | absent
  deriving DecidableEq, Repr

/-- A request the Timetable posts to a signal box (R30, R100). -/
inductive Request where
  | suspend | abort
  deriving DecidableEq, Repr

/-- A read in progress on a read unit of a die (R33). -/
structure UnitRead where
  /-- read unit of the die, 0 to 3 (R33) -/
  unit : Nat
  /-- the read is of the Express class (R33) -/
  express : Bool
  /-- number of the codeword job or command that owns it -/
  owner : Nat
  /-- codeword slots still to be transferred, a bit mask -/
  slots : Nat
  deriving DecidableEq, Repr

/-- The die context a signal box keeps from the first leg of a routine to its END (R83). -/
structure DieCtx where
  /-- a routine occupies the context; R83; reset false -/
  active : Bool := false
  /-- operation code of R93; reset 0 -/
  op : Nat := 0
  /-- descriptor index of the routine (R94); reset 0 -/
  desc : Nat := 0
  /-- operation address, class and owner; reset zero -/
  arg : OpArg := ⟨0, 0, 0, 0, .goods, 0, .other⟩
  /-- resume address of the parked routine, 13 bits (R83); reset 0 -/
  resume : Nat := 0
  /-- parked between legs (R82); reset false -/
  parked : Bool := false
  /-- counter C0, 16 bits (R83); reset 0 -/
  c0 : Nat := 0
  /-- counter C1, 16 bits (R83); reset 0 -/
  c1 : Nat := 0
  /-- counter C2, 16 bits (R83); reset 0 -/
  c2 : Nat := 0
  /-- counter C3, 16 bits (R83); reset 0 -/
  c3 : Nat := 0
  /-- the 32-bit feature register FP (R83); reset 0 -/
  fp : Word := 0
  /-- the latched temperature band (R83, R104); reset 0 -/
  band : Nat := 0
  /-- fail flag (R83); reset false -/
  fail : Bool := false
  /-- resumed flag (R83); reset false -/
  resumed : Bool := false
  /-- RES_CTL of the last station passed (R101); reset 0 -/
  resCtl : Nat := 0
  /-- the request of the last PARK word, the leg request codes of R96; reset 0 -/
  want : Nat := 0
  /-- tick of its dispatch, then of its first leg (R96); reset 0 -/
  startTick : Nat := 0
  /-- tick in which it last parked (R96); reset 0 -/
  parkTick : Nat := 0
  /-- bytes moved of the codeword in transfer (R87, DMA_LEN_SRC 2); reset 0 -/
  moved : Nat := 0
  /-- a hard decode starts when the codeword is complete (R87, LDPC_CTL 1); reset false -/
  armed : Bool := false
  /-- the read is tagged as a retry read (R87, LDPC_CTL 4); reset false -/
  retryTag : Bool := false
  /-- legs run so far: 0 before the first leg, at whose start the band is latched (R104); reset 0 -/
  legs : Nat := 0
  /-- next codeword slot, as plane * 4 + slot, that a codeword transfer takes (R113); reset 0 -/
  slot : Nat := 0
  /-- the Fogman makes this program report FAIL (R507); reset false -/
  failInject : Bool := false
  deriving DecidableEq, Repr

/-- One die (R33, R41 to R45, R61, R65). -/
structure Die where
  /-- die state (R33); reset ABSENT -/
  state : DieState := .absent
  /-- die-table entry, 32 bytes (R65); reset 0 -/
  entry : BitVec 256 := 0
  /-- isolation cause of SB_ISOL_LAST, 0 none (R79); reset 0 -/
  isol : Nat := 0
  /-- tick of the first presentation of a start or resume that waits for tokens (R488); reset none -/
  tokenSince : Option Nat := none
  /-- the tokens of the next start or resume are collected (R488); reset false -/
  tokenPaid : Bool := false
  /-- the wait for tokens has aged (R488); reset false -/
  tokenAged : Bool := false
  /-- Station clock seconds of its isolation (R311); reset 0 -/
  isolSecs : Nat := 0
  /-- non-Express by R42 or R95; reset false -/
  nonExpress : Bool := false
  /-- suspensions of the current operation (R41); reset 0 -/
  suspCount : Nat := 0
  /-- span in ticks since the suspend command (R44); reset 0 -/
  span : Nat := 0
  /-- first tick at which the resumed operation may be suspended again (R43); reset 0 -/
  protectedTo : Nat := 0
  /-- draining (R44); reset false -/
  draining : Bool := false
  /-- the operation a suspend suspended or that runs counts in the budget (R47); reset false -/
  counted : Bool := false
  /-- reads in progress (R33); reset none -/
  reads : List UnitRead := []
  /-- request posted and not yet taken (R100); reset none -/
  request : Option Request := none
  /-- tick whose command window the posted request's service routine is planned in (R38, R101); reset 0 -/
  requestTick : Nat := 0
  /-- tick in which a planned resume takes effect (R30, R45); reset none -/
  resumeAt : Option Nat := none
  /-- matched flash profile (R64); reset 0 -/
  profile : Nat := 0
  /-- ticks at which its VENDOR0 to VENDOR3 were last dispatched (R95); reset none -/
  vendorAt : Table Nat := []
  /-- completion estimate of R97, ns since tick 0; reset 0 -/
  estimate : Nat := 0
  /-- end of the suspend routine, ns since tick 0, of the current suspended interval (R97); reset 0 -/
  suspEnd : Nat := 0
  /-- consecutive TIMEOUT events (R76); reset 0 -/
  timeouts : Nat := 0
  /-- consecutive invalid-status events (R76); reset 0 -/
  statusInv : Nat := 0
  /-- feature values written by Set Features, feature address to value (R93); reset none -/
  features : Table Word := []
  /-- the routine and station state kept for the die by its signal box (R83) -/
  ctx : DieCtx := {}
  /-- contexts of further routines in progress on the die: a suspended program or erase while Express reads run, reads of other read units (R33, R83); reset none -/
  others : List DieCtx := []
  deriving DecidableEq, Repr

/-- Why a pending Express read is queued (R40). -/
inductive QueueReason where
  | unit | chan | held
  deriving DecidableEq, Repr

/-- An Express read registered with the Timetable (R36 to R40). -/
structure XRead where
  /-- number of the codeword job or command that owns it -/
  owner : Nat
  /-- die it reads (R36) -/
  die : Nat
  /-- read unit of the die (R33) -/
  unit : Nat
  /-- block address of the read -/
  block : Nat
  /-- page address of the read -/
  page : Nat
  /-- planes it reads, a mask -/
  planes : Nat
  /-- codeword slots it transfers, a mask -/
  slots : Nat
  /-- codewords it transfers, each one transfer tick (R37) -/
  codewords : Nat
  /-- counted once as queued (R40) -/
  counted : Bool
  /-- queued at the last cutoff -/
  queued : Bool
  /-- the admission start, as a tick number times 1024 in timebase cycles (R40) -/
  start : Nat
  /-- issue tick once planned -/
  issue : Option Nat
  /-- transfer ticks reserved, one per codeword (R37) -/
  xfer : List Nat
  /-- codewords transferred so far (R37) -/
  sent : Nat := 0
  /-- its data-out has ended (R40) -/
  outDone : Bool := false
  /-- fetch sequence of its command: reads are considered in fetch order (R37) -/
  seq : Nat := 0
  /-- it was registered before the last cutoff, so the plan in force knows it (R30, R38) -/
  seen : Bool := false
  deriving DecidableEq, Repr

/-- Its codeword jobs: numbered from the owner's on, one per codeword (R37). -/
def XRead.jobs (x : XRead) : List Nat := (List.range x.codewords).map (x.owner + ·)

/-- Calibration state of one chip enable (R68 to R74). -/
structure CeCal where
  /-- populated (R64); reset false -/
  populated : Bool := false
  /-- isolated whole; reset false -/
  isolated : Bool := false
  /-- passed boot training (R68); reset false -/
  trained : Bool := false
  /-- trim values by item: value and margin (R69); reset none -/
  trims : Table (Nat × Nat) := []
  /-- trims of a RETRAIN that take effect at the next tick boundary (R74); reset none -/
  newTrims : Option (Table (Nat × Nat)) := none
  /-- trims found by the steps of a training in progress (R68); reset none -/
  found : Table (Nat × Nat) := []
  /-- temperature at the last full training, C (R73); reset 0 -/
  trainTemp : Int := 0
  /-- a RETRAIN is scheduled (R71, R73); reset false -/
  retrain : Bool := false
  /-- the scheduled RETRAIN has failed once (R73); reset false -/
  retrainFailed : Bool := false
  /-- new Stopping and Goods starts are held (R72); reset false -/
  hold : Bool := false
  /-- ticks of the last ZQ_SHORT, DRIFT and WDRIFT (R72); reset 0 -/
  lastCal : List Nat := [0, 0, 0]
  /-- steps of the training in progress, 1 to 5 of R68, that have run; reset 0 -/
  stage : Nat := 0
  /-- slots of the RETRAIN in progress used, 0 to 48 (R71); reset 0 -/
  retrainSlots : Nat := 0
  /-- rate code of the high-speed interface that Set Features switched it to (R68); reset none -/
  setRate : Option Nat := none
  /-- NAND on-die termination written to it, ohm (R68); reset 0 -/
  setOdt : Nat := 0
  /-- NAND driver strength written to it, ohm (R68); reset 0 -/
  setDrive : Nat := 0
  deriving DecidableEq, Repr

/-- A channel's plan of one tick (R30, R31, R34, R35, R49). -/
structure Plan where
  /-- command-window places left (R31); reset 0 -/
  window : Nat := 0
  /-- data slots left to Stopping and Goods (R31); reset 0 -/
  slots : Nat := 0
  /-- data slots of a maintenance tick left to calibration and self-test steps (R31, R51); reset 0 -/
  calSlots : Nat := 0
  /-- Goods goes before Stopping (R35); reset false -/
  goodsFirst : Bool := false
  /-- Goods work was pending at the cutoff (R35); reset false -/
  goodsPending : Bool := false
  /-- command sequences that Stopping work pending at the cutoff still waits for (R34, R49); reset 0 -/
  stopCmds : Nat := 0
  /-- the same of Goods; reset 0 -/
  goodsCmds : Nat := 0
  /-- data slots that Stopping work pending at the cutoff still waits for (R34); reset 0 -/
  stopSlots : Nat := 0
  /-- the same of Goods; reset 0 -/
  goodsSlots : Nat := 0
  deriving DecidableEq, Repr

/-- What follows the END of the words a box runs as a service (R101). -/
inductive Follow where
  /-- the service routine of an operation code -/
  | service (op : Nat)
  | unwind
  | reapply
  /-- the context of the routine is freed -/
  | free
  deriving DecidableEq, Repr

/-- One signal box (R83) and its channel's plan for the tick in progress. -/
structure Box where
  /-- timers TMR0 to TMR3, remaining cycles (R83); reset 0 -/
  timers : List Nat := [0, 0, 0, 0]
  /-- status register, 8 bits (R83); reset 0 -/
  status : Byte := 0
  /-- micro-stack, at most eight addresses (R83, R91); reset empty -/
  stack : List Nat := []
  /-- cycles since the last station (R102); reset 0 -/
  dist : Nat := 0
  /-- cycles of the leg so far (R99); reset 0 -/
  legCycles : Nat := 0
  /-- the leg is over LEG_MAX and ends at the next station (R99); reset false -/
  overrun : Bool := false
  /-- the leg holds at the current word until its condition is true (R92); reset false -/
  holding : Bool := false
  /-- the leg holds for RB_N at the current word, its steps 4 to 6 still to come (R87, R89); reset false -/
  rbWait : Bool := false
  /-- the word's DMA reported an error (R87); reset false -/
  dmaErr : Bool := false
  /-- chip enables asserted, a mask (R87); reset 0 -/
  ce : Nat := 0
  /-- feature address of the last ADDR cycle that drove one in the leg (R87); reset 0 -/
  featAddr : Nat := 0
  /-- the words run are those of a service, unwind or reapply routine (R101); reset false -/
  service : Bool := false
  /-- they are those of an unwind or reapply routine (R94); reset false -/
  aux : Bool := false
  /-- operation code of the service routine that runs (R93); reset 0 -/
  serviceOp : Nat := 0
  /-- what follows the END of the service, unwind or reapply routine (R101); reset none -/
  follow : List Follow := []
  /-- LEG_MAX of the words that run, in cycles (R94, R99); reset 0 -/
  legMax : Nat := 0
  /-- result of the last status compare (R88); reset false -/
  statMatch : Bool := false
  /-- result of the last training compare (R88); reset false -/
  calPass : Bool := false
  /-- every DMA of the leg is complete (R88); reset true -/
  dmaDone : Bool := true
  /-- the die context the box runs for (R83); reset 0 -/
  die : Nat := 0
  /-- WATCHDOG halts this boot (R77, R103); reset 0 -/
  watchdogHalts : Nat := 0
  /-- CS_UE halts this boot (R103); reset 0 -/
  csUeHalts : Nat := 0
  /-- trace buffer, 256 entries: address, status, tick (SB_TRACE_DATA); reset none -/
  trace : Table (Nat × Nat × Nat) := []
  /-- the plan of the tick in progress (R30, R31) -/
  cur : Plan := {}
  /-- the plan of the next tick, computed at its cutoff (R30) -/
  plan : Plan := {}
  /-- data slots that Express did not use, in the period's ticks with Goods work pending (R35); reset 0 -/
  nonExpress : Nat := 0
  /-- of these, the data slots given to Goods (R35); reset 0 -/
  goods : Nat := 0
  /-- Goods slots of the period's ticks so far (R35, GOODS_SHARE); reset 0 -/
  periodGoods : Nat := 0
  /-- non-Express slots of the period's ticks so far (R35, GOODS_SHARE); reset 0 -/
  periodSlots : Nat := 0
  /-- Express issues of the tick in progress (EXP_ISSUES of the next); reset 0 -/
  expIssues : Nat := 0
  /-- Express transfers, in codewords, of the tick in progress (EXP_XFERS of the next); reset 0 -/
  expXfers : Nat := 0
  deriving DecidableEq, Repr

/-- Decode state of a codeword on its way through the levels of R123. -/
inductive JobState where
  /-- waits for a sense -/
  | sensing
  /-- waits for or is in a hard-decision decoder -/
  | hard
  /-- waits for or is in a soft-decision decoder -/
  | soft
  /-- waits for level 3 -/
  | recon
  /-- finished -/
  | done
  deriving DecidableEq, Repr

/-- One codeword being read (R113, R121 to R129). -/
structure Job where
  /-- who reads the codeword -/
  owner : JobOwner
  /-- die it is read from -/
  die : Nat
  /-- plane of its page -/
  plane : Nat
  /-- block of its page -/
  block : Nat
  /-- page of the block -/
  page : Nat
  /-- codeword slot 0 to 3 of the page (R113) -/
  slot : Nat
  /-- LBA the map entry expects (R123) -/
  lba : Nat
  /-- namespace identifier the map entry expects (R123) -/
  nsid : Nat
  /-- traffic class of its reads -/
  cls : TClass
  /-- where the job stands in the ladder (R123) -/
  state : JobState
  /-- decode level 0 to 3 -/
  level : Nat
  /-- row of the attempt in progress (R123) -/
  step : Nat
  /-- rows tried at level 1 -/
  tried : List Nat
  /-- row and unsatisfied checks of the best level 1 attempt (R123) -/
  best : Option (Nat × Nat)
  /-- SOFT2 has been tried -/
  soft2 : Bool
  /-- soft bit-planes transferred so far, by their C2 (R87, R123); reset none -/
  planesIn : List Nat := []
  /-- tracker entry, 32 bits, taken at registration (R121) -/
  tracker : Nat
  /-- the block's erase count at registration (R122) -/
  eraseCount : Nat
  /-- temperature band of the tracker entry used (R117) -/
  band : Nat
  /-- a decode converged with a failing CRC-64 (R123) -/
  miscorr : Bool
  /-- ERASED: at most 64 zero bits (R116) -/
  erased : Bool
  /-- the ladder went to level 3, UNCORR of the read record (R124, R129) -/
  uncorr : Bool
  /-- the read record once the ladder has ended (R129) -/
  record : Nat
  /-- the ladder ended with a good decode -/
  good : Bool
  /-- decode levels below this one fail by injection (R507); reset 0 -/
  failTo : Nat := 0
  deriving DecidableEq, Repr

/-- The flash side of the device. [DESIGN CHOICE, log 3; DESIGN CHOICE, log 16] -/
structure Flash where
  /-- tick count, 64 bits (R29); reset 0 -/
  tick : Nat := 0
  /-- the count has started at the first boundary after the PLL lock (R29); reset false -/
  ticking : Bool := false
  /-- the plan of the next tick has been computed at its cutoff (R30); reset false -/
  planned : Bool := false
  /-- dies by number (R61); an unlisted die is ABSENT -/
  dies : Table Die := []
  /-- Express reads registered and not finished, in fetch order (R36, R37); reset none -/
  xreads : List XRead := []
  /-- signal boxes by channel (R83) -/
  boxes : Table Box := []
  /-- calibration state by 8 * channel + chip enable (R68) -/
  cal : Table CeCal := []
  /-- control store words by 8192 * box + address, 176 bits; an unlisted word was never loaded (R84, R85) -/
  store : Table (BitVec 176) := []
  /-- upset bits of the stored codewords, bit numbers 0 to 175, by 8192 * box + address; none where the check bits are correct (R84, R85); reset none -/
  csErrs : Table (List Nat) := []
  /-- descriptor RAM, 512 entries of 64 bits (R94); reset 0 -/
  descs : Table (BitVec 64) := []
  /-- dispatch table, 16 sets of 32 entries of 16 bits, by set * 32 + operation (R93); reset 0, not VALID -/
  dispatch : Table (BitVec 16) := []
  /-- codewords being read (R123) -/
  jobs : Table Job := []
  /-- decoder queues, the codeword in progress first: 0-15 hard, 16 the one soft queue (R126) -/
  decoders : Table (List Nat) := []
  /-- tracker entries in DRAM, 32 bits, by block number; an unlisted entry holds only AGE, the number of ageings saturated (R120, R179); reset 0 -/
  trackers : Table Nat := []
  /-- ageings of every tracker entry (R179, R180); reset 0 -/
  trackAge : Nat := 0
  /-- band in force per channel, with the hysteresis of R117; reset 0 -/
  bands : Table Nat := []
  /-- reference die of R67, fixed at identification; reset none -/
  refDie : Option Nat := none
  /-- parameter-page buffer: chip enable and its answer (R64, R87); reset empty -/
  paramPage : Option (Nat × CeIdent) := none
  /-- erase count per block number (R122, R173); reset 0 -/
  eraseCounts : Table Nat := []
  /-- no program or erase starts: power fail or an alarm stopped them (R211, R434); reset false -/
  startsStopped : Bool := false
  /-- rate code that a channel's boot training tries, after a failure lowered it (R69); an unlisted channel tries SB_CH_CFG.RATE; reset none -/
  trainRate : Table Nat := []
  /-- channels whose identification has ended (R64) -/
  identified : List Nat := []
  deriving DecidableEq, Repr

end Sys2Proof.Machine
end

