-- ==== Sys2Proof/Machine/StateMem.lean ====
section
/-! DEFINITION. The state of the DRAM controller and the stored-data protection (chapter 15). Docstrings give rule and reset value. -/

namespace Sys2Proof.Machine

/-- A merge-buffer entry (R398): a word, the bytes written to it by offset, the requester ports whose writes it holds. -/
structure MergeEntry where
  /-- word address, PA >> 7 -/
  word : Nat
  /-- bytes written, by offset -/
  bytes : Table Byte
  /-- requester ports whose writes it holds -/
  ports : List Nat
  deriving DecidableEq, Repr

/-- A write that waits for the sweeper (R396). -/
structure HeldWrite where
  /-- requester port -/
  port : Nat
  /-- byte address -/
  addr : Nat
  /-- its bytes -/
  bytes : List Byte
  deriving DecidableEq, Repr

/-- A valid word of on-chip SRAM (R393, R394). -/
structure SramWord where
  /-- the data written -/
  data : BitVec 64
  /-- bits of the stored word that differ from what was written, 64 to 71 the check bits; none after a good write -/
  flips : List Nat := []
  deriving DecidableEq, Repr

/-- The memory side of the device. [DESIGN CHOICE, log 3] -/
structure Mem where
  /-- stored bytes by physical address, rising, no zero byte listed; an unlisted byte is zero (R394, R395); reset none -/
  dram : List Host.Cell := []
  /-- stored errors by word address PA >> 7: symbol number 8 * device + symbol to the bits that differ from the encoded word (R390, R392); reset none -/
  errs : Table (Table (BitVec 16)) := []
  /-- valid SRAM words by group * 2^32 + word (R394); an unlisted word is invalid; reset none -/
  sram : Table SramWord := []
  /-- segments below this one have been swept in order (R395); reset 0 -/
  sweepSeg : Nat := 0
  /-- segments swept out of order: priority list or re-initialised (R396, R397); reset none -/
  early : List Nat := []
  /-- segments invalidated and not swept again (R397); reset none -/
  inval : List Nat := []
  /-- priority list, at most 16 segments (R396); reset empty -/
  prio : List Nat := []
  /-- writes that wait for a segment, in order (R396); reset none -/
  held : List HeldWrite := []
  /-- merge buffer of channel 0, oldest entry first (R398); reset empty -/
  merge0 : List MergeEntry := []
  /-- merge buffer of channel 1, oldest entry first (R398); reset empty -/
  merge1 : List MergeEntry := []
  /-- the sweeper runs: DRAM has been trained (R395, R497); reset false -/
  sweeping : Bool := false
  /-- the Platelayer has read SRAM words after word 0 of group 0 in this pass (R401); reset false -/
  sramPart : Bool := false
  /-- channels with a device above 95 C (R406, R478); reset none -/
  hot : List Nat := []
  /-- incident records, newest first, at most 256 (R404); reset: as saved on flash -/
  incidents : List Incident := []
  /-- next incident number (R404); reset: as saved on flash -/
  nextIncident : Nat := 0
  deriving DecidableEq, Repr

end Sys2Proof.Machine
end

