-- ==== Sys2Proof/Machine/StatePlat.lean ====
section
/-! DEFINITION. The state of start-up and reset, thermal management, the Token instrument and the Fogman (chapters 19 to 21). Docstrings give rule and reset value. -/

namespace Sys2Proof.Machine

/-- Why an input is broken (R473). -/
inductive BrokenCause where
  | none | open_ | short | slew
  deriving DecidableEq, Repr

/-- A temperature input (R472, R473). -/
structure TempInput where
  /-- last reading, C -/
  reading : Int := 0
  /-- readings of the last 10 ms, newest first -/
  recent : List Int := []
  /-- broken since, with its cause; reset none -/
  broken : BrokenCause := .none
  /-- highest reading this boot -/
  top : Int := 0
  deriving DecidableEq, Repr

/-- How long the composite has stayed on one side of a threshold, ms, at most 10 (R477). -/
structure Stay where
  /-- at or above the threshold -/
  above : Nat := 0
  /-- below the threshold less the hysteresis -/
  below : Nat := 0
  deriving DecidableEq, Repr

/-- What a request for tokens powers, ungates or starts (R47, R64, R246, R406, R486, R487). -/
inductive Wake where
  /-- a lane of a PCIe port leaves L1 -/
  | lane (port n : Nat)
  /-- a program or erase of a die starts or resumes -/
  | flash (die : Nat)
  /-- a DRAM channel leaves self-refresh -/
  | dram (ch : Nat)
  /-- the power switch of a NAND channel closes -/
  | channel (ch : Nat)
  /-- the signal box and the clocks of a NAND channel -/
  | box (ch : Nat)
  /-- an application core -/
  | core (n : Nat)
  /-- the power switch of a soft-decision decoder closes -/
  | softDec (n : Nat)
  /-- a bank of the Associative Engine -/
  | bank (n : Nat)
  deriving DecidableEq, Repr

/-- A request that waits for tokens (R487, R488). -/
structure TokenReq where
  /-- number of the requester -/
  id : Nat
  /-- what happens when it is served -/
  wake : Wake
  /-- priority 1 to 5 -/
  prio : Nat
  /-- tokens it needs (R487) -/
  weight : Nat
  /-- tokens collected so far -/
  got : Nat := 0
  /-- wait so far, units of 100 ns -/
  waited : Nat := 0
  /-- its wait has raised its priority (R488) -/
  aged : Bool := false
  deriving DecidableEq, Repr

/-- What holds the device in reset (R434, R491, R496). -/
inductive Hold where
  | none | rstN | alarm
  /-- the supplies, VDD_GUARD included, are off -/
  | off
  deriving DecidableEq, Repr

/-- The platform side of the device. [DESIGN CHOICE, log 3; DESIGN CHOICE, log 4] -/
structure Plat where
  /-- reset held (R434, R491); reset none -/
  hold : Hold := .none
  /-- die latched by FG_NAND at its arming (R507); reset 0 -/
  nandDie : Nat := 0
  /-- scope of the diagnostic ticket in force and the tick at which it ends (R504, R505); reset none -/
  ticket : Option (Nat × Nat) := none
  /-- temperature inputs by index (R472) -/
  inputs : Table TempInput := []
  /-- warning-temperature time not yet a minute, ms (R477); reset 0 -/
  warnMs : Nat := 0
  /-- critical-temperature time not yet a minute, ms (R477); reset 0 -/
  critMs : Nat := 0
  /-- how long the composite has stayed about the thresholds warning, throttle and shutdown, by 0 to 2 (R477); reset none -/
  stays : Table Stay := []
  /-- ms the throttle threshold has been crossed, and then cleared, since the throttle step last moved (R478); reset 0 -/
  stepUpMs : Nat := 0
  stepDownMs : Nat := 0
  /-- I/O commands fetched in the running second, and its number since power-on (R484); reset 0 -/
  fetched : Nat := 0
  fetchSecond : Nat := 0
  /-- requests waiting for tokens, in arrival order (R488); reset none -/
  tokens : List TokenReq := []
  /-- leaf clock domains gated in a power state and not ungated since, by the number of CK_DOM_SEL (R26, R486); reset none -/
  gated : List Nat := []
  /-- controller ready (R494); reset false -/
  ready : Bool := false
  /-- start-up progress code (R502); reset GUARD_ROM -/
  progress : Nat := 0
  /-- non-operational power state the device is in, 3 or 4 (R486); reset none -/
  nonOp : Option Nat := none
  /-- this boot is a recovery under R215 (R380); reset false -/
  recovered : Bool := false
  /-- PERST_N is low (R496); reset: low, as a host holds it while it powers up -/
  perst : Bool := true
  /-- the PCIe links are released from reset at the RULEBOOK step (R494 time line, R496); reset false -/
  linksReleased : Bool := false
  /-- RST_N shutdown steps of R492: 0 none, 1 running with RST_N low, 2 running with RST_N high again; reset 0 -/
  rst : Nat := 0
  /-- DRAM channels that passed training (R497); reset none -/
  dramOk : List Nat := []
  /-- the TAMPER ball as the Guard last saw it: in its active state (R433, R435); reset inactive -/
  tamper : Bool := false
  /-- failure detail of the start-up status block -/
  detail : Nat := 0
  deriving DecidableEq, Repr

end Sys2Proof.Machine
end

