-- ==== Sys2Proof/Machine/Table.lean ====
section
/-! DEFINITION. Reading and writing a sparse table (register file, die contexts, map entries, memory bytes). -/

namespace Sys2Proof.Table

/-- The value listed under a key. -/
def find {α : Type} : Table α → Nat → Option α
  | [], _ => none
  | (k, v) :: t, j => if j = k then some v else find t j

/-- The value under a key, `d` where none is listed. -/
def get {α : Type} (d : α) (t : Table α) (k : Nat) : α := (find t k).getD d

/-- The table without a key. -/
def del {α : Type} : Table α → Nat → Table α
  | [], _ => []
  | (k, v) :: t, j => if j = k then del t j else (k, v) :: del t j

/-- The table with `v` under key `j`, keys kept rising. -/
def ins {α : Type} : Table α → Nat → α → Table α
  | [], j, v => [(j, v)]
  | (k, w) :: t, j, v =>
    if j < k then (j, v) :: (k, w) :: t
    else if j = k then (j, v) :: t
    else (k, w) :: ins t j v

/-- Writes a value; writing the default removes the entry, so equal tables are equal lists. -/
def put {α : Type} [DecidableEq α] (d : α) (t : Table α) (k : Nat) (v : α) : Table α :=
  if v = d then del t k else ins t k v

/-- Changes the value listed under a key; nothing where the key is not listed. -/
def modify {α : Type} (f : α → α) (t : Table α) (k : Nat) : Table α :=
  match find t k with
  | some v => ins t k (f v)
  | none => t

/-- The values, in key order. -/
def values {α : Type} (t : Table α) : List α := t.map (·.2)

/-- The keys, rising. -/
def keys {α : Type} (t : Table α) : List Nat := t.map (·.1)

/-- Lowest key from `k` upward, among `n`, that is not listed. -/
def firstFree {α : Type} (t : Table α) : Nat → Nat → Option Nat
  | 0, _ => none
  | n + 1, k => if (find t k).isNone then some k else firstFree t n (k + 1)

end Sys2Proof.Table
end

