-- ==== Sys2Proof/Machine/StateSec.lean ====
section
/-! DEFINITION. The state of the cipher engine, the Guard and the Depot (chapters 16 to 18). Docstrings give rule and reset value. -/

namespace Sys2Proof.Machine

/-- An entry of the key cache (R411): its label and context, its use count, and an invalidation that waits for the count. -/
structure KeyEntry where
  /-- label and context of the key -/
  req : KeyReq
  /-- jobs that use it now -/
  uses : Nat := 0
  /-- invalidated; leaves at its last use -/
  drop : Bool := false
  deriving DecidableEq, Repr

/-- A row of the Locking table (R421). [PRESUMED, log 41] -/
structure OpalRow where
  /-- ReadLockEnabled -/
  readEn : Bool := false
  /-- WriteLockEnabled -/
  writeEn : Bool := false
  /-- ReadLocked -/
  readLocked : Bool := false
  /-- WriteLocked -/
  writeLocked : Bool := false
  /-- LockOnReset: bit 0 Power Cycle, bit 1 Hardware Reset -/
  lockOnReset : Nat := 1
  deriving DecidableEq, Repr

/-- A Journey Log entry (R439). -/
structure JEntry where
  /-- stage measured (R439) -/
  stage : Nat
  /-- result code (R439) -/
  result : Nat
  /-- index of the entry (R439) -/
  index : Nat
  /-- version measured (R439) -/
  version : Nat := 0
  /-- SVN measured (R439) -/
  svn : Nat := 0
  /-- slot of the image (R439) -/
  slot : Nat := 0
  /-- boot counter (R439) -/
  boot : Nat := 0
  /-- Station clock (R439) -/
  clockMs : Nat := 0
  /-- the Station clock is valid (R439) -/
  clockValid : Bool := false
  /-- tick count (R439) -/
  tick : Nat := 0
  /-- digest (R439) -/
  digest : Nat := 0
  /-- further information (R439) -/
  info : Nat := 0
  deriving DecidableEq, Repr

/-- A signed record as it is archived (R440, R442). -/
structure JRec where
  /-- boot counter (R440) -/
  boot : Nat
  /-- its entries (R440) -/
  entries : List JEntry
  /-- operating mode (R440) -/
  mode : Nat
  /-- member number (R440) -/
  member : Nat
  /-- lifecycle level (R440) -/
  level : Nat
  /-- digest of the GUARD entry its attestation key comes from (R443) -/
  guardDigest : Nat := 0
  /-- digest of the BOOT entry (R443) -/
  bootDigest : Nat := 0
  /-- number of the draw its signature took (R440) -/
  draw : Nat := 0
  deriving DecidableEq, Repr

/-- A certificate of the chain in SPDM slot 0 (R444). -/
inductive Cert where
  | rootCa | manufacturingCa
  /-- with the Device Serial Number -/
  | identity (serial : Nat)
  /-- digests of the GUARD and BOOT entries, the level, the number of the draw its signature took -/
  | attestation (guard boot level draw : Nat)
  deriving DecidableEq, Repr

/-- SPDM connection state of a transport (R448): 0 none, 1 after GET_VERSION, 2 after GET_CAPABILITIES, 3 after NEGOTIATE_ALGORITHMS. -/
abbrev SpdmState := Nat

/-- An operation or command of the Depot (R462 to R466). -/
structure DepotOp where
  /-- an erase, else a program -/
  erase : Bool
  /-- word number, byte address / 8 -/
  word : Nat
  /-- word to program, 64 bits -/
  value : Nat
  /-- issued at the Guard's port -/
  guard : Bool
  /-- suspended by a read (R465) -/
  suspended : Bool := false
  deriving DecidableEq, Repr

/-- The security side of the device. [DESIGN CHOICE, log 3; DESIGN CHOICE, log 4; DESIGN CHOICE, log 16; DEDUCED, log 46] -/
structure Sec where
  /-- the Device Serial Number (R248); the fuses' own, no rule gives it: 0 here -/
  serial : Nat := 0
  -- Cipher engine
  /-- media key generation, durable in the Guard's sealed record (R425); reset: as recorded, 0 in a new device -/
  mediaGen : Nat := 0
  /-- media key salt (R425); reset: as recorded, 0 in a new device -/
  mediaSalt : Nat := 0
  /-- range key generations by slot (R424) -/
  rangeGens : Table Nat := []
  /-- Opal: the Locking SP is activated (R421) -/
  opalActive : Bool := false
  /-- Locking table rows by slot, 128 the Global row (R421) -/
  opal : Table OpalRow := []
  /-- key cache, most recently used first (R411); reset empty -/
  keys : List KeyEntry := []
  /-- nonce counter, 64 bits (R417, R418); reset: the durable mark -/
  nonce : Nat := 0
  /-- durable high-water mark of the nonce counter, 64 bits (R418); new device 0 -/
  mark : Nat := 0
  /-- GCM encryption enabled (R418); reset false -/
  gcmOn : Bool := false
  /-- failed programs of a mark in a row (R418); reset 0 -/
  hwmFails : Nat := 0
  -- Guard
  /-- boot counter of the counter sector (R430); new device 0 -/
  boot : Nat := 0
  /-- minimum SVN of the counter sector (R430, R437); new device 0 -/
  minSvn : Nat := 0
  /-- pending lifecycle request (R430); new device none -/
  pendingLevel : Option Nat := none
  /-- alarm causes latched in the counter sector (R430, R434); new device 0 -/
  lastAlarm : Nat := 0
  /-- security level of the lifecycle record (R449); new device 0 -/
  level : Nat := 0
  /-- level-2 fuse (R449); new device not blown -/
  fuse : Bool := false
  /-- Rulebook SVN minimum, of the counter sector (R528); new device 0 -/
  rbMinSvn : Nat := 0
  /-- Rulebook key digest of the lifecycle record, 0 the all-zero digest (R527); new device 0 -/
  rbKey : Nat := 0
  /-- entries of the current record; signed this boot (R439 to R441) -/
  journey : List JEntry := []
  /-- records by archive slot (R442) -/
  archive : Table JRec := []
  /-- the last challenge nonce not consumed (R326, R432) -/
  challenge : Option Nat := none
  /-- digests of images that passed VERIFY_IMAGE in this boot (R432) -/
  verified : List Nat := []
  /-- SPDM connection state by transport: 0 DOE A, 1 DOE B, 2 MCTP -/
  spdm : Table SpdmState := []
  /-- sealed secrets by identifier: the level their key names, and what they hold (R410, R432) -/
  secrets : Table (Nat × List Byte) := []
  /-- SVN of the running package (R437, R454); reset 0 -/
  running : Nat := 0
  /-- digest of the GUARD entry, for the attestation key (R443) -/
  guardDigest : Nat := 0
  /-- digest of the BOOT entry, for the attestation key (R443) -/
  bootDigest : Nat := 0
  /-- the first three certificates of the chain, of the identity sector (R430, R444); reset: as manufactured -/
  chain : List Cert := [.rootCa, .manufacturingCa, .identity 0]
  /-- the attestation certificate issued in this boot (R444); reset none -/
  issued : Option Cert := none
  -- Station clock
  /-- milliseconds since 1970 (R452); reset: as it counts, 0 in a new device -/
  clockMs : Nat := 0
  -- Depot
  /-- words by number (byte address / 8); unlisted: erased, all ones (R460) -/
  depot : Table Nat := []
  /-- words that a failed program or erase left undefined: programmable only after an erase (R462); reset none -/
  spoilt : List Nat := []
  /-- erases of each sector (R463) -/
  erases : Table Nat := []
  /-- sectors whose write-protect bit is set (R467); reset none -/
  wp : List Nat := []
  /-- operation in progress on bank 0 (R464); reset none -/
  op0 : Option DepotOp := none
  /-- operation in progress on bank 1 (R464); reset none -/
  op1 : Option DepotOp := none
  /-- command that waits at the core port (R464); reset none -/
  coreCmd : Option DepotOp := none
  /-- command that waits at the Guard port (R464); reset none -/
  guardCmd : Option DepotOp := none
  /-- images, 1 Rulebooks and 2 customer microcode, whose signature a Depot Image Commit has verified (R325); reset none -/
  signed : List (Nat × List Byte) := []
  /-- signing key digest and MIN_SVN of the Rulebook in force, none for the default Rulebook (R527, R528) -/
  inForce : Option RulebookImage := none
  /-- the boot image in use: 0 A, 1 B (R438) -/
  bootImage : Nat := 0
  /-- an activation swaps the boot images at the next reset (R321, R469) -/
  swapPending : Bool := false
  /-- recovery load: bytes received (R501) -/
  rlBytes : Nat := 0
  /-- result of the last recovery load (R501); reset 0 -/
  rlResult : Nat := 0
  /-- strap levels as sampled (R493) -/
  straps : Straps := ⟨0, 0, false, false, 0, 0⟩
  /-- member number: 0 for a manager and in standalone mode (R3) -/
  member : Nat := 0
  /-- MODE[1:0] as sampled -/
  strapMode : Nat := 0
  deriving DecidableEq, Repr

end Sys2Proof.Machine
end

