-- ==== Sys2Proof/Machine/State.lean ====
section
/-! DEFINITION. State. -/

namespace Sys2Proof

/-- The vendor registers: field key to value, a field at its reset value unlisted. -/
abbrev RegFile := Table Nat

namespace Machine

/-- Why the block stops. No rule of the spec lets a command stop the block for good, so no reason exists and no meaning raises one. -/
inductive Fault
  deriving DecidableEq, Repr

/-- Why a command is refused. -/
inductive Refusal where
  /-- raised by the arm of `exec` of a command that has no meaning yet; safe, since nothing follows from it -/
  | notModelled (mnemonic : String)
  deriving DecidableEq, Repr

/-- DMTF types of a measurement (R448). -/
inductive MeasurementType where
  | mutableFirmware | hardwareConfig | firmwareConfig | freeform
  deriving DecidableEq, Repr

/-- A measurement as it is reported (R448): index, type, whether the value is the raw 96-byte entry or a digest, the value. -/
structure Measurement where
  /-- measurement index -/
  index : Nat
  /-- DMTF type -/
  type : MeasurementType
  /-- the value is the raw entry -/
  raw : Bool
  /-- its bytes -/
  value : List Nat
  deriving DecidableEq, Repr

/-- Answers of the Guard to an SPDM request (R448). [DEDUCED, log 42] -/
inductive SpdmAnswer where
  | version | capabilities | algorithms
  /-- digest of slot 0's chain -/
  | digests (chain : List Nat)
  /-- the portion of slot 0's chain asked for, and how many bytes follow it -/
  | certificate (portion : List Byte) (remainder : Nat)
  /-- the requester's nonce, and the signature by the attestation key -/
  | challengeAuth (nonce : Nat) (sig : List Nat)
  /-- entries of the signed record as measurements, and whether the answer is signed -/
  | measurements (entries : List Measurement) (sign : Bool)
  /-- the whole signed record as a manifest -/
  | manifest (bytes : List Nat) (sign : Bool)
  | busy | unexpected | invalid | unsupported
  deriving DecidableEq, Repr

/-- What the device sends or reports to the outside, in order. [DESIGN CHOICE, log 9] -/
inductive Out where
  | flashReport (die owner event : Nat)
  /-- bus cycles of a channel (R87) -/
  | bus (ch : Nat) (c : BusCycle)
  /-- a LUN reset of a die (R75, R78) -/
  | lunReset (die : Nat)
  | readData (off : Nat) (value : Word)
  | search (hit : Bool) (winner : Option Nat) (count : Nat) (multi : Bool)
  /-- the entry the map assist replaced, and whether the operation stored its own (R139) -/
  | mapReplaced (old : Nat) (stored : Bool)
  /-- a completion entry: controller, submission queue, CID, status, Dword 0, phase (R278) -/
  | completion (ctl sqid cid : Nat) (st : Status) (dw0 : Nat) (phase : Bool)
  /-- read data written to host memory, by LBA; with RO set or not (R14, R259) -/
  | hostData (ctl cid : Nat) (blocks : List (Nat × Block)) (poisoned relaxed : Bool)
  /-- a data structure written to host memory, byte by byte -/
  | hostBytes (ctl cid : Nat) (bytes : List Nat)
  /-- answer to a DRAM read: bytes of the word, none on an error response (R385, R391) -/
  | dramData (port : Nat) (bytes : Option (List Byte))
  /-- error response to a requester's write (R385, R399) -/
  | dramError (port : Nat)
  /-- an error message on a port: 0 correctable, 1 non-fatal, 2 fatal (R261) -/
  | errMsg (port kind : Nat)
  /-- a transaction packet on a Branch port, with a CRC or a payload bit the Fogman spoilt (R329, R507) -/
  | packet (port : Nat) (p : BlSent) (crcBad authBad : Bool)
  /-- a control packet: TYPE, fields A and B (R332) -/
  | control (port typ a b : Nat)
  /-- an MSI-X message (R257) -/
  | msix (port vector : Nat)
  /-- output of an XTS job (R414) -/
  | xts (blocks : List (List Byte))
  /-- output of a GCM encryption: nonce counter and ciphertext (R416) -/
  | sealed (nonce : Nat) (bytes : List Byte)
  /-- output buffer of a GCM decryption; zeros when the tag does not verify (R416) -/
  | opened (bytes : List Byte)
  /-- an Opal method ended: success, or INVALID_PARAMETER (R421) -/
  | opal (ok : Bool)
  /-- a mailbox response: slot, status of R432, data bytes -/
  | mailbox (slot status : Nat) (data : List Nat)
  /-- an SPDM response on a transport (R448) -/
  | spdm (transport : Nat) (a : SpdmAnswer)
  /-- a Depot word returned to a port, none on an error response (R459, R460) -/
  | depot (guard : Bool) (value : Option Nat)
  /-- bytes returned on the SMBus/I3C management interface (R501, R502) -/
  | mctp (bytes : List Nat)
  /-- WP_N of every channel is driven low (R434) -/
  | wpLow
  /-- a completion of an inbound read on a PCIe port: status 0 successful, 1 Unsupported Request, 2 Request Retry, 4 Completer Abort, and the bytes (R251, R253, R263, R267) -/
  | cpl (port status : Nat) (bytes : List Nat)
  /-- a device-wide maintenance position: DRAM read training and ZQ calibration, else lane adaptation of the Branch ports (R51) -/
  | maintenance (dram : Bool)
  /-- INTA changes level (R278) -/
  | inta (ctl : Nat) (high : Bool)
  deriving DecidableEq, Repr

/-- Operating modes of R3. -/
inductive Mode where
  | unsampled | standalone | manager | worker | strapFault
  deriving DecidableEq, Repr

/-- The whole block. Every part is described where it is declared; `reset` below gives the values after reset. -/
structure State where
  /-- the part: XD6408 with 8 channels, else XD6416 with 16 (R1) -/
  xd6408 : Bool := false
  /-- operating mode of the straps (R3); reset unsampled -/
  mode : Mode := .unsampled
  /-- vendor registers of the diagnostic window (R506) -/
  regs : RegFile := []
  /-- dies, channels, signal boxes, codec -/
  flash : Flash := {}
  /-- translation, write buffer, relocation, patrol, hold-up -/
  media : Media := {}
  /-- Associative Engine -/
  ae : Ae := {}
  /-- PCIe ports A and B by number -/
  ports : Table Port := []
  /-- NVMe controllers by number -/
  ctls : Table Controller := []
  /-- administration and command contexts -/
  adm : Admin := {}
  /-- PCIE_BIFUR as sampled (R244); reset false -/
  bifur : Bool := false
  /-- DRAM, its controller and the incident log -/
  mem : Mem := {}
  /-- Branch Link -/
  link : Link := {}
  /-- what member 0 keeps of the array -/
  arr : ArrayFlash := {}
  /-- cipher engine, Guard, Depot -/
  sec : Sec := {}
  /-- start-up, thermal management, Token instrument, Fogman -/
  plat : Plat := {}
  /-- the Rulebook in force: parameters that differ from their defaults (R27); reset none -/
  rb : Rulebook := {}
  /-- what the device has sent or reported, oldest first: the model's own record; reset none -/
  out : List Out := []
  /-- how many free values have been drawn: the model's own counter; reset 0 -/
  free : Nat := 0
  /-- commands that wait, first in, first out; reset none -/
  pending : List Instr := []
  deriving DecidableEq, Repr

/-- The block right after its reset: a new device, power-on reset released, straps not yet sampled, nothing listed that has its reset value. The one register listed is FG_STAT.GATE_OPEN, key 0xD000 * 32: at level 0 the gate is open (R505). [DESIGN CHOICE, log 3; DESIGN CHOICE, log 4] -/
def State.reset : State where
  regs := [(1703936, 1)]

end Machine
end Sys2Proof
end

