-- ==== Sys2Proof/Machine/Ops.lean ====
section
/-! DEFINITION. The named operations over the state that every meaning uses: registers, tables, outputs, free values, Rulebook. -/

namespace Sys2Proof.Machine

/-- What a meaning answers. -/
abbrev Result := Host.Outcome State Fault Refusal

end Sys2Proof.Machine

namespace Sys2Proof.RegFile

/-- The value a field holds: the listed value, or the field's reset value. -/
def get (r : RegFile) (f : Field) : Nat := Table.get f.reset r f.key

/-- Stores a value, cut to the field's width. -/
def set (r : RegFile) (f : Field) (v : Nat) : RegFile := Table.put f.reset r f.key (v % 2 ^ f.width)

/-- Adds to a saturating counter field. -/
def sat (r : RegFile) (f : Field) (n : Nat := 1) : RegFile := r.set f (min (r.get f + n) (2 ^ f.width - 1))

/-- Adds to a wrapping counter field. -/
def wrap (r : RegFile) (f : Field) (n : Nat := 1) : RegFile := r.set f (r.get f + n)

end Sys2Proof.RegFile

namespace Sys2Proof.Machine.State

/-- Reads a register field. -/
def rget (s : State) (f : Field) : Nat := s.regs.get f

/-- A one-bit field as a Boolean. -/
def flag (s : State) (f : Field) : Bool := s.regs.get f != 0

/-- Writes a register field. -/
def rset (s : State) (f : Field) (v : Nat) : State := { s with regs := s.regs.set f v }

/-- Adds to a saturating counter. -/
def rsat (s : State) (f : Field) (n : Nat := 1) : State := { s with regs := s.regs.sat f n }

/-- Adds to a wrapping counter. -/
def rwrap (s : State) (f : Field) (n : Nat := 1) : State := { s with regs := s.regs.wrap f n }

/-- Adds an output to the record of what the device has sent or reported. [DESIGN CHOICE, log 9] -/
def emit (s : State) (o : Out) : State := { s with out := s.out ++ [o] }

/-- The value of an integer Rulebook parameter in force (R27). -/
def param (s : State) (p : Param) : Int := s.rb.get p

/-- The value of a parameter whose range is not negative. -/
def paramN (s : State) (p : Param) : Nat := (s.rb.get p).toNat

/-- The number of the next free value; the counter advances. [DESIGN CHOICE, log 10] -/
def nextFree (s : State) : State := { s with free := s.free + 1 }

/-- A power-loss or thermal flush has begun: no command is fetched or completed, no class is planned (R207). -/
def flushing (s : State) : Bool := s.media.flush != .none

end Sys2Proof.Machine.State
end

