-- ==== Sys2Proof/Machine/Flash.lean ====
section
/-! DEFINITION. Dies, die-table entries, channels and isolation (chapter 03), shared by the Timetable, the signal boxes and the codec; the temperature inputs (chapter 19) as channels read them. -/

namespace Sys2Proof.Machine

/-- A field of a die-table entry (R65). -/
def Die.ent (d : Die) (lo width : Nat) : Nat := bits d.entry.toNat lo width
/-- PRESENT -/
def Die.present (d : Die) : Bool := d.ent 0 1 == 1
/-- IPR: the read unit is one plane -/
def Die.ipr (d : Die) : Bool := d.ent 1 1 == 1
/-- planes of the die: 1, 2 or 4 -/
def Die.planes (d : Die) : Nat := 2 ^ d.ent 2 2
/-- CELL -/
def Die.cell (d : Die) : Nat := d.ent 4 3
/-- read thresholds of the CELL type (R64) -/
def Die.thresholds (d : Die) : Nat := 2 ^ (d.cell + 1) - 1
/-- PAGE_BYTES -/
def Die.pageBytes (d : Die) : Nat := d.ent 32 16
/-- DISPATCH_SET -/
def Die.dispatchSet (d : Die) : Nat := d.ent 48 4
/-- SUSP_LIMIT -/
def Die.suspLimit (d : Die) : Nat := d.ent 56 8
/-- array read time, ns -/
def Die.tR (d : Die) : Nat := d.ent 64 16 * 10
/-- program time, ns -/
def Die.tProg (d : Die) : Nat := d.ent 80 16 * 1000
/-- erase time, ns -/
def Die.tBers (d : Die) : Nat := d.ent 96 16 * 1000
/-- SLC-mode program time, ns -/
def Die.tProgSlc (d : Die) : Nat := d.ent 112 16 * 1000
/-- RESUME_LAT, ns -/
def Die.resumeLat (d : Die) : Nat := d.ent 176 16
/-- exhausted (R41): suspended as often as the declared limit allows -/
def Die.exhausted (d : Die) : Bool := d.counted && d.suspLimit ≤ d.suspCount && 0 < d.suspCount
/-- Express reads in progress -/
def Die.expInflight (d : Die) : Nat := (d.reads.filter (·.express)).length
/-- a program or erase of the die is suspended -/
def Die.suspended (d : Die) : Bool := d.state == .suspProg || d.state == .suspErase
/-- populated: not ABSENT -/
def Die.populated (d : Die) : Bool := d.state != .absent

/-- Code of a die state in TT_DIE_STATE (R33). -/
def DieState.code : DieState → Nat
  | .idle => 0 | .readX => 1 | .readL => 2 | .load => 3 | .prog => 4 | .erase => 5
  | .suspProg => 6 | .suspErase => 7 | .abort => 8 | .isolated => 9 | .absent => 15

/-- A flash location: die, plane, block, page, slot (R137). -/
def mkLoc (d plane block page slot : Nat) : Nat := d * 2 ^ 28 + plane * 2 ^ 26 + block * 2 ^ 14 + page * 4 + slot

/-- Block number of a block of a plane of a die: die, plane, block. -/
def State.blockNo (d plane block : Nat) : Nat := (d * 4 + plane) * 4096 + block

/-- Channel of a die (R61). -/
def chOf (d : Nat) : Nat := d / 32
/-- Chip enable of a die (R61). -/
def ceOf (d : Nat) : Nat := d / 4 % 8
/-- The dies of a channel (R61). -/
def diesOf (ch : Nat) : List Nat := (List.range 32).map (32 * ch + ·)
/-- Read unit of a plane: the plane with independent plane reads, else the whole die. -/
def Die.unitOf (d : Die) (plane : Nat) : Nat := if d.ipr then plane else 0
/-- The planes of a mask; an empty mask names plane 0. -/
def planesOf (m : Nat) : List Nat := if m % 16 = 0 then [0] else (List.range 4).filter fun p => m / 2 ^ p % 2 == 1
/-- Read units of a mask of planes. -/
def Die.unitsOf (d : Die) (m : Nat) : List Nat := ((planesOf m).map d.unitOf).eraseDups

/-- Owners of what runs on a die: routines and reads in progress, each once. -/
def Die.owners (x : Die) : List Nat :=
  ((if x.ctx.active then [x.ctx.arg.owner] else []) ++ x.others.map (·.arg.owner) ++ x.reads.map (·.owner)).eraseDups

/-- A block is in the Sidings: it holds no data and is not retired (R163). -/
def BlockInfo.inSidings (i : BlockInfo) : Bool := i.serial.isNone && !i.journal && !i.retired

/-- Isolation causes of SB_ISOL_LAST. -/
inductive IsolCause where
  | train | ident | noProfile | geometry | timeout | status | firmware | channel | watchdog
  deriving DecidableEq, Repr

/-- Code of a cause. -/
def IsolCause.code : IsolCause → Nat
  | .train => 1 | .ident => 2 | .noProfile => 3 | .geometry => 4 | .timeout => 5 | .status => 6
  | .firmware => 7 | .channel => 8 | .watchdog => 9

/-- A die that identification accepted, isolated since or not: its cause, if any, is none of those of R58, R62 and R64 to R67. -/
def Die.accepted (x : Die) : Bool := x.present || (x.isol != 0 && !([2, 3, 4].contains x.isol))

namespace State

/-- Channels the variant has (R1). -/
def channels (s : State) : Nat := if s.xd6408 then 8 else 16
/-- The die of a number; ABSENT where not listed or fused off (R61). -/
def die (s : State) (d : Nat) : Die := Table.get {} s.flash.dies d
/-- Changes a die. -/
def setDie (s : State) (d : Nat) (x : Die) : State :=
  { s with flash := { s.flash with dies := Table.put {} s.flash.dies d x } }
/-- Changes a die by a function. -/
def modDie (s : State) (d : Nat) (f : Die → Die) : State := s.setDie d (f (s.die d))
/-- Changes the context of a die. -/
def modCtx (s : State) (d : Nat) (f : DieCtx → DieCtx) : State :=
  s.modDie d fun x => { x with ctx := f x.ctx }
/-- The signal box of a channel. -/
def box (s : State) (ch : Nat) : Box := Table.get {} s.flash.boxes ch
/-- Changes a signal box. -/
def modBox (s : State) (ch : Nat) (f : Box → Box) : State :=
  { s with flash := { s.flash with boxes := Table.put {} s.flash.boxes ch (f (s.box ch)) } }
/-- Calibration state of a chip enable. -/
def ceCal (s : State) (ch ce : Nat) : CeCal := Table.get {} s.flash.cal (8 * ch + ce)
/-- Changes it. -/
def modCal (s : State) (ch ce : Nat) (f : CeCal → CeCal) : State :=
  { s with flash := { s.flash with cal := Table.put {} s.flash.cal (8 * ch + ce) (f (s.ceCal ch ce)) } }
/-- The channel has a signal box that runs: present, powered, not isolated, not halted (R77, R103). -/
def boxRuns (s : State) (ch : Nat) : Bool :=
  decide (ch < s.channels) && s.flag (Reg.SB_CH_STAT_POWERED ch) && !s.flag (Reg.SB_CH_STAT_ISOLATED ch) && !s.flag (Reg.SB_SEQ_STAT_HALTED ch)

/-- An unlisted tracker entry: AGE alone (R179). -/
def trackDflt (s : State) : Nat := min 255 s.flash.trackAge * 2 ^ 16
/-- The tracker entry of a block (R120). -/
def tracker (s : State) (b : Nat) : Nat := Table.get s.trackDflt s.flash.trackers b
/-- Writes a tracker entry (R120). -/
def setTracker (s : State) (b v : Nat) : State := { s with flash := { s.flash with trackers := Table.put s.trackDflt s.flash.trackers b v } }
/-- Erase count of a block (R122). -/
def eraseCount (s : State) (b : Nat) : Nat := Table.get 0 s.flash.eraseCounts b

/-- Time at the start of the tick in progress, ns since tick 0 (R9). -/
def tickNs (s : State) : Nat := s.flash.tick * 8192

/-! Contexts, superblocks and blocks, as the flash side touches them. -/

/-- A context. -/
def ctx (s : State) (n : Nat) : Option Ctx := Table.find s.adm.ctxs n

/-- Changes a context where there is one. -/
def modCtxN (s : State) (n : Nat) (f : Ctx → Ctx) : State :=
  { s with adm := { s.adm with ctxs := Table.modify f s.adm.ctxs n } }

/-- Changes the media state. -/
def modMedia (s : State) (f : Media → Media) : State := { s with media := f s.media }
/-- Changes what lies on flash. -/
def modNand (s : State) (f : Nand → Nand) : State := { s with media := { s.media with nand := f s.media.nand } }

/-- A superblock. -/
def sb (s : State) (n : Nat) : Option Superblock := Table.find s.media.nand.sbs n
/-- What is known of a block. -/
def blockInfo (s : State) (b : Nat) : BlockInfo := Table.get {} s.media.nand.blocks b
/-- Changes it. -/
def modBlock (s : State) (b : Nat) (f : BlockInfo → BlockInfo) : State :=
  s.modNand fun x => { x with blocks := Table.put {} x.blocks b (f (Table.get {} x.blocks b)) }
/-- Planes of every accepted die (R67). -/
def planesPer (s : State) : Nat := match s.flash.refDie with | some d => (s.die d).planes | none => 1
/-- Blocks per plane (R65, R67). -/
def blocksPer (s : State) : Nat := match s.flash.refDie with | some d => (s.die d).ent 8 12 + 1 | none => 0
/-- Pages per block. -/
def pagesPer (s : State) : Nat := match s.flash.refDie with | some d => (s.die d).ent 20 12 + 1 | none => 0
/-- Pages of a wordline: one in SLC mode, else one for each bit of the cell (R148). -/
def wlPages (s : State) (slc : Bool) : Nat := if slc then 1 else match s.flash.refDie with | some d => (s.die d).cell + 1 | none => 1

/-- Die group of a die (R147). -/
def groupOf (s : State) (d : Nat) : Nat := if s.xd6408 then d % 32 / 4 else d % 32 / 2
/-- Number of die groups. -/
def groupCount (s : State) : Nat := if s.xd6408 then 8 else 16
/-- In-service dies of a group, ascending (R147). -/
def groupDies (s : State) (g : Nat) : List Nat :=
  (List.range (32 * s.channels)).filter fun d => s.groupOf d == g && (s.die d).present && (s.die d).isol == 0
/-- A group with fewer than 4 in-service dies opens no superblock (R147). -/
def closedToNew (s : State) (g : Nat) : Bool := decide ((s.groupDies g).length < 4)
/-- Blocks of a plane that hold no data and are not retired (R163). -/
def freeBlocks (s : State) (d plane : Nat) : Nat :=
  s.blocksPer - (s.media.nand.blocks.filter fun p => p.1 / 4096 == d * 4 + plane && !p.2.inSidings).length
/-- Good blocks of a plane (R187). -/
def goodBlocks (s : State) (d plane : Nat) : Nat :=
  s.blocksPer - (s.media.nand.blocks.filter fun p => p.1 / 4096 == d * 4 + plane && p.2.retired).length
/-- Smallest of a list; 0 of none. -/
def minOf (l : List Nat) : Nat := match l with | [] => 0 | x :: xs => xs.foldl min x
/-- FREE_MIN of a group (R164). -/
def freeMin (s : State) (g : Nat) : Nat :=
  minOf ((s.groupDies g).flatMap fun d => (List.range s.planesPer).map fun p => s.freeBlocks d p)
/-- Hands a Mainline command to firmware with its context and entry; the rest of it leaves the Express class (R14, R16). -/
def handOff (s : State) (n : Nat) : State :=
  let s := s.modCtxN n fun c => { c with path := .firmware, express := false }
  let js := ((s.ctx n).map (·.jobs)).getD []
  { s with flash := { s.flash with
      jobs := s.flash.jobs.map fun p => if js.contains p.1 then (p.1, { p.2 with cls := .stopping }) else p
      xreads := s.flash.xreads.filter fun x => !js.contains x.owner || x.issue.isSome } }

/-- A host read leaves the first-attempt class: counted once, handed to firmware (R127, R128). -/
def leaveClass (s : State) (n : Nat) : State :=
  match s.ctx n with
  | none => s
  | some c =>
    if c.leftClass || c.path != .mainline then s
    else
      let s := (s.rsat Reg.LD_CNT_HOST_LEFT_CLASS).modCtxN n fun c => { c with leftClass := true }
      let s := s.modMedia fun m => { m with hourLoss := m.hourLoss + 1 }
      ({ s with adm := { s.adm with leftClassTotal := s.adm.leftClassTotal + 1 } }).handOff n

/-- Releases the budget count of a die's program or erase (R47). -/
def uncount (s : State) (d : Nat) : State :=
  let x := s.die d
  if x.counted then
    let f := if x.ctx.op == 6 || x.others.any (·.op == 6) then Reg.TT_BUDGET_STAT_ERASE_ACTIVE else Reg.TT_BUDGET_STAT_PROG_ACTIVE
    (s.rset f (s.rget f - 1)).setDie d { x with counted := false, suspCount := 0, span := 0, draining := false, protectedTo := 0 }
  else s

/-- Host commands with a codeword that a read in progress on a die senses (R78). -/
def hostReads (s : State) (d : Nat) : List Nat :=
  let x := s.die d
  let live := fun (j : Job) => j.die == d && j.state == .sensing &&
    ((s.flash.xreads.any fun r => r.die == d && r.block == j.block && r.page == j.page && r.issue.isSome) ||
      (x.ctx :: x.others).any fun c => c.active && c.arg.block == j.block && c.arg.page == j.page)
  (s.flash.jobs.filterMap fun p => match p.2.owner with | .host c _ _ => if live p.2 then some c else none | _ => none).eraseDups

/-- Ends whatever runs on a die as failed to its owner (R75, R78, R103): each owner has a FAIL report, a Mainline read of it leaves the first-attempt class; the contexts are freed. [DEDUCED, log 23] -/
def failDie (s : State) (d : Nat) (st : DieState) : State :=
  let x := s.die d
  let hs := s.hostReads d
  let s := x.owners.foldl (fun s o => s.emit (.flashReport d o 7)) s
  let s := hs.foldl leaveClass s
  let s := { s with flash := { s.flash with xreads := s.flash.xreads.filter fun r => r.die != d || r.issue.isNone } }
  (s.uncount d).modDie d fun x => { x with state := st, ctx := {}, others := [], reads := [], request := none, resumeAt := none }

/-- Marks a die isolated with a cause (R78, R79). While the Timetable plans, the state becomes ISOLATED at the next cutoff; before it runs, at once. [DEDUCED, log 22] -/
def isolateDie (s : State) (d : Nat) (c : IsolCause) : State :=
  let x := s.die d
  if x.isol != 0 || x.state == .absent then s
  else
    let s := s.setDie d { x with isol := c.code, isolSecs := (if s.flag Reg.SC_STAT_VALID then s.sec.clockMs / 1000 % 2 ^ 32 else 2 ^ 32 - 1), entry := x.entry &&& ~~~1#256 }
    let s := if s.flag Reg.TT_STATUS_RUNNING then s else s.failDie d .isolated
    (((s.rset Reg.SB_ISOL_LAST_DIE d).rset Reg.SB_ISOL_LAST_CAUSE c.code).rset Reg.SB_ISOL_LAST_TICK s.flash.tick).rset
      (Reg.SB_CH_ERR_DIE_ISOLATED (chOf d)) 1

/-- A populated die of the list is not isolated. -/
def inService (s : State) (ds : List Nat) : Bool := ds.any fun d => (s.die d).populated && (s.die d).isol == 0

/-- CE_ISOLATED: the populated chip enables all of whose populated dies are isolated (R77). -/
def ceIsolatedMask (s : State) (ch : Nat) : Nat :=
  (List.range 8).foldl (fun m ce =>
    let ds := (List.range 4).map (32 * ch + 4 * ce + ·)
    if ds.any (fun d => (s.die d).populated) && !s.inService ds then m + 2 ^ ce else m) 0

/-- Isolates a channel (R77): every die with cause CHANNEL, WP_N low, power switch open. -/
def isolateChannel (s : State) (ch : Nat) (c : IsolCause := .channel) : State :=
  let s := (diesOf ch).foldl (fun s d => s.isolateDie d c) s
  let s := s.rset (Reg.SB_CH_STAT_ISOLATED ch) 1
  let s := s.rset (Reg.SB_CH_STAT_WP ch) 0
  let s := s.rset (Reg.SB_CH_STAT_POWERED ch) 0
  let s := s.rset (Reg.SB_CH_STAT_CE_ISOLATED ch) (s.ceIsolatedMask ch)
  s.rset (Reg.SB_CH_ERR_CH_ISOLATED ch) 1

/-- Isolates a channel all of whose populated chip enables are isolated (R77). -/
def checkChannel (s : State) (ch : Nat) : State :=
  let s := s.rset (Reg.SB_CH_STAT_CE_ISOLATED ch) (s.ceIsolatedMask ch)
  if (diesOf ch).any (fun d => (s.die d).populated) && !s.inService (diesOf ch) && !s.flag (Reg.SB_CH_STAT_ISOLATED ch)
  then s.isolateChannel ch else s

/-- Isolates a die and then checks its channel. -/
def isolate (s : State) (d : Nat) (c : IsolCause) : State := (s.isolateDie d c).checkChannel (chOf d)

/-- Isolates every die of a chip enable (R62, R64, R69). -/
def isolateCe (s : State) (ch ce : Nat) (c : IsolCause) : State :=
  (((List.range 4).foldl (fun s l => s.isolateDie (32 * ch + 4 * ce + l) c) s).modCal ch ce fun x => { x with isolated := true }).checkChannel ch

/-! Temperatures that the channels follow (chapter 19). -/

/-- A temperature input. -/
def tempIn (s : State) (i : Nat) : TempInput := Table.get {} s.plat.inputs i
/-- An input takes part in the temperature rules (R472). -/
def tempEnabled (s : State) (i : Nat) : Bool := s.paramN .thermalInputEnable / 2 ^ i % 2 == 1
/-- Enabled and not broken. -/
def tempValid (s : State) (i : Nat) : Bool := s.tempEnabled i && (s.tempIn i).broken == .none

/-- Highest of a list. -/
def maxInt : List Int → Option Int
  | [] => none
  | x :: xs => some (xs.foldl max x)

/-- The composite (R474): the highest corrected reading of the masked valid inputs, else the highest valid on-die reading; with none left it stays as it is. [DEDUCED, log 43] -/
def composite (s : State) : Int :=
  let ins := (List.range 18).filter fun i => s.tempValid i && s.paramN .thermalCompositeMask / 2 ^ i % 2 == 1
  match maxInt (ins.map fun i => (s.tempIn i).reading + s.param (.thermalOffsetC i)) with
  | some t => t
  | none => ((maxInt (((List.range 6).filter fun i => (s.tempIn i).broken == .none).map fun i => (s.tempIn i).reading))).getD (signed (s.rget Reg.TH_STAT_COMPOSITE) 8)

/-- The temperature a channel's band follows (R475). -/
def chanTemp (s : State) (ch : Nat) : Int :=
  let i := s.paramN (.thermalChanSensor ch)
  if s.tempValid i then (s.tempIn i).reading
  else
    let ins := (List.range 12).filterMap fun j => if s.tempValid (6 + j) then some (s.tempIn (6 + j)).reading else none
    (maxInt ins).getD s.composite

end State

end Sys2Proof.Machine
end

