-- ==== Sys2Proof/Machine/Ae.lean ====
section
/-! DEFINITION. The Associative Engine, the Interlocking and the Parcels index (chapter 09). -/

namespace Sys2Proof.Machine

/-- Configuration field of a bank: AE_BANK_CFG0 and AE_BANK_CFG1, two bits a bank (R242). -/
def bankCfg (b : Nat) : Field := ⟨0x3004 + 4 * (b / 16), 2 * (b % 16), 2, .rwl, 0, .free⟩

/-- Units of an entry match a key under both care masks (R223). -/
def unitsMatch : List U64 → List U64 → List U64 → List U64 → Bool
  | v :: vs, c :: cs, k :: ks, m :: ms => ((v ^^^ k) &&& c &&& m) == 0 && unitsMatch vs cs ks ms
  | _, _, _, _ => true

namespace State

/-- Entry width a bank is configured for, 0 when off (R222). -/
def bankWidth (s : State) (b : Nat) : Nat :=
  match s.rget (bankCfg b) with
  | 1 => 1 | 2 => 2 | 3 => 4 | _ => 0

/-- Positions of the valid entries that match, in position order, at or after the start (R223, R224). -/
def aeMatches (s : State) (q : Search) : List Nat :=
  (s.ae.entries.filter fun p =>
    p.2.valid && q.banks.contains (p.1 / 4096) && s.bankWidth (p.1 / 4096) == q.width && p.2.value.length == q.width &&
    decide (q.start ≤ p.1) && unitsMatch p.2.value p.2.care q.key q.mask).map (·.1)

/-- The port serves the bank (R226). -/
def portServes (port b : Nat) : Bool := if port = 0 then decide (b < 8) else decide (8 ≤ b ∧ b < 24)

/-- Banks of a search that the port serves. -/
def portBanks (q : Search) : List Nat := q.banks.filter (portServes q.port)

/-- Some selected bank is the other port's, off, or of another width (R225, R226). -/
def widthError (s : State) (q : Search) : Bool :=
  q.banks.any fun b => !portServes q.port b || s.bankWidth b != q.width

/-- The port is stopped (R228). -/
def portStopped (s : State) (port : Nat) : Bool := if port = 0 then s.ae.stopped0 else s.ae.stopped1

/-- The enabled engine executes a request on a port; while the port is stopped requests wait (R228). -/
def aeRuns (s : State) (port : Nat) : Bool := s.flag Reg.AE_CTRL_ENABLE && !s.portStopped port

/-- Runs an admitted search: WIDTH_ERR, bank-search count, result (R224, R225, R227). -/
def runSearch (s : State) (q : Search) : State :=
  let s := if s.widthError q then s.rset Reg.AE_ERR_WIDTH_ERR 1 else s
  let q := { q with banks := portBanks q }
  let n := q.banks.length
  let s := { s with ae := { s.ae with window := s.ae.window + n, periodCount := s.ae.periodCount + n } }
  let ms := s.aeMatches q
  s.emit (.search (!ms.isEmpty) ms.head? (min 15 ms.length) (decide (2 ≤ ms.length)))

/-- The search fits the window (R227). -/
def searchFits (s : State) (q : Search) : Bool := decide (s.ae.window + (portBanks q).length ≤ s.rget Reg.AE_PWR_CFG_BANK_RATE)

/-- Requests a search: it waits behind earlier waiting searches of its port, for the next window when this one is full, or while its port is stopped (R226 to R228). -/
def requestSearch (s : State) (q : Search) : State :=
  if s.portStopped q.port || s.ae.waiting.any (·.port == q.port) then { s with ae := { s.ae with waiting := s.ae.waiting ++ [q] } }
  else if s.searchFits q then s.runSearch q
  else ({ s with ae := { s.ae with waiting := s.ae.waiting ++ [q] } }).rset Reg.AE_PWR_STAT_LIMITED 1

/-- Admits waiting searches in order while they fit and their ports run. -/
def admitWaiting : List Search → State → State
  | [], s => s
  | q :: qs, s =>
    let s := if s.portStopped q.port || !s.searchFits q then { s with ae := { s.ae with waiting := s.ae.waiting ++ [q] } } else s.runSearch q
    admitWaiting qs s

/-- Bank-searches of an internal operation count in the window and the average; those above the rate wait, first in line, for the next window (R227). -/
def countSearches (s : State) (n : Nat) : State :=
  let s := if s.rget Reg.AE_PWR_CFG_BANK_RATE < s.ae.window + n then s.rset Reg.AE_PWR_STAT_LIMITED 1 else s
  { s with ae := { s.ae with window := s.ae.window + n, periodCount := s.ae.periodCount + n } }

/-- Writes a context. -/
def setCtx (s : State) (n : Nat) (c : Ctx) : State := { s with adm := { s.adm with ctxs := Table.ins s.adm.ctxs n c } }

/-- Frees a context. -/
def dropCtx (s : State) (n : Nat) : State := { s with adm := { s.adm with ctxs := Table.del s.adm.ctxs n } }

/-- Valid Interlocking entries: positions in banks 0 to 7. -/
def ilEntries (s : State) : List (Nat × AeEntry) := s.ae.entries.filter fun p => decide (p.1 < 8 * 4096) && p.2.valid

/-- Unit 1 of an entry: CTX, HALF, STATE (R230). -/
def ilUnit1 (ctx : Nat) (half : Nat) (st : IlState) : U64 :=
  BitVec.ofNat 64 (ctx % 16384 + half * 2 ^ 14 + (match st with | .waiting => 0 | .active => 1 | .done => 2 | .aborted => 3) * 2 ^ 15)

/-- Context number of an entry. -/
def ilCtx (e : AeEntry) : Nat := bits (e.value.getD 1 0).toNat 0 14

/-- Unit 0 and its care mask for an aligned block of 2^b IUs (R230). -/
def ilUnit0 (blk b nsx space : Nat) (writer : Bool) : U64 × U64 :=
  (BitVec.ofNat 64 (blk / 2 ^ b * 2 ^ b + nsx * 2 ^ 40 + space * 2 ^ 47 + bit writer * 2 ^ 48),
   BitVec.ofNat 64 (2 ^ 49 - 2 ^ b))

/-- Smallest k up to the fuel with 2^k at least n. -/
def log2Up : Nat → Nat → Nat → Nat
  | 0, k, _ => k
  | f + 1, k, n => if n ≤ 2 ^ k then k else log2Up f (k + 1) n

/-- The one or two aligned blocks that cover a range of IUs: (first IU, b) each (R231). -/
def cover (a e : Nat) : List (Nat × Nat) :=
  let k := log2Up 40 0 (e - a + 1)
  if a / 2 ^ k = e / 2 ^ k then [(a / 2 ^ k * 2 ^ k, k)]
  else if a / 2 ^ (k + 1) = e / 2 ^ (k + 1) then [(a / 2 ^ (k + 1) * 2 ^ (k + 1), k + 1)]
  else [(a / 2 ^ k * 2 ^ k, k), (e / 2 ^ k * 2 ^ k, k)]

/-- Unit pairs of a command's ranges; more than 8 become one whole-namespace entry (R231, R283). -/
def coverAll (rs : List IlRange) (space : Nat) : List (U64 × U64) :=
  let es := rs.flatMap fun r => (cover r.first r.last).map fun p => ilUnit0 p.1 p.2 r.nsx space r.writer
  if es.length ≤ 8 then es
  else [ilUnit0 0 40 ((rs.head?.map (·.nsx)).getD 0) space (rs.any (·.writer))]

/-- HALF of each of those entries: 0 for the first entry of its range, 1 for the second (R230). -/
def coverHalves (rs : List IlRange) : List Nat :=
  let hs := rs.flatMap fun r => List.range (cover r.first r.last).length
  if hs.length ≤ 8 then hs else [0]

/-- Key mask of the conflict search of an entry: its care mask, WRITER not compared for a writer; a reader searches for writers only (R232). -/
def conflictKey (u : U64 × U64) : U64 × U64 :=
  let w : U64 := BitVec.ofNat 64 (2 ^ 48)
  if (u.1 &&& w) == 0 then (u.1 ||| w, u.2 ||| w) else (u.1, u.2 &&& ~~~w)

/-- Entries that conflict with an entry (R232). -/
def conflicts (s : State) (u : U64 × U64) : List (Nat × AeEntry) :=
  let k := conflictKey u
  s.ilEntries.filter fun p => unitsMatch p.2.value p.2.care [k.1, 0] [k.2, 0]

/-- The lowest free Interlocking positions, `n` of them. -/
def freeIl (t : Table AeEntry) : Nat → Nat → Nat → List Nat
  | 0, _, _ => []
  | fuel + 1, pos, n =>
    if n = 0 then []
    else if ((Table.find t pos).map (·.valid)).getD false then freeIl t fuel (pos + 2) n
    else pos :: freeIl t fuel (pos + 2) (n - 1)

/-- Writes an engine entry. -/
def putEntry (s : State) (pos : Nat) (e : AeEntry) : State := { s with ae := { s.ae with entries := Table.ins s.ae.entries pos e } }

/-- Invalidates an entry. -/
def invalidate (s : State) (pos : Nat) : State :=
  { s with ae := { s.ae with entries := Table.modify (fun e => { e with valid := false }) s.ae.entries pos } }

/-- Writes a STATE into every entry of a context and into its state word (R235). -/
def ilSetState (s : State) (n : Nat) (st : IlState) : State :=
  let ps := ((s.ctx n).map (·.il)).getD []
  let es := ps.foldl (fun t p =>
    Table.modify (fun (e : AeEntry) => { e with value := [e.value.getD 0 0, ilUnit1 n (bits (e.value.getD 1 0).toNat 14 1) st] }) t p) s.ae.entries
  ({ s with ae := { s.ae with entries := es } }).modCtxN n fun c => { c with word := st }

/-- AE_IL_STAT and AE_PC_STAT follow the entries and contexts. -/
def ilStat (s : State) : State :=
  let used := s.ilEntries.length
  let held := s.adm.ctxs.any fun p => !p.2.inserted && p.2.sqid != 0 && p.2.status.isNone
  let s := if held then s else s.rset Reg.AE_IL_STAT_FULL 0
  let waiting := (s.adm.ctxs.filter fun p => p.2.word == .waiting && p.2.inserted).length
  ((s.rset Reg.AE_IL_STAT_USED used).rset Reg.AE_IL_STAT_WAITING waiting)

/-- Inserts entries for a context: enumerate the conflicts of each, add them to the blocker count, write the entries WAITING or ACTIVE (R233); `halves` gives their HALF bits (R230). -/
def ilInsert (s : State) (n : Nat) (us : List (U64 × U64)) (halves : List Nat) : State :=
  let cs := us.map fun u => s.conflicts u
  let blockers := (cs.map (·.length)).sum
  let multi := (cs.filter (fun l => decide (2 ≤ l.length))).length
  let st : IlState := if blockers = 0 then .active else .waiting
  let ps := freeIl s.ae.entries 16384 0 us.length
  let s := (us.zip ps).zipIdx.foldl (fun s q =>
    s.putEntry q.1.2 ⟨[q.1.1.1, ilUnit1 n (halves.getD q.2 0) st], [q.1.1.2, 0], true, 0⟩) s
  let s := s.modCtxN n fun c => { c with il := ps, inserted := true, blockers := blockers, word := st }
  let s := s.rsat Reg.AE_IL_CNT_MULTI multi
  let s := (s.countSearches (8 * us.length)).rset Reg.AE_IL_STAT_FULL 0
  s.ilStat

/-- One conflicting entry of a removed command: its context, when later, loses one blocker; an overlap that clears is the start of its admission (R40, R234). -/
def unblock (seq : Nat) (s : State) (e : AeEntry) : State :=
  let n := ilCtx e
  match s.ctx n with
  | some c =>
    if seq < c.seq && 0 < c.blockers then
      let s := s.setCtx n { c with blockers := c.blockers - 1 }
      if c.blockers = 1 ∧ c.word = .waiting then (s.ilSetState n .active).modCtxN n fun c => { c with start := s.flash.tick } else s
    else s
  | none => s

/-- Removes a context's entries one by one and releases later contexts (R234). -/
def ilRemove (s : State) (n : Nat) : State :=
  match s.ctx n with
  | none => s
  | some c =>
    let s := c.il.foldl (fun s pos =>
      match Table.find s.ae.entries pos with
      | none => s
      | some e =>
        let s := s.invalidate pos
        (s.conflicts (e.value.getD 0 0, e.care.getD 0 0)).foldl (fun s p => unblock c.seq s p.2) s) s
    ((s.countSearches (8 * c.il.length)).modCtxN n fun c => { c with il := [], blockers := 0 }).ilStat

/-- IL_CAS (R235, R296): from one of the states to a new one; the state found. -/
def ilCas (s : State) (n : Nat) (from_ : List IlState) (want : IlState) : State × Option IlState :=
  match s.ctx n with
  | none => (s, none)
  | some c => (if from_.contains c.word then s.ilSetState n want else s, some c.word)

/-- Position of a parcel's entry (R238). -/
def parcelPos (p : Nat) : Nat := (8 + p / 4096) * 4096 + p % 4096

/-- Value of a Parcels entry (R238). -/
def parcelUnit (nsx iu part : Nat) (current : Bool) : U64 :=
  BitVec.ofNat 64 (iu % 2 ^ 40 + part % 4 * 2 ^ 40 + nsx % 128 * 2 ^ 42 + bit current * 2 ^ 49)

/-- The parcel's entry. -/
def parcelEntry (s : State) (p : Nat) : Option AeEntry := Table.find s.ae.entries (parcelPos p)

/-- Changes it. -/
def modParcelEntry (s : State) (p : Nat) (f : AeEntry → AeEntry) : State :=
  { s with ae := { s.ae with entries := Table.modify f s.ae.entries (parcelPos p) } }

/-- VALID of AE_PC_STAT. -/
def pcStat (s : State) : State :=
  s.rset Reg.AE_PC_STAT_VALID (s.ae.entries.filter fun p => decide (8 * 4096 ≤ p.1) && p.2.valid).length

/-- Clears CURRENT of a parcel (R239). -/
def pcClear (s : State) (p : Nat) : State :=
  s.modParcelEntry p fun e => { e with value := [(e.value.getD 0 0) &&& ~~~(BitVec.ofNat 64 (2 ^ 49))] }

/-- PC_INSERT (R239): the entry of parcel p CURRENT with PIN 0; CURRENT of a superseded parcel is cleared in the same operation. -/
def pcInsert (s : State) (p nsx iu part : Nat) (superseded : Option Nat) : State :=
  let s := match superseded with | some q => s.pcClear q | none => s
  (s.putEntry (parcelPos p) ⟨[parcelUnit nsx iu part true], [BitVec.ofNat 64 (2 ^ 50 - 1)], true, 0⟩).pcStat

/-- Parcels whose entries match a key with CURRENT (R239), in position order. -/
def pcMatches (s : State) (nsx iu part : Nat) : List Nat :=
  ((s.ae.entries.filter fun p => decide (8 * 4096 ≤ p.1) && p.2.valid &&
    unitsMatch p.2.value p.2.care [parcelUnit nsx iu part true] [BitVec.ofNat 64 (2 ^ 50 - 1)]).map fun p => p.1 - 8 * 4096)

/-- Adds 1 to PIN of a parcel. -/
def pin (s : State) (p : Nat) : State := s.modParcelEntry p fun e => { e with pin := e.pin + 1 }

/-- Subtracts 1 from PIN of a parcel (R239). -/
def unpin (s : State) (p : Nat) : State := s.modParcelEntry p fun e => { e with pin := e.pin - 1 }

/-- PIN of a parcel. -/
def pinOf (s : State) (p : Nat) : Nat := ((s.parcelEntry p).map (·.pin)).getD 0

/-- CURRENT of a valid parcel entry. -/
def isCurrent (s : State) (p : Nat) : Bool :=
  match s.parcelEntry p with
  | some e => e.valid && (e.value.getD 0 0).getLsbD 49
  | none => false

end State

/-- AE_SEARCH (R223 to R228): a search on a port of the enabled engine. -/
def execAeSearch (port w : Nat) (key mask : List U64) (banks : List Nat) (startBank startIndex : Nat) (s : State) : Result :=
  if s.flag Reg.AE_CTRL_ENABLE then .next (s.requestSearch ⟨port, w, key, mask, banks, startBank * 4096 + startIndex * w⟩) else .next s

/-- AE_SEARCH_WINDOW (R227): a new 1 us window opens; what waited for it is admitted first; RATE_AVG follows each period of 1048 windows. -/
def execAeSearchWindow (s : State) : Result :=
  let full := decide (1048 ≤ s.ae.windows + 1)
  let s := if full then s.rset Reg.AE_PWR_STAT_RATE_AVG (min 65535 (s.ae.periodCount / (s.ae.windows + 1))) else s
  let q := s.ae.waiting
  .next (State.admitWaiting q { s with ae := { s.ae with
    window := s.ae.window - s.rget Reg.AE_PWR_CFG_BANK_RATE
    waiting := []
    windows := if full then 0 else s.ae.windows + 1
    periodCount := if full then 0 else s.ae.periodCount } })

/-- AE_PORT_RESTART (R228): the stopped port runs again and its waiting requests proceed in order. -/
def execAePortRestart (port : Nat) (s : State) : Result :=
  if !s.portStopped port then .next s
  else
    let s := if port = 0 then { s with ae := { s.ae with stopped0 := false } } else { s with ae := { s.ae with stopped1 := false } }
    let q := s.ae.waiting
    .next (State.admitWaiting q { s with ae := { s.ae with waiting := [] } })

/-- The first context that has a parcel pinned no longer has. -/
def State.dropPin (p : Nat) : Table Ctx → Table Ctx
  | [] => []
  | (n, c) :: t => if c.pinned.contains p then (n, { c with pinned := c.pinned.erase p }) :: t else (n, c) :: dropPin p t

/-- PC_UNPIN (R239, R240). -/
def execPcUnpin (p : Nat) (s : State) : Result :=
  if s.aeRuns 1 && 0 < s.pinOf p then
    let s := s.unpin p
    .next { s with adm := { s.adm with ctxs := State.dropPin p s.adm.ctxs } }
  else .next s

/-- PC_INSERT (R239). -/
def execPcInsert (p nsx iu part : Nat) (superseded : Option Nat) (s : State) : Result :=
  if s.aeRuns 1 && decide (p < 65536) then .next (s.pcInsert p nsx iu part superseded) else .next s

/-- PC_CLEAR (R239). -/
def execPcClear (p : Nat) (s : State) : Result :=
  if s.aeRuns 1 then .next (s.pcClear p) else .next s

end Sys2Proof.Machine
end

