-- ==== Sys2Proof/Machine/Fog.lean ====
section
/-! DEFINITION. The diagnostic gate and the Fogman's armed controls (chapter 21), as the blocks they act on see them. -/

namespace Sys2Proof.Machine

namespace State

/-- A facility of the diagnostic gate is open: at level 0, or in the scope of the ticket in force (R503). Facilities: bits of SCOPE (R504). -/
def gateOpen (s : State) (facility : Nat) : Bool :=
  s.rget Reg.GD_STAT_LEVEL == 0 || (match s.plat.ticket with | some (scope, _) => scope / 2 ^ facility % 2 == 1 | none => false)

/-- The gate is open for something: GATE_OPEN (R503). -/
def gateAny (s : State) : Bool := s.rget Reg.GD_STAT_LEVEL == 0 || s.plat.ticket.isSome

/-- An injection has been applied: COUNT falls by one, at zero KIND returns to none; it is counted (R507). -/
def injected (s : State) (kind count : Field) : State :=
  let c := s.rget count - 1
  let s := (s.rset count c).rsat Reg.FG_CNT_INJECTED
  if c = 0 then s.rset kind 0 else s

/-- A FG_NAND control of a kind is armed for a die (R507). -/
def fogNand (s : State) (kind d : Nat) : Bool := s.rget Reg.FG_NAND_KIND == kind && s.plat.nandDie == d

/-- Consumes one NAND injection. -/
def usedNand (s : State) : State := s.injected Reg.FG_NAND_KIND Reg.FG_NAND_COUNT

/-- A PCIe injection of a kind is armed for a port. -/
def fogPcie (s : State) (kind port : Nat) : Bool := s.rget Reg.FG_PCIE_KIND == kind && s.rget Reg.FG_PCIE_PORT == port

/-- Consumes one PCIe injection. -/
def usedPcie (s : State) : State := s.injected Reg.FG_PCIE_KIND Reg.FG_PCIE_COUNT

/-- A Branch Link injection of a kind is armed for a port. -/
def fogBl (s : State) (kind port : Nat) : Bool := s.rget Reg.FG_BL_KIND == kind && s.rget Reg.FG_BL_PORT == port

/-- Consumes one Branch Link injection. -/
def usedBl (s : State) : State := s.injected Reg.FG_BL_KIND Reg.FG_BL_COUNT

/-- Added time of a SLOW die's operations, ns (R507, R508). -/
def slowNs (s : State) (d : Nat) : Nat := if s.fogNand 3 d then s.rget Reg.FG_NAND_EXTRA_US * 1000 else 0

/-- ARM bits of the ten flip masks (R400). -/
def flipRegs : List Field := (List.range 2).map Reg.ME_FLIP_D_ARM ++ (List.range 8).map Reg.ME_FLIP_S_ARM

/-- Something is armed: an injection, a flip mask or a lane test (R505). -/
def anythingArmed (s : State) : Bool :=
  s.rget Reg.FG_PCIE_KIND != 0 || s.rget Reg.FG_BL_KIND != 0 || s.rget Reg.FG_NAND_KIND != 0 || s.flag Reg.FG_LANE_CTRL_RUN || flipRegs.any fun f => s.flag f

/-- Every armed control and flip mask is cleared; a packet or completion the Fogman holds stands (R505, R508). -/
def disarm (s : State) : State :=
  let s := [Reg.FG_PCIE_KIND, Reg.FG_PCIE_COUNT, Reg.FG_PCIE_DELAY_US, Reg.FG_BL_KIND, Reg.FG_BL_COUNT, Reg.FG_BL_DELAY_US,
    Reg.FG_NAND_KIND, Reg.FG_NAND_LEVELS, Reg.FG_NAND_COUNT, Reg.FG_NAND_EXTRA_US].foldl (fun s f => s.rset f 0) s
  flipRegs.foldl (fun s f => s.rset f 0) s

end State

end Sys2Proof.Machine
end

