-- ==== Sys2Proof/Machine/Image.lean ====
section
/-! DEFINITION. The signed images byte by byte: the firmware package header (R436), the diagnostic ticket (R504), fields and digests they share. -/

namespace Sys2Proof

/-- Little-endian field of `n` bytes at an offset of an image. -/
def leField (bs : List Byte) (off n : Nat) : Nat := ((bs.drop off).take n).foldr (fun b a => b.toNat + 256 * a) 0

/-- The bytes from an offset up to another are zero. -/
def zeroFrom (bs : List Byte) (off stop : Nat) : Bool := ((bs.drop off).take (stop - off)).all (· == 0#8)

/-- SHA-384 digest of bytes, as the number whose 48 little-endian bytes are the digest. -/
def sha384Of (bs : List Byte) : Nat := (Sha384.digest (bs.map (·.toNat))).foldr (fun b a => b + 256 * a) 0

namespace ImageCheck

/-- SVN: byte 6 of the package header, the Rulebook blob and the customer image alike (R106, R436, R524). -/
def svn (i : ImageCheck) : Nat := leField i.bytes 6 1
/-- MIN_SVN of a package or a Rulebook (R436, R524). -/
def minSvn (i : ImageCheck) : Nat := leField i.bytes 7 1
/-- The eight bytes of REVISION (R436). -/
def revision (i : ImageCheck) : List Nat := (List.range 8).map fun j => leField i.bytes (8 + j) 1
/-- The version of a Journey Log entry: the first four bytes of REVISION (R439). -/
def version (i : ImageCheck) : Nat := leField i.bytes 8 4
/-- FLAGS.HOT_OK (R436). -/
def hotOk (i : ImageCheck) : Bool := leField i.bytes 0x10 4 % 2 == 1
/-- Number of components. -/
def components (i : ImageCheck) : Nat := leField i.bytes 0x14 4
/-- TYPE of a component. -/
def compType (i : ImageCheck) (k : Nat) : Nat := leField i.bytes (0x40 + 64 * k) 4
/-- Offset of a component. -/
def compAt (i : ImageCheck) (k : Nat) : Nat := leField i.bytes (0x44 + 64 * k) 4
/-- Length of a component. -/
def compLen (i : ImageCheck) (k : Nat) : Nat := leField i.bytes (0x48 + 64 * k) 4
/-- Digest of the component of a TYPE (1 Guard image, 2 boot stage, 3 operating firmware, 4 Gwynon microcode), 0 where the package has none. -/
def compDigest (i : ImageCheck) (type : Nat) : Nat :=
  match (List.range i.components).find? fun k => i.compType k == type with
  | some k => leField i.bytes (0x50 + 64 * k) 48
  | none => 0
/-- The digest of the image: of a package that of its operating firmware, of the other classes that of all its bytes (R432, R438). [DEDUCED, log 17] -/
def digest (i : ImageCheck) : Nat := if i.cls = 0 then i.compDigest 3 else sha384Of i.bytes
/-- Bytes of the boot image: the header, Guard image and boot stage (R436). -/
def bootBytes (i : ImageCheck) : Nat :=
  0x2A0 + (((List.range i.components).filter fun k => i.compType k == 1 || i.compType k == 2).map i.compLen).sum

/-- The header is as R436 has it: MAGIC, FORMAT, flags, counts and zero fields; each component has a known TYPE and lies between header and signature; boot image and package fit their areas (R320, R437). -/
def headerOk (i : ImageCheck) : Bool :=
  decide (0x2A0 ≤ i.bytes.length) && leField i.bytes 0 4 == 0x4B505747 && leField i.bytes 4 2 == 1 && decide (leField i.bytes 0x10 4 < 2) &&
  decide (1 ≤ i.components ∧ i.components ≤ 8) && zeroFrom i.bytes 0x18 0x40 && decide (i.length ≤ 3 * 2 ^ 20) && decide (i.bootBytes ≤ 2 ^ 19) &&
  (List.range i.components).all fun k => decide (1 ≤ i.compType k ∧ i.compType k ≤ 4) && leField i.bytes (0x4C + 64 * k) 4 == 0 &&
    decide (0x2A0 ≤ i.compAt k ∧ i.compAt k + i.compLen k + 96 ≤ i.length)

/-- The format check of the image's class: the package header, else MAGIC and FORMAT (R106, R436, R524). -/
def formatOk (i : ImageCheck) : Bool :=
  match i.cls with
  | 0 => i.headerOk
  | 1 => leField i.bytes 0 4 == 0x4B424C52 && leField i.bytes 4 2 == 1
  | _ => leField i.bytes 0 4 == 0x4D554258 && leField i.bytes 4 2 == 1

/-- The package changes the boot stage, the Guard image or the Gwynon microcode of another (R321). -/
def changesBoot (i old : ImageCheck) : Bool := [1, 2, 4].any fun t => i.compDigest t != old.compDigest t

end ImageCheck

namespace Ticket

/-- SERIAL. -/
def serial (t : Ticket) : Nat := leField t.bytes 8 8
/-- NONCE. -/
def nonce (t : Ticket) : Nat := leField t.bytes 16 32
/-- SCOPE. -/
def scope (t : Ticket) : Nat := leField t.bytes 48 4
/-- DURATION in seconds. -/
def duration (t : Ticket) : Nat := leField t.bytes 52 4
/-- MAGIC, FORMAT, length, the zero fields, the bits of SCOPE and the range of DURATION are as R504 has them. -/
def formatOk (t : Ticket) : Bool :=
  t.bytes.length == 256 && leField t.bytes 0 4 == 0x544B4447 && leField t.bytes 4 2 == 1 && zeroFrom t.bytes 6 8 && zeroFrom t.bytes 56 64 &&
    decide (t.scope < 128) && decide (1 ≤ t.duration ∧ t.duration ≤ 86400)

end Ticket

end Sys2Proof
end

