-- ==== Sys2Proof/Machine/Tokens.lean ====
section
/-! DEFINITION. The Token instrument's pool and queue, and the clock domains it gates (chapters 1 and 19; R13, R26, R487, R488). -/

namespace Sys2Proof.Machine

namespace Wake

/-- Clock domains an ungating covers, numbered in the order of the table before R26. [DESIGN CHOICE, log 15] -/
def domains : Wake → List Nat
  | .lane p n => [2 * p + n]
  | .flash _ => []
  | .dram ch => [160 + 2 * ch, 161 + 2 * ch, 164 + 2 * ch, 165 + 2 * ch]
  | .channel _ => []
  | .box ch => [24 + ch, 40 + 2 * ch, 41 + 2 * ch, 72 + ch]
  | .core n => [168 + n]
  | .softDec n => [128 + n]
  | .bank n => [88 + n]

/-- Priority of a request (R488); a start of a program or erase has 5, its resume 2. -/
def prio : Wake → Nat
  | .lane _ _ => 1
  | .flash _ => 2
  | .dram _ => 3
  | _ => 4

/-- Leaving PS3 or PS4 waits for it (R486). -/
def leaving : Wake → Bool
  | .core _ | .box _ | .bank _ | .softDec _ | .dram _ => true
  | _ => false

end Wake

namespace State

/-- Weight of a wake (R487). -/
def wakeWeight (s : State) : Wake → Nat
  | .lane _ _ => s.rget Reg.TK_WT_SERDES
  | .flash d => if (s.die d).state == .suspErase || (s.die d).state == .erase then s.rget Reg.TT_TOKEN_WT_ERASE else s.rget Reg.TT_TOKEN_WT_PROG
  | .dram _ => s.rget Reg.TK_WT_DRAM
  | .channel _ => s.rget Reg.TK_WT_CHANNEL
  | .box _ => s.rget Reg.TK_WT_LEAF
  | .core _ => s.rget Reg.TK_WT_CORE
  | .softDec _ => s.rget Reg.TK_WT_SOFT_DEC
  | .bank _ => s.rget Reg.TK_WT_AE_BANK

/-- TK_STAT.QUEUED follows. -/
def tokenStat (s : State) : State := s.rset Reg.TK_STAT_QUEUED (min 255 s.plat.tokens.length)

/-- A wait of so many units of 100 ns is counted, once for its request (R488). -/
def countWait (s : State) (waited : Nat) : State :=
  if waited = 0 then s
  else (s.rsat Reg.TK_CNT_WAITS).rset Reg.TK_CNT_MAX_WAIT (min 65535 (max (s.rget Reg.TK_CNT_MAX_WAIT) waited))

/-- Requests of a kind wait for tokens. -/
def waitsFor (s : State) (f : Wake → Bool) : Bool := s.plat.tokens.any fun (r : TokenReq) => f r.wake

/-- A served request takes effect (R13, R487): the domains are ungated; the last lane of a port ends L1, the last DRAM channel self-refresh, the last wake the non-operational state. -/
def serve (s : State) (r : TokenReq) : State :=
  let s := { s with plat := { s.plat with gated := s.plat.gated.filter fun d => !r.wake.domains.contains d } }
  match r.wake with
  | .flash d => s.modDie d fun x => { x with tokenPaid := true }
  | .channel ch => (s.rset (Reg.SB_CH_STAT_POWERED ch) 1).countWait r.waited
  | w =>
    let s := s.countWait r.waited
    let s : State := match w with
      | .lane p _ =>
        if s.waitsFor (fun v => match v with | .lane q _ => q == p | _ => false) then s
        else { s with ports := Table.put {} s.ports p { Table.get {} s.ports p with l1 := 0 } }
      | .dram _ => if s.waitsFor (fun v => match v with | .dram _ => true | _ => false) then s else s.rset Reg.MC_STAT_SELF_REFRESH 0
      | _ => s
    if w.leaving && !s.waitsFor Wake.leaving then { s with plat := { s.plat with nonOp := none } } else s

/-- The head of the line: lowest priority number, then arrival (R488). -/
def headToken (l : List TokenReq) : Option TokenReq :=
  l.foldl (fun (a : Option TokenReq) r => match a with | none => some r | some x => if r.prio < x.prio then some r else a) none

/-- Serves waiting requests head of line from `n` tokens; the head collects what there is and holds back the others; the tokens left (R488). -/
def serveTokens : Nat → State → Nat → State × Nat
  | 0, s, n => (s, n)
  | f + 1, s, n =>
    match headToken s.plat.tokens with
    | none => (s, n)
    | some r =>
      if r.got + n < r.weight then
        ({ s with plat := { s.plat with tokens := s.plat.tokens.map fun x => if x.id = r.id then { x with got := x.got + n } else x } }, 0)
      else
        let s : State := { s with plat := { s.plat with tokens := s.plat.tokens.filter fun x => x.id != r.id } }
        serveTokens f (s.serve r) (n - (r.weight - r.got))

/-- The queue is served from so many tokens; what is left, up to POOL_MAX, is the pool (R487). -/
def grantFrom (s : State) (n : Nat) : State :=
  let (t, left) := serveTokens s.plat.tokens.length s n
  (t.rset Reg.TK_STAT_LEVEL (min (s.rget Reg.TK_RATE_POOL_MAX) left)).tokenStat

/-- The queue is served as far as the pool goes. -/
def grant (s : State) : State := s.grantFrom (s.rget Reg.TK_STAT_LEVEL)

/-- Requests join the queue, each with a number of its own, and are served as far as the pool goes; a wake already waited for is not asked for again (R487, R488). -/
def askTokens (s : State) (ws : List Wake) : State :=
  (ws.foldl (fun (s : State) w =>
    if s.plat.tokens.any fun r => r.wake == w then s
    else
      let id := (s.plat.tokens.map (·.id)).foldl max 0 + 1
      { s with plat := { s.plat with tokens := s.plat.tokens ++ [{ id := id, wake := w, prio := w.prio, weight := s.wakeWeight w }] } }) s).grant

/-! The Timetable's own requests (R47, R49, R488). -/

/-- Tokens of a start or resume are there: collected already, or in the pool with no request in line. -/
def tokensFor (s : State) (d w : Nat) : Bool := (s.die d).tokenPaid || (s.plat.tokens.isEmpty && decide (w ≤ s.rget Reg.TK_STAT_LEVEL))

/-- Takes the tokens of a start or resume; a wait ends and is counted once, from its first presentation, in units of 100 ns (R488). -/
def takeTokens (s : State) (d w : Nat) : State :=
  let x := s.die d
  let s := if x.tokenPaid then s else s.rset Reg.TK_STAT_LEVEL (s.rget Reg.TK_STAT_LEVEL - w)
  let s := match x.tokenSince with | none => s | some k => s.countWait ((s.flash.tick - k) * 8192 / 100)
  s.modDie d fun x => { x with tokenPaid := false, tokenSince := none, tokenAged := false }

/-- A start or resume finds no tokens and is presented: priority 2 for a resume, 5 for a start, 1 once it has aged; its wait runs from the first presentation (R488). -/
def presentStart (s : State) (d prio w : Nat) : State :=
  if s.plat.tokens.any fun r => r.wake == .flash d then s
  else
    let s := s.modDie d fun x => { x with tokenSince := some (x.tokenSince.getD s.flash.tick) }
    let id := (s.plat.tokens.map (·.id)).foldl max 0 + 1
    let r : TokenReq := { id := id, wake := .flash d, prio := if (s.die d).tokenAged then 1 else prio, weight := w, aged := (s.die d).tokenAged }
    { s with plat := { s.plat with tokens := s.plat.tokens ++ [r] } }.grant

/-- At a cutoff the Timetable withdraws its unserved requests; tokens they had collected return to the pool (R488). [DESIGN CHOICE, log 43] -/
def withdrawTokens (s : State) : State :=
  let mine := s.plat.tokens.filter fun (r : TokenReq) => match r.wake with | .flash _ => true | _ => false
  let s := { s with plat := { s.plat with tokens := s.plat.tokens.filter fun r => !mine.contains r } }
  s.grantFrom (s.rget Reg.TK_STAT_LEVEL + (mine.map (·.got)).sum)

/-- Soft-decision decoders that are powered (R484). -/
def softDecoders (s : State) : Nat := 4 - (s.plat.gated.filter fun d => decide (128 ≤ d) && decide (d < 132)).length

/-! ## Clock domains (R26) -/

/-- Domains that are never gated: Guard, Station clock, Timetable, timebase, by the numbers of log 15. [DESIGN CHOICE, log 15] -/
def neverGated (n : Nat) : Bool := [176, 177, 180, 181].contains n

/-- Branch ports that a mode uses (R327): member 0 all that exist, a worker B0, a standalone device none. -/
def modePorts (s : State) : Nat := match s.mode with | .manager => if s.xd6408 then 1 else 6 | .worker => 1 | _ => 0

/-- A channel's clocks run: it exists and its power switch is closed (R1, R77). -/
def channelClocked (s : State) (ch : Nat) : Bool := decide (ch < s.channels) && s.flag (Reg.SB_CH_STAT_POWERED ch)

/-- A leaf domain is gated (R1, R26, R77, R210, R246, R327, R406, R486): the device is held in reset or has stopped after a flush, the unit is absent, not used or isolated, its lane is in L1, DRAM is in self-refresh, or a power state gates it. -/
def domainGated (s : State) (n : Nat) : Bool :=
  let lane := fun p : Nat => s.plat.hold != .none || (Table.get {} s.ports p).inReset || (Table.get {} s.ports p).l1 != 0
  let portOf := fun q : Nat => decide (s.modePorts ≤ q)
  let channel := fun ch : Nat => !s.channelClocked ch
  !neverGated n && (s.plat.hold != .none || s.media.flush == .done || s.plat.gated.contains n ||
    (if n < 4 then lane (if s.bifur && decide (2 ≤ n) then 1 else 0)
     else if n < 16 then portOf ((n - 4) / 2)
     else if n < 18 then (Table.get {} s.ports (n - 16)).inReset || (n == 17 && !s.bifur)
     else if n < 24 then portOf (n - 18)
     else if n < 40 then channel (n - 24)
     else if n < 72 then channel ((n - 40) / 2)
     else if n < 88 then channel (n - 72)
     else if 160 ≤ n && n < 168 then s.flag Reg.MC_STAT_SELF_REFRESH
     else false))

/-- The power switch of a domain's unit is closed (R26): NAND channels, Branch ports and soft-decision decoders have one, the rest stand on their rail. -/
def domainPowered (s : State) (n : Nat) : Bool :=
  if 18 ≤ n && n < 24 then decide (n - 18 < s.modePorts) && s.plat.hold == .none
  else if 24 ≤ n && n < 40 then s.channelClocked (n - 24)
  else if 40 ≤ n && n < 72 then s.channelClocked ((n - 40) / 2)
  else if 72 ≤ n && n < 88 then s.channelClocked (n - 72)
  else if 128 ≤ n && n < 132 then !s.domainGated n
  else true

/-- CK_DOM_STAT of the domain that CK_DOM_SEL names; a number past the last domain reads 0. [DESIGN CHOICE, log 15] -/
def domainStat (s : State) : Nat :=
  let n := s.rget Reg.CK_DOM_SEL_DOMAIN
  if 236 ≤ n then 0 else bit (s.domainGated n) + 2 * bit (s.domainPowered n)

end State

end Sys2Proof.Machine
end

