-- ==== Sys2Proof/Machine/Timetable.lean ====
section
/-! DEFINITION. The Timetable (chapter 02): planning cutoffs, tick boundaries, Express admission, suspension, budget. -/

namespace Sys2Proof.Machine

namespace State

/-- The tick is a maintenance tick of the channel (R51). -/
def maintAt (s : State) (k ch : Nat) : Bool :=
  let m := s.rget Reg.TT_MAINT_CFG_PER_PERIOD
  (List.range m).any fun j => k % 128 == (8 * ch + 4 + j * (128 / m)) % 128

/-- E of R37: E_LIMIT clipped to SLOTS - 1. -/
def expressLimit (s : State) (ch : Nat) : Nat :=
  min (s.rget Reg.TT_EXPRESS_CFG_E_LIMIT) (s.rget (Reg.TT_CH_BUS_SLOTS ch) - 1)

/-- Express issues reserved in a tick of a channel (R37). -/
def issuesAt (s : State) (ch k : Nat) : Nat :=
  (s.flash.xreads.filter fun x => chOf x.die == ch && x.issue == some k).length

/-- Express transfers, in codewords, reserved in a tick of a channel (R37). -/
def xfersAt (s : State) (ch k : Nat) : Nat :=
  (s.flash.xreads.map fun x => if chOf x.die == ch then (x.xfer.filter (· == k)).length else 0).sum

/-- First tick from `k` that is no maintenance tick of the channel; two are never adjacent (R51). -/
def notMaint (s : State) (ch k : Nat) : Nat := if s.maintAt k ch then k + 1 else k

/-- First transfer tick of a read issued in tick `k` (R37): it begins no earlier than 1.024 us plus tR after the issue tick's start. -/
def transferTick (s : State) (d k : Nat) : Nat :=
  s.notMaint (chOf d) (k + ceilDiv (1024 + (s.die d).tR) 8192)

/-- Transfer ticks of `n` codewords from tick `t` on: each tick gives the Express transfers it has left (R37). [DEDUCED, log 21] -/
def transferTicks (s : State) (ch : Nat) : Nat → Nat → Nat → List Nat
  | 0, _, _ => []
  | fuel + 1, t, n =>
    if n = 0 then []
    else
      let left := if s.maintAt t ch then 0 else s.expressLimit ch - s.xfersAt ch t
      let take := min left n
      List.replicate take t ++ transferTicks s ch fuel (t + 1) (n - take)

/-- The reservation of R37 for a read whose command runs in tick `k`: none when the issue tick or the transfer tick is full. -/
def reserve (s : State) (x : XRead) (k : Nat) : Option (List Nat) :=
  let ch := chOf x.die
  let t := s.transferTick x.die k
  if s.expressLimit ch ≤ s.issuesAt ch k then none
  else if s.expressLimit ch ≤ s.xfersAt ch t then none
  else some (s.transferTicks ch 256 t x.codewords)

/-- Another Express read holds the read unit: planned earlier, its data-out not finished (R40). -/
def unitBusy (s : State) (x : XRead) : Bool :=
  s.flash.xreads.any fun y => y.owner != x.owner && y.die == x.die && y.unit == x.unit && y.issue.isSome && !y.outDone

/-- Changes the registered read of an owner. -/
def setXRead (s : State) (x : XRead) : State :=
  { s with flash := { s.flash with xreads := s.flash.xreads.map fun y => if y.owner = x.owner then x else y } }

/-- Takes an owner's read off the list. -/
def dropXRead (s : State) (owner : Nat) : State :=
  { s with flash := { s.flash with xreads := s.flash.xreads.filter (·.owner != owner) } }

/-- Counts a read at the first cutoff at which it is queued, in the counter of that reason (R40). [DEDUCED, log 21] -/
def queueRead (s : State) (x : XRead) (r : QueueReason) : State :=
  let s := if x.counted then s
    else match r with
      | .unit => s.rsat Reg.TT_EXP_QUEUED_A_UNIT
      | .chan => s.rsat Reg.TT_EXP_QUEUED_A_CHAN
      | .held => s.rsat Reg.TT_EXP_QUEUED_B_HELD
  s.setXRead { x with counted := true, queued := true }

/-- A queued read that queues no longer has this cutoff as its admission start (R40). [DEDUCED, log 21] -/
def unqueue (x : XRead) (k : Nat) : XRead :=
  if x.queued then { x with queued := false, start := k * 1024 - 384 } else x

/-- Express reads are finished once their data-out has ended and none of their codewords waits for the first attempt's decode (R37, R40). -/
def pruneXReads (s : State) : State :=
  let live := fun (x : XRead) => (x.issue.isSome && !x.outDone) || x.jobs.any fun n =>
    (Table.find s.flash.jobs n).any fun j => j.level == 0 && (j.state == .sensing || j.state == .hard)
  { s with flash := { s.flash with xreads := s.flash.xreads.filter live } }

/-- The data-out of an owner's read has ended (R40). -/
def outEnded (s : State) (owner : Nat) : State :=
  ({ s with flash := { s.flash with xreads := s.flash.xreads.map fun (y : XRead) => if y.owner = owner then { y with outDone := true } else y } } : State).pruneXReads

/-- A codeword that waits for a sense goes to level 3 (R123, R157). -/
def sendToRecon (s : State) (n : Nat) : State :=
  match Table.find s.flash.jobs n with
  | some j =>
    if j.state == .sensing then
      ({ s with flash := { s.flash with jobs := Table.ins s.flash.jobs n { j with state := .recon, level := 3, uncorr := true } } }).rsat Reg.LD_CNT_LEVEL_RECON
    else s
  | none => s

/-- A read is demoted at admission (R14, R16, R42, R127): counted; its codewords take the Stopping class, its command leaves the first-attempt class with every read of it not yet planned; the codewords of an isolated die are read by reconstruction (R157). -/
def demoteRead (s : State) (x : XRead) : State :=
  let s := (s.rsat Reg.TT_EXP_QUEUED_B_DEMOTED).dropXRead x.owner
  let js := x.jobs
  let s := js.foldl (fun s n =>
    let s := { s with flash := { s.flash with jobs := Table.modify (fun j => { j with cls := .stopping }) s.flash.jobs n } }
    match Table.find s.flash.jobs n with
    | some j => (match j.owner with | .host c _ _ => s.leaveClass c | _ => s)
    | none => s) s
  if (s.die x.die).isol != 0 then js.foldl sendToRecon s else s

/-- Reserves and records a planned read; a failed reservation queues it (R37, R40). -/
def planIssue (s : State) (x : XRead) (k : Nat) : State :=
  match s.reserve x k with
  | none => s.queueRead x .chan
  | some ts => (s.setXRead { x with issue := some k, xfer := ts }).rwrap Reg.TT_EXP_ADMITTED_COUNT

/-- The read of an owner has been planned. -/
def isPlanned (s : State) (owner : Nat) : Bool := (s.flash.xreads.find? (·.owner == owner)).any (·.issue.isSome)

/-- Takes one command-window place of the tick being planned. -/
def planPlace (s : State) (ch : Nat) : State := s.modBox ch fun b => { b with plan := { b.plan with window := b.plan.window - 1 } }

/-- A class may take a command-window place of the tick in progress: the class that goes first leaves the other what it does not wait for itself (R34, R35, R49). -/
def placeFree (p : Plan) (c : TClass) : Bool :=
  match c with
  | .express => decide (0 < p.window)
  | .stopping => if p.goodsFirst then decide (p.goodsCmds < p.window) else decide (0 < p.window)
  | .goods => if p.goodsFirst then decide (0 < p.window) else decide (p.stopCmds < p.window)

/-- A class may take a data slot of the tick in progress (R34, R35). -/
def slotFree (p : Plan) (c : TClass) : Bool :=
  match c with
  | .express => decide (0 < p.slots)
  | .stopping => if p.goodsFirst then decide (p.goodsSlots < p.slots) else decide (0 < p.slots)
  | .goods => if p.goodsFirst then decide (0 < p.slots) else decide (p.stopSlots < p.slots)

/-- Takes one command-window place of the tick in progress for a class. -/
def takePlace (s : State) (ch : Nat) (c : TClass := .express) : State :=
  s.modBox ch fun b => { b with cur := { b.cur with
    window := b.cur.window - 1
    stopCmds := if c == .stopping then b.cur.stopCmds - 1 else b.cur.stopCmds
    goodsCmds := if c == .goods then b.cur.goodsCmds - 1 else b.cur.goodsCmds } }

/-- Takes one data slot of the tick in progress for a class; those given to Goods are counted (R35). -/
def takeSlot (s : State) (ch : Nat) (c : TClass) : State :=
  s.modBox ch fun b =>
    let g := if c == .goods then 1 else 0
    { b with
      cur := { b.cur with
        slots := b.cur.slots - 1
        stopSlots := if c == .stopping then b.cur.stopSlots - 1 else b.cur.stopSlots
        goodsSlots := b.cur.goodsSlots - g }
      goods := if b.cur.goodsPending then b.goods + g else b.goods
      periodGoods := b.periodGoods + g }

/-- Plans a read whose die must first be suspended or aborted in tick `k`: it issues in the next tick; one request serves every read planned to the die (R38). -/
def planBehind (s : State) (k : Nat) (x : XRead) (r : Request) : State :=
  if (s.die x.die).request.isSome then s.planIssue x (k + 1)
  else if (s.box (chOf x.die)).plan.window = 0 then s.setXRead x
  else
    let s := s.planIssue x (k + 1)
    if s.isPlanned x.owner then (s.modDie x.die fun d => { d with request := some r, requestTick := k }).planPlace (chOf x.die) else s

/-- Plans one pending Express read at the cutoff of tick `k` by its die's state (R38, R40 to R44). With no place left in the command window it stays pending, queued for no reason of R40. [DESIGN CHOICE, log 21] -/
def planRead (s : State) (k : Nat) (x : XRead) : State :=
  let d := s.die x.die
  let ch := chOf x.die
  if d.isol != 0 || d.state == .isolated || d.state == .absent || d.nonExpress then
    s.demoteRead x
  else if s.unitBusy x then s.queueRead x .unit
  else if d.exhausted || d.draining then s.queueRead x .held
  else
    let x := unqueue x k
    match d.state with
    | .idle | .readX | .suspProg | .suspErase =>
      if (s.box ch).plan.window = 0 then s.setXRead x
      else
        let s := s.planIssue x k
        if s.isPlanned x.owner then s.planPlace ch else s
    | .prog | .erase =>
      if k < d.protectedTo then s.setXRead x else s.planBehind k x .suspend
    | .readL | .load => s.planBehind k x .abort
    | .abort => s.setXRead x
    | .isolated | .absent => s.setXRead x

/-- An Express read for the die is pending (R38). -/
def expressPending (s : State) (d : Nat) : Bool := s.flash.xreads.any fun x => x.die == d && x.issue.isNone

/-- An Express read for the die is planned for the tick in progress or a later one. -/
def expressPlanned (s : State) (d : Nat) : Bool := s.flash.xreads.any fun x => x.die == d && x.issue.any fun k => decide (s.flash.tick ≤ k)

/-- At the last cutoff an Express read for the die was pending, or one was planned that has not issued: no lower-class work starts there (R38). -/
def expressAhead (s : State) (d : Nat) : Bool :=
  s.flash.xreads.any fun x => x.die == d && x.seen && (match x.issue with | none => true | some k => decide (s.flash.tick ≤ k))

/-- Token weight of a die's program or erase (R47). -/
def opWeight (s : State) (d : Nat) : Nat := s.wakeWeight (.flash d)

/-- Plans the resume of a suspended die when no Express work is left on it (pending reads count only while it does not drain), a window place is free and the tokens are there (R44, R45, R49); protection starts with the resume (R43). -/
def planResume (s : State) (k : Nat) (draining : Bool) (d : Nat) : State :=
  let x := s.die d
  if !x.suspended || x.draining != draining || x.resumeAt.isSome || 0 < x.expInflight || s.expressPlanned d || (!x.draining && s.expressPending d) then s
  else if !s.tokensFor d (s.opWeight d) then
    (if x.draining then s.rset Reg.TT_STATUS_TOKEN_STARVED 1 else s).presentStart d 2 (s.opWeight d)
  else if (s.box (chOf d)).plan.window = 0 then s
  else
    ((s.takeTokens d (s.opWeight d)).modDie d fun x => { x with resumeAt := some k, protectedTo := k + s.rget Reg.TT_EXPRESS_CFG_PROGRESS }).planPlace (chOf d)

/-- A suspended die whose span has reached MAX_SPAN drains (R44). -/
def markDraining (s : State) (d : Nat) : State :=
  let x := s.die d
  if x.suspended && s.rget Reg.TT_EXPRESS_CFG_MAX_SPAN ≤ x.span then s.setDie d { x with draining := true } else s

/-- Sets a die marked isolated to ISOLATED at a cutoff and ends what runs on it as failed (R78). [DEDUCED, log 22] -/
def settleIsolation (s : State) (d : Nat) : State :=
  let x := s.die d
  if x.isol != 0 && x.state != .isolated && x.state != .absent then s.failDie d .isolated else s

/-- Goods is behind the pace of its floor (R35). -/
def behindPace (s : State) (ch : Nat) : Bool :=
  let b := s.box ch
  let floor := if s.flag Reg.TT_GOODS_CFG_URGENT then s.rget Reg.TT_GOODS_CFG_URGENT_FLOOR else s.rget Reg.TT_GOODS_CFG_FLOOR
  decide (b.goods < ceilDiv (floor * b.nonExpress) 100)

/-- Opens the plan of tick `k` for a channel: window places, data slots left by reserved Express transfers, the slots of a maintenance tick for calibration, the work pending, the Goods pace (R31, R34, R35, R51). [DEDUCED, log 21] -/
def openPlan (s : State) (k : Nat) (work : List ChWork) (ch : Nat) : State :=
  let n := s.rget (Reg.TT_CH_BUS_SLOTS ch)
  let w := (work.find? (·.ch == ch)).getD ⟨ch, 0, 0, 0, 0⟩
  let pend := decide (0 < w.goodsCmds + w.goodsSlots)
  s.modBox ch fun b => { b with plan := {
    window := s.rget (Reg.TT_CH_BUS_CMD_CAP ch)
    slots := (if s.maintAt k ch then 0 else n) - s.xfersAt ch k
    calSlots := if s.maintAt k ch then n else 0
    goodsPending := pend
    goodsFirst := pend && k % 128 != 0 && s.behindPace ch
    stopCmds := w.stopCmds
    goodsCmds := w.goodsCmds
    stopSlots := w.stopSlots
    goodsSlots := w.goodsSlots } }

/-- Channels on which the Timetable plans (R103: not those of a halted box). -/
def plannedChannels (s : State) : List Nat := (List.range s.channels).filter s.boxRuns

/-- The plan of tick `k` (R30, R37 to R49): Express first, in fetch order, then resumes of draining dies, then other resumes. -/
def planTick (s : State) (k : Nat) (work : List ChWork) : State :=
  let chs := s.plannedChannels
  let s := { s with flash := { s.flash with xreads := s.flash.xreads.map fun x => { x with seen := true } } }
  let ds := chs.flatMap diesOf
  let s := ((List.range (32 * s.channels)).foldl settleIsolation s).withdrawTokens
  let s := chs.foldl (fun s ch => s.openPlan k work ch) s
  let s := ds.foldl markDraining s
  let pend := s.flash.xreads.filter fun x => x.issue.isNone && (chs.contains (chOf x.die) || (s.die x.die).isol != 0)
  let s := pend.foldl (fun s x => s.planRead k x) s
  let s := ds.foldl (fun s d => s.planResume k true d) s
  ds.foldl (fun s d => s.planResume k false d) s

/-- New trims take effect at a tick boundary (R74). -/
def applyTrims (c : CeCal) : CeCal :=
  match c.newTrims with
  | some t => { c with trims := t, newTrims := none }
  | none => c

/-- A channel at the boundary to tick `k`: issues and transfers of the tick that ended, MAINT_NOW of the new one; a new period closes the Goods share and restarts the counts of the floor; the plan made at the cutoff, if any, takes effect (R30, R35, R51). -/
def boundaryChannel (s : State) (k ch : Nat) : State :=
  let s := s.rset (Reg.TT_CH_STAT_EXP_ISSUES ch) (min 15 (s.box ch).expIssues)
  let s := s.rset (Reg.TT_CH_STAT_EXP_XFERS ch) (min 15 (s.box ch).expXfers)
  let b := s.box ch
  let new := k % 128 == 0
  let s := if new then s.rset (Reg.TT_CH_STAT_GOODS_SHARE ch) (if b.periodSlots = 0 then 0 else b.periodGoods * 100 / b.periodSlots) else s
  let s := s.modBox ch fun b => { b with
    expIssues := 0
    expXfers := 0
    cur := b.plan
    plan := {}
    goods := if new then 0 else b.goods
    nonExpress := (if new then 0 else b.nonExpress) + (if b.plan.goodsPending then b.plan.slots else 0)
    periodGoods := if new then 0 else b.periodGoods
    periodSlots := (if new then 0 else b.periodSlots) + b.plan.slots }
  s.rset (Reg.TT_CH_STAT_MAINT_NOW ch) (bit (s.maintAt k ch))

/-- The span of a suspended die grows at a tick boundary (R44). -/
def growSpan (x : Die) : Die := if x.suspended then { x with span := x.span + 1 } else x

end State

/-- The layout check of R32 fails for a populated channel. -/
def State.layoutBad (s : State) (ch : Nat) : Bool :=
  (diesOf ch).any (fun d => (s.die d).populated) &&
  decide (1008 < 128 + s.rget (Reg.TT_CH_BUS_SLOTS ch) * s.rget (Reg.TT_CH_BUS_SLOT_CYC ch))

/-- TT_ENABLE (R32, R56): a write of 1 to TT_CTRL.ENABLE; no effect while the registers are locked; a failed layout check sets CFG_ERR of its channels and starts nothing. -/
def execTtEnable (s : State) : Result :=
  if s.flag Reg.TT_CTRL_LOCK then .next s
  else
    let bad := (List.range s.channels).filter s.layoutBad
    if bad.isEmpty then .next ((s.rset Reg.TT_CTRL_ENABLE 1).rset Reg.TT_STATUS_RUNNING 1)
    else .next (bad.foldl (fun s ch => s.rset (Reg.TT_CH_STAT_CFG_ERR ch) 1) s)

/-- TT_BUDGET_EFF_WRITE (R50): each value above TT_BUDGET_CFG is clipped to it. -/
def execTtBudgetEffWrite (prog erase : Nat) (s : State) : Result :=
  .next ((s.rset Reg.TT_BUDGET_EFF_PROG (min (prog % 512) (s.rget Reg.TT_BUDGET_CFG_MAX_PROG))).rset
    Reg.TT_BUDGET_EFF_ERASE (min (erase % 256) (s.rget Reg.TT_BUDGET_CFG_MAX_ERASE)))

/-- TICK_LO_READ (R29): the read returns the low half and latches the high half. -/
def execTickLoRead (s : State) : Result :=
  .next ((s.rset Reg.TT_TICK_HI_COUNT_HI (s.flash.tick / 2 ^ 32)).emit (.readData 0x008 (BitVec.ofNat 32 s.flash.tick)))

end Sys2Proof.Machine
end

