-- ==== Sys2Proof/Machine/Journal.lean ====
section
/-! DEFINITION. The journal, its pages on flash, and the erase of a block (chapter 06): shared by the signal boxes and the translation layer. -/

namespace Sys2Proof.Machine

/-- Die of a location. -/
def locDie (l : Nat) : Nat := bits l 28 9
/-- Block number of a location: die, plane and block. -/
def locBlock (l : Nat) : Nat := l / 2 ^ 14
/-- Key of an IU in the map. -/
def mapKey (slot iu : Nat) : Nat := slot * 2 ^ 40 + iu
/-- Segment of an IU: its namespace slot and granule (R136, R161). -/
def segOf (slot iu : Nat) : Nat := slot * 2 ^ 20 + iu / 393216

namespace State

/-- Writes a superblock. -/
def setSb (s : State) (n : Nat) (b : Superblock) : State := s.modNand fun x => { x with sbs := Table.ins x.sbs n b }
/-- Changes a superblock where there is one. -/
def modSb (s : State) (n : Nat) (f : Superblock → Superblock) : State := s.modNand fun x => { x with sbs := Table.modify f x.sbs n }
/-- Superblock of a location. -/
def sbOfLoc (s : State) (l : Nat) : Option Nat := (s.blockInfo (locBlock l)).serial

/-- The block with the lowest erase count of a plane, the lowest number on a tie (R163). -/
def takeBlock (s : State) (d plane : Nat) : Option Nat :=
  (List.range s.blocksPer).foldl (fun best b =>
    let n := blockNo d plane b
    let i := s.blockInfo n
    if !i.inSidings then best
    else match best with
      | none => some b
      | some c => if s.eraseCount n < s.eraseCount (blockNo d plane c) then some b else best) none

/-- In-service dies, ascending. -/
def serviceDies (s : State) : List Nat := (List.range (32 * s.channels)).filter fun d => (s.die d).present && (s.die d).isol == 0

/-- The dies of a journal page's two copies (R159): of two channels, else of two chip enables, else two dies of one, else one die. Of those that do, the lowest-numbered. [DESIGN CHOICE, log 29] -/
def jrnlDies (s : State) : List Nat :=
  match s.serviceDies with
  | [] => []
  | a :: rest =>
    match rest.find? fun b => chOf b != chOf a with
    | some b => [a, b]
    | none => match rest.find? fun b => ceOf b != ceOf a with
      | some b => [a, b]
      | none => [a, rest.headD a]

/-- A free block of a die for the journal, of its lowest plane that has one (R159, R163). -/
def jrnlBlock (s : State) (d : Nat) : Option Nat :=
  (List.range s.planesPer).findSome? fun p => (s.takeBlock d p).map (blockNo d p)

/-- Takes a new journal block on a die. -/
def jrnlNew (s : State) (d : Nat) : State × Option (Nat × Nat) :=
  match s.jrnlBlock d with
  | some b => (s.modBlock b fun i => { i with journal := true }, some (b, 0))
  | none => (s, none)

/-- The place of a copy on a die: in the journal block being filled there while it has room, else in a new one (R159). -/
def jrnlPlace (s : State) (d : Nat) (old : Option (Nat × Nat)) : State × Option (Nat × Nat) :=
  match old with
  | some (b, pg) => if b / 4096 / 4 = d && decide (pg < s.pagesPer) && !(s.blockInfo b).retired then (s, some (b, pg)) else s.jrnlNew d
  | none => s.jrnlNew d

/-- The places of the two copies of the next journal page (R159). -/
def jrnlPlaces (s : State) : State × List (Nat × Nat) :=
  let old := s.media.nand.jopen
  let r := s.jrnlDies.zipIdx.foldl (fun (a : State × List (Nat × Nat)) q =>
    match a.1.jrnlPlace q.1 old[q.2]? with
    | (s, some p) => (s, a.2 ++ [p])
    | (s, none) => (s, a.2)) (s, [])
  (r.1.modNand fun x => { x with jopen := r.2.map fun p => (p.1, p.2 + 1) }, r.2)

/-- Start sequences of the segments (R161): of a saved one that of its checkpoint, of one changed and never saved that of its first change; the per-block tables, never saved, need every record. -/
def segStarts (s : State) : List Nat :=
  s.media.nand.ckpt.map (·.2.start) ++
    (s.media.dirtySegs.filter fun p => (Table.find s.media.nand.ckpt p.1).isNone).map (·.2) ++
    (if s.media.nand.ckpt.any fun p => decide (2 ^ 27 ≤ p.1) then [] else [0])

/-- The lowest start sequence of a segment (R161). -/
def lowStart (s : State) : Nat := s.segStarts.foldl min s.media.nextSeq

/-- Live journal in MiB: pages of 16 KiB that are not reclaimed (R159, R161). -/
def liveMib (s : State) : Nat := (s.media.nand.jpages.length + s.media.pages.length + (if s.media.openPage.isEmpty then 0 else 1)) * 16384 / 2 ^ 20

/-- FT_JRNL_STAT and FT_STAT.JRNL_HOLD follow the live journal (R161). -/
def jrnlStat (s : State) : State :=
  let l := s.liveMib
  let lim := s.paramN .translationJournalLiveMib
  ((s.rset Reg.FT_JRNL_STAT_LIVE_MIB (min 65535 l)).rset Reg.FT_JRNL_STAT_URGENT (bit (decide (lim * 3 < l * 4)))).rset
    Reg.FT_STAT_JRNL_HOLD (bit (decide (lim ≤ l)))

/-- Filler records up to a full page of 1024 (R158, R159). -/
def fillPage (page : List JRecord) (nextSeq : Nat) : List JRecord :=
  page ++ (List.range (1024 - page.length)).map fun i => ⟨0, 0, 0, 0, nextSeq + i⟩

/-- Commits the open page, filled with type 0x00 records; an empty page is not programmed (R159). [DEDUCED, log 29] -/
def commitPage (s : State) : State :=
  let m := s.media
  if m.openPage.isEmpty then s
  else
    let r := s.jrnlPlaces
    (r.1.modMedia fun m => { m with
      pages := m.pages ++ [⟨fillPage m.openPage m.nextSeq, r.2⟩]
      nextSeq := m.nextSeq + (1024 - m.openPage.length)
      openPage := [] }).jrnlStat

/-- Appends one record to the open page; a full page is committed (R158, R159). -/
def journal1 (s : State) (entry index nsx type : Nat) : State :=
  let s := s.modMedia fun m => { m with openPage := m.openPage ++ [⟨entry, index, nsx, type, m.nextSeq⟩], nextSeq := m.nextSeq + 1 }
  if 1024 ≤ s.media.openPage.length then s.commitPage else s

/-- Appends a group of records in one page: the page is filled first when it has too few free records (R214). The SEQ of the given records is not used. -/
def journalGroup (s : State) (rs : List JRecord) : State :=
  let s := if 1024 < s.media.openPage.length + rs.length then s.commitPage else s
  rs.foldl (fun s r => s.journal1 r.entry r.index r.nsx r.type) s

/-- Samples, tracking reads and checks of a block that holds its data no more are dropped (R183). -/
def forgetBlock (s : State) (bn : Nat) : State := s.modMedia fun m => { m with
  due := m.due.filter fun l => locBlock l != bn
  trackDue := m.trackDue.filter (·.1 != bn)
  walkBlocks := m.walkBlocks.filter (· != bn)
  walk := Table.del m.walk bn
  sense := Table.del m.sense bn
  checks := Table.del m.checks bn }

/-- A block is erased: its erase count grows, its tracker entry and Milepost counter are zero, a record of type 0x06 is appended (R120, R160, R181). [DESIGN CHOICE, log 28] -/
def eraseBlock (s : State) (bn : Nat) : State :=
  let c := s.eraseCount bn + 1
  let s := ({ s with flash := { s.flash with eraseCounts := Table.put 0 s.flash.eraseCounts bn c } }).setTracker bn 0
  ((s.modBlock bn fun i => { i with dirty := false, milepost := 0, check := false, checkPage := none }).forgetBlock bn).journal1 (bn * 2 ^ 14) c 0 6

end State

end Sys2Proof.Machine
end

