-- ==== Sys2Proof/Machine/Units.lean ====
section
/-! DEFINITION. The codewords of a superblock's program units and the tags they carry (chapters 05 and 06; R113, R141, R148, R150, R151). -/

namespace Sys2Proof.Machine

namespace State

/-- A position of the superblock holds its close parity (R151). -/
def parityPos (n : Nat) (b : Superblock) (pos : Nat) : Bool := b.closeParity && pos == n % max 1 b.dies.length

/-- Codeword slots of a unit: every plane, every page of the wordline, four slots (R148). -/
def unitCap (s : State) (b : Superblock) : Nat := s.planesPer * 4 * s.wlPages b.slc

/-- Slots of a superblock's first page that a header takes, slot 0 of every plane, are numbered below this in stripe 0 (R148). -/
def headTo (s : State) (stripe : Nat) : Nat := if stripe = 0 then 4 * s.planesPer else 0

/-- The first slot from `i` on where an IU of `k` codewords may lie in a unit: not on a header, one of four codewords at a slot 0 (R137, R148). -/
def slotFor (s : State) (stripe k i : Nat) : Nat :=
  if k = 4 then max ((i + 3) / 4 * 4) (s.headTo stripe) else if i < s.headTo stripe && i % 4 == 0 then i + 1 else i

/-- Free codeword slots of a unit from `used` on, headers excluded. -/
def unitFree (s : State) (b : Superblock) (stripe used : Nat) : Nat :=
  s.unitCap b - used - (s.headTo stripe / 4 - ceilDiv (min used (s.headTo stripe)) 4)

/-- Location of the i-th codeword slot of a unit: slots of a plane page, then planes, then pages. -/
def unitLoc (s : State) (b : Superblock) (stripe pos i : Nat) : Nat :=
  let plane := i / 4 % max 1 s.planesPer
  let page := stripe * s.wlPages b.slc + i / (4 * max 1 s.planesPer)
  mkLoc (b.dies.getD pos 0) plane ((b.blocks.getD pos []).getD plane 0) page (i % 4)

/-- Stripes of a superblock (R148). -/
def stripes (s : State) (b : Superblock) : Nat := s.pagesPer / max 1 (s.wlPages b.slc)

/-- Part of a stored 16 KiB IU that a slot holds, with its blocks; of a 4 KiB IU part 0 and all of them (R113). -/
def partOf (x : Stored) (slot : Nat) : Nat × List Cipher :=
  if (x.blocks.map fun c => c.plain.length).sum ≤ 4096 then (0, x.blocks)
  else (slot, (x.blocks.drop (x.blocks.length / 4 * slot)).take (x.blocks.length / 4))

/-- The stored IU a codeword belongs to: its own, or the 16 KiB one that begins at slot 0. -/
def storedAt (s : State) (d plane block page slot : Nat) : Option Stored :=
  let c := s.media.nand.content
  match Table.find c (mkLoc d plane block page slot) with
  | some x => some x
  | none => (Table.find c (mkLoc d plane block page 0)).filter fun x => (partOf x 1).1 == 1

/-- Where a codeword stands in its superblock: serial, superblock, stripe, position, number within the unit. -/
def unitAt (s : State) (d plane block page slot : Nat) : Option (Nat × Superblock × Nat × Nat × Nat) :=
  match (s.blockInfo (blockNo d plane block)).serial with
  | none => none
  | some n =>
    match s.sb n with
    | none => none
    | some b =>
      let w := max 1 (s.wlPages b.slc)
      some (n, b, page / w, (b.dies.findIdx? (· == d)).getD 0, (page % w * s.planesPer + plane) * 4 + slot)

/-- The first sequence of the durable journal page that a page of a journal block holds (R159). -/
def jpageAt (s : State) (d plane block page : Nat) : Option Nat :=
  (s.media.nand.jpages.find? fun q => q.2.2.contains (blockNo d plane block, page)).map (·.1)

/-- Bytes 4,096 to 4,123 of a codeword (R113, R141). -/
structure CwHead where
  /-- LBA field -/
  lba : Nat
  /-- namespace identifier field -/
  nsid : Nat
  /-- part of a 16 KiB IU -/
  part : Nat := 0
  /-- WSEQ -/
  wseq : Nat := 0
  /-- FLAGS: bit 0 RELOC, bit 1 MERGE -/
  flags : Nat := 0
  deriving DecidableEq, Repr

/-- The head a codeword carries: of the IU stored there, of a header, of the metadata, of parity, of a journal page; of anything else the pad's (R113, R141, R148, R150, R151, R159). -/
def headAt (s : State) (d plane block page slot : Nat) : CwHead :=
  match s.storedAt d plane block page slot with
  | some x =>
    let q := partOf x slot
    { lba := (q.2.head?.map (·.lba)).getD 0, nsid := x.nsid, part := q.1, wseq := x.wseq, flags := bit x.reloc + 2 * bit x.merge }
  | none =>
    match s.jpageAt d plane block page with
    | some q => { lba := q, nsid := 0xFFFFFFF1 }
    | none =>
      match s.unitAt d plane block page slot with
      | none => { lba := 0, nsid := 0xFFFFFFF6 }
      | some (n, b, j, pos, i) =>
        if page = 0 && slot = 0 then { lba := n, nsid := 0xFFFFFFF3 }
        else if parityPos n b pos then { lba := n, nsid := 0xFFFFFFF5 }
        else match (Table.get {} b.units (j * 64 + pos)).metas.find? fun (m : Meta) => decide (m.first ≤ i ∧ i < m.first + m.count) with
          | some m => { lba := m.lba, nsid := m.tag }
          | none => { lba := 0, nsid := 0xFFFFFFF6 }

/-- The tags the codeword at a location is expected to carry (R113, R141). -/
def expectedTags (s : State) (d plane block page slot : Nat) : Nat × Nat :=
  let h := s.headAt d plane block page slot
  (h.lba, h.nsid)

end State

end Sys2Proof.Machine
end

