-- ==== Sys2Proof/Machine/SignalBox.lean ====
section
/-! DEFINITION. Signal-box microcode (chapter 04): the microword, one word's execution, legs, stations, requests, halts, the load port. -/

namespace Sys2Proof.Machine

/-- A field of a microword (R86). -/
def mw (w : BitVec 176) (lo width : Nat) : Nat := bits w.toNat lo width

namespace State

/-- Descriptor of an operation in a die's set; none when the dispatch entry is not VALID (R93, R94). -/
def descOf (s : State) (set op : Nat) : Option Nat :=
  let e := (Table.get (0#16) s.flash.dispatch (set * 32 + op)).toNat
  if bits e 15 1 = 1 then some (bits e 0 9) else none

/-- A field of a descriptor (R94). -/
def descField (s : State) (i lo width : Nat) : Nat := bits (Table.get (0#64) s.flash.descs i).toNat lo width

/-- The control-store word of a box; a word never loaded is zero (R85). -/
def storeWord (s : State) (ch addr : Nat) : BitVec 176 := Table.get (0#176) s.flash.store (8192 * ch + addr)

/-- Program counter of a box. -/
def pcOf (s : State) (ch : Nat) : Nat := s.rget (Reg.SB_SEQ_STAT_PC ch)

/-- The routine and its services stand still: no leg, no hold, nothing to follow (R103). -/
def stopBox (s : State) (ch : Nat) : State :=
  (s.rset (Reg.SB_SEQ_STAT_IN_LEG ch) 0).modBox ch fun b => { b with holding := false, rbWait := false, service := false, aux := false, follow := [] }

/-- Records a halt (R91, R102, R103): the box stops, every chip enable is released, the cause stands in SB_SEQ_STAT. Causes: 1 WATCHDOG, 2 CS_UE, 3 ERR_ACT, 4 STACK. A second WATCHDOG halt isolates the channel (R77); a third CS_UE halt isolates it with cause FIRMWARE. -/
def haltBox (s : State) (ch cause : Nat) : State :=
  let s := s.rset (Reg.SB_SEQ_STAT_HALTED ch) 1
  let s := s.rset (Reg.SB_SEQ_STAT_HALT_CAUSE ch) cause
  let s := s.rsat (Reg.SB_SEQ_WDOG_TRIPS ch)
  let s := if s.paramN .microcodeTraceMode = 2 then s.rset (Reg.SB_SEQ_CTRL_TRACE_FREEZE ch) 1 else s
  let s := (s.stopBox ch).modBox ch fun b => { b with ce := 0 }
  match cause with
  | 1 =>
    let s := s.rset (Reg.SB_SEQ_WDOG_TRIP_PC ch) (s.pcOf ch)
    let s := s.rset (Reg.SB_CH_ERR_WATCHDOG ch) 1
    let s := s.modBox ch fun b => { b with watchdogHalts := b.watchdogHalts + 1 }
    if 2 ≤ (s.box ch).watchdogHalts then s.isolateChannel ch else s
  | 2 =>
    let s := s.rset (Reg.SB_SEQ_ERR_CS_UE ch) 1
    let s := s.modBox ch fun b => { b with csUeHalts := b.csUeHalts + 1 }
    if 3 ≤ (s.box ch).csUeHalts then s.isolateChannel ch .firmware else s
  | 3 => s.rset (Reg.SB_SEQ_ERR_ERR_HALT ch) 1
  | _ => s.rset (Reg.SB_SEQ_ERR_STACK ch) 1

/-! ## Control-store words (R84, R85) -/

/-- A bit of a stored codeword belongs to the half of data bits 79 to 0 (R84). -/
def csLow (b : Nat) : Bool := decide (b < 80) || (decide (160 ≤ b) && decide (b < 168))

/-- The 16 check bits that belong to a word at an address: [7:0] those of data bits 79 to 0, [15:8] those of 159 to 80 (R84). -/
def csOf (addr : Nat) (w : BitVec 176) : Nat :=
  (Config.csCheck addr (w.extractLsb' 0 80)).toNat + (Config.csCheck addr (w.extractLsb' 80 80)).toNat * 256

/-- Check bits of a stored word that are wrong for its data and address (R84). -/
def csWrong (addr : Nat) (w : BitVec 176) : List Nat :=
  let c := mw w 160 16 ^^^ csOf addr w
  (List.range 16).filterMap fun i => if c / 2 ^ i % 2 = 1 then some (160 + i) else none

/-- Upset bits after further upsets: a bit upset twice is right again. -/
def csMerge (old new : List Nat) : List Nat :=
  let n := (new.filter fun b => decide (b < 176)).eraseDups
  old.filter (fun b => !n.contains b) ++ n.filter fun b => !old.contains b

/-- What the SEC-DED code of one half makes of its upset bits (R84, R85): none when uncorrectable; else whether it corrected one, and the bits still wrong. Three upset bits or more are beyond the code. [DESIGN CHOICE, log 24] -/
def csHalf (key : Nat) (errs : List Nat) : Option (Bool × List Nat) :=
  match errs with
  | [] => some (false, [])
  | [_] => some (true, [])
  | [_, _] => none
  | _ => Config.csBeyond key errs

/-- A word with bits inverted. -/
def flipWord (w : BitVec 176) (bs : List Nat) : BitVec 176 := bs.foldl (fun w b => w ^^^ BitVec.ofNat 176 (2 ^ b)) w

/-- Fetches a word (R85): a corrected one is executed corrected and written back, counted; none when a half is uncorrectable. A word never loaded is zero with correct check bits. -/
def fetchCs (s : State) (ch addr : Nat) (flips : List Nat) : State × Option (BitVec 176) :=
  let k := 8192 * ch + addr
  match Table.find s.flash.store k with
  | none => (s, some 0)
  | some w =>
    let errs := csMerge (Table.get [] s.flash.csErrs k) flips
    let put := fun (l : List Nat) => { s with flash := { s.flash with csErrs := Table.put [] s.flash.csErrs k l } }
    match csHalf k (errs.filter csLow), csHalf k (errs.filter fun b => !csLow b) with
    | some a, some b =>
      let s := put (a.2 ++ b.2)
      let s := if a.1 || b.1 then (s.rset (Reg.SB_SEQ_ERR_CS_CORR ch) 1).rsat (Reg.SB_SEQ_CNT_CS_CORR ch) else s
      (s, some (flipWord w (a.2 ++ b.2)))
    | _, _ => (put errs, none)

/-- The word a hold stays at: fetched before. -/
def heldWord (s : State) (ch addr : Nat) : BitVec 176 :=
  let k := 8192 * ch + addr
  flipWord (s.storeWord ch addr) (Table.get [] s.flash.csErrs k)

/-- Time of the running word, ns since tick 0: the tick's start and the leg's cycles of 2.5 ns (R82). -/
def legNs (s : State) (ch : Nat) : Nat := s.tickNs + (s.box ch).legCycles * 5 / 2

/-- One signed offset of a profile's table: band, row, threshold (R118); zero where the Rulebook has no record. -/
def offsetOf (s : State) (profile t band row thr : Nat) : Int :=
  match s.rb.getBytes (.offsets profile) with
  | some bs => signed ((bs.getD ((band * 9 + row) * t + thr) 0).toNat) 8
  | none => 0

/-- The offset of an SLC-mode block (R118). -/
def slcOffsetOf (s : State) (profile band row : Nat) : Int :=
  match s.rb.getBytes (.slcOffsets profile) with
  | some bs => signed ((bs.getD (band * 9 + row) 0).toNat) 8
  | none => 0

/-- An offset with a common shift, within signed 8 bits (R121). -/
def shifted (o sh : Int) : Int := max (-128) (min 127 (o + sh))

/-- Group `g` of a row's offsets, four to a 32-bit word, a threshold beyond the count `t` 0 (R119). -/
def offsetGroup (s : State) (profile t band row g : Nat) (sh : Int) : Word :=
  BitVec.ofNat 32 ((List.range 4).foldl (fun a i =>
    let thr := 4 * g + i
    if thr < t then a + unsigned (shifted (s.offsetOf profile t band row thr) sh) 8 * 2 ^ (8 * i) else a) 0)

/-- The operation of a context is in SLC mode (R88): of an SLC operation code, or on a block of a superblock in SLC mode. -/
def slcOp (s : State) (d : Nat) (c : DieCtx) : Bool :=
  c.op == 1 || c.op == 5 ||
    (match ((planesOf c.arg.planes).head?).bind fun p => (s.blockInfo (blockNo d p c.arg.block)).serial with
      | some n => (s.sb n).any (·.slc)
      | none => false)

/-- The codeword job a context reads for: its owner's, else the first of its page. -/
def jobOf (s : State) (d : Nat) (c : DieCtx) : Option Job :=
  match Table.find s.flash.jobs c.arg.owner with
  | some j => some j
  | none => (s.flash.jobs.find? fun p => p.2.die == d && p.2.block == c.arg.block && p.2.page == c.arg.page).map (·.2)

/-- Shift of soft bit-plane `k` of a READ_SOFT, in threshold steps (R123): the senses of SOFT2, 0, -delta and +delta, then those SOFT3 adds, -2 delta and +2 delta. [DESIGN CHOICE, log 25] -/
def softShift (delta : Int) : Nat → Int
  | 0 => 0
  | 1 => -delta
  | 2 => delta
  | 3 => -2 * delta
  | _ => 2 * delta

/-- FP after a VREF_SEL (R87, R119, R121 to R123): 1 base row of the latched band, 2 the tracked row with its shift, 3-10 retry rows, 11 zero offsets. A tracking sense adds its multiple of track_step to SHIFT; a READ_SOFT senses around the best level 1 row. While an offset table is in error its base rows serve (R131). -/
def vrefWord (s : State) (d sel : Nat) : Word :=
  let x := s.die d
  let c := x.ctx
  let g := c.c3 % 4
  let j := s.jobOf d c
  let tr := ((j.map (·.tracker)).getD 0)
  let valid := bits tr 14 1 == 1
  let track : Option Int := match j with
    | some q => (match q.owner with | .tracking n => some (n * s.param .readTrackStep) | _ => none)
    | none => none
  let row := if sel = 1 then 0 else if sel = 2 then (if valid then bits tr 8 4 else 0) else sel - 2
  let row := if c.op = 3 && sel ≤ 2 then (j.map (·.step)).getD 0 else row
  let row := if s.flag Reg.LD_STAT_TBL_ERR then 0 else row
  let sh : Int := if sel = 2 && c.op != 3 && (valid || track.isSome) then signed (bits tr 0 8) 8 + track.getD 0 else 0
  let sh := if c.op = 3 then sh + softShift (s.param .readSoftDelta) c.c2 else sh
  if sel = 0 then c.fp
  else if 11 ≤ sel then 0
  else if s.slcOp d c then (if g = 0 then BitVec.ofNat 32 (unsigned (shifted (s.slcOffsetOf x.profile c.band row) sh) 8) else 0)
  else s.offsetGroup x.profile x.thresholds c.band row g sh

/-- Puts a codeword into a hard-decision decoder's queue (R126): Express first; another class overflows from a decoder that holds two or more to the least-loaded one with no Express codeword waiting. -/
def decoderFor (s : State) (ch : Nat) (express : Bool) : Nat :=
  let load := fun n => (Table.get ([] : List Nat) s.flash.decoders n).length
  let hasExp := fun n => (Table.get ([] : List Nat) s.flash.decoders n).tail.any fun j =>
    match Table.find s.flash.jobs j with | some j => j.cls == .express | none => false
  if express || load ch < 2 then ch
  else
    let free := (List.range 16).filter fun n => !hasExp n
    match free with
    | [] => ch
    | n :: ns => ns.foldl (fun b m => if load m < load b then m else b) n

/-- Queue position: an Express codeword goes ahead of every codeword that has not started, none is pre-empted (R126). -/
def enqueueAt (isExp : Nat → Bool) (q : List Nat) (j : Nat) (express : Bool) : List Nat :=
  match q with
  | [] => [j]
  | h :: t => if express then h :: (t.filter isExp ++ j :: t.filter (fun x => !isExp x)) else h :: t ++ [j]

/-- DEC_STAT of a decoder follows its queue. -/
def decStat (s : State) (n : Nat) : State :=
  let q := Table.get ([] : List Nat) s.flash.decoders n
  let exp := q.tail.any fun j => match Table.find s.flash.jobs j with | some j => j.cls == .express | none => false
  ((s.rset (Reg.LD_DEC_STAT_QUEUED n) (min 255 (q.length - 1))).rset (Reg.LD_DEC_STAT_BUSY n) (bit !q.isEmpty)).rset
    (Reg.LD_DEC_STAT_EXPRESS_Q n) (bit exp)

/-- The four soft decoders show the one shared queue. -/
def softStat (s : State) : State :=
  let q := Table.get ([] : List Nat) s.flash.decoders 16
  (List.range 4).foldl (fun s i =>
    (s.rset (Reg.LD_DEC_STAT_QUEUED (16 + i)) (min 255 (q.length - min 4 q.length))).rset (Reg.LD_DEC_STAT_BUSY (16 + i)) (bit (decide (i < q.length)))) s

/-- Starts the hard decode of a job, read with a routine's latched band (R104, R129); the codec accepts codewords while enabled (R131). -/
def startHard (s : State) (n band : Nat) : State :=
  match Table.find s.flash.jobs n with
  | none => s
  | some j =>
    if !s.flag Reg.LD_CTRL_ENABLE then s else
    let e := j.cls == .express
    let dec := s.decoderFor (chOf j.die) e
    let isExp := fun k => match Table.find s.flash.jobs k with | some j => j.cls == .express | none => false
    let q := enqueueAt isExp (Table.get [] s.flash.decoders dec) n e
    { s with flash := { s.flash with
        jobs := Table.ins s.flash.jobs n { j with state := .hard, band := band }
        decoders := Table.put [] s.flash.decoders dec q } }.decStat dec

/-- Starts the soft decode of a job: one queue of four decoders, Stopping then Goods, arrival order within a class; the four in progress stay in front (R126). -/
def startSoft (s : State) (n band : Nat) : State :=
  match Table.find s.flash.jobs n with
  | none => s
  | some j =>
    if !s.flag Reg.LD_CTRL_ENABLE then s else
    let goods := fun k => match Table.find s.flash.jobs k with | some j => j.cls == .goods | none => false
    let q := Table.get ([] : List Nat) s.flash.decoders 16
    let n4 := s.softDecoders
    let wait := q.drop n4
    let q := q.take n4 ++ (if j.cls == .goods then wait ++ [n] else wait.filter (fun k => !goods k) ++ n :: wait.filter goods)
    { s with flash := { s.flash with
        jobs := Table.ins s.flash.jobs n { j with state := .soft, band := band }
        decoders := Table.put [] s.flash.decoders 16 q } }.softStat

/-- Job whose codeword a transfer of a die carries: the first of the die's page still waiting for a sense. -/
def sensingJob (s : State) (d : Nat) (a : OpArg) : Option Nat :=
  (s.flash.jobs.find? fun p => p.2.die == d && p.2.block == a.block && p.2.page == a.page && p.2.state == .sensing).map (·.1)

/-- Appends to the trace buffer the address and, for TRACE 2 and 3, the status register (R87). -/
def trace (s : State) (ch pc mode : Nat) : State :=
  if mode = 0 || !s.flag (Reg.SB_SEQ_CTRL_TRACE_EN ch) || s.flag (Reg.SB_SEQ_CTRL_TRACE_FREEZE ch) then s
  else
    let p := s.rget (Reg.SB_TRACE_CTRL_WR_PTR ch)
    let st := if mode = 1 then 0 else (s.box ch).status.toNat
    let s := s.modBox ch fun b => { b with trace := Table.ins b.trace p (pc, st, s.flash.tick % 2048) }
    let s := s.rset (Reg.SB_TRACE_CTRL_WR_PTR ch) (p + 1)
    if mode = 3 then s.rset (Reg.SB_SEQ_CTRL_TRACE_FREEZE ch) 1 else s

/-- Declared time of an operation code, ns: program, SLC program, erase, else the array read time (R75, R97). -/
def opTime (x : Die) (op : Nat) : Nat :=
  if op = 4 then x.tProg else if op = 5 then x.tProgSlc else if op = 6 then x.tBers else x.tR

/-- A program unit, as serial, stripe and position, is the one a program operation of a die wrote. -/
def unitOfProgram (s : State) (d : Nat) (a : OpArg) (u : Nat × Nat × Nat) : Bool :=
  match Table.find s.media.nand.sbs u.1 with
  | none => false
  | some b =>
    let pages := if b.slc then 1 else match s.flash.refDie with | some r => (s.die r).cell + 1 | none => 1
    u.2.1 == a.page / pages && b.dies[u.2.2]? == some d &&
      (b.blocks.getD u.2.2 []).any fun n => (List.range 4).any fun p => bits a.planes p 1 == 1 && n == blockNo d p a.block

/-- A program has passed: the parcels of its unit wait for their stripe (R143). -/
def programPassed (s : State) (d : Nat) (a : OpArg) : State :=
  let hit := fun (x : Parcel) => x.state == .placed && (match x.unit with | some u => s.unitOfProgram d a u | none => false)
  { s with media := { s.media with parcels := s.media.parcels.map fun (q : Nat × Parcel) => if hit q.2 then (q.1, { q.2 with state := .stripeWait }) else q } }

/-- An erase has passed: each block is erased (R120, R160, R163). -/
def erasePassed (s : State) (d : Nat) (a : OpArg) : State :=
  (planesOf a.planes).foldl (fun s p => s.eraseBlock (blockNo d p a.block)) s

/-- Effect of a word's EVENT on the die and its owner (R87, R33, R97, R100). What arrives for a die after its isolation is discarded (R79). -/
def event (s : State) (ch d ev : Nat) : State :=
  let x := s.die d
  let c := x.ctx
  if ev = 0 then s
  else if 0x20 ≤ ev then s.rsat (Reg.SB_SEQ_CNT_USER_EVENTS ch)
  else if 0x10 ≤ ev || x.isol != 0 then s
  else
    match ev with
    | 1 =>
      let exp := c.arg.cls == .express
      let st := if x.suspended then x.state else if exp then .readX else .readL
      s.setDie d { x with state := st, reads := x.reads ++ (x.unitsOf c.arg.planes).map fun u => ⟨u, exp, c.arg.owner, c.arg.slots⟩ }
    | 2 => s.setDie d { x with state := .load }
    | 3 => s.setDie d { x with state := if c.op = 6 then .erase else .prog, estimate := s.legNs ch + opTime x c.op }
    | 6 =>
      let s := (s.setDie d { x with timeouts := 0, statusInv := 0 }).emit (.flashReport d c.arg.owner 6)
      if c.op = 4 || c.op = 5 then s.programPassed d c.arg else if c.op = 6 then s.erasePassed d c.arg else s
    | 7 =>
      let s := s.emit (.flashReport d c.arg.owner 7)
      if c.op = 6 then (s.rset (Reg.SB_CH_ERR_ERASE_FAIL ch) 1).rsat (Reg.SB_CH_ERRCNT_ERASE_FAILS ch)
      else if c.op = 4 || c.op = 5 then (s.rset (Reg.SB_CH_ERR_PROG_FAIL ch) 1).rsat (Reg.SB_CH_ERRCNT_PROG_FAILS ch)
      else s
    | 11 => (s.setDie d { x with timeouts := 0, statusInv := 0 }).emit (.flashReport d c.arg.owner 11)
    | _ => s.emit (.flashReport d c.arg.owner ev)

/-- The routine of a die ends (SEQ END, R90, R100): its data-out has ended, the die leaves its operation, the context is freed. A request that no station took is stale once nothing runs on the die. -/
def endRoutine (s : State) (ch d : Nat) : State :=
  let x := s.die d
  let c := x.ctx
  let reads := x.reads.filter (·.owner != c.arg.owner)
  let stale := x.request.isSome && reads.isEmpty
  let s := if stale then s.rset (Reg.SB_SEQ_ERR_REQ_STALE ch) 1 else s
  let s := if c.op = 4 || c.op = 5 || c.op = 6 then s.uncount d else s
  let s := s.outEnded c.arg.owner
  s.modDie d fun x =>
    let st := if x.state == .isolated || x.state == .abort || x.suspended then x.state
      else if reads.isEmpty then .idle else x.state
    { x with state := st, reads := reads, ctx := x.others.headD {}, others := x.others.tail, request := if stale then none else x.request }

/-- Brings the context of an owner's routine to the front of its die. -/
def selectCtx (s : State) (d owner : Nat) : State :=
  s.modDie d fun x =>
    if x.ctx.active && x.ctx.arg.owner == owner then x
    else match x.others.find? (·.arg.owner == owner) with
      | some c => { x with ctx := c, others := (if x.ctx.active then [x.ctx] else []) ++ x.others.filter (·.arg.owner != owner) }
      | none => x

/-- Brings the context of the die's program or erase to the front. -/
def selectOp (s : State) (d : Nat) : State :=
  match (s.die d).others.find? (fun c => c.op == 4 || c.op == 5 || c.op == 6) with
  | some c => s.selectCtx d c.arg.owner
  | none => s

/-- Value of a condition (R88). -/
def cond (s : State) (ch : Nat) (e : WordEnv) (n : Nat) : Bool :=
  let b := s.box ch
  let x := s.die b.die
  let c := x.ctx
  if 0x20 ≤ n && n ≤ 0x27 then b.status.getLsbD (n - 0x20)
  else
    match n with
    | 0x00 => true
    | 0x01 => b.statMatch
    | 0x02 => e.rbHigh
    | 0x03 => b.timers.getD 0 0 == 0
    | 0x04 => b.timers.getD 1 0 == 0
    | 0x05 => b.timers.getD 2 0 == 0
    | 0x06 => b.timers.getD 3 0 == 0
    | 0x07 => c.c0 == 0
    | 0x08 => c.c1 == 0
    | 0x09 => c.c2 == 0
    | 0x0A => c.c3 == 0
    | 0x0B => x.request.isSome
    | 0x0C => c.resumed
    | 0x0D => s.slcOp b.die c
    | 0x0E => decide (1 < (planesOf c.arg.planes).length)
    | 0x0F => x.ipr
    | 0x10 => decide (1 ≤ c.band)
    | 0x11 => decide (2 ≤ c.band)
    | 0x12 => c.band == 3
    | 0x13 => s.flag (Reg.SB_CH_CFG_IFACE ch)
    | 0x14 => b.dmaDone
    | 0x15 => b.calPass
    | 0x16 => c.fail
    | 0x17 => c.arg.cls == .express
    | _ => false

/-- A counter operation (R87): load, decrement saturating at 0, increment saturating at 0xFFFF. -/
def cntOp (op imm v : Nat) : Nat :=
  match op with
  | 1 => imm % 65536
  | 2 => v - 1
  | 3 => min (v + 1) 65535
  | _ => v

/-- Applies CNT_OP to a context. -/
def applyCnt (c : DieCtx) (f imm : Nat) : DieCtx :=
  match f / 4 with
  | 0 => { c with c0 := cntOp (f % 4) imm c.c0 }
  | 1 => { c with c1 := cntOp (f % 4) imm c.c1 }
  | 2 => { c with c2 := cntOp (f % 4) imm c.c2 }
  | _ => { c with c3 := cntOp (f % 4) imm c.c3 }

/-- Cycles a TIMER_LD loads, rounded up (R87). -/
def timerCycles (x : Die) (ld : Nat) : Nat :=
  let n := ld % 2 ^ 14
  match ld / 2 ^ 14 with
  | 0 => n
  | 1 => n * 4
  | 2 => n * 400
  | _ =>
    let ns := match n % 16 with
      | 0 => x.tR | 1 => x.ent 128 16 | 2 => x.ent 144 16 | 3 => x.ent 160 16 | 4 => x.ent 176 16 | _ => 0
    ceilDiv (ns * 2) 5

/-- Bytes a DMA of a word moves (R87, DMA_LEN_SRC). -/
def dmaLen (x : Die) (w : BitVec 176) : Nat :=
  match mw w 78 3 with
  | 1 => x.pageBytes / 4
  | 2 => mw w 111 16
  | 3 => 4
  | 4 => 64
  | 5 => 256
  | _ => 0

/-- Chip enables a word asserts (R87, CE_SEL). -/
def ceMask (s : State) (ch : Nat) (w : BitVec 176) : Nat :=
  let b := s.box ch
  match mw w 37 5 with
  | 0x00 => b.ce
  | 0x09 => 2 ^ ceOf b.die
  | 0x0A => s.rget (Reg.SB_CH_CFG_CE_MASK ch)
  | n => if n ≤ 8 then 2 ^ (n - 1) else 0

/-- The address a word drives, with its number of cycles (R87, ADDR_SRC, ADDR_CYC). -/
def busAddr (s : State) (d : Nat) (w : BitVec 176) : Option (BusAddr × Nat) :=
  let c := (s.die d).ctx
  let a := c.arg
  if !([2, 3, 7].contains (mw w 31 3)) then none
  else
    let src : BusAddr := match mw w 42 3 with
      | 0 => .operation true true d a.planes a.block a.page c.slot
      | 1 => .operation true false d a.planes a.block a.page c.slot
      | 2 => .operation false true d a.planes a.block a.page c.slot
      | 3 => .rowLun d a.block a.page
      | 4 => .imm (mw w 111 24)
      | 5 => .feature (mw w 135 8)
      | _ => .rowPlane d (c.c0 % 4) a.block a.page
    some (src, mw w 45 3)

/-- The bus cycles of a word (R87); none when it carries no bus cycle. -/
def busCycle (s : State) (ch : Nat) (w : BitVec 176) : Option BusCycle :=
  let d := (s.box ch).die
  let k := mw w 31 3
  if k = 0 then none
  else some {
    ce := s.ceMask ch w, kind := k, timing := mw w 34 2
    cmds := if k = 1 || k = 3 then [mw w 23 8] else if k = 7 then [mw w 23 8, mw w 111 8] else []
    addr := s.busAddr d w, dq := mw w 48 4, dma := mw w 74 4
    len := if mw w 74 4 = 0 then 0 else dmaLen (s.die d) w }

/-- Chip enables and bus cycles of a word (R87, R89 step 2): what the channel carries is sent out; a word that selects or drives releases its chip enable at its end unless CE_HOLD. A feature address stays for the data that follows it. -/
def driveBus (s : State) (ch : Nat) (w : BitVec 176) : State :=
  let bus := s.busCycle ch w
  let ce := if bus.isNone && mw w 37 5 == 0 then (s.box ch).ce else if mw w 36 1 = 1 then s.ceMask ch w else 0
  let s := s.modBox ch fun b => { b with
    ce := ce
    featAddr := match bus.bind (·.addr) with | some (.feature f, _) => f | _ => b.featAddr }
  match bus with
  | some c => s.emit (.bus ch c)
  | none => s

/-- The codeword in transfer is complete: the next slot follows (R87, R113). -/
def nextSlot (c : DieCtx) : DieCtx := { c with moved := 0, armed := false, slot := c.slot + 1 }

/-- DMA and LDPC_CTL of a word (R87, R126): bytes of the codeword move; a hard decode starts when the codeword is complete; a soft bit-plane is added to its codeword; a soft decode starts; FP goes to a NAND feature or comes from the NAND. [DEDUCED, log 24] -/
def wordData (s : State) (ch d : Nat) (e : WordEnv) (w : BitVec 176) : State :=
  let x := s.die d
  let dma := mw w 74 4
  let ldpc := mw w 103 4
  let len := dmaLen x w
  let s := s.modCtx d fun c => { c with
    moved := if 1 ≤ dma && dma ≤ 3 then c.moved + len else c.moved
    armed := c.armed || ldpc == 1
    retryTag := c.retryTag || ldpc == 4
    fp := if dma = 7 then e.fp else c.fp }
  let s := if dma = 6 then s.modDie d fun x => { x with features := Table.ins x.features (s.box ch).featAddr x.ctx.fp } else s
  let s := if dma = 4 then s.modBox ch fun b => { b with calPass := e.calPass } else s
  let c := (s.die d).ctx
  let full := decide (x.pageBytes / 4 ≤ c.moved)
  let job := s.sensingJob d c.arg
  if c.armed && full then
    let s := s.modCtx d nextSlot
    match job with | some j => s.startHard j c.band | none => s
  else if ldpc = 3 then
    let s := s.modCtx d nextSlot
    match job with | some j => s.startSoft j c.band | none => s
  else if ldpc = 2 then
    let s := s.modCtx d fun c => { c with moved := 0 }
    match job with
    | some j => { s with flash := { s.flash with jobs := Table.modify (fun (q : Job) => { q with planesIn := q.planesIn ++ [c.c2] }) s.flash.jobs j } }
    | none => s
  else if dma = 3 && full then s.modCtx d nextSlot
  else s

/-- The status byte a RDSTAT word reads goes to the status register and is compared (R87). The Fogman's failed program reads FAIL (R507). -/
def readStatus (s : State) (ch d : Nat) (e : WordEnv) (w : BitVec 176) : State :=
  if mw w 31 3 = 6 then
    let st := e.status ||| (if (s.die d).ctx.failInject then 1 else 0)
    s.modBox ch fun b => { b with
      status := st
      statMatch := if mw w 81 8 = 0 then b.statMatch else (st &&& BitVec.ofNat 8 (mw w 81 8)) == BitVec.ofNat 8 (mw w 89 8) }
  else s

/-- Sequencer cycles pass: the timers count down, the leg and the distance to the last station grow, at most to the watchdog's 1024 (R82, R99, R102). -/
def passCycles (s : State) (ch n : Nat) (stn : Bool) : State :=
  let dist := if stn then 0 else min 1024 ((s.box ch).dist + n)
  let s := s.modBox ch fun b => { b with dist := dist, legCycles := b.legCycles + n, timers := b.timers.map (· - n) }
  if s.rget (Reg.SB_SEQ_WDOG_MAX_DIST ch) < dist then s.rset (Reg.SB_SEQ_WDOG_MAX_DIST ch) dist else s

/-- Steps 1 and 2 of R89: timer load and counter, chip enables, bus cycles, DMA, FP; the word's cycles pass, one when it carries no bus cycle and no hold (R82). -/
def earlySteps (s : State) (ch : Nat) (e : WordEnv) (w : BitVec 176) (stn : Bool) : State :=
  let d := (s.box ch).die
  let ld := mw w 52 16
  let s := if ld = 0 then s else s.modBox ch fun b => { b with timers := b.timers.set (mw w 68 2) (timerCycles (s.die d) ld) }
  let s := s.modCtx d fun c => applyCnt c (mw w 70 4) (mw w 111 24)
  let n := if mw w 31 3 = 0 && mw w 143 1 = 0 then 1 else max 1 e.cycles
  let s := ((s.driveBus ch w).wordData ch d e w).readStatus ch d e w
  let s := if mw w 107 4 = 0 then s else s.modCtx d fun c => { c with fp := s.vrefWord d (mw w 107 4) }
  let s := s.modBox ch fun b => { b with dmaDone := e.dmaDone, dmaErr := e.dmaError && mw w 74 4 != 0 }
  s.passCycles ch n stn

/-- The word's status compare fails or its DMA reports an error (R87 ERR_ACT). -/
def wordError (s : State) (ch : Nat) (w : BitVec 176) : Bool :=
  (mw w 31 3 == 6 && mw w 81 8 != 0 && !(s.box ch).statMatch) || (s.box ch).dmaErr

/-- Parks the routine at an address: the leg ends (R82, R100). -/
def park (s : State) (ch d addr want : Nat) : State :=
  let k := s.flash.tick
  let s := s.modCtx d fun c => { c with resume := addr, parked := true, want := want, legs := c.legs + 1, parkTick := k }
  s.stopBox ch

/-- Starts words at an address for a die: timers, status register and micro-stack are cleared (R83). -/
def startLeg (s : State) (ch d addr : Nat) (service aux : Bool) (op desc : Nat) (follow : List Follow) : State :=
  let max := 4 * s.descField desc 44 10
  let s := s.modBox ch fun b => { b with
    timers := [0, 0, 0, 0]
    status := 0
    stack := []
    dist := 0
    legCycles := 0
    holding := false
    rbWait := false
    dmaErr := false
    statMatch := false
    calPass := false
    dmaDone := true
    featAddr := 0
    die := d
    service := service
    aux := aux
    serviceOp := op
    follow := follow
    legMax := max }
  let s := s.rset (Reg.SB_SEQ_STAT_PC ch) addr
  let s := s.rset (Reg.SB_SEQ_STAT_DEPTH ch) 0
  let s := s.rset (Reg.SB_SEQ_STAT_CTX_DIE ch) (d % 32)
  s.rset (Reg.SB_SEQ_STAT_IN_LEG ch) 1

/-- Starts the first of the routines that follow (R101): a service routine whose entry is VALID, the unwind or reapply routine the context's descriptor has; the context is freed where that follows. True: words run. -/
def runFollow (ch d : Nat) : List Follow → State → State × Bool
  | [], s => (s.stopBox ch, false)
  | .service op :: fs, s =>
    match s.descOf (s.die d).dispatchSet op with
    | none => runFollow ch d fs s
    | some i => (s.startLeg ch d (s.descField i 0 13) true false op i fs, true)
  | .unwind :: fs, s =>
    let i := (s.die d).ctx.desc
    if s.descField i 29 1 = 1 then
      let s := (s.rset (Reg.SB_SEQ_ERR_UNWIND ch) 1).rsat (Reg.SB_SEQ_CNT_UNWINDS ch)
      (s.startLeg ch d (s.descField i 16 13) true true 0 i fs, true)
    else runFollow ch d fs s
  | .reapply :: fs, s =>
    let i := (s.die d).ctx.desc
    if s.descField i 43 1 = 1 then (s.startLeg ch d (s.descField i 30 13) true true 0 i fs, true) else runFollow ch d fs s
  | .free :: fs, s => runFollow ch d fs (s.endRoutine ch d)

/-- A routine ends as failed at the current word (R87 ERR_ACT 2, R99): its owner has FAIL, a Mainline read of it leaves the first-attempt class; the unwind that RES_CTL calls for runs as its own leg, then the context is freed. An unwind or reapply routine that fails has no unwind. -/
def failRoutine (s : State) (ch d : Nat) : State × Bool :=
  let c := (s.die d).ctx
  let s := (s.hostReads d).foldl leaveClass (s.emit (.flashReport d c.arg.owner 7))
  runFollow ch d ((if c.resCtl != 0 && !(s.box ch).aux then [.unwind] else []) ++ [.free]) s

/-- The end of a suspend or resume routine bounds the suspended interval of R97. -/
def serviceEnded (s : State) (ch d : Nat) : State :=
  let b := s.box ch
  let now := s.legNs ch
  if b.aux then s
  else if b.serviceOp = 7 || b.serviceOp = 8 then s.modDie d fun x => { x with suspEnd := now }
  else if b.serviceOp = 9 || b.serviceOp = 10 then s.modDie d fun x => { x with estimate := x.estimate + (now + x.resumeLat - x.suspEnd) }
  else s

/-- Ends the leg or service run at END (R90, R101): a service goes on with what follows it. -/
def endWord (s : State) (ch d : Nat) : State × Bool :=
  let b := s.box ch
  if b.service then runFollow ch d b.follow (s.serviceEnded ch d)
  else ((s.endRoutine ch d).stopBox ch, false)

/-- Goes to an address: a station with a posted request parks there instead (R100); no word falls through a region end, which halts the box (R90). [DESIGN CHOICE, log 24] -/
def goTo (s : State) (ch pc a : Nat) (stn : Bool) : State × Bool :=
  let b := s.box ch
  if stn && (s.die b.die).request.isSome && !b.service then (s.park ch b.die a 0x10, false)
  else if a = 0x1C00 && pc = 0x1BFF || a = 0x2000 then (s.haltBox ch 4, false)
  else ((s.rset (Reg.SB_SEQ_STAT_PC ch) a).modBox ch fun b => { b with holding := decide (a = pc) }, true)

/-- Forms the next address of a word (R90 to R92) and goes there: parks, ends, holds, or halts on a stack breach. True: the box goes on with the next word. -/
def sequence (s : State) (ch : Nat) (e : WordEnv) (w : BitVec 176) (pc : Nat) : State × Bool :=
  let b := s.box ch
  let next := mw w 0 13
  let c := s.cond ch e (mw w 16 6)
  let stn := mw w 22 1 == 1
  match mw w 13 3 with
  | 0 => s.goTo ch pc (pc + 1) stn
  | 1 => s.goTo ch pc next stn
  | 2 => s.goTo ch pc (if c then next else pc + 1) stn
  | 3 => s.goTo ch pc (if c then pc + 1 else next) stn
  | 4 =>
    if !c then s.goTo ch pc (pc + 1) stn
    else if 8 ≤ b.stack.length then (s.haltBox ch 4, false)
    else ((s.modBox ch fun b => { b with stack := (pc + 1) :: b.stack }).rset (Reg.SB_SEQ_STAT_DEPTH ch) (b.stack.length + 1)).goTo ch pc next stn
  | 5 =>
    if !c then s.goTo ch pc (pc + 1) stn
    else match b.stack with
      | [] => (s.haltBox ch 4, false)
      | a :: st => ((s.modBox ch fun b => { b with stack := st }).rset (Reg.SB_SEQ_STAT_DEPTH ch) st.length).goTo ch pc a stn
  | 6 => (s.park ch b.die next (mw w 97 6), false)
  | _ => s.endWord ch b.die

/-- Steps 4 to 6 of R89: the compare and ERR_ACT, EVENT and TRACE, the next address. -/
def lateSteps (s : State) (ch : Nat) (e : WordEnv) (w : BitVec 176) (pc : Nat) : State × Bool :=
  let d := (s.box ch).die
  match (if s.wordError ch w then mw w 144 3 else 0) with
  | 2 => s.failRoutine ch d
  | 3 => (s.haltBox ch 3, false)
  | a =>
    let s := if a = 1 then s.modCtx d fun c => { c with fail := true } else s
    ((s.event ch d (mw w 97 6)).trace ch pc (mw w 149 2)).sequence ch e w pc

/-- An operation of the die timed out or gave an invalid status (R75, R76): LUN reset, failed to its owner, counted; die_fail_limit consecutive events isolate the die. -/
def opTimedOut (s : State) (d : Nat) (inv : Bool) : State :=
  let ch := chOf d
  let s := if inv then (s.rset (Reg.SB_CH_ERR_STATUS_INVALID ch) 1).rsat (Reg.SB_CH_ERRCNT_STATUS_INV ch)
    else (s.rset (Reg.SB_CH_ERR_OP_TIMEOUT ch) 1).rsat (Reg.SB_CH_ERRCNT_TIMEOUTS ch)
  let s := (s.emit (.lunReset d)).failDie d .idle
  let s := s.modDie d fun x => if inv then { x with statusInv := x.statusInv + 1 } else { x with timeouts := x.timeouts + 1 }
  let lim := s.paramN .flashDieFailLimit
  if lim ≤ (if inv then (s.die d).statusInv else (s.die d).timeouts) then s.isolate d (if inv then .status else .timeout) else s

/-- The first execution of a word (R85, R89, R91, R99, R102). True: the leg goes on. [DEDUCED, log 24] -/
def firstStep (s : State) (ch : Nat) (e : WordEnv) (w : BitVec 176) (pc : Nat) : State × Bool :=
  let d := (s.box ch).die
  let stn := mw w 22 1 == 1
  let s := s.rset (Reg.SB_SEQ_STAT_AT_STATION ch) (bit stn)
  if (stn || decide (6 ≤ mw w 13 3)) && !(s.box ch).stack.isEmpty then (s.haltBox ch 4, false)
  else
    let s := if stn && !(s.box ch).service then s.modCtx d fun c => { c with resCtl := mw w 147 2 } else s
    if stn && decide ((s.box ch).legMax < (s.box ch).legCycles) then
      ((s.rsat (Reg.SB_SEQ_CNT_OVERRUNS ch)).rset (Reg.SB_SEQ_ERR_OVERRUN ch) 1).failRoutine ch d
    else
      let s := s.earlySteps ch e w stn
      if 1024 ≤ (s.box ch).dist then (s.haltBox ch 1, false)
      else if mw w 31 3 = 6 && (e.status == 0xFF || e.statusBad) then ((s.opTimedOut d true).stopBox ch, false)
      else if mw w 143 1 = 1 && !e.rbHigh then (s.modBox ch fun b => { b with rbWait := true }, true)
      else s.lateSteps ch e w pc

/-- Cycles of a hold (R92): what the bus says, but a hold on a timer ends when the timer does. -/
def holdCycles (b : Box) (e : WordEnv) (w : BitVec 176) : Nat :=
  let c := mw w 16 6
  if 3 ≤ c && c ≤ 6 && !b.rbWait then max 1 (min e.cycles (b.timers.getD (c - 3) 0)) else max 1 e.cycles

/-- A hold goes on (R87 WAIT_RB, R92): cycles pass; once RB_N is high the word's steps 4 to 6 follow; a word that is its own next address forms its next address again. -/
def holdStep (s : State) (ch : Nat) (e : WordEnv) (pc : Nat) : State × Bool :=
  let w := s.heldWord ch pc
  let s := (s.passCycles ch (holdCycles (s.box ch) e w) (mw w 22 1 == 1)).modBox ch fun b => { b with dmaDone := e.dmaDone }
  if 1024 ≤ (s.box ch).dist then (s.haltBox ch 1, false)
  else if (s.box ch).rbWait then
    if e.rbHigh then (s.modBox ch fun b => { b with rbWait := false }).lateSteps ch e w pc else (s, true)
  else s.sequence ch e w pc

/-- One microword of a running leg, or one stretch of its hold. RB shows the level of RB_N (R80). True: the leg goes on. -/
def wordStep (s : State) (ch : Nat) (e : WordEnv) : State × Bool :=
  let pc := s.pcOf ch
  let s := s.rset (Reg.SB_CH_STAT_RB ch) (bit e.rbHigh)
  if (s.box ch).holding || (s.box ch).rbWait then s.holdStep ch e pc
  else match s.fetchCs ch pc e.flips with
    | (s, none) => (s.haltBox ch 2, false)
    | (s, some w) => s.firstStep ch e w pc

/-- Runs the words of a leg, one for each entry of what the bus returns; a leg whose list ends before it does stays in progress. [DEDUCED, log 24] -/
def runWords (s : State) (ch : Nat) : LegEnv → State
  | [] => s
  | e :: es =>
    let r := s.wordStep ch e
    if r.2 then runWords r.1 ch es else r.1

/-- Runs routines one after the other on a die (R101), as far as what the bus returns goes. -/
def runChain (s : State) (d : Nat) (fs : List Follow) (env : LegEnv) : State :=
  let r := runFollow (chOf d) d fs s
  if r.2 then r.1.runWords (chOf d) env else r.1

/-- The effect of a taken suspend on the Timetable's view of the die (R33, R41, R44). -/
def suspendDie (s : State) (d : Nat) : State :=
  s.modDie d fun x => { x with
    state := if x.state == .erase then .suspErase else if x.state == .prog then .suspProg else x.state
    suspCount := x.suspCount + 1
    span := 0
    draining := false
    request := none
    suspEnd := s.tickNs }

/-- A suspend of a die: service routine and, by the station's RES_CTL, its unwind after or before it (R101). -/
def takeSuspend (s : State) (d : Nat) (env : LegEnv) : State :=
  let s := s.selectOp d
  let x := s.die d
  let op := if x.state == .erase then 8 else 7
  let fs : List Follow := match x.ctx.resCtl with
    | 2 => [.service op, .unwind]
    | 3 => [.unwind, .service op]
    | _ => [.service op]
  (s.suspendDie d).runChain d fs env

/-- An abort of a die (R39, R101): the lower-class reads and data-in on it stop, each owner has ABORTED once; the routine and, by RES_CTL, its unwind run, then the context is freed; the die waits for ready after its reset. -/
def takeAbort (s : State) (d : Nat) (env : LegEnv) : State :=
  let x := s.die d
  let fs : List Follow := match x.ctx.resCtl with
    | 0 => [.service 11, .free]
    | 3 => [.unwind, .service 11, .free]
    | _ => [.service 11, .unwind, .free]
  let s := x.owners.foldl (fun s o => s.emit (.flashReport d o 8)) s
  let s := s.modDie d fun x => { x with state := .abort, reads := [], others := [], request := none }
  s.runChain d fs env

end State

/-- Operation codes of programs and erases, which a suspend can reach (R33). -/
def progOrErase (op : Nat) : Bool := op == 4 || op == 5 || op == 6

/-- The first leg of a routine may run on its die (R33): a read while its read units are free and what else reads is of its kind, never a lower class beside an operation; anything else on an idle die. -/
def State.firstLeg (s : State) (d : Nat) : Bool :=
  let x := s.die d
  let c := x.ctx
  if c.op < 4 then
    let us := x.unitsOf c.arg.planes
    !(x.reads.any fun r => us.contains r.unit) &&
      (if c.arg.cls == .express then x.state == .idle || x.state == .readX || x.suspended else x.state == .idle || x.state == .readL)
  else x.state == .idle

/-- The need of a parked leg is met in the tick in progress (R96 to R98): the first leg its dispatch tick's place, or a new one; 0x10 a window place of a later tick than it parked in; 0x15 the same, as a poll; 0x12 a window place at or after the completion estimate; 0x11 and 0x13 a data slot, 0x13 of an Express read the next one reserved for it, of another read none before the array time is over; 0x14 a data slot of a maintenance tick. A suspended program or erase runs no leg. -/
def State.legReady (s : State) (d : Nat) : Bool :=
  let x := s.die d
  let c := x.ctx
  let p := (s.box (chOf d)).cur
  let k := s.flash.tick
  let exp := c.arg.cls == .express
  let place := placeFree p c.arg.cls
  s.flag Reg.TT_CTRL_ENABLE && !(x.suspended && progOrErase c.op) &&
  if c.legs = 0 then s.firstLeg d && (c.startTick == k || place)
  else match c.want with
    | 0x11 => slotFree p c.arg.cls
    | 0x13 =>
      if exp then s.flash.xreads.any fun r => r.owner == c.arg.owner && r.xfer[r.sent]? == some k
      else slotFree p c.arg.cls && decide (c.startTick * 8192 + 1024 + x.tR ≤ s.tickNs)
    | 0x12 => place && decide (x.estimate ≤ s.tickNs)
    | 0x15 => place && decide (c.parkTick < k) && (!progOrErase c.op || decide (x.estimate ≤ s.tickNs))
    | 0x14 => decide (0 < p.calSlots)
    | _ => place && decide (c.parkTick < k)

/-- The place a leg takes in the tick: window place, data slot, or a slot of a maintenance tick; Express transfers have theirs reserved (R35, R37). -/
def State.takeLegPlace (s : State) (d : Nat) : State :=
  let c := (s.die d).ctx
  let ch := chOf d
  if c.legs = 0 then (if c.startTick = s.flash.tick then s else s.takePlace ch c.arg.cls)
  else if c.want = 0x14 then s.modBox ch fun b => { b with cur := { b.cur with calSlots := b.cur.calSlots - 1 } }
  else if c.want = 0x13 && c.arg.cls == .express then
    let s := s.modBox ch fun b => { b with expXfers := b.expXfers + 1 }
    { s with flash := { s.flash with xreads := s.flash.xreads.map fun (r : XRead) => if r.owner = c.arg.owner then { r with sent := r.sent + 1 } else r } }
  else if c.want = 0x11 || c.want = 0x13 then s.takeSlot ch c.arg.cls
  else s.takePlace ch c.arg.cls

/-- A posted request runs its service now (R38, R100, R101): its tick has come, no leg runs on the channel, the die is still in a state the request is for. [DESIGN CHOICE, log 2] -/
def State.requestReady (s : State) (d : Nat) (r : Request) : Bool :=
  let x := s.die d
  s.boxRuns (chOf d) && s.flag Reg.TT_CTRL_ENABLE && !s.flag (Reg.SB_SEQ_STAT_IN_LEG (chOf d)) && x.request == some r && decide (x.requestTick ≤ s.flash.tick) &&
    (match r with
      | .suspend => x.state == .prog || x.state == .erase
      | .abort => x.state == .readL || x.state == .load)

/-- REQUEST_TAKEN (R100, R101): the posted suspend or abort of a die is taken and its service routine and unwind run. -/
def execRequestTaken (d : Nat) (env unwind : LegEnv) (s : State) : Result :=
  if s.requestReady d .suspend then .next (s.takeSuspend d (env ++ unwind))
  else if s.requestReady d .abort then .next (s.takeAbort d (env ++ unwind))
  else .next s

/-- STATION_WATCHDOG (R102, R103): 1024 cycles without a station halt the box of a channel that runs a leg and stands at no station. -/
def execStationWatchdog (ch : Nat) (s : State) : Result :=
  if s.boxRuns ch && s.flag (Reg.SB_SEQ_STAT_IN_LEG ch) && !s.flag (Reg.SB_SEQ_STAT_AT_STATION ch) then
    .next (((s.modBox ch fun b => { b with dist := 1024 }).rset (Reg.SB_SEQ_WDOG_MAX_DIST ch) 1024).haltBox ch 1)
  else .next s

/-- SB_RESTART (R103): a halted box starts again: after a CS_UE halt its control store is loaded anew, the features of every die return to their defaults, each operation in progress on the channel is reported failed. -/
def execSbRestart (ch : Nat) (s : State) : Result :=
  if decide (ch < s.channels) && s.flag (Reg.SB_SEQ_STAT_HALTED ch) then
    let s := if s.rget (Reg.SB_SEQ_STAT_HALT_CAUSE ch) = 2 then
        { s with flash := { s.flash with csErrs := s.flash.csErrs.filter fun (p : Nat × List Nat) => p.1 / 8192 != ch } } else s
    let s := (diesOf ch).foldl (fun s d => if (s.die d).ctx.active || !(s.die d).reads.isEmpty then s.failDie d .idle else s) s
    let s := (diesOf ch).foldl (fun s d => if (s.die d).features.isEmpty then s else s.modDie d fun x => { x with features := [] }) s
    let s := s.rset (Reg.SB_SEQ_STAT_HALTED ch) 0
    let s := s.rset (Reg.SB_SEQ_STAT_HALT_CAUSE ch) 0
    .next ((s.stopBox ch).modBox ch fun b => { b with stack := [], dist := 0 })
  else .next s

namespace State

/-- The boxes a load-port write reaches (SB_CS_CTRL). -/
def loadBoxes (s : State) (bcast : Bool) (box : Nat) : List Nat := if bcast then List.range s.channels else (if box < s.channels then [box] else [])

/-- The 176-bit word in SB_CS_DATA. -/
def csData (s : State) : BitVec 176 :=
  BitVec.ofNat 176 ((List.range 6).foldl (fun a i => a + s.rget (Reg.SB_CS_DATA_DATA i) * 2 ^ (32 * i)) 0)

/-- Stores a word in a box as it is written: the check bits that are not those of its data and address stand as wrong bits (R84). -/
def putStore (s : State) (ch addr : Nat) (w : BitVec 176) : State :=
  let k := 8192 * ch + addr
  { s with flash := { s.flash with store := Table.ins s.flash.store k w, csErrs := Table.put [] s.flash.csErrs k (csWrong addr w) } }

end State

/-- CS_WRITE (R109): a load-port WRITE stores DATA at ADDR in the boxes that BCAST and BOX choose; no effect after LOAD_LOCK. -/
def execCsWrite (bcast : Bool) (box : Nat) (s : State) : Result :=
  if s.flag Reg.SB_CS_CTRL_LOAD_LOCK then .next s
  else
    let s := (s.rset Reg.SB_CS_CTRL_BCAST (bit bcast)).rset Reg.SB_CS_CTRL_BOX box
    .next ((s.loadBoxes bcast box).foldl (fun t ch => t.putStore ch (s.rget Reg.SB_CS_ADDR_ADDR) s.csData) s)

/-- CS_READ (R109): a load-port READ puts ADDR of a box into DATA; a Gwynon word reads as zero at levels 1 and 2. -/
def execCsRead (box : Nat) (s : State) : Result :=
  let addr := s.rget Reg.SB_CS_ADDR_ADDR
  let w := if addr < 0x1C00 && s.rget Reg.GD_STAT_LEVEL != 0 then 0 else (s.storeWord box addr).toNat
  .next ((List.range 6).foldl (fun s i => s.rset (Reg.SB_CS_DATA_DATA i) (w / 2 ^ (32 * i))) (s.rset Reg.SB_CS_CTRL_BOX box))

/-- TABLE_WRITE (R109): TABLE_LO and TABLE_HI go to descriptor INDEX, or TABLE_LO to dispatch entry INDEX - 512; no effect after LOAD_LOCK. -/
def execTableWrite (index : Nat) (s : State) : Result :=
  if s.flag Reg.SB_CS_CTRL_LOAD_LOCK then .next s
  else
    let i := index % 1024
    let lo := s.rget Reg.SB_TABLE_LO_DATA
    let hi := s.rget Reg.SB_TABLE_HI_DATA
    let s := s.rset Reg.SB_TABLE_SEL_INDEX i
    if i < 512 then .next { s with flash := { s.flash with descs := Table.put 0 s.flash.descs i (BitVec.ofNat 64 (hi * 2 ^ 32 + lo)) } }
    else .next { s with flash := { s.flash with dispatch := Table.put 0 s.flash.dispatch (i - 512) (BitVec.ofNat 16 lo) } }

/-- LOAD_LOCK (R109, R110): the load port and the RWL fields of the chapter lock. -/
def execLoadLock (s : State) : Result := .next (s.rset Reg.SB_CS_CTRL_LOAD_LOCK 1)

end Sys2Proof.Machine
end

