-- ==== Sys2Proof/Machine/Verifier.lean ====
section
/-! DEFINITION. The microcode verifier (chapter 04; R86 to R94, R96, R105, R111) and the customer image (R106). -/

namespace Sys2Proof.Machine

namespace Verify

/-- An image as it is verified: the customer's or Gwynon's, its words by address, its descriptors by index, its dispatch entries by set * 32 + operation. -/
structure Image where
  cust : Bool
  words : List (Nat × BitVec 176)
  descs : List (Nat × BitVec 64)
  dispatch : List (Nat × BitVec 16)

/-- What the verifier measures by: any word of the control store, the transfer rate of the interface in force. -/
structure Bench where
  word : Nat → BitVec 176
  rate : Nat

/-! ## One word (R86, R87, R90) -/

/-- BUS_CTL[2:0] carries an address cycle. -/
def hasAddr (w : BitVec 176) : Bool := [2, 3, 7].contains (mw w 31 3)
/-- BUS_CTL[2:0] carries a command cycle. -/
def hasCmd (w : BitVec 176) : Bool := [1, 3, 7].contains (mw w 31 3)

/-- Uses of IMM in a word: the second command, an immediate address, a counter load, a byte count. -/
def immUses (w : BitVec 176) : Nat :=
  bit (mw w 31 3 == 7) + bit (hasAddr w && mw w 42 3 == 4) + bit (mw w 70 2 == 1) + bit (mw w 78 3 == 2)

/-- No reserved bit is set, no reserved encoding stands, and the limits R87, R90 and R91 put on one word hold; its check bits are right. -/
def wordOk (addr : Nat) (w : BitVec 176) : Bool :=
  let seq := mw w 13 3
  let cond := mw w 16 6
  let ev := mw w 97 6
  mw w 160 16 == State.csOf addr w && mw w 151 9 == 0 &&
  (mw w 23 8 == 0 || hasCmd w) && mw w 34 2 != 3 && decide (mw w 37 5 ≤ 0x0B) && mw w 42 3 != 7 &&
  (if hasAddr w then decide (1 ≤ mw w 45 3 ∧ mw w 45 3 ≤ 6) else mw w 45 3 == 0) &&
  decide (mw w 48 4 ≤ 5) && (mw w 66 2 != 3 || decide (mw w 52 4 ≤ 4)) && decide (mw w 74 4 ≤ 9) && decide (mw w 78 3 ≤ 5) &&
  decide (mw w 103 4 ≤ 4) && decide (mw w 107 4 ≤ 11) && decide (mw w 144 3 ≤ 3) &&
  (decide (ev ≤ 0x0B) || decide (0x10 ≤ ev ∧ ev ≤ 0x15) || decide (0x20 ≤ ev)) &&
  (decide (cond ≤ 0x17) || decide (0x20 ≤ cond ∧ cond ≤ 0x27)) &&
  (!([0, 6, 7].contains seq) || cond == 0) &&
  (mw w 22 1 == 1 || mw w 147 2 == 0) && decide (immUses w ≤ 1)

/-- Addresses a word may transfer to, without its fall through to the next one. -/
def targets (w : BitVec 176) : List Nat := if [1, 2, 3, 4, 6].contains (mw w 13 3) then [mw w 0 13] else []

/-- The word may go on at the next address. -/
def falls (w : BitVec 176) : Bool :=
  match mw w 13 3 with
  | 0 | 2 | 3 => true
  | 4 => true
  | 5 => mw w 16 6 != 0
  | _ => false

/-- Address of the customer region (R84). -/
def inCust (a : Nat) : Bool := decide (0x1C00 ≤ a ∧ a < 0x2000)

/-- Every transfer of control obeys R90 and R105: none past a region's end, none out of the region but a customer CALL of the library entries. -/
def transfersOk (addr : Nat) (w : BitVec 176) : Bool :=
  (!falls w || (addr != 0x1BFF && addr != 0x1FFF)) &&
  (targets w).all fun t => inCust t == inCust addr || (inCust addr && mw w 13 3 == 4 && decide (t < 0x100))

/-! ## Cycles (R82, R111) -/

/-- Bytes a data word moves: a codeword of the largest page R66 allows, or as DMA_LEN_SRC says. -/
def dataBytes (w : BitVec 176) : Nat :=
  match mw w 78 3 with | 1 => 5000 | 2 => mw w 111 16 | 3 => 4 | 4 => 64 | 5 => 256 | _ => 0

/-- Bytes on the bus in a word: commands, addresses, data, status. -/
def busBytes (w : BitVec 176) : Nat :=
  let addr := if hasAddr w then mw w 45 3 else 0
  match mw w 31 3 with
  | 1 => 1 | 2 => addr | 3 => 1 + addr | 4 => dataBytes w | 5 => dataBytes w | 6 => 1 | 7 => 2 + addr | _ => 0

/-- Cycles of a word without its holds: at least one; a byte takes 100 ns at SDR timing, else a transfer at the rate its BUS_CTL[4:3] names. Command and address cycles of the fast timings count as one transfer. [DESIGN CHOICE, log 24] -/
def cost (b : Bench) (w : BitVec 176) : Nat :=
  let n := busBytes w
  max 1 (match mw w 34 2 with | 1 => 40 * n | 2 => ceilDiv (n * 400) 1600 | _ => ceilDiv (n * 400) (max 1 b.rate))

/-- Cycles of a timer load. -/
def timerLoad (w : BitVec 176) : Option Nat :=
  let n := mw w 52 14
  if mw w 52 16 = 0 then none
  else some (match mw w 66 2 with | 0 => n | 1 => 4 * n | 2 => 400 * n | _ => Config.dieTimer (mw w 52 4))

/-! ## Paths (R90 to R92, R96, R111) -/

/-- A point of a path: address, return addresses with the addresses called, the counters and timers as far as they are known, cycles since the last station and since the leg began. -/
structure Point where
  pc : Nat
  stack : List (Nat × Nat) := []
  cnt : List (Option Nat) := [none, none, none, none]
  tmr : List Nat := [0, 0, 0, 0]
  since : Nat := 0
  leg : Nat := 0

/-- Counters after CNT_OP. -/
def countOp (w : BitVec 176) (c : List (Option Nat)) : List (Option Nat) :=
  let k := mw w 72 2
  match mw w 70 2 with
  | 1 => c.set k (some (mw w 111 16))
  | 2 => c.set k ((c.getD k none).map (· - 1))
  | 3 => c.set k ((c.getD k none).map fun n => min 0xFFFF (n + 1))
  | _ => c

/-- What is known of a condition: always, a counter, else either. -/
def known (cond : Nat) (c : List (Option Nat)) : Option Bool :=
  if cond = 0 then some true else if 7 ≤ cond ∧ cond ≤ 0x0A then (c.getD (cond - 7) none).map (· == 0) else none

/-- A point of a path goes on: next addresses with their stacks. None when a push finds the stack full, a call recurs or a RET finds it empty (R91, R111). -/
def next (w : BitVec 176) (p : Point) (k : Option Bool) : Option (List (Nat × List (Nat × Nat))) :=
  let may := fun v => k == none || k == some v
  let on := fun (v : Bool) (l : List (Nat × List (Nat × Nat))) => if may v then l else []
  let t := mw w 0 13
  let up := [(p.pc + 1, p.stack)]
  match mw w 13 3 with
  | 0 => some up
  | 1 => some [(t, p.stack)]
  | 2 => some (on true [(t, p.stack)] ++ on false up)
  | 3 => some (on true up ++ on false [(t, p.stack)])
  | 4 => if may true && (decide (8 ≤ p.stack.length) || p.stack.any fun q => q.2 == t) then none
    else some (on true [(t, (p.pc + 1, t) :: p.stack)] ++ on false up)
  | 5 => match p.stack with
    | [] => if may true then none else some up
    | q :: rest => some (on true [(q.1, rest)] ++ on false up)
  | _ => some []

/-- The routines that a station's RES_CTL calls for are named (R101). -/
def resOk (w : BitVec 176) (unwind reapply : Bool) : Bool :=
  match mw w 147 2 with | 0 => true | 1 => unwind | _ => unwind && reapply

/-- Walks a leg from a point along every path to its ends: the addresses its PARK words resume at, none where a rule of R111 is broken. `kind`: 0 MAIN, 1 SERVICE, 2 AUX. -/
def leg (b : Bench) (kind max_ : Nat) (unwind reapply : Bool) : Nat → Point → Option (List Nat)
  | 0, _ => none
  | f + 1, p =>
    let w := b.word p.pc
    let stn := mw w 22 1 == 1
    let seq := mw w 13 3
    let ends := seq == 6 || seq == 7
    let c := cost b w
    let since := p.since + c
    let len := p.leg + c
    let cnt := countOp w p.cnt
    let tmr := (match timerLoad w with | some n => p.tmr.set (mw w 68 2) n | none => p.tmr).map (· - c)
    let bad := decide (0x2000 ≤ p.pc) || ((stn || ends) && !p.stack.isEmpty) || (stn && kind == 2) || !resOk w unwind reapply ||
      (seq == 6 && (kind != 0 || !stn || !decide (0x10 ≤ mw w 97 6 ∧ mw w 97 6 ≤ 0x15))) || decide (1024 < since) || decide (max_ < len)
    if bad then none
    else if seq = 6 then some [mw w 0 13]
    else if seq = 7 then some []
    else match next w p (known (mw w 16 6) cnt) with
      | none => none
      | some ns =>
        let holds := ns.any fun q => q.1 == p.pc
        let cond := mw w 16 6
        let timer := decide (3 ≤ cond ∧ cond ≤ 6)
        if holds && !stn && !timer then none
        else
          let wait := if holds && timer then tmr.getD (cond - 3) 0 else 0
          (ns.filter fun q => q.1 != p.pc).foldl (fun (a : Option (List Nat)) q =>
            match a with
            | none => none
            | some l =>
              match leg b kind max_ unwind reapply f { pc := q.1, stack := q.2, cnt := cnt, tmr := tmr.map (· - wait), since := if stn then 0 else since + wait, leg := len + wait } with
              | none => none
              | some m => some (l ++ m)) (some [])

/-- Walks every leg of a routine: from its entry and from each place a PARK resumes at. -/
def routine (b : Bench) (kind max_ : Nat) (unwind reapply : Bool) : Nat → List Nat → List Nat → Bool
  | 0, todo, _ => todo.isEmpty
  | _, [], _ => true
  | f + 1, a :: rest, done =>
    if done.contains a then routine b kind max_ unwind reapply f rest done
    else match leg b kind max_ unwind reapply 5000 { pc := a } with
      | none => false
      | some ps => routine b kind max_ unwind reapply f (rest ++ ps) (a :: done)

/-- A descriptor and its routines (R94, R111): reserved bits zero, a known KIND, addresses of the image's own; its routine, its unwind and its reapply pass. -/
def descOk (b : Bench) (i : Image) (d : BitVec 64) : Bool :=
  let x := d.toNat
  let kind := bits x 13 3
  let max_ := 4 * bits x 44 10
  let un := bits x 29 1 == 1
  let re := bits x 43 1 == 1
  let home := fun a => i.cust || decide (a < 0x1C00)
  bits x 54 10 == 0 && decide (kind ≤ 2) && home (bits x 0 13) &&
    routine b kind max_ un re 8192 [bits x 0 13] [] &&
    (!un || (home (bits x 16 13) && routine b 2 max_ false false 8192 [bits x 16 13] [])) &&
    (!re || (home (bits x 30 13) && routine b 2 max_ false false 8192 [bits x 30 13] []))

/-- A dispatch entry (R93, R94): reserved bits zero, no VALID entry for a reserved operation, the image's own sets; a Gwynon set names Gwynon descriptors only. -/
def dispatchOk (i : Image) (q : Nat × BitVec 16) : Bool :=
  let e := q.2.toNat
  let op := q.1 % 32
  bits e 9 6 == 0 && (bits e 15 1 == 0 || !decide (0x19 ≤ op ∧ op ≤ 0x1B)) &&
    (if i.cust then decide (384 ≤ q.1 ∧ q.1 < 512) else decide (q.1 < 384) && decide (bits e 0 9 < 384))

/-- The verifier accepts the image (R111). -/
def accepts (b : Bench) (i : Image) : Bool :=
  i.words.all (fun q => inCust q.1 == i.cust && decide (q.1 < 0x2000) && wordOk q.1 q.2 && transfersOk q.1 q.2) &&
  i.descs.all (fun q => decide (q.1 < 512) && (decide (384 ≤ q.1) == i.cust) && descOk b i q.2) && i.dispatch.all (dispatchOk i)

end Verify

/-! ## The customer image (R106) -/

namespace CustomerImage

/-- WORD_COUNT. -/
def words (bs : List Byte) : Nat := leField bs 0x08 2
/-- DESC_COUNT. -/
def descs (bs : List Byte) : Nat := leField bs 0x0A 2
/-- DISP_COUNT. -/
def disps (bs : List Byte) : Nat := leField bs 0x0C 2
/-- Offset of the descriptors. -/
def descAt (bs : List Byte) : Nat := 0x70 + 24 * words bs
/-- Offset of the dispatch entries. -/
def dispAt (bs : List Byte) : Nat := descAt bs + 8 * descs bs

/-- MAGIC, FORMAT, the reserved bytes, the counts, the sets, the zero bits after each word and the length are as R106 has them. -/
def formatOk (bs : List Byte) : Bool :=
  leField bs 0 4 == 0x4D554258 && leField bs 4 2 == 1 && leField bs 7 1 == 0 && leField bs 14 2 == 0 &&
  decide (words bs ≤ 1024) && decide (descs bs ≤ 128) && decide (disps bs ≤ 128) && bs.length == dispAt bs + 4 * disps bs + 96 &&
  (List.range (words bs)).all (fun k => leField bs (0x70 + 24 * k + 22) 2 == 0) &&
  (List.range (disps bs)).all fun k => decide (12 ≤ leField bs (dispAt bs + 4 * k) 1 ∧ leField bs (dispAt bs + 4 * k) 1 ≤ 15) && decide (leField bs (dispAt bs + 4 * k + 1) 1 < 32)

/-- What the image loads: words from 0x1C00, descriptors from 384, entries of sets 12 to 15. -/
def image (bs : List Byte) : Verify.Image where
  cust := true
  words := (List.range (words bs)).map fun k => (0x1C00 + k, BitVec.ofNat 176 (leField bs (0x70 + 24 * k) 22))
  descs := (List.range (descs bs)).map fun k => (384 + k, BitVec.ofNat 64 (leField bs (descAt bs + 8 * k) 8))
  dispatch := (List.range (disps bs)).map fun k =>
    let o := dispAt bs + 4 * k
    (leField bs o 1 * 32 + leField bs (o + 1) 1, BitVec.ofNat 16 (leField bs (o + 2) 2))

/-- Digest of the public key, its bytes (R107). -/
def keyDigest (bs : List Byte) : List Byte := (Sha384.digest (((bs.drop 0x10).take 96).map (·.toNat))).map (BitVec.ofNat 8)
/-- SVN of the image. -/
def svn (bs : List Byte) : Nat := leField bs 6 1

end CustomerImage

namespace State

/-- What the verifier measures an image by: the image's words over those loaded in box 0, and min_rate_mts (R111). -/
def bench (s : State) (ws : List (Nat × BitVec 176)) : Verify.Bench where
  word := fun a => match ws.find? fun q => q.1 == a with | some q => q.2 | none => s.storeWord 0 a
  rate := s.paramN .flashMinRateMts

/-- The cause a customer image is rejected with (R107, R108): 0 accepted, 1 disabled, 2 key digest, 3 signature, 4 SVN, 5 verifier, 6 format. Of several the first of disabled, format, key digest, signature, SVN, verifier is recorded: R108 gives no order. [DESIGN CHOICE, log 40] -/
def microCause (s : State) (i : MicroImage) : Nat :=
  let m := CustomerImage.image i.bytes
  if s.paramN .microcodeCustomerEnable = 0 then 1
  else if !CustomerImage.formatOk i.bytes then 6
  else if s.rb.getBytes .customerKeyDigest != some (CustomerImage.keyDigest i.bytes) then 2
  else if !i.sigOk then 3
  else if (CustomerImage.svn i.bytes : Int) < s.param .microcodeMinCustomerSvn then 4
  else if !Verify.accepts (s.bench m.words) m then 5
  else 0

/-- Loads an image's words into every box, its descriptors and its dispatch entries (R84, R93, R94). -/
def loadMicro (s : State) (m : Verify.Image) : State :=
  let s := (List.range s.channels).foldl (fun s ch => m.words.foldl (fun s q => s.putStore ch q.1 q.2) s) s
  { s with flash := { s.flash with
    descs := m.descs.foldl (fun t (d : Nat × BitVec 64) => Table.put 0 t d.1 d.2) s.flash.descs
    dispatch := m.dispatch.foldl (fun t (d : Nat × BitVec 16) => Table.put 0 t d.1 d.2) s.flash.dispatch } }

end State

end Sys2Proof.Machine
end

