-- ==== Sys2Proof/Machine/FlashOps.lean ====
section
/-! DEFINITION. Dispatch of the operation codes of R93: reads, programs, erases, suspends, resumes, features, calibration steps. -/

namespace Sys2Proof.Machine

/-- The rates of R59 in MT/s, lowest first; the index is the RATE encoding. -/
def rates : List Nat := [1600, 2000, 2400, 2800, 3200, 3600]

/-- RATE encoding of a rate. -/
def rateCode (r : Nat) : Nat := (rates.findIdx? (· == r)).getD 5

namespace State

/-- Puts a routine into a die's context, parked at its entry, so that its first leg can run (R93, R94, R96). A routine already there is kept aside. -/
def dispatchTo (s : State) (d op i : Nat) (a : OpArg) : State :=
  s.modDie d fun x => { x with
    others := (if x.ctx.active then [x.ctx] else []) ++ x.others
    ctx := { active := true, op := op, desc := i, arg := a, resume := s.descField i 0 13, parked := true, startTick := s.flash.tick } }

/-- Dispatches an operation of the die's set where its entry is VALID. -/
def dispatchOp (s : State) (d op : Nat) (a : OpArg) : State :=
  match s.descOf (s.die d).dispatchSet op with
  | some i => s.dispatchTo d op i a
  | none => s

/-- The die's set holds a VALID entry for the operation. -/
def hasOp (s : State) (d op : Nat) : Bool := (s.descOf (s.die d).dispatchSet op).isSome

/-- The die can be worked at all: identified, not isolated, its box runs. -/
def dieReady (s : State) (d : Nat) : Bool :=
  s.boxRuns (chOf d) && (s.die d).present && (s.die d).isol == 0

/-- The channel's box runs and is between legs (R82). -/
def boxFree (s : State) (ch : Nat) : Bool := s.boxRuns ch && !s.flag (Reg.SB_SEQ_STAT_IN_LEG ch)

/-- A command sequence outside the classes has a place: one of the window's while the Timetable plans (R31); before that, at boot, always. -/
def seqPlace (s : State) (ch : Nat) : Bool := !s.flag Reg.TT_CTRL_ENABLE || decide (0 < (s.box ch).cur.window)
/-- It takes its place. -/
def takeSeq (s : State) (ch : Nat) : State := if s.flag Reg.TT_CTRL_ENABLE then s.takePlace ch else s

/-- Runs the routine of an operation code of the die's set as one leg (R93). -/
def runOp (s : State) (d op : Nat) (env : LegEnv) : State := s.runChain d [.service op] env

/-- A Stopping or Goods start on the die is open to the Timetable in this tick: planning is on, no Express read for the die was pending at the last cutoff (R38), no calibration hold (R72), a window place is left for the class (R34). -/
def lowerStart (s : State) (d : Nat) (c : TClass) : Bool :=
  s.dieReady d && s.flag Reg.TT_CTRL_ENABLE && !s.flushing && !s.expressAhead d && !(s.ceCal (chOf d) (ceOf d)).hold &&
    placeFree (s.box (chOf d)).cur c

/-- The copies out of a superblock's position run in the Stopping class: it has lost the die or a program there (R155, R157, R169). -/
def stoppingMove (s : State) (d : Nat) (a : OpArg) : Bool :=
  match ((planesOf a.planes).head?).bind fun p => (s.blockInfo (blockNo d p a.block)).serial with
  | none => false
  | some n =>
    (s.media.groupsSt.any fun g => g.2.queue.contains (1, n) || (g.2.victim == some n && g.2.source == 1)) ||
      s.media.moves.any fun q => q.1 == n && (s.sb n).any fun b => b.dies[q.2]? == some d

/-- What a read is made for allows it now (R154, R177, R179, R182): a patrol sample that is due; slot (p + q) mod 4 of a closed superblock for a verification sample; a tracking sense, -2 to 2, of a block and page that wait for one; a page of a block with a check queued. -/
def whyOk (s : State) (d : Nat) (a : OpArg) : Bool :=
  (planesOf a.planes).all fun p =>
    let bn := blockNo d p a.block
    let slots := (List.range 4).filter fun k => a.slots / 2 ^ k % 2 == 1
    match a.why with
    | .patrol => slots.all fun k => s.media.due.contains (mkLoc d p a.block a.page k)
    | .verify => slots == [(a.page + p) % 4] && ((s.blockInfo bn).serial.bind s.sb).any (·.state == .closed)
    | .tracking j => s.media.trackDue.contains (bn, a.page) && decide (-2 ≤ j ∧ j ≤ 2)
    | .check => (s.blockInfo bn).check
    | _ => true

/-- The class of a read (R34): that of its codeword job where one stands; of an engine's new read Goods, but Stopping for a copy out of a superblock that has lost a die or a program (R155, R157). A read of another kind is of either. -/
def readClass (s : State) (d : Nat) (a : OpArg) : Bool :=
  match Table.find s.flash.jobs a.owner with
  | some j => a.cls == j.cls
  | none => match a.why with
    | .host _ _ _ => a.cls != .goods
    | .relocation => a.cls == (if s.stoppingMove d a then .stopping else .goods)
    | .other => a.cls != .express
    | _ => a.cls == .goods

/-- The class of a program or erase (R34, R163): of a host stream's or a journal program Stopping, of another either lower class; of an erase Stopping for a host stream's superblock or while the group is below the low mark, else Goods. -/
def opClass (s : State) (d op : Nat) (a : OpArg) : Bool :=
  let st : Option Stream := ((planesOf a.planes).head?).bind fun p => ((s.blockInfo (blockNo d p a.block)).serial.bind s.sb).map (·.stream)
  if op = 6 then
    a.cls == (if (match st with | some (.host _) => true | _ => false) || decide (s.freeMin (s.groupOf d) < s.paramN .translationSidingsLow) then .stopping else .goods)
  else match st with
    | some (.host _) => a.cls == .stopping
    | _ => if (planesOf a.planes).any fun p => (s.blockInfo (blockNo d p a.block)).journal then a.cls == .stopping else a.cls != .express

/-- A read of the class may start on the die (R33, R34, R38, R56): Express in its issue tick on an idle, reading or suspended die; a lower class on an idle or reading die; the read units free. -/
def readStart (s : State) (d op : Nat) (a : OpArg) : Bool :=
  let x := s.die d
  let us := x.unitsOf a.planes
  s.hasOp d op && !(x.reads.any fun r => us.contains r.unit) && s.readClass d a && s.whyOk d a &&
  match a.cls with
  | .express =>
    s.dieReady d && s.flag Reg.TT_CTRL_ENABLE && !s.flushing &&
      (s.flash.xreads.any fun r => r.owner == a.owner && r.die == d && r.issue == some s.flash.tick) &&
      (x.state == .idle || x.state == .readX || x.suspended)
  | c => s.lowerStart d c && (x.state == .idle || x.state == .readL)

/-- A codeword job as it is registered: tracker entry, erase count and band of that moment (R117, R121, R122); what lies on an isolated die is read by reconstruction (R157). -/
def newJob (s : State) (why : JobOwner) (d plane block page slot lba nsid : Nat) (cls : TClass) : Job :=
  let b := blockNo d plane block
  let j : Job := { owner := why, die := d, plane := plane, block := block, page := page, slot := slot, lba := lba, nsid := nsid, cls := cls
                   state := .sensing, level := 0, step := 0, tried := [], best := none, soft2 := false, tracker := s.tracker b
                   eraseCount := s.eraseCount b, band := Table.get 0 s.flash.bands (chOf d), miscorr := false, erased := false, uncorr := false, record := 0, good := false }
  let gone := (s.die d).isol != 0 && cls != .express
  { j with
    step := if gone then 0 else if bits j.tracker 14 1 = 1 then bits j.tracker 8 4 else 0
    state := if gone then .recon else .sensing
    level := if gone then 3 else 0
    uncorr := gone }

/-- Registers the codewords of an engine's read: job numbers from the owner's number up, one per slot of each plane named. A host read's jobs are registered at the map lookup. -/
def registerJobs (s : State) (d : Nat) (a : OpArg) : State :=
  match a.why with
  | .host _ _ _ => s
  | _ =>
    let ps := (List.range 4).filter fun p => a.planes / 2 ^ p % 2 == 1
    let cws := ps.flatMap fun p => ((List.range 4).filter fun k => a.slots / 2 ^ k % 2 == 1).map fun k => (p, k)
    cws.zipIdx.foldl (fun s q =>
      let n := a.owner + q.2
      if (Table.find s.flash.jobs n).isSome then s
      else
        let t := s.expectedTags d q.1.1 a.block a.page q.1.2
        { s with flash := { s.flash with jobs := Table.ins s.flash.jobs n (s.newJob a.why d q.1.1 a.block a.page q.1.2 t.1 t.2 a.cls) } }) s

/-- Each block a read senses adds one to its Milepost counter, once per plane; at the limit a block check is queued where the scheme has counters (R181, R182, R184). -/
def milepost (s : State) (d : Nat) (a : OpArg) : State :=
  let lim := s.paramN .patrolMilepostLimit
  ((List.range 4).filter fun p => a.planes / 2 ^ p % 2 == 1).foldl (fun s p =>
    let b := blockNo d p a.block
    let i := Table.get {} s.media.nand.blocks b
    let trip := i.milepost + 1 == lim && s.rget Reg.FT_PATROL_STAT_SCHEME != 0 && i.serial.isSome
    let s := if trip then s.rsat Reg.FT_MILEPOST_CNT_TRIPS else s
    let i := { i with milepost := min 0xFFFFFFFF (i.milepost + 1), check := i.check || trip, checkPage := if trip && !i.check then some a.page else i.checkPage }
    { s with media := { s.media with nand := { s.media.nand with blocks := Table.put {} s.media.nand.blocks b i } } }) s

/-- An operation of a die starts: one that the Fogman makes slow is counted as an injection (R507). -/
def slowOp (s : State) (d : Nat) : State := if s.fogNand 3 d then s.rsat Reg.FG_CNT_INJECTED else s

/-- Dispatches a read routine: the codewords are registered, the blocks sensed are counted. -/
def startRead (s : State) (d op : Nat) (a : OpArg) : State :=
  if s.readStart d op a then
    let s := s.slowOp d
    ((if a.cls == .express then s.modBox (chOf d) fun b => { b with expIssues := b.expIssues + 1 } else s.takePlace (chOf d) a.cls).dispatchOp d op a).registerJobs d a |>.milepost d a
  else s

/-- A program the Fogman fails: the injection is used, its status will read FAIL (R507). -/
def failProgram (s : State) (d op : Nat) : State :=
  if (op == 4 || op == 5) && s.fogNand 2 d then s.usedNand.modCtx d fun c => { c with failInject := true } else s

/-- The blocks of a program are erased; those of an erase hold no data (R160, R163). -/
def blocksOk (s : State) (d op : Nat) (a : OpArg) : Bool :=
  (planesOf a.planes).all fun p =>
    let i := s.blockInfo (blockNo d p a.block)
    if op = 6 then i.dirty || (i.serial.isNone && !i.journal) else !i.dirty

/-- Tokens a start of the operation takes (R47, R487). -/
def startWeight (s : State) (op : Nat) : Nat := if op = 6 then s.rget Reg.TT_TOKEN_WT_ERASE else s.rget Reg.TT_TOKEN_WT_PROG

/-- A program or erase may ask to start (R33, R34, R47, R163): the die is idle, the class and the blocks are right, the budget has a place. -/
def opFree (s : State) (d op : Nat) (a : OpArg) : Bool :=
  let er := op == 6
  let room := if er then decide (s.rget Reg.TT_BUDGET_STAT_ERASE_ACTIVE < s.rget Reg.TT_BUDGET_EFF_ERASE)
    else decide (s.rget Reg.TT_BUDGET_STAT_PROG_ACTIVE < s.rget Reg.TT_BUDGET_EFF_PROG)
  s.hasOp d op && s.lowerStart d a.cls && s.opClass d op a && s.blocksOk d op a && (s.die d).state == .idle && (s.die d).reads.isEmpty && !(s.die d).ctx.active && !s.flash.startsStopped && room

/-- A program or erase may start: it may ask, and its tokens are there (R47). -/
def opStart (s : State) (d op : Nat) (a : OpArg) : Bool := s.opFree d op a && s.tokensFor d (s.startWeight op)

/-- Starts a program or erase: tokens drawn, counted in the budget, routine dispatched (R47); with no tokens it is presented and waits (R488). -/
def startOp (s : State) (d op : Nat) (a : OpArg) : State :=
  if s.opStart d op a then
    let er := op == 6
    let s := s.takeTokens d (s.startWeight op)
    let f := if er then Reg.TT_BUDGET_STAT_ERASE_ACTIVE else Reg.TT_BUDGET_STAT_PROG_ACTIVE
    let s := s.rset f (s.rget f + 1)
    ((s.takePlace (chOf d) a.cls).modDie d fun x => { x with counted := true, suspCount := 0, span := 0, draining := false, protectedTo := 0 }).dispatchOp d op a |>.failProgram d op |>.slowOp d
  else if s.opFree d op a then s.presentStart d 5 (s.startWeight op) else s

/-- A resume planned for the die takes effect: state, protection, resumed flag, then the resume routine and, by the station's RES_CTL, the reapply routine (R43 to R45, R101). -/
def resumeDie (s : State) (d op : Nat) (env : LegEnv) : State :=
  let s := s.selectOp d
  let x := s.die d
  let s := s.setDie d { x with
    state := if x.state == .suspErase then .erase else .prog
    resumeAt := none
    draining := false
    span := 0
    protectedTo := s.flash.tick + s.rget Reg.TT_EXPRESS_CFG_PROGRESS
    ctx := { x.ctx with resumed := true } }
  s.runChain d (.service op :: (if x.ctx.resCtl = 2 || x.ctx.resCtl = 3 then [.reapply] else [])) env

/-- A planned resume of a die may run (R30, R45, R56). -/
def resumeReady (s : State) (d : Nat) : Bool :=
  s.boxFree (chOf d) && s.flag Reg.TT_CTRL_ENABLE && (s.die d).resumeAt.any fun k => decide (k ≤ s.flash.tick)

/-- Every LUN of a chip enable is IDLE, ISOLATED or ABSENT, and no Express read is planned to it (R71). -/
def ceIdle (s : State) (ch ce : Nat) : Bool :=
  (List.range 4).all fun l =>
    let x := s.die (32 * ch + 4 * ce + l)
    (x.state == .idle || x.state == .isolated || x.state == .absent) && !x.ctx.active && !s.expressPlanned (32 * ch + 4 * ce + l)

/-- A chip enable is isolated: whole, or every populated die of it (R77). -/
def ceGone (s : State) (ch ce : Nat) : Bool := (s.ceCal ch ce).isolated || s.ceIsolatedMask ch / 2 ^ ce % 2 == 1

/-- A calibration or training step may run on the chip enable (R31, R68, R71): at boot before the channel is trained, or in a data slot of a maintenance tick with its LUNs idle. -/
def calReady (s : State) (ch ce op : Nat) : Bool :=
  s.boxFree ch && (s.ceCal ch ce).populated && !s.ceGone ch ce && s.hasOp (32 * ch + 4 * ce) op && s.ceIdle ch ce &&
    (!s.flag (Reg.SB_CH_STAT_TRAINED ch) || (s.maintAt s.flash.tick ch && decide (0 < (s.box ch).cur.calSlots)))

/-- A step runs its routine in its data slot of the maintenance tick (R31). -/
def runCal (s : State) (ch ce op : Nat) (env : LegEnv) : State :=
  let s := if s.flag (Reg.SB_CH_STAT_TRAINED ch) then s.modBox ch fun b => { b with cur := { b.cur with calSlots := b.cur.calSlots - 1 } } else s
  s.runOp (32 * ch + 4 * ce) op env

/-- Ticks of an interval of cal_interval_ms. -/
def calInterval (s : State) : Nat := s.paramN .flashCalIntervalMs * 15625 / 128

/-- Whole periods a chip enable has waited for one of its three periodic steps (R72): since the start of the first interval without it. [DEDUCED, log 22] -/
def calWaited (s : State) (c : CeCal) (i : Nat) : Nat :=
  let n := max 1 s.calInterval
  (s.flash.tick - ((c.lastCal.getD i 0) / n + 1) * n) / 128

/-- A periodic step has run (0 ZQ_SHORT, 1 DRIFT, 2 WDRIFT): its wait ends, the hold with it once no other step has waited as long (R72). [DEDUCED, log 22] -/
def calDone (s : State) (ch ce i : Nat) : State :=
  let k := s.flash.tick
  let lim := s.paramN .flashCalForcePeriods
  s.modCal ch ce fun c =>
    let c := { c with lastCal := c.lastCal.set i k }
    { c with hold := c.hold && (List.range 3).any fun j => decide (lim ≤ s.calWaited c j) }

/-- What is kept of a trim found: items 20 and up do not exist, reference items have no margin (R80). -/
def keepTrims (t : Table (Nat × Nat)) (ts : List Trim) : Table (Nat × Nat) :=
  (ts.filter fun x => decide (x.item < 20)).foldl (fun t x => Table.ins t x.item (x.value % 256, if 18 ≤ x.item then 0 else x.margin % 256)) t

/-- Stores trims found by a training step. -/
def foundTrims (s : State) (ch ce : Nat) (ts : List Trim) : State := s.modCal ch ce fun c => { c with found := keepTrims c.found ts }

/-- Every delay item has been found with at least the minimum margin (R68). -/
def marginsOk (s : State) (t : Table (Nat × Nat)) : Bool :=
  (List.range 18).all fun i => match Table.find t i with
    | some v => decide (s.paramN .flashDriftMarginMin ≤ v.2)
    | none => false

/-- RETRAIN_PEND of a channel: some chip enable has a RETRAIN scheduled. -/
def retrainPend (s : State) (ch : Nat) : State :=
  s.rset (Reg.SB_CH_STAT_RETRAIN_PEND ch) (bit ((List.range 8).any fun ce => (s.ceCal ch ce).retrain))

/-- A RETRAIN fails: the previous trims stay; it is retried once; a second failure isolates the chip enable with cause TRAIN (R73). -/
def retrainFail (s : State) (ch ce : Nat) : State :=
  let s := s.rset (Reg.SB_CH_ERR_TRAIN_FAIL ch) 1
  if (s.ceCal ch ce).retrainFailed then ((s.isolateCe ch ce .train).modCal ch ce fun c => { c with retrain := false, found := [], stage := 0, retrainSlots := 0 }).retrainPend ch
  else s.modCal ch ce fun c => { c with retrainFailed := true, found := [], stage := 0, retrainSlots := 0 }

/-- One DRIFT or WDRIFT step (R71): each delay moves at most one step toward the centre within its 8 bits, counted; a margin below the minimum sets DRIFT_LOW and schedules a RETRAIN. It builds on the trims that the next boundary will bring. -/
def driftStep (s : State) (ch ce i : Nat) (ms : List EyeMeas) : State :=
  let c := s.ceCal ch ce
  let base := c.newTrims.getD c.trims
  let go := fun (t : Table (Nat × Nat)) (m : EyeMeas) => min 255 (((Table.get (0, 0) t m.item).1 : Int) + max (-1) (min 1 m.toCentre)).toNat
  let r := ms.foldl (fun (a : Table (Nat × Nat) × Nat) m =>
    let v := go a.1 m
    (Table.ins a.1 m.item (v, m.margin % 256), if v = (Table.get (0, 0) a.1 m.item).1 then a.2 else a.2 + 1)) (base, 0)
  let low := ms.any fun m => decide (m.margin < s.paramN .flashDriftMarginMin)
  let s := (s.modCal ch ce fun c => { c with newTrims := some r.1, retrain := c.retrain || low }).rsat (Reg.SB_CH_CAL_DRIFT_MOVES ch) r.2
  let s := if low then s.rset (Reg.SB_CH_ERR_DRIFT_LOW ch) 1 else s
  (s.calDone ch ce i).retrainPend ch

/-- Rate in force on a channel, as its code (R59): that reached at boot, before that the one the boot training tries. -/
def rateNow (s : State) (ch : Nat) : Nat :=
  if s.flag (Reg.SB_CH_STAT_TRAINED ch) then s.rget (Reg.SB_CH_STAT_RATE_ACT ch)
  else (Table.find s.flash.trainRate ch).getD (s.rget (Reg.SB_CH_CFG_RATE ch))

/-- Step 1 to 5 of R68 may run on a chip enable: in order, a step in pieces; 1 and 2 only above 2000 MT/s; in service only for a scheduled RETRAIN (R71), at boot once every channel is identified (R67). -/
def trainStep (s : State) (ch ce op n : Nat) : Bool :=
  let c := s.ceCal ch ce
  let slow := decide (s.rateNow ch ≤ 1)
  s.calReady ch ce op && (c.stage == n || c.stage + 1 == n || (slow && n == 3 && decide (c.stage < 3))) && (decide (3 ≤ n) || !slow) &&
    (if s.flag (Reg.SB_CH_STAT_TRAINED ch) then c.retrain else (List.range s.channels).all fun k => s.flash.identified.contains k)

/-- The first step of a training switches the chip enable to the high-speed interface at the rate and writes its termination and driver strength (R68). -/
def setHighSpeed (s : State) (ch ce rate : Nat) : State :=
  s.modCal ch ce fun c => { c with setRate := some rate, setOdt := s.paramN .flashNandOdtOhm, setDrive := s.paramN .flashDriveOhm }

/-- A piece of step `n` runs: in service each takes one of the 48 slots of the RETRAIN (R71). -/
def runTrain (s : State) (ch ce op n : Nat) (env : LegEnv) : State :=
  let s := if (s.ceCal ch ce).stage = 0 then (s.setHighSpeed ch ce (s.rateNow ch)).modCal ch ce fun c => { c with found := [] } else s
  (s.modCal ch ce fun c => { c with stage := n, retrainSlots := c.retrainSlots + 1 }).runCal ch ce op env

/-- Sets the layout registers of a rate (R32). -/
def setLayout (s : State) (ch rate : Nat) : State :=
  let cyc := ceilDiv (5064 * 125) rate
  (s.rset (Reg.TT_CH_BUS_SLOT_CYC ch) cyc).rset (Reg.TT_CH_BUS_SLOTS ch) (880 / cyc)

/-- Boot training of a channel has ended once no populated chip enable in service is untrained (R69). -/
def trainEnd (s : State) (ch : Nat) (temp : Int) : State :=
  let code := s.rateNow ch
  if (List.range 8).all fun ce => !(s.ceCal ch ce).populated || s.ceGone ch ce || (s.ceCal ch ce).trained then
    ((((s.rset (Reg.SB_CH_STAT_RATE_ACT ch) code).rset (Reg.SB_CH_CAL_TRAIN_TEMP ch) (unsigned temp 8)).rset (Reg.SB_CH_STAT_TRAINED ch) 1).rset
      (Reg.SB_CH_STAT_CE_TRAINED ch) ((List.range 8).foldl (fun m ce => if (s.ceCal ch ce).trained then m + 2 ^ ce else m) 0)).setLayout ch ((rates.getD code 3600))
  else s

/-- A chip enable fails boot training (R69): the channel's rate falls by one step and every chip enable of it trains again, down to min_rate_mts, where it is isolated with cause TRAIN. -/
def bootTrainFail (s : State) (ch ce : Nat) : State :=
  let code := s.rateNow ch
  let s := s.rset (Reg.SB_CH_ERR_TRAIN_FAIL ch) 1
  if code ≤ rateCode (s.paramN .flashMinRateMts) then (s.isolateCe ch ce .train).trainEnd ch (s.chanTemp ch)
  else
    let s := { s with flash := { s.flash with trainRate := Table.ins s.flash.trainRate ch (code - 1) } }
    (List.range 8).foldl (fun s ce => if (s.ceCal ch ce).populated then s.modCal ch ce fun c => { c with stage := 0, trained := false, found := [], retrainSlots := 0 } else s) s

end State

/-- OP_READ (R93, R37, R38): dispatch of the READ routine. -/
def execOpRead (d : Nat) (a : OpArg) (s : State) : Result := .next (s.startRead d 0 a)
/-- OP_READ_SLC (R93): dispatch of the READ_SLC routine. -/
def execOpReadSlc (d : Nat) (a : OpArg) (s : State) : Result := .next (s.startRead d 1 a)
/-- OP_READ_RETRY (R93, R123): dispatch of the READ_RETRY routine. -/
def execOpReadRetry (d : Nat) (a : OpArg) (s : State) : Result := .next (s.startRead d 2 a)
/-- OP_READ_SOFT (R93, R123): dispatch of the READ_SOFT routine. -/
def execOpReadSoft (d : Nat) (a : OpArg) (s : State) : Result := .next (s.startRead d 3 a)
/-- OP_PROG (R93, R47): dispatch of the PROG routine. -/
def execOpProg (d : Nat) (a : OpArg) (s : State) : Result := .next (s.startOp d 4 a)
/-- OP_PROG_SLC (R93, R47): dispatch of the PROG_SLC routine. -/
def execOpProgSlc (d : Nat) (a : OpArg) (s : State) : Result := .next (s.startOp d 5 a)
/-- OP_ERASE (R93, R47): dispatch of the ERASE routine. -/
def execOpErase (d : Nat) (a : OpArg) (s : State) : Result := .next (s.startOp d 6 a)

/-- OP_SUSPEND_PROG (R100, R101): dispatch of the SUSPEND_PROG service routine for the posted suspend of a programming die. -/
def execOpSuspendProg (d : Nat) (env unwind : LegEnv) (s : State) : Result :=
  if (s.die d).state == .prog && s.requestReady d .suspend then .next (s.takeSuspend d (env ++ unwind)) else .next s
/-- OP_SUSPEND_ERASE (R100, R101): dispatch of the SUSPEND_ERASE service routine for the posted suspend of an erasing die. -/
def execOpSuspendErase (d : Nat) (env unwind : LegEnv) (s : State) : Result :=
  if (s.die d).state == .erase && s.requestReady d .suspend then .next (s.takeSuspend d (env ++ unwind)) else .next s
/-- OP_RESUME_PROG (R45, R101): the planned resume of a suspended program. -/
def execOpResumeProg (d : Nat) (env reapply : LegEnv) (s : State) : Result :=
  if (s.die d).state == .suspProg && s.resumeReady d then .next (s.resumeDie d 9 (env ++ reapply)) else .next s
/-- OP_RESUME_ERASE (R45, R101): the planned resume of a suspended erase. -/
def execOpResumeErase (d : Nat) (env reapply : LegEnv) (s : State) : Result :=
  if (s.die d).state == .suspErase && s.resumeReady d then .next (s.resumeDie d 10 (env ++ reapply)) else .next s
/-- OP_ABORT (R39, R101): dispatch of the ABORT routine for the posted abort of a die in READ_L or LOAD. -/
def execOpAbort (d : Nat) (env unwind : LegEnv) (s : State) : Result :=
  if s.requestReady d .abort then .next (s.takeAbort d (env ++ unwind)) else .next s

/-- A command sequence of an operation code of the die's set may run now (R31, R93). -/
def State.opReady (s : State) (d op : Nat) : Bool :=
  s.dieReady d && s.boxFree (chOf d) && s.hasOp d op && s.seqPlace (chOf d)

/-- OP_STATUS (R31, R93, R39, R76): the status byte of a die is read. All ones, or a bit set that the NAND reserves, is invalid; ready (bit 6) ends an ABORT. -/
def execOpStatus (d : Nat) (status : StatusRead) (s : State) : Result :=
  if !s.opReady d 12 then .next s
  else
    let s := ((s.takeSeq (chOf d)).runOp d 12 status.env).modBox (chOf d) fun b => { b with status := status.byte }
    if status.byte == 0xFF || status.reserved then .next (s.opTimedOut d true)
    else if (s.die d).state == .abort && status.byte.getLsbD 6 then .next (s.modDie d fun x => { x with state := .idle })
    else .next s

/-- OP_RESET_CE (R31, R103): every feature of the chip enable's dies returns to its default. -/
def execOpResetCe (ch : Nat) (ce : OnBus Nat) (s : State) : Result :=
  let d := 32 * ch + 4 * ce.val
  if s.boxFree ch && s.hasOp d 13 && s.seqPlace ch then
    let s := (s.takeSeq ch).runOp d 13 ce.env
    .next ((List.range 4).foldl (fun s l => s.modDie (d + l) fun x => { x with features := [] }) s)
  else .next s

/-- OP_SET_FEATURE (R31, R93): the die's feature takes the value, which goes by way of FP. -/
def execOpSetFeature (d : Nat) (feat : Byte) (v : OnBus Word) (s : State) : Result :=
  if s.opReady d 14 then
    let s := ((s.takeSeq (chOf d)).modCtx d fun c => { c with fp := v.val }).runOp d 14 v.env
    .next (s.modDie d fun x => { x with features := Table.ins x.features feat.toNat v.val })
  else .next s

/-- OP_GET_FEATURE (R31, R93): FP takes the feature's value; a feature never set has the NAND's own default, a free value. [DESIGN CHOICE, log 14] -/
def execOpGetFeature (d : Nat) (feat : OnBus Byte) (s : State) : Result :=
  if s.opReady d 15 then
    let s := (s.takeSeq (chOf d)).runOp d 15 feat.env
    .next (s.modDie d fun x => { x with ctx := { x.ctx with fp := Table.get (Config.nandFeatureDefault d feat.val.toNat) x.features feat.val.toNat } })
  else .next s

/-- OP_IDENTIFY (R64, R93): the IDENTIFY routine of set 0 reads the chip enable's parameter page into the parameter-page buffer. -/
def execOpIdentify (ch ce : Nat) (answer : OnBus CeIdent) (s : State) : Result :=
  if s.boxFree ch && (s.descOf 0 16).isSome then
    let s := match s.descOf 0 16 with
      | some i => (s.startLeg ch (32 * ch + 4 * ce) (s.descField i 0 13) true false 16 i []).runWords ch answer.env
      | none => s
    .next { s with flash := { s.flash with paramPage := if answer.val.responds then some (8 * ch + ce, answer.val) else none } }
  else .next s

/-- OP_ZQ_LONG (R68): NAND-side ZQ calibration, long form, step 1 of a training; nothing else is visible. -/
def execOpZqLong (ch : Nat) (ce : OnBus Nat) (s : State) : Result :=
  if s.trainStep ch ce.val 17 1 then .next (s.runTrain ch ce.val 17 1 ce.env) else .next s
/-- OP_ZQ_SHORT (R71): the periodic short ZQ step; its result is not visible. -/
def execOpZqShort (ch : Nat) (ce : OnBus Nat) (s : State) : Result :=
  if s.calReady ch ce.val 18 then .next ((s.runCal ch ce.val 18 ce.env).calDone ch ce.val 0) else .next s
/-- OP_DCC (R68): RE duty-cycle correction, step 2 of a training. -/
def execOpDcc (ch : Nat) (ce : OnBus Nat) (s : State) : Result :=
  if s.trainStep ch ce.val 19 2 then .next (s.runTrain ch ce.val 19 2 ce.env) else .next s
/-- OP_READ_TRAIN (R68): read DQ training, step 3, finds read delays, read DQS delay and read reference. -/
def execOpReadTrain (ch ce : Nat) (ts : OnBus (List Trim)) (s : State) : Result :=
  if s.trainStep ch ce 20 3 then
    .next ((s.runTrain ch ce 20 3 ts.env).foundTrims ch ce (ts.val.filter fun t => decide (t.item < 8) || t.item == 16 || t.item == 18))
  else .next s
/-- OP_WRITE_TRAIN (R68): write DQ training, step 4, finds write delays, write DQS delay and NAND reference. -/
def execOpWriteTrain (ch ce : Nat) (ts : OnBus (List Trim)) (s : State) : Result :=
  if s.trainStep ch ce 21 4 then
    .next ((s.runTrain ch ce 21 4 ts.env).foundTrims ch ce (ts.val.filter fun t => (decide (8 ≤ t.item) && decide (t.item < 16)) || t.item == 17 || t.item == 19))
  else .next s

/-- OP_TRAIN_VERIFY (R68, R69, R73, R74): the verify pass, step 5; in service it concludes with the 48th slot of the RETRAIN. A pass with good margins makes the trims found the next ones, from a tick boundary on, and is the chip enable's last full training; a failure is one of the boot training, or of the RETRAIN. -/
def execOpTrainVerify (ch ce : Nat) (ok : OnBus Bool) (s : State) : Result :=
  if !s.trainStep ch ce 22 5 then .next s
  else
    let boot := !s.flag (Reg.SB_CH_STAT_TRAINED ch)
    let s := s.runTrain ch ce 22 5 ok.env
    if !boot && decide ((s.ceCal ch ce).retrainSlots < 48) then .next s
    else if ok.val && s.marginsOk (s.ceCal ch ce).found then
      let temp := s.chanTemp ch
      let s := s.modCal ch ce fun c => { c with
        newTrims := some c.found, found := [], trained := true, retrain := false, retrainFailed := false, trainTemp := temp, stage := 0, retrainSlots := 0 }
      let s := s.rset (Reg.SB_CH_CAL_TRAIN_TEMP ch) (unsigned temp 8)
      .next (if boot then s.trainEnd ch temp else (s.rsat (Reg.SB_CH_CAL_RETRAINS ch)).retrainPend ch)
    else .next (if boot then s.bootTrainFail ch ce else s.retrainFail ch ce)

/-- OP_DRIFT (R71): the read-delay step. -/
def execOpDrift (ch ce : Nat) (ms : OnBus (List EyeMeas)) (s : State) : Result :=
  if s.calReady ch ce 23 then .next ((s.runCal ch ce 23 ms.env).driftStep ch ce 1 (ms.val.filter fun m => decide (m.item < 8) || m.item == 16)) else .next s
/-- OP_WDRIFT (R71): the write-delay step. -/
def execOpWdrift (ch ce : Nat) (ms : OnBus (List EyeMeas)) (s : State) : Result :=
  if s.calReady ch ce 24 then
    .next ((s.runCal ch ce 24 ms.env).driftStep ch ce 2 (ms.val.filter fun m => (decide (8 ≤ m.item) && decide (m.item < 16)) || m.item == 17))
  else .next s

/-- VENDORn of a die is due (R95): never dispatched, or vendor_op_interval_h hours ago. -/
def State.vendorDue (s : State) (d n : Nat) : Bool :=
  let h := s.paramN .microcodeVendorOpIntervalH
  h != 0 && (match Table.find (s.die d).vendorAt n with
    | some k => decide (k + h * 439453125 ≤ s.flash.tick)
    | none => true)

/-- OP_VENDOR (R95): dispatch of VENDORn in the Goods class, once per die every interval, where the set holds a VALID entry. -/
def execOpVendor (d n : Nat) (s : State) : Result :=
  if s.lowerStart d .goods && decide (n < 4) && s.hasOp d (0x1C + n) && (s.die d).state == .idle && s.vendorDue d n then
    let k := s.flash.tick
    let s := (s.takePlace (chOf d) .goods).modDie d fun x => { x with vendorAt := Table.ins x.vendorAt n k }
    .next (s.dispatchOp d (0x1C + n) ⟨0, 0, 0, 0, .goods, 0, .other⟩)
  else .next s

/-- OP_TIMEOUT (R75, R76): a busy die has not reported ready in time, or its status byte is invalid. The time of a suspended operation does not count, that of an Express read beside it does. -/
def execOpTimeout (d : Nat) (inv : Bool) (s : State) : Result :=
  let x := s.die d
  if s.boxRuns (chOf d) && (x.ctx.active || !x.reads.isEmpty) && (!x.suspended || !x.reads.isEmpty) && x.isol == 0 then .next (s.opTimedOut d inv) else .next s

/-- RB_STUCK (R77): RB_N low for 100 ms with no LUN of the channel busy isolates the channel. -/
def execRbStuck (ch : Nat) (s : State) : Result :=
  if decide (ch < s.channels) && !s.flag (Reg.SB_CH_STAT_ISOLATED ch) && (diesOf ch).all fun d => let x := s.die d; !x.ctx.active && x.reads.isEmpty then
    .next ((s.rset (Reg.SB_CH_STAT_RB ch) 0).isolateChannel ch)
  else .next s

/-- CAL_FORCE_HOLD (R72): a chip enable that has waited cal_force_periods holds new Stopping and Goods starts; the hold is counted. -/
def execCalForceHold (ch ce : Nat) (s : State) : Result :=
  if (s.ceCal ch ce).populated && !(s.ceCal ch ce).hold && !s.ceGone ch ce &&
      (List.range 3).any (fun i => decide (s.paramN .flashCalForcePeriods ≤ s.calWaited (s.ceCal ch ce) i)) then
    .next ((s.modCal ch ce fun c => { c with hold := true }).rsat (Reg.SB_CH_CAL_DEFERRED ch))
  else .next s

end Sys2Proof.Machine
end

