-- ==== Sys2Proof/Machine/Channels.lean ====
section
/-! DEFINITION. Identification, the die table and training of a channel (chapter 03). -/

namespace Sys2Proof.Machine

/-- A die-table entry from geometry and a matched profile (R64, R65). -/
def makeEntry (s : State) (k : Nat) (g : Geometry) : BitVec 256 :=
  let f := fun (v lo w : Nat) => v % 2 ^ w * 2 ^ lo
  let p := fun (q : Param) => s.paramN q
  BitVec.ofNat 256 (1 + f (if g.ipr && p (.flashProfileIpr k) = 1 then 1 else 0) 1 1 + f g.planes 2 2 + f g.cell 4 3 + f (bit g.slcOk) 7 1 +
    f g.blocksM1 8 12 + f g.pagesM1 20 12 + f g.pageBytes 32 16 + f (p (.flashProfileDispatchSet k)) 48 4 +
    f (p (.flashProfileSuspLimit k)) 56 8 + f (ceilDiv (p (.flashProfileTRNs k)) 10) 64 16 + f (p (.flashProfileTProgUs k)) 80 16 +
    f (p (.flashProfileTBersUs k)) 96 16 + f (p (.flashProfileTProgSlcUs k)) 112 16 + f (p (.flashProfilePsuspLatNs k)) 128 16 +
    f (p (.flashProfileEsuspLatNs k)) 144 16 + f (p (.flashProfileRrstLatNs k)) 160 16 + f (p (.flashProfileResumeLatNs k)) 176 16 +
    f g.capGbit 192 16)

/-- The first profile, in order 0 to 7, whose id equals the leading ID bytes; an empty id matches nothing (R64, R81). -/
def matchProfile (s : State) (idb : List Byte) : Option Nat :=
  (List.range 8).find? fun k =>
    match s.rb.getBytes (.profileId k) with
    | some p => !p.isEmpty && decide (idb.take p.length = p)
    | none => false

/-- The profile has an offsets record of another length than the CELL type takes (R64, R132). -/
def offsetsMisfit (s : State) (k cell : Nat) : Bool :=
  match s.rb.getBytes (.offsets k) with
  | some b => decide (b.length ≠ 36 * (2 ^ (cell + 1) - 1))
  | none => false

/-- The acceptance checks of R66 on an entry. -/
def Die.geometryOk (x : Die) : Bool :=
  decide (x.ent 2 2 < 3) && decide (x.cell < 4) && decide (17408 ≤ x.pageBytes ∧ x.pageBytes ≤ 20000) &&
  decide (x.planes * (x.ent 8 12 + 1) * (x.ent 20 12 + 1) * 16384 * 8 ≤ 2 ^ 41) && decide (x.ent 192 16 ≤ 2048) &&
  decide (1000 ≤ x.ent 64 16 ∧ x.ent 64 16 ≤ 20000) && decide (1 ≤ x.ent 80 16 ∧ x.ent 80 16 ≤ 10000) &&
  decide (1 ≤ x.ent 112 16 ∧ x.ent 112 16 ≤ 10000) && decide (1 ≤ x.ent 96 16 ∧ x.ent 96 16 ≤ 30000) && decide (1 ≤ x.suspLimit)

/-- PSUSP_LAT, ESUSP_LAT or RRST_LAT above 5000 ns makes the die non-Express (R42, R66). -/
def Die.slowSuspend (x : Die) : Bool := decide (5000 < x.ent 128 16) || decide (5000 < x.ent 144 16) || decide (5000 < x.ent 160 16)

/-- The six geometry fields that every accepted die shares (R67). -/
def Die.shape (x : Die) : List Nat := [x.ent 2 2, x.cell, x.ent 7 1, x.ent 8 12, x.ent 20 12, x.pageBytes]

namespace State

/-- Isolates a die found at identification: populated, with a cause. -/
def isolateFound (s : State) (d : Nat) (c : IsolCause) : State :=
  (s.modDie d fun x => if x.state == .absent then { x with state := .idle } else x).isolateDie d c

/-- Why a chip enable that answers is isolated whole by R58, R64 or R62, if it is. `ref` is the reference chip enable's LUN count. -/
def ceFault (s : State) (ref : Option Nat) (a : CeIdent) : Option IsolCause :=
  if !a.pageOk || !a.geom.iface || a.geom.needs then some .ident
  else match matchProfile s a.idBytes with
    | none => some .noProfile
    | some _ => if (a.luns == 1 || a.luns == 2 || a.luns == 4) && ref == some a.luns then none else some .geometry

/-- LUN count of the reference chip enable: the lowest-numbered one that R64 does not isolate and whose count is 1, 2 or 4 (R62). -/
def refLuns (s : State) (ces : List CeIdent) : Option Nat :=
  (ces.find? fun a => a.responds && a.pageOk && (matchProfile s a.idBytes).isSome && (a.luns == 1 || a.luns == 2 || a.luns == 4)).map (·.luns)

/-- Fills and checks the entry of one die (R64 to R66, R95): geometry first, then what the profile and its dispatch set serve. [DEDUCED, log 22] -/
def identifyDie (s : State) (d : Nat) (a : CeIdent) : State :=
  let k := (matchProfile s a.idBytes).getD 0
  let e := makeEntry s k a.geom
  let set := s.paramN (.flashProfileDispatchSet k)
  let has := fun op => (s.descOf set op).isSome
  let e := if has 1 && has 5 then e else e &&& ~~~0x80#256
  let noSusp := !(has 7 && has 8 && has 9 && has 10)
  let x : Die := { state := .idle, entry := e, profile := k }
  let s := s.setDie d { x with nonExpress := x.slowSuspend || noSusp }
  if !x.geometryOk then (s.rset (Reg.SB_CH_ERR_GEOM (chOf d)) 1).isolateDie d .geometry
  else if offsetsMisfit s k a.geom.cell then s.isolateDie d .noProfile
  else if !(has 0 && has 4 && has 6 && has 11 && has 12 && has 13 && has 14 && has 15) then s.isolateDie d .noProfile
  else s

/-- Identifies one chip enable (R62, R64). One whose LUN count is unknown or none of 1, 2 and 4 has LUN 0 alone marked isolated. [DESIGN CHOICE, log 22] -/
def identifyCe (s : State) (ch : Nat) (ref : Option Nat) (ce : Nat) (a : CeIdent) : State :=
  if !a.responds then s
  else
    let s := s.modCal ch ce fun c => { c with populated := true }
    let base := 32 * ch + 4 * ce
    let n := if a.luns = 1 ∨ a.luns = 2 ∨ a.luns = 4 then a.luns else 1
    let ls := List.range n
    match s.ceFault ref a with
    | some c =>
      let s := if c == .ident || c == .noProfile then s.rset (Reg.SB_CH_ERR_ID_FAIL ch) 1 else s.rset (Reg.SB_CH_ERR_GEOM ch) 1
      (ls.foldl (fun s l => s.isolateFound (base + l) c) s).modCal ch ce fun c => { c with isolated := true }
    | none => ls.foldl (fun s l => s.identifyDie (base + l) a) s

/-- The lowest-numbered accepted die (R67). -/
def lowestAccepted (s : State) : Option Nat := (List.range (32 * s.channels)).find? fun d => (s.die d).present && (s.die d).isol == 0

/-- The parity length in force (R113, R114, R312): the recorded one, or the Rulebook's where it fits the reference die's slot, or the largest that fits. -/
def resolvePar (s : State) (r : Nat) : State :=
  let want := s.paramN .readParityBytes
  let fit := min 864 (((s.die r).pageBytes / 4 - 4128) / 32 * 32)
  let (par, st) : Nat × Nat := match s.media.nand.par with
    | some v => (v, if want = 0 then 1 else if want = v then 0 else 2)
    | none => if want = 0 then (fit, 1) else if want ≤ fit then (want, 0) else (fit, 3)
  ({ s with adm := { s.adm with parStatus := st } }).rset Reg.LD_CODE_CFG_PAR par

/-- Fixes the reference die once every channel is identified, isolates the dies that differ from it and resolves the parity length (R67, R114); fewer accepted dies than expected are a configuration event (R81). [DEDUCED, log 22] -/
def fixReference (s : State) : State :=
  let s := if s.serviceDies.length < s.paramN .flashExpectedDies then { s with adm := { s.adm with configEvents := s.adm.configEvents ++ [s.serviceDies.length] } } else s
  match s.lowestAccepted with
  | none => s
  | some r =>
    let s := { s with flash := { s.flash with refDie := some r } }
    ((List.range (32 * s.channels)).foldl (fun s d =>
      let x := s.die d
      if x.present && x.isol == 0 && decide (x.shape ≠ (s.die r).shape)
      then (s.rset (Reg.SB_CH_ERR_GEOM (chOf d)) 1).isolate d .geometry else s) s).resolvePar r

/-- Identification of a channel (R62 to R67). -/
def identifyChannel (s : State) (ch : Nat) (ces : List CeIdent) : State :=
  let s := s.rset (Reg.SB_CH_STAT_WP ch) 1
  let ref := s.refLuns ces
  let s := (ces.take 8).zipIdx.foldl (fun s p => s.identifyCe ch ref p.2 p.1) s
  let mask := (ces.take 8).zipIdx.foldl (fun m p => if p.1.responds then m + 2 ^ p.2 else m) 0
  let s := s.rset (Reg.SB_CH_CFG_CE_MASK ch) mask
  let s := s.rset (Reg.SB_CH_CFG_LUNS ch) (match ref with | some 4 => 3 | some 2 => 1 | _ => 0)
  let s := s.rset (Reg.SB_CH_CFG_ENABLE ch) (bit (mask != 0))
  let s := s.checkChannel ch
  let s := { s with flash := { s.flash with identified := ch :: s.flash.identified.filter (· != ch) } }
  if s.flash.refDie.isNone && (List.range s.channels).all (fun c => s.flash.identified.contains c) then s.fixReference else s

/-- A chip enable passes training at a rate (R68, R95): every pattern matched, margins good, and above 2000 MT/s the set has ZQ_LONG and DCC. -/
def cePasses (s : State) (ch : Nat) (t : CeTrain) (rate : Nat) : Bool :=
  let d := 32 * ch + 4 * t.ce
  t.passAt.contains rate && (decide (rate ≤ 2000) || (s.hasOp d 17 && s.hasOp d 19)) &&
    s.marginsOk (keepTrims [] t.trims)

/-- The chip enable's set lacks a training routine needed at every rate (R95). -/
def ceUntrainable (s : State) (ch ce : Nat) : Bool :=
  let d := 32 * ch + 4 * ce
  !(s.hasOp d 20 && s.hasOp d 21 && s.hasOp d 22)

/-- The rates a channel tries, from nominal down to the fallback floor (R69). -/
def tryRates (s : State) : List Nat :=
  rates.reverse.filter fun r => decide (r ≤ s.paramN .flashRateMts ∧ s.paramN .flashMinRateMts ≤ r)

/-- Training of a channel (R68, R69, R95). [DEDUCED, log 22] -/
def trainChannel (s : State) (ch : Nat) (ts : List CeTrain) (temp : Int) : State :=
  let live := ts.filter fun t => (s.ceCal ch t.ce).populated && !(s.ceCal ch t.ce).isolated
  let s := (live.filter fun t => s.ceUntrainable ch t.ce).foldl (fun s t => s.isolateCe ch t.ce .train) s
  let live := live.filter fun t => !(s.ceCal ch t.ce).isolated
  let good := s.tryRates.find? fun r => live.all fun t => s.cePasses ch t r
  let rate := good.getD (s.paramN .flashMinRateMts)
  let firstFail := live.any fun t => !s.cePasses ch t (s.paramN .flashRateMts)
  let s := if firstFail then s.rset (Reg.SB_CH_ERR_TRAIN_FAIL ch) 1 else s
  let s := live.foldl (fun s t => s.setHighSpeed ch t.ce (rateCode rate)) s
  let bad := live.filter fun t => !s.cePasses ch t rate
  let ok := live.filter fun t => s.cePasses ch t rate
  let s := bad.foldl (fun s t => s.isolateCe ch t.ce .train) s
  let s := ok.foldl (fun s t => s.modCal ch t.ce fun c => { c with trained := true, trainTemp := temp, newTrims := some (keepTrims [] t.trims) }) s
  let s := s.rset (Reg.SB_CH_STAT_CE_TRAINED ch) (ok.foldl (fun m t => m + 2 ^ t.ce) 0)
  let s := s.rset (Reg.SB_CH_STAT_RATE_ACT ch) (rateCode rate)
  let s := s.rset (Reg.SB_CH_CAL_TRAIN_TEMP ch) (unsigned temp 8)
  let s := s.rset (Reg.SB_CH_STAT_TRAINED ch) 1
  s.setLayout ch rate

end State

/-- CHANNEL_IDENTIFY (R13, R62 to R67, R95, R487): a channel's power switch closes once its tokens are granted; then its chip enables are identified, once, before training. -/
def execChannelIdentify (ch : Nat) (ces : List CeIdent) (s : State) : Result :=
  if decide (ch < s.channels) && !s.flash.identified.contains ch && !s.flag Reg.SB_GLOBAL_LOCK && s.plat.linksReleased && s.plat.hold == .none then
    let s := if s.flag (Reg.SB_CH_STAT_POWERED ch) then s else s.askTokens [.channel ch]
    .next (if s.flag (Reg.SB_CH_STAT_POWERED ch) then s.identifyChannel ch ces else s)
  else .next s

/-- CHANNEL_TRAIN (R67 to R69): boot training of a channel, once every channel is identified. -/
def execChannelTrain (ch : Nat) (ts : List CeTrain) (temp : Int) (s : State) : Result :=
  if decide (ch < s.channels) && (List.range s.channels).all (fun k => s.flash.identified.contains k) && !s.flag (Reg.SB_CH_STAT_TRAINED ch) && !s.flag (Reg.SB_CH_STAT_ISOLATED ch) then
    .next (s.trainChannel ch ts temp)
  else .next s

end Sys2Proof.Machine
end

