-- ==== Sys2Proof/Machine/Codec.lean ====
section
/-! DEFINITION. The LDPC codec (chapter 05): decode levels, the read record, the threshold tracker. -/

namespace Sys2Proof.Machine

/-- The read record of R129, assembled from its fields. -/
def readRecord (cb ew erased miscorr decoder first step band tracked uncorr iter level die plane slot tag : Nat) : Nat :=
  cb + ew * 2 ^ 10 + erased * 2 ^ 11 + miscorr * 2 ^ 12 + decoder * 2 ^ 13 + first * 2 ^ 15 + step * 2 ^ 16 + band * 2 ^ 20 +
    tracked * 2 ^ 22 + uncorr * 2 ^ 23 + iter * 2 ^ 24 + level * 2 ^ 30 + die * 2 ^ 32 + plane * 2 ^ 41 + slot * 2 ^ 43 + tag * 2 ^ 45

/-- Row of the first attempt of a job: the tracked step where the tracker entry is VALID, else the base row (R121). -/
def Job.firstRow (j : Job) : Nat := if bits j.tracker 14 1 = 1 then bits j.tracker 8 4 else 0

/-- The rows of level 1 in order, at most retry_steps attempts (R123): the base row when level 0 did not use it, then the steps, without level 0's row. -/
def Job.rows (j : Job) (retrySteps : Nat) : List Nat :=
  ((List.range (retrySteps + 1)).filter (· != j.firstRow)).take retrySteps

/-- The job is one sense of a tracking read, which has one decode and no ladder (R122). -/
def Job.tracks (j : Job) : Bool := match j.owner with | .tracking _ => true | _ => false

/-- The attempt is a good decode (R123). -/
def Job.isGood (j : Job) (r : DecRes) : Bool := r.converged && r.crcOk && r.lba == j.lba && r.nsid == j.nsid

namespace State

/-- Changes a job. -/
def setJob (s : State) (n : Nat) (j : Job) : State := { s with flash := { s.flash with jobs := Table.ins s.flash.jobs n j } }

/-- Takes a job off a decoder's queue. -/
def dequeue (s : State) (n : Nat) : State :=
  { s with flash := { s.flash with decoders := s.flash.decoders.map fun p => (p.1, p.2.filter (· != n)) } }

/-- DEC_STAT of every decoder after a queue changed. -/
def allDecStat (s : State) : State := ((List.range 16).foldl (fun s n => s.decStat n) s).softStat

/-- The job's block has not been erased since the read was registered (R122). -/
def sameErase (s : State) (j : Job) : Bool :=
  Table.get 0 s.flash.eraseCounts (blockNo j.die j.plane j.block) == j.eraseCount


/-- Replaces a field of a tracker entry. -/
def trackerField (v lo width x : Nat) : Nat := v - bits v lo width * 2 ^ lo + x % 2 ^ width * 2 ^ lo

/-- A retry success at row `st` writes PREF_STEP, SHIFT 0, VALID and BAND (R122). -/
def trackRetry (s : State) (j : Job) (st : Nat) : State :=
  let b := blockNo j.die j.plane j.block
  if s.sameErase j then
    let v := s.tracker b
    s.setTracker b (trackerField (trackerField (trackerField (trackerField v 8 4 st) 0 8 0) 14 1 1) 12 2 j.band)
  else s

/-- A soft decode sets SOFT_SEEN (R122). -/
def trackSoft (s : State) (j : Job) : State :=
  let b := blockNo j.die j.plane j.block
  if s.sameErase j then s.setTracker b (trackerField (s.tracker b) 15 1 1) else s

/-- A tracking read writes SHIFT, keeps PREF_STEP, sets VALID, BAND and CB_PEAK and clears AGE (R122). -/
def trackShift (s : State) (b : Nat) (shift : Int) (band peak : Nat) : State :=
  let v := s.tracker b
  let v := trackerField (trackerField (trackerField v 0 8 (unsigned shift 8)) 14 1 1) 12 2 band
  s.setTracker b (trackerField (trackerField v 16 8 0) 24 8 (min 255 (peak / 4)))

/-- Ends the ladder of a job with the record of its last attempt (R129) and counts it in the LD_ counters. -/
def endJob (s : State) (n : Nat) (j : Job) (r : DecRes) (good tag : Bool) (decoder : Nat) : State :=
  let cb := if r.converged then min 1023 r.corrected else 0
  let ew := r.converged && decide (s.rget Reg.LD_EW_CFG_THRESH < cb)
  let uncorr := !good || j.level == 3
  let step := if j.level = 0 then j.firstRow else if j.level = 3 then 0 else j.step
  let tracked := if j.level = 0 then bits j.tracker 14 1 else 0
  let record := readRecord cb (bit ew) (bit j.erased) (bit j.miscorr) decoder (bit (good && j.level == 0)) step j.band
    tracked (bit uncorr) (min 63 r.iter) j.level j.die j.plane j.slot (bit tag)
  let s := if ew then s.rsat Reg.LD_CNT_READ_EW else s
  let s := if j.erased then s.rsat Reg.LD_CNT_READ_ERASED else s
  let s := if tag then s.rsat Reg.LD_CNT_ERR_TAG_MISMATCH else s
  let s := if j.level == 1 then s.rsat Reg.LD_CNT_LEVEL_RETRY else s
  let s := if j.level == 2 then s.rsat Reg.LD_CNT_LEVEL_SOFT else s
  let s := if uncorr then s.rsat Reg.LD_CNT_ERR_UNCORR else s
  s.setJob n { j with state := .done, record := record, good := good, uncorr := uncorr }

/-- A job goes to level 3 (R123). -/
def toRecon (s : State) (n : Nat) (j : Job) : State :=
  (s.setJob n { j with state := .recon, level := 3, uncorr := true }).rsat Reg.LD_CNT_LEVEL_RECON

/-- Class of a level 1 or 2 sense (R123, R128): Stopping for host reads. -/
def riseClass (j : Job) : TClass :=
  match j.owner with
  | .host _ _ _ => .stopping
  | _ => j.cls

/-- The better of the best level 1 attempt and a new one: fewest unsatisfied checks, the earlier on a tie (R123). [DEDUCED, log 25] -/
def betterOf (b : Option (Nat × Nat)) (row unsat : Nat) : Option (Nat × Nat) :=
  match b with
  | none => some (row, unsat)
  | some (r, u) => if unsat < u then some (row, unsat) else some (r, u)

/-- A job that failed a hard decode rises (R123): the next row of level 1, then level 2. -/
def riseHard (s : State) (n : Nat) (j : Job) (r : DecRes) : State :=
  let j := if j.level = 0 then j else { j with best := betterOf j.best j.step r.unsat }
  let next := (j.rows (s.paramN .readRetrySteps)).find? fun x => !j.tried.contains x
  match next with
  | some row => s.setJob n { j with level := 1, step := row, tried := j.tried ++ [row], cls := riseClass j, state := .sensing }
  | none => s.setJob n { j with level := 2, step := (j.best.map (·.1)).getD 0, cls := riseClass j, state := .sensing }

/-- A hard decode of a job ends (R116, R122 to R124). A tracking sense has no further attempt. [DEDUCED, log 25] -/
def hardDone (s : State) (n : Nat) (j : Job) (r : DecRes) : State :=
  let mis := r.converged && !r.crcOk
  if r.zeroBits ≤ 64 then
    if j.tracks then s.endJob n { j with erased := true } { r with converged := false, iter := 0 } false false 3
    else s.toRecon n { j with erased := true }
  else if j.isGood r then
    let s := if j.level = 1 && j.step != 0 then s.trackRetry j j.step else s
    s.endJob n j r true false 0
  else if r.converged && r.crcOk then s.endJob n j r false true 0
  else
    let s := if mis then s.rsat Reg.LD_CNT_ERR_MISCORR else s
    let j := { j with miscorr := j.miscorr || mis }
    if j.tracks then s.endJob n j r false false 0 else s.riseHard n j r

/-- A soft decode of a job ends (R116, R123): SOFT2, then SOFT3 where enabled, then level 3. [DEDUCED, log 25] -/
def softDone (s : State) (n : Nat) (j : Job) (r : DecRes) : State :=
  let mis := r.converged && !r.crcOk
  let dec := if j.soft2 then 2 else 1
  if r.zeroBits ≤ 64 then s.toRecon n { j with erased := true }
  else
    let s := s.trackSoft j
    if j.isGood r then s.endJob n j r true false dec
    else if r.converged && r.crcOk then s.endJob n j r false true dec
    else
      let s := if mis then s.rsat Reg.LD_CNT_ERR_MISCORR else s
      let j := { j with miscorr := j.miscorr || mis }
      if !j.soft2 && s.flag Reg.LD_SOFT_CFG_SOFT3_EN then s.setJob n { j with soft2 := true, state := .sensing }
      else s.toRecon n j

/-- A decode stops at its iteration limit: one that needed more has not converged (R125). -/
def boundIter (s : State) (soft : Bool) (r : DecRes) : DecRes :=
  let lim := s.rget (if soft then Reg.LD_SOFT_CFG_ITER_MAX else Reg.LD_HARD_CFG_ITER_MAX)
  if lim < r.iter then { r with converged := false, iter := lim } else r

/-- A decoder is at work on the job (R126): the first of a hard decoder's queue, the first of the soft queue, one for each decoder that is powered. -/
def inDecoder (s : State) (soft : Bool) (n : Nat) : Bool :=
  if soft then ((Table.get [] s.flash.decoders 16).take s.softDecoders).contains n
  else s.flash.decoders.any fun p => decide (p.1 < 16) && p.2.head? == some n

/-- A decode in progress ends: its decoder goes on with its queue. -/
def decodeDone (s : State) (n : Nat) (soft : Bool) (r : DecRes) : State :=
  match Table.find s.flash.jobs n with
  | none => s
  | some j =>
    if j.state == (if soft then .soft else .hard) && s.inDecoder soft n then
      let r := s.boundIter soft r
      ((s.dequeue n).allDecStat |> fun s => if soft then s.softDone n j r else s.hardDone n j r)
    else s

/-- Ends a job at level 3: rebuilt with a matching CRC and matching tags, or unrecoverable (R124, R153). -/
def reconDone (s : State) (n : Nat) (ok : Bool) (lba nsid : Nat) : State :=
  match Table.find s.flash.jobs n with
  | none => s
  | some j =>
    if j.state != .recon then s
    else
      let good := ok && lba == j.lba && nsid == j.nsid
      let tag := ok && !good
      s.endJob n j ⟨4096, false, ok, lba, nsid, 0, 0, 0⟩ good tag 3

end State

end Sys2Proof.Machine
end

