-- ==== Sys2Proof/Machine/Media.lean ====
section
/-! DEFINITION. Map, journal, die groups, superblocks and placement (chapters 06 and 07): the operations the translation rows share. -/

namespace Sys2Proof.Machine

/-- The DEALLOC entry (R137). -/
def entDealloc : Nat := 2 ^ 37
/-- The UNREC entry (R137). -/
def entUnrec : Nat := 2 ^ 38
/-- The INBUF entry naming a parcel (R137). -/
def entInbuf (p : Nat) : Nat := 2 ^ 39 + p % 65536
/-- DEALLOC is set. -/
def isDealloc (e : Nat) : Bool := bits e 37 1 == 1
/-- UNREC is set. -/
def isUnrec (e : Nat) : Bool := bits e 38 1 == 1
/-- INBUF is set. -/
def isInbuf (e : Nat) : Bool := bits e 39 1 == 1
/-- The entry names a flash location. -/
def isLoc (e : Nat) : Bool := !isDealloc e && !isUnrec e && !isInbuf e
/-- More than one flag is set (R140). -/
def badFlags (e : Nat) : Bool := decide (2 ≤ bits e 37 1 + bits e 38 1 + bits e 39 1)
namespace State

/-- The entry of an IU (R138). -/
def mapGet (s : State) (slot iu : Nat) : Nat := Table.get entDealloc s.media.map (mapKey slot iu)

/-- A map line as it lies in DRAM (R138): twelve entries of 40 bits, bits 510 to 480 zero, INIT in bit 511; a line never stored to is zero. -/
def mapLine (s : State) (slot line : Nat) : BitVec 512 :=
  if s.media.initLines.contains (mapKey slot line) then
    BitVec.ofNat 512 ((List.range 12).foldl (fun a k => a + s.mapGet slot (12 * line + k) * 2 ^ (40 * k)) (2 ^ 511))
  else 0

/-- Entry `k` of a line as the Mainline and the map assist read it: a line whose INIT is 0 holds twelve DEALLOC entries (R138). -/
def lineEntry (w : BitVec 512) (k : Nat) : Nat := if w.getLsbD 511 then bits w.toNat (40 * k) 40 else entDealloc

/-- The map assist stores an entry and sets INIT of its line (R139); its segment has changed since its checkpoint (R161). -/
def mapSet (s : State) (slot iu e : Nat) : State :=
  let seg := segOf slot iu
  let line := mapKey slot (iu / 12)
  let s := s.modMedia fun m => { m with
    map := Table.put entDealloc m.map (mapKey slot iu) (e % 2 ^ 40)
    initLines := if m.initLines.contains line then m.initLines else m.initLines ++ [line]
    dirtySegs := if decide (128 ≤ slot) || (Table.find m.dirtySegs seg).isSome then m.dirtySegs else Table.ins m.dirtySegs seg m.nextSeq }
  s.rset Reg.FT_CKPT_STAT_SEG_DIRTY (min 65535 s.media.dirtySegs.length)

/-- The parcel. -/
def parcel (s : State) (p : Nat) : Parcel := Table.get {} s.media.parcels p

/-- Dirty count: parcels RESERVED to STRIPE_WAIT (R143). -/
def dirtyCount (s : State) : Nat :=
  (s.media.parcels.filter fun p => p.2.state == .reserved || p.2.state == .filled || p.2.state == .placed || p.2.state == .stripeWait).length

/-- Writes a parcel; FT_PARCEL.DIRTY follows (R143). -/
def setParcel (s : State) (p : Nat) (x : Parcel) : State :=
  let s := s.modMedia fun m => { m with parcels := Table.put {} m.parcels p x }
  s.rset Reg.FT_PARCEL_DIRTY s.dirtyCount

/-- Changes a parcel. -/
def modParcel (s : State) (p : Nat) (f : Parcel → Parcel) : State := s.setParcel p (f (s.parcel p))

/-- A location ceases to be valid by the record of sequence `q` (R145, R160). -/
def invalidateLoc (s : State) (l q : Nat) : State :=
  match s.sbOfLoc l with
  | some n => s.modSb n fun b => { b with valid := b.valid - 1, lastInval := max b.lastInval q }
  | none => s
/-- A location becomes valid. -/
def validateLoc (s : State) (l : Nat) : State :=
  match s.sbOfLoc l with
  | some n => s.modSb n fun b => { b with valid := b.valid + 1 }
  | none => s

/-- G of a group (R187). -/
def goodMin (s : State) (g : Nat) : Nat :=
  minOf ((s.groupDies g).flatMap fun d => (List.range s.planesPer).map fun p => s.goodBlocks d p)
/-- The group's collection state. -/
def grp (s : State) (g : Nat) : Group := Table.get {} s.media.groupsSt g
/-- Changes it. -/
def modGrp (s : State) (g : Nat) (f : Group → Group) : State :=
  s.modMedia fun m => { m with groupsSt := Table.put {} m.groupsSt g (f (Table.get {} m.groupsSt g)) }

/-- A superblock of the group's stream may open (R147, R176): the limits on FREE_MIN do not bind during a Buffer stop flush (R192). -/
def mayOpen (s : State) (g : Nat) (st : Stream) : Bool :=
  !s.closedToNew g && (s.media.bstopFlush && decide (0 < s.freeMin g) ||
    match st with
    | .host _ => decide (s.paramN .wearBufstopReserve + 2 < s.freeMin g)
    | _ => decide (s.paramN .wearBufstopReserve < s.freeMin g))

/-- The layout has a close-parity position (R151, R204). -/
def wantsParity (s : State) (st : Stream) : Bool :=
  match st with
  | .metadata | .holdup => true
  | _ => s.mode != .worker || s.paramN .translationWorkerParity == 1

/-- Open superblock of a stream. -/
def openSb (s : State) (g : Nat) (st : Stream) : Option Nat :=
  (s.media.nand.sbs.find? fun p => p.2.group == g && p.2.stream == st && p.2.state == .open_).map (·.1)

/-- Opens a superblock: one block of every plane of every in-service die of the group (R148, R163). A block not yet erased stays so until its erase has passed, before its first program; those of a hold-up superblock are erased before the cache becomes present (R204). -/
def openNew (s : State) (g : Nat) (st : Stream) : State :=
  if !s.mayOpen g st then s
  else
    let n := s.media.nextSerial
    let dies := s.groupDies g
    let blocks := dies.map fun d => (List.range s.planesPer).map fun p => (s.takeBlock d p).getD 0
    let b : Superblock := {
      group := g, stream := st, dies := dies, blocks := blocks, closeParity := s.wantsParity st
      slc := (match st with | .metadata | .holdup => true | _ => false), par := s.rget Reg.LD_CODE_CFG_PAR }
    let b := { b with cursor := if parityPos n b 0 then 1 else 0 }
    let s := s.setSb n b
    let s := (dies.zip blocks).foldl (fun s q => q.2.zipIdx.foldl (fun s r =>
      let bn := blockNo q.1 r.2 r.1
      let s := if (s.blockInfo bn).dirty && st == .holdup then s.eraseBlock bn else s
      s.modBlock bn fun i => { i with serial := some n }) s) s
    s.modMedia fun m => { m with nextSerial := n + 1 }

/-- The unit after a position: the next data position, or the first of the next stripe. -/
def nextUnit (n : Nat) (b : Superblock) (cur : Nat) : Nat :=
  let w := b.dies.length
  let step := fun c => if c % 64 + 1 < w then c + 1 else (c / 64 + 1) * 64
  let c := step cur
  if parityPos n b (c % 64) then step c else c

/-- Closes a superblock: no further unit, verification follows (R154). -/
def closeSb (s : State) (n : Nat) : State := s.modSb n fun b => if b.state == .open_ then { b with state := .closed } else b

/-- Moves the cursor past full units; past the last stripe the superblock closes. -/
def advanceSb (s : State) (n : Nat) : State :=
  match s.sb n with
  | none => s
  | some b =>
    if 0 < s.unitFree b (b.cursor / 64) b.used then s
    else
      let c := nextUnit n b b.cursor
      let s := s.setSb n { b with cursor := c, used := 0 }
      if s.stripes b ≤ c / 64 then s.closeSb n else s

/-- Takes `k` codewords of the open unit for one IU: its location. None when the unit has no room. -/
def takeSlots (s : State) (n k : Nat) : State × Option Nat :=
  match s.sb n with
  | none => (s, none)
  | some b =>
    let i := s.slotFor (b.cursor / 64) k b.used
    if s.unitCap b < i + k then (s, none)
    else (s.setSb n { b with used := i + k }, some (s.unitLoc b (b.cursor / 64) (b.cursor % 64) i))

/-- Changes the open unit of a superblock. -/
def modUnit (s : State) (n : Nat) (key : Nat) (f : PUnit → PUnit) : State :=
  s.modSb n fun b => { b with units := Table.put {} b.units key (f (Table.get {} b.units key)) }

/-- V / (U - V) of the current or next source-5 victim in millionths, at most 63 (R175). -/
def debtStep (s : State) (g : Nat) : Nat :=
  let cand := s.media.nand.sbs.filter fun p => p.2.group == g && p.2.state == .verified
  let best := cand.foldl (fun (a : Option Superblock) (p : Nat × Superblock) => match a with | none => some p.2 | some x => if p.2.valid < x.valid then some p.2 else a) none
  let vic := match (s.grp g).victim with | some n => if (s.grp g).source = 5 then s.sb n else best | none => best
  match vic with
  | none => 0
  | some b =>
    let d := b.dies.length - (if b.closeParity then 1 else 0)
    let u := d * s.planesPer * s.pagesPer * 4
    if u ≤ b.valid then 63000000 else min 63000000 (b.valid * 1000000 / (u - b.valid))

/-- TT_GOODS_CFG.URGENT follows the urgent marks of the groups (R174). -/
def urgentMark (s : State) : State :=
  let live := (List.range s.groupCount).filter fun g => !s.closedToNew g
  if live.any fun g => decide (s.freeMin g < s.paramN .shuntingUrgentFree) then s.rset Reg.TT_GOODS_CFG_URGENT 1
  else if live.all fun g => decide (s.paramN .shuntingUrgentFree + 1 ≤ s.freeMin g) then s.rset Reg.TT_GOODS_CFG_URGENT 0
  else s

/-- The debt of a group that has reached its start mark returns to zero, and its host units no longer wait for it (R175). -/
def startMark (s : State) (g : Nat) : State :=
  if decide (s.freeMin g < s.paramN .shuntingStartFree) || (s.grp g).debt == 0 then s
  else s.modGrp g fun x => { x with debt := 0, hostWait := false }

/-- Pacing after a unit is placed in the group (R173 to R175): URGENT, debt, host wait. -/
def pace (s : State) (g : Nat) (relocation : Bool) : State :=
  let f := s.freeMin g
  let below := decide (f < s.paramN .shuntingStartFree)
  let x := s.grp g
  let debt := if !below then 0 else if relocation then x.debt - 1000000 else x.debt + s.debtStep g
  let wait := decide (s.paramN .shuntingMaxDebtUnits * 1000000 < debt)
  let s := if wait && !x.hostWait then s.rsat Reg.FT_GC_CNT_WAITS else s
  (s.modGrp g fun x => { x with debt := debt, hostWait := wait }).urgentMark

/-- A source comes first in the order of R169: below the urgent mark source 5 moves ahead of 4 and 6. -/
def sourceRank (urgent : Bool) (src : Nat) : Nat := if urgent && src == 5 then 35 else src * 10

/-- Queues a superblock under a source, once, under the source that comes first; not the active victim, not an eligible one, never a metadata superblock (R169, R170). -/
def queueVictim (s : State) (n src : Nat) : State :=
  match s.sb n with
  | none => s
  | some b =>
    let x := s.grp b.group
    if b.stream == .metadata || b.state == SbState.eligible || x.victim == some n then s
    else
      let old : Option (Nat × Nat) := x.queue.find? fun q => q.2 == n
      match old with
      | some q => if src < q.1 then s.modGrp b.group fun x => { x with queue := x.queue.map fun r => if r.2 = n then (src, n) else r } else s
      | none => s.modGrp b.group fun x => { x with queue := x.queue ++ [(src, n)] }

/-- Candidates of source 5: closed, verified superblocks of host and relocation streams, while the group is below its start mark (R169, R173). -/
def spaceVictims (s : State) (g : Nat) : List (Nat × Nat) :=
  if s.freeMin g < s.paramN .shuntingStartFree then
    (s.media.nand.sbs.filter fun p => p.2.group == g && p.2.state == .verified &&
      (match p.2.stream with | .host _ | .relocation => true | _ => false)).map fun p => (5, p.1)
  else []

/-- Chooses the next victim when the active one has no valid IU left (R169); in the Buffer stop only source 1 collects (R192). -/
def selectVictim (s : State) (g : Nat) : State :=
  let x := s.grp g
  let busy : Bool := match x.victim with
    | some n => match s.sb n with | some b => decide (0 < b.valid) && b.state != .eligible | none => false
    | none => false
  if busy then s
  else
    let s := if x.victim.isSome then s.rsat Reg.FT_GC_CNT_VICTIMS else s
    let urgent := decide (s.freeMin g < s.paramN .shuntingUrgentFree)
    let stop := s.flag Reg.FT_WEAR_STAT_BUFFER_STOP
    let pool := (x.queue.filter fun (q : Nat × Nat) => (s.sb q.2).isSome && (!stop || q.1 == 1)) ++ (if stop then [] else s.spaceVictims g)
    let better := fun (a b : Nat × Nat) =>
      let ra := sourceRank urgent a.1
      let rb := sourceRank urgent b.1
      let va := ((s.sb a.2).map fun (b : Superblock) => b.valid).getD 0
      let vb := ((s.sb b.2).map fun (b : Superblock) => b.valid).getD 0
      decide (ra < rb) || (ra == rb && (decide (va < vb) || (va == vb && decide (a.2 < b.2))))
    let best := pool.foldl (fun (a : Option (Nat × Nat)) q => match a with | none => some q | some p => if better q p then some q else a) none
    match best with
    | none => s.modGrp g fun x => { x with victim := none, source := 0 }
    | some q => s.modGrp g fun x => { x with victim := some q.2, source := q.1, queue := x.queue.filter fun (r : Nat × Nat) => r.2 != q.2 }

/-- Retires a block with a journal record of type 0x07 (R154 to R156). -/
def retireBlock (s : State) (b : Nat) : State :=
  if (s.blockInfo b).retired then s
  else
    let s := s.modBlock b fun i => { i with retired := true, serial := none }
    (s.journal1 (b * 2 ^ 14) (s.eraseCount b) 0 7).rsat Reg.FT_VERIFY_CNT_RETIRED

/-- Every destination of a superblock's relocated IUs has passed verification or has itself been erased (R160). -/
def destsPassed (s : State) (b : Superblock) : Bool :=
  b.dests.all fun n => match s.sb n with | some d => d.state == .verified || d.state == .eligible | none => true

/-- The erase conditions of R160. -/
def erasable (s : State) (b : Superblock) : Bool :=
  b.state != .open_ && b.valid == 0 && decide (b.lastInval ≤ s.media.durable) && s.destsPassed b &&
  (match b.stream with | .metadata => b.openParity == 0 | _ => true)

/-- Codewords of a metadata superblock become obsolete (R152). -/
def dropMeta (s : State) (m k : Nat) : State := s.modSb m fun b => { b with openParity := b.openParity - k }

/-- The open parity of a superblock is obsolete: once it is thinned, or erased (R152). -/
def dropParity (s : State) (n : Nat) : State :=
  match s.sb n with
  | none => s
  | some b => (b.parityIn.foldl (fun s q => s.dropMeta q.1 q.2) s).modSb n fun b => { b with parityIn := [] }

/-- An eligible superblock's blocks go to the Sidings, not yet erased; blocks marked for retirement, or with two suspect marks, are retired (R154, R155, R160). -/
def freeSb (s : State) (n : Nat) : State :=
  match s.sb n with
  | none => s
  | some b =>
    if !s.erasable b then s
    else
      let s := (b.dies.zip b.blocks).zipIdx.foldl (fun s q => q.1.2.zipIdx.foldl (fun s r =>
        let bn := blockNo q.1.1 r.2 r.1
        if b.retirePos.contains q.2 || 2 ≤ (s.blockInfo bn).suspects then s.retireBlock bn
        else (s.modBlock bn fun i => { i with serial := none, dirty := true, check := false, checkPage := none }).forgetBlock bn) s) s
      let s := s.dropParity n
      let s := (s.modNand fun x => { x with sbs := Table.del x.sbs n }).modMedia fun m => { m with moves := m.moves.filter (·.1 != n) }
      s.modGrp b.group fun x => { x with queue := x.queue.filter (·.2 != n), victim := if x.victim = some n then none else x.victim }

/-- Frees every superblock that has become eligible (R160). -/
def freeAll (s : State) : State := (Table.keys s.media.nand.sbs).foldl freeSb s

/-- Parcels that are FREE, the `n` lowest-numbered. [DESIGN CHOICE, log 26] -/
def freeParcels (s : State) (n : Nat) : List Nat :=
  let rec go (t : Table Parcel) : Nat → Nat → Nat → List Nat
    | 0, _, _ => []
    | f + 1, p, n => if n = 0 then [] else if (Table.find t p).isSome then go t f (p + 1) n else p :: go t f (p + 1) (n - 1)
  go s.media.parcels 65536 0 n

/-- Releases a parcel whose pin count is 0 and whose entry is not current (PC_RELEASE, R19, R143, R208); busy otherwise. -/
def releaseParcel (s : State) (p : Nat) : State :=
  if 0 < s.pinOf p then s.rsat Reg.AE_PC_CNT_RELEASE_BUSY
  else ((s.modParcelEntry p fun e => { e with valid := false }).setParcel p {}).pcStat

/-- The contexts that wait for a written IU's record (R18, R20): the IU is off their list, the durable sequence they need grows to `seq`. -/
def iuJournaled (s : State) (w sq : Nat) : State :=
  let f := fun (c : Ctx) =>
    if c.waitIus.contains w then
      { c with waitIus := c.waitIus.filter (· != w), needDurable := some (max sq (c.needDurable.getD 0)) }
    else c
  { s with adm := { s.adm with ctxs := s.adm.ctxs.map fun q => (q.1, f q.2) } }

/-- Appends the records of one atomic unit in one page; the locations they displace cease to be valid, and the contexts that wait for the IUs learn the sequence (R20, R145, R160, R214). -/
def journalUnit (s : State) (rs : List Pending) : State :=
  let s := s.journalGroup (rs.map (·.record))
  let q := s.media.nextSeq
  rs.foldl (fun s r =>
    let s := match r.displaced with | some l => s.invalidateLoc l q | none => s
    s.iuJournaled r.iuTok q) s

/-- One IU of a record group is settled: with a record or, its CAS lost, without; the group is appended when its last IU settles (R145, R214). -/
def settleGroup (s : State) (key iuTok : Nat) (r : Option Pending) : State :=
  let s := if r.isNone then s.iuJournaled iuTok 0 else s
  match Table.find s.media.groups key with
  | none => s.journalUnit r.toList
  | some (left, rs) =>
    if left ≤ 1 then (s.modMedia fun m => { m with groups := Table.del m.groups key }).journalUnit (rs ++ r.toList)
    else s.modMedia fun m => { m with groups := Table.ins m.groups key (left - 1, rs ++ r.toList) }

/-- Writes entries of one namespace slot (index, entry, record type) and journals them together (R145, R158, R214): the locations that stood there cease to be valid. An array namespace's write buffer has no journal: NSX is a slot from 0 to 127. -/
def mapRecords (s : State) (slot : Nat) (es : List (Nat × Nat × Nat)) : State :=
  let rs := es.map fun e =>
    let old := s.mapGet slot e.1
    (⟨⟨e.2.1, e.1, slot, e.2.2, 0⟩, 0, if isLoc old then some old else none⟩ : Pending)
  let s := es.foldl (fun s e => s.mapSet slot e.1 e.2.1) s
  if rs.isEmpty || decide (128 ≤ slot) then s else s.journalUnit rs

end State

end Sys2Proof.Machine
end

