-- ==== Sys2Proof/Machine/Common.lean ====
section
/-! DEFINITION. Shared by the host side: incident records, namespaces, stored blocks, asynchronous events, how a command ends. -/

namespace Sys2Proof.Machine

/-- Little-endian bytes of a number, as numbers. -/
def leBytes (n v : Nat) : List Nat := (List.range n).map fun i => bits v (8 * i) 8
/-- Bytes of numbers. -/
def toBytes (l : List Nat) : List Byte := l.map (BitVec.ofNat 8)
/-- XOR of two blocks. -/
def bxor (a b : List Byte) : List Byte := (a.zip b).map fun q => q.1 ^^^ q.2
/-- A member block of zeros. -/
def bzero : List Byte := List.replicate 4096 0

/-- Logical blocks in a 4 KiB part. -/
def Namespace.bpp (n : Namespace) : Nat := if n.lbaf = 0 then 8 else 1
/-- Parts of an IU: parcels or codewords it takes. -/
def Namespace.parts (n : Namespace) : Nat := if n.iuShift = 14 then 4 else 1
/-- Logical blocks in an IU (R133, R138). -/
def Namespace.bpi (n : Namespace) : Nat := n.parts * n.bpp
/-- Bytes of a logical block. -/
def Namespace.lbaBytes (n : Namespace) : Nat := if n.lbaf = 0 then 512 else 4096

/-- Successful Completion. -/
def stOk : Status := ⟨0, 0, false⟩
/-- A generic status, DNR 1 (R299). -/
def stGen (sc : Nat) : Status := ⟨0, sc, true⟩
/-- A command-specific status. -/
def stCmd (sc : Nat) : Status := ⟨1, sc, true⟩
/-- A media status. -/
def stMedia (sc : Nat) : Status := ⟨2, sc, true⟩
/-- Unrecovered Read Error. -/
def stUnrec : Status := stMedia 0x81
/-- Write Fault. -/
def stWriteFault : Status := stMedia 0x80
/-- Namespace Is Write Protected (R193). -/
def stWriteProtected : Status := stGen 0x20
/-- Invalid Field in Command. -/
def stField : Status := stGen 0x02

namespace State

/-- Namespace slot of an NSID (R134). -/
def slotOf (nsid : Nat) : Nat := nsid % 128
/-- The namespace of an NSID. -/
def nsOf (s : State) (nsid : Nat) : Option Namespace :=
  match Table.find s.media.nand.ns (slotOf nsid) with
  | some n => if n.nsid = nsid then some n else none
  | none => none
/-- Changes a namespace. -/
def modNs (s : State) (slot : Nat) (f : Namespace → Namespace) : State := s.modNand fun x => { x with ns := Table.modify f x.ns slot }

/-- Stores an incident record: number, Station clock seconds, tick count (R404, R405); the 256 newest are kept. [DEDUCED, log 58] -/
def logIncident (s : State) (cls port addr dev : Nat) (info : List Nat) : State :=
  let secs := if s.flag Reg.SC_STAT_VALID then s.sec.clockMs / 1000 % 2 ^ 32 else 2 ^ 32 - 1
  { s with mem := { s.mem with
      incidents := (⟨s.mem.nextIncident, secs, s.flash.tick, cls, port, addr, dev, info⟩ :: s.mem.incidents).take 256
      nextIncident := (s.mem.nextIncident + 1) % 2 ^ 32 } }

/-- The incident log and the temperature minutes are saved to the metadata stream (R404, R477). -/
def saveIncidents (s : State) : State := s.modNand fun x => { x with
  incidents := s.mem.incidents, nextIncident := s.mem.nextIncident, warnMin := s.rget Reg.TH_TIME_WARN_MIN, critMin := s.rget Reg.TH_TIME_CRIT_MIN
  ckptMs := if s.flag Reg.SC_STAT_VALID then some s.sec.clockMs else none }

/-- Where a namespace's host data is kept in the map and the parcels: its slot, or slot + 128 for an array namespace, whose own slot is member 0's volume (R356, R362). [DEDUCED, log 57] -/
def spaceOf (n : Namespace) : Nat := slotOf n.nsid + (if n.array then 128 else 0)

/-- Encrypts a logical block under the media key in force for its namespace, range and LBA (R17, R410); a worker stores what it is sent (R335). [DESIGN CHOICE, log 11] -/
def encBlock (s : State) (slot lba : Nat) (b : Block) : Cipher :=
  let x := slot % 128
  if s.mode == .worker then ⟨rawSlot, 0, 0, 0, lba, b⟩
  else ⟨x, ((Table.find s.media.nand.ns x).map (·.creation)).getD 0, s.sec.mediaGen, Table.get 0 s.sec.rangeGens x, lba, b⟩

/-- Decrypts a logical block for an LBA: its plaintext under the key it was stored with, a free value under any other; bytes kept as they came are decrypted as bytes. [DESIGN CHOICE, log 11] -/
def decBlock (s : State) (slot lba : Nat) (c : Cipher) : Block :=
  let k := s.encBlock slot lba c.plain
  if k = c then c.plain
  else if c.slot = rawSlot then Config.xtsDecrypt k.slot k.creation k.mediaGen k.rangeGen lba c.plain
  else Config.undecrypted c.slot c.creation c.mediaGen c.rangeGen c.lba c.plain

/-- The bytes a stored block has on the link and in parity arithmetic (R335, R361). -/
def cipherBytes (c : Cipher) : List Byte :=
  if c.slot = rawSlot || c.slot = lostSlot then c.plain else Config.xtsEncrypt c.slot c.creation c.mediaGen c.rangeGen c.lba c.plain

/-- A logical block of zeros. -/
def zeroBlock (n : Namespace) : Block := List.replicate n.lbaBytes 0

/-- LBAs of part `p` of IU `iu`. -/
def lbasOf (n : Namespace) (iu p : Nat) : List Nat := (List.range n.bpp).map (iu * n.bpi + p * n.bpp + ·)

/-- The part of a context's data that lies in its LBA range: blocks of one part, by LBA. -/
def addData (s : State) (n : Nat) (bs : List (Nat × Block)) : State :=
  s.modCtxN n fun c => { c with data := c.data ++ bs.filter fun b => c.sqe.opcode == 0x19 || decide (c.sqe.slba ≤ b.1 ∧ b.1 ≤ c.sqe.slba + c.sqe.nlb) }

/-- The blocks of a part as a context sees them: decrypted for their LBAs. -/
def openPart (s : State) (ns : Namespace) (iu p : Nat) (cs : List Cipher) : List (Nat × Block) :=
  (lbasOf ns iu p).zip cs |>.map fun q => (q.1, s.decBlock (slotOf ns.nsid) q.1 q.2)

/-- The blocks of a part reach a context: as ciphertext for a merge write (R135), else decrypted. -/
def deliver (s : State) (n : Nat) (ns : Namespace) (iu p : Nat) (cs : List Cipher) : State :=
  match s.ctx n with
  | none => s
  | some c =>
    if c.parcels.isEmpty then s.addData n (s.openPart ns iu p cs)
    else s.modCtxN n fun c => { c with merge := c.merge ++ (lbasOf ns iu p).zip cs }

/-- The status a context ends with when its lookup meets an unrecoverable IU: Write Fault for a merge write (R135), else Unrecovered Read Error (R284, R287, R288). -/
def lostStatus (s : State) (n : Nat) : Status :=
  match s.ctx n with
  | some c => if c.parcels.isEmpty then stUnrec else stWriteFault
  | none => stUnrec

/-- Logical blocks of a part inside a command's range. -/
def inRange (c : Ctx) (ns : Namespace) (iu p : Nat) : List Nat :=
  (lbasOf ns iu p).filter fun l => decide (c.sqe.slba ≤ l ∧ l ≤ c.sqe.slba + c.sqe.nlb)

/-- A lookup of a context is resolved. -/
def settleTodo (s : State) (n iu p : Nat) : State := s.modCtxN n fun c => { c with todo := c.todo.filter (· != (iu, p)) }

/-- A context will complete with a status: the first one set stands. -/
def setStatus (s : State) (n : Nat) (st : Status) : State :=
  s.modCtxN n fun c => { c with status := some (c.status.getD st) }

/-- A part a context needs is unrecoverable. A worker's READ, WRITE_DELTA or PARITY_APPLY marks its blocks (R338); any other command ends with its status. -/
def losePart (s : State) (n : Nat) (ns : Namespace) (iu p : Nat) : State :=
  match s.ctx n with
  | none => s
  | some c =>
    let bs := inRange c ns iu p
    if c.ctl = 2 && !bs.isEmpty && [0x02, 0x103, 0x104].contains c.sqe.opcode then s.modCtxN n fun c => { c with lost := c.lost ++ bs }
    else s.setStatus n (s.lostStatus n)

/-- A part a context needs is deallocated: zeros, which a worker's READ only marks (R338). -/
def zeroPart (s : State) (n : Nat) (ns : Namespace) (iu p : Nat) : State :=
  match s.ctx n with
  | none => s
  | some c =>
    if c.ctl = 2 && c.sqe.opcode == 0x02 then s.modCtxN n fun x => { x with zeros := x.zeros ++ inRange c ns iu p }
    else s.deliver n ns iu p ((lbasOf ns iu p).map fun l => s.encBlock (slotOf ns.nsid) l (zeroBlock ns))

/-- A controller; one not listed was never enabled. -/
def ctl (s : State) (k : Nat) : Controller := Table.get {} s.ctls k
/-- Changes a controller. -/
def modCtl (s : State) (k : Nat) (f : Controller → Controller) : State := { s with ctls := Table.put {} s.ctls k (f (s.ctl k)) }
/-- A port; one not listed is at its reset values. -/
def port (s : State) (p : Nat) : Port := Table.get {} s.ports p
/-- Changes a port. -/
def modPort (s : State) (p : Nat) (f : Port → Port) : State := { s with ports := Table.put {} s.ports p (f (s.port p)) }
/-- Controllers of the device (R244). -/
def ctlList (s : State) : List Nat := if s.bifur then [0, 1] else [0]

/-- The command of a context has ended; it waits for its completion entry. -/
def finish (s : State) (n : Nat) (st : Status) (dw0 : Nat := 0) : State :=
  s.modCtxN n fun c => { c with status := some (c.status.getD st), dw0 := dw0, todo := [], jobs := [], started := true }

/-- Posts an asynchronous event on a controller: on the oldest outstanding request, else kept for the next one (R277, R302). An event of the same type and information is not posted again until its log page has been read. [PRESUMED, log 47] -/
def postEvent (s : State) (k ty info page : Nat) : State :=
  let c := s.ctl k
  if !c.en || c.eventMasked.contains (ty * 256 + info) then s
  else
    let s := s.modCtl k fun c => { c with eventMasked := c.eventMasked ++ [ty * 256 + info] }
    match c.aers with
    | n :: rest => (s.modCtl k fun c => { c with aers := rest }).finish n stOk (ty + info * 256 + page * 65536)
    | [] => s.modCtl k fun c => { c with events := c.events ++ [(ty, info, page)] }

/-- An error-type event: always posted, whatever Asynchronous Event Configuration holds (R277). -/
def postError (s : State) (k info : Nat) : State :=
  let s := s.modCtl k fun c => { c with eventMasked := c.eventMasked.filter (· != info) }
  s.postEvent k 0 info 0x01

/-- A SMART / Health event for critical warning bit `b`, where the controller enables it (R189). [DEDUCED, log 55] -/
def postSmart (s : State) (b info : Nat) : State :=
  s.ctlList.foldl (fun s k => if (s.ctl k).aec / 2 ^ b % 2 = 1 then s.postEvent k 1 info 0x02 else s) s

/-- A notice: Namespace Attribute Changed (information 0, bit 8) or Firmware Activation Starting (information 1, bit 9), where enabled. -/
def postNotice (s : State) (info page : Nat) : State :=
  s.ctlList.foldl (fun s k => if (s.ctl k).aec / 2 ^ (8 + info) % 2 = 1 then s.postEvent k 2 info page else s) s

/-- Vendor event `n` (R310): posted where feature 0xC0 enables it, once until page 0xC0 is read; pending in page 0xC0. -/
def postVendor (s : State) (n : Nat) : State :=
  let s := { s with adm := { s.adm with vendorPending := if s.adm.vendorPending.contains n then s.adm.vendorPending else s.adm.vendorPending ++ [n] } }
  s.ctlList.foldl (fun s k => if (s.ctl k).vendorEvents / 2 ^ (n - 1) % 2 = 1 then s.postEvent k 7 n 0xC0 else s) s

/-- Lock state a namespace slot takes: its own row where an enable is set, else the Global row (R421). -/
def lockRow (s : State) (slot : Nat) : OpalRow :=
  let r : OpalRow := Table.get {} s.sec.opal (slot % 128)
  if r.readEn || r.writeEn then r else Table.get {} s.sec.opal 128

/-- The status a locked namespace gives an I/O command (R422). -/
def lockStatus (s : State) (slot o : Nat) : Option Status :=
  let r := s.lockRow slot
  if !s.sec.opalActive || o == 0x00 then none
  else if r.readEn && r.readLocked && [0x01, 0x02, 0x04, 0x05, 0x08, 0x09, 0x0C, 0x19].contains o then some (stGen 0x0B)
  else if r.writeEn && r.writeLocked && [0x01, 0x04, 0x08, 0x09, 0x19].contains o then some (stGen 0x20)
  else none

/-- The write cache is present and not withdrawn (R202, R203). -/
def cachePresent (s : State) : Bool := s.flag Reg.FT_HU_STAT_CACHE_PRESENT && !s.flag Reg.FT_HU_STAT_WITHDRAWN
/-- A controller's writes are write-through: cache absent, withdrawn, or disabled by its host (R18, R306). -/
def wtCtl (s : State) (k : Nat) : Bool := !s.cachePresent || !(s.ctl k).wce
/-- Every write is handled as write-through (R144). -/
def writeThrough (s : State) : Bool := s.ctlList.all fun k => s.wtCtl k
/-- The limit in force (R144). -/
def limitInForce (s : State) : Nat := if s.writeThrough then 65536 else s.rget Reg.FT_DIRTY_LIMIT
/-- The Buffer stop state (R191). -/
def bufferStop (s : State) : Bool := s.flag Reg.FT_WEAR_STAT_BUFFER_STOP

/-- Required blocks of a group: Q rounded up (R186). -/
def reqBlocks (s : State) (g : Nat) : Nat := ceilDiv (s.grp g).qNum (s.grp g).qDen
/-- A group is spare-exhausted (R188); one that holds no share is not. -/
def spareExhausted (s : State) (g : Nat) : Bool :=
  decide (0 < (s.grp g).qNum) && !s.closedToNew g && decide (s.goodMin g ≤ s.reqBlocks g + s.paramN .wearBufstopReserve)
/-- Available Spare of a group (R187); 100 where S0 is not above zero, which leaves the division undefined. [DESIGN CHOICE, log 32] -/
def groupSpare (s : State) (g : Nat) : Nat :=
  let x := s.grp g
  if x.s0 = 0 then 100 else min 100 (100 * (s.goodMin g - s.reqBlocks g - s.paramN .wearBufstopReserve) / x.s0)
/-- Available Spare of the device: the smallest over the groups that hold a share (R187). -/
def availSpare (s : State) : Nat :=
  (((List.range s.groupCount).filter fun g => decide (0 < (s.grp g).qNum)).map s.groupSpare).foldl min 100

/-- Enters the Buffer stop (R191): writes that hold their reservation are accepted, the other reserving writes end write protected, the flush of R192 begins, the warning is posted. -/
def enterBufferStop (s : State) : State :=
  if s.bufferStop then s
  else
    let s := (s.rset Reg.FT_WEAR_STAT_BUFFER_STOP 1).modMedia fun m => { m with bstopFlush := true }
    let s := { s with adm := { s.adm with ctxs := s.adm.ctxs.map fun (p : Nat × Ctx) => if p.2.parcels.isEmpty then p else (p.1, { p.2 with accepted := true }) } }
    s.postSmart 3 0

/-- Programs and erases of a throttle step (R478); step 0 sets no limit of its own. -/
def stepLimits (n : Nat) : Nat × Nat :=
  match n with | 0 => (511, 255) | 1 => (96, 48) | 2 => (64, 32) | 3 => (32, 16) | _ => (16, 8)
/-- Programs and erases of a power state (R484). -/
def psLimits (n : Nat) : Nat × Nat := match n with | 1 => (64, 32) | 2 => (24, 12) | _ => (511, 255)
/-- The power state in force (R485): the lower-numbered of the controllers' states; a worker runs at PS0. -/
def psInForce (s : State) : Nat :=
  if s.mode == .worker then 0 else (s.ctlList.map fun k => (s.ctl k).powerState).foldl min 4
/-- Soft-decision decoders 2 and 3 are off in PS2 and come back with tokens of their own above it (R484, R487). -/
def softPower (s : State) : State :=
  if s.psInForce = 2 then { s with plat := { s.plat with gated := s.plat.gated.filter (fun d => d != 130 && d != 131) ++ [130, 131] } }
  else if s.psInForce < 2 && s.plat.nonOp.isNone && (s.plat.gated.contains 130 || s.plat.gated.contains 131) then s.askTokens [.softDec 2, .softDec 3]
  else s

/-- Firmware writes TT_BUDGET_EFF (R479): the smaller of the throttle step's limit and the power state's, clipped by TT_BUDGET_CFG; nothing while a flush runs. The power state's decoders follow (R484). -/
def setBudget (s : State) : State :=
  let s := s.softPower
  if s.flushing then s
  else
    let a := stepLimits (s.rget Reg.TH_STAT_STEP)
    let b := psLimits s.psInForce
    (s.rset Reg.TT_BUDGET_EFF_PROG (min (min a.1 b.1) (s.rget Reg.TT_BUDGET_CFG_MAX_PROG))).rset
      Reg.TT_BUDGET_EFF_ERASE (min (min a.2 b.2) (s.rget Reg.TT_BUDGET_CFG_MAX_ERASE))

/-- A request wakes the DRAM channels from self-refresh, each with its tokens (R406, R487, R488). -/
def wakeDram (s : State) : State := if s.flag Reg.MC_STAT_SELF_REFRESH then s.askTokens [.dram 0, .dram 1] else s

/-- Blocks of the in-service dies that are not retired: how many, the sum and the highest of their erase counts (R189, R190). -/
def wearOf (s : State) : Nat × Nat × Nat :=
  let ds := (List.range (32 * s.channels)).filter fun d => (s.die d).present && (s.die d).isol == 0
  let live := s.flash.eraseCounts.filter fun p => ds.contains (p.1 / 4096 / 4) && !(s.blockInfo p.1).retired
  let good := (ds.map fun d => ((List.range s.planesPer).map fun p => s.goodBlocks d p).sum).sum
  (good, (live.map (·.2)).sum, (live.map (·.2)).foldl max 0)

/-- MEAN_PE, MAX_PE and Percentage Used follow the erase counts; indicator 4 and its event (R189, R190). -/
def wearStat (s : State) : State :=
  let (n, sum, top) := s.wearOf
  let mean := if n = 0 then 0 else min 65535 (sum / n)
  let pct := min 255 (100 * mean / max 1 (s.paramN .wearRatedPe))
  let was := s.flag Reg.FT_WEAR_STAT_PCT_USED_100
  let s := ((s.rset Reg.FT_WEAR_PE_MEAN_PE mean).rset Reg.FT_WEAR_PE_MAX_PE (min 65535 top)).rset Reg.FT_WEAR_STAT_PCT_USED pct
  let s := s.rset Reg.FT_WEAR_STAT_PCT_USED_100 (bit (decide (100 < pct)))
  if 100 < pct ∧ !was then s.postVendor 4 else s

/-- The wear figures follow erases made since an earlier state (R189). -/
def wearSince (s old : State) : State := if s.flash.eraseCounts == old.flash.eraseCounts then s else s.wearStat

/-- Spare indicators follow the good blocks (R187 to R189, R191). -/
def spareCheck (s : State) : State :=
  let a := s.availSpare
  let low := decide (a < s.paramN .wearSpareThresholdPct)
  let was := s.flag Reg.FT_WEAR_STAT_SPARE_LOW
  let s := (s.rset Reg.FT_WEAR_STAT_AVAIL_SPARE a).rset Reg.FT_WEAR_STAT_SPARE_LOW (bit low)
  let s := if low && !was then s.postSmart 0 2 else s
  if (List.range s.groupCount).any s.spareExhausted then s.enterBufferStop else s

end State

end Sys2Proof.Machine
end

