-- ==== Sys2Proof/Machine/Codeword.lean ====
section
/-! DEFINITION. What flash holds, byte for byte: journal records, map lines, parity and codewords (chapters 05 and 06; R113, R115, R138, R150, R151, R158, R161). -/

namespace Sys2Proof.Machine

/-- The 16 bytes of a journal record (R158). -/
def JRecord.image (r : JRecord) : List Byte :=
  toBytes (leBytes 5 r.entry ++ leBytes 5 r.index ++ [r.nsx % 128, r.type] ++ leBytes 4 r.seq)

/-- The 64 bytes of a map line (R138). -/
def lineImage (w : BitVec 512) : List Byte := toBytes (leBytes 64 w.toNat)

/-- A CRC register after one bit, polynomial of IEEE 802.3 reflected. [PRESUMED, log 63] -/
def crcBit (c : BitVec 32) : BitVec 32 := if c.getLsbD 0 then (c >>> 1) ^^^ 0xEDB88320#32 else c >>> 1

/-- CRC-32 of bytes: register of ones at the start, complemented at the end (R113). [PRESUMED, log 63] -/
def crc32 (bs : List Byte) : BitVec 32 :=
  ~~~(bs.foldl (fun c b => (List.range 8).foldl (fun c _ => crcBit c) (c ^^^ b.setWidth 32)) 0xFFFFFFFF#32)

/-- A byte of the PRBS-31 sequence, x^31 + x^28 + 1, first bit lowest, and the register after it (R115). [PRESUMED, log 63] -/
def prbsByte (r : BitVec 31) : BitVec 31 × Byte :=
  (List.range 8).foldl (fun (a : BitVec 31 × Byte) i =>
    let b := a.1.getLsbD 30 ^^ a.1.getLsbD 27
    ((a.1 <<< 1) ||| (if b then 1 else 0), if b then a.2 ||| (1#8 <<< i) else a.2)) (r, 0)

/-- Bytes XORed with the sequence from a seed; a second pass removes it (R115). -/
def scramble (seed : BitVec 31) (bs : List Byte) : List Byte :=
  (bs.foldl (fun (a : BitVec 31 × List Byte) b => let q := prbsByte a.1; (q.1, (b ^^^ q.2) :: a.2)) (seed, [])).2.reverse

/-- XOR of payloads (R150, R151). -/
def xorAll (ps : List (List Byte)) : List Byte := ps.foldl bxor bzero

namespace State

/-- The records of the journal page that begins at a sequence; records of type 0x00 fill it (R159). -/
def jpageRecs (s : State) (q : Nat) : List JRecord :=
  (List.range 1024).map fun i => (s.media.nand.journal.find? fun r => r.seq == q + i).getD ⟨0, 0, 0, 0, q + i⟩

/-- A line of a checkpoint: INIT is set where an entry is not DEALLOC (R138, R161). [DEDUCED, log 63] -/
def ckptLine (c : Checkpoint) (seg line : Nat) : BitVec 512 :=
  let es := (List.range 12).map fun k => Table.get entDealloc c.entries (seg % 2 ^ 20 * 393216 + line * 12 + k)
  if es.all isDealloc then 0 else BitVec.ofNat 512 (es.zipIdx.foldl (fun a e => a + e.1 * 2 ^ (40 * e.2)) (2 ^ 511))

/-- Codeword `i` of a segment's checkpoint: 64 of its 32,768 lines (R161). -/
def ckptPayload (s : State) (seg i : Nat) : List Byte :=
  match Table.find s.media.nand.ckpt seg with
  | none => bzero
  | some c => (List.range 64).flatMap fun k => lineImage (ckptLine c seg (64 * i + k))

/-- Bytes 0 to 4,095 of a codeword that is neither open nor close parity: ciphertext of an IU, records of a journal page, lines of a checkpoint; what the spec lays out nowhere is free (R113, R148, R158, R161). -/
def plainPayload (s : State) (d plane block page slot : Nat) : List Byte :=
  match s.storedAt d plane block page slot with
  | some x => (partOf x slot).2.flatMap cipherBytes
  | none =>
    match s.jpageAt d plane block page with
    | some q => ((s.jpageRecs q).drop (256 * slot) |>.take 256).flatMap JRecord.image
    | none =>
      let open_ := (List.range 4096).map (Config.codewordByte ((s.unitAt d plane block page slot).map (·.1) |>.getD 0) (mkLoc d plane block page slot))
      match s.unitAt d plane block page slot with
      | none => open_
      | some (_, b, j, pos, i) =>
        if page = 0 && slot = 0 then open_
        else match (Table.get {} b.units (j * 64 + pos)).metas.find? fun (m : Meta) => decide (m.first ≤ i ∧ i < m.first + m.count) with
          | some m => if m.tag = 0xFFFFFFF2 then s.ckptPayload m.lba (m.start + (i - m.first)) else open_
          | none => open_

/-- A function of the place of codeword `i` of a unit. -/
def atUnit (s : State) (b : Superblock) (stripe pos i : Nat) (f : Nat → Nat → Nat → Nat → Nat → List Byte) : List Byte :=
  let l := s.unitLoc b stripe pos i
  f (locDie l) (bits l 26 2) (bits l 14 12) (bits l 2 12) (bits l 0 2)

/-- XOR of the data positions of a stripe, for codeword `i` of the unit (R151). -/
def closePayload (s : State) (n : Nat) (b : Superblock) (stripe i : Nat) (f : Nat → Nat → Nat → Nat → Nat → List Byte) : List Byte :=
  xorAll (((List.range b.dies.length).filter fun p => !parityPos n b p).map fun p => s.atUnit b stripe p i f)

/-- Open-parity codeword `k` of a stripe: the XOR over the positions of subgroup `k / unitCap` (R150). -/
def openPayload (s : State) (n stripe k : Nat) : List Byte :=
  match s.sb n with
  | none => bzero
  | some b =>
    let i := k % max 1 (s.unitCap b)
    let g := k / max 1 (s.unitCap b)
    xorAll (((List.range b.dies.length).filter fun p => p / 7 == g).map fun p =>
      if parityPos n b p then s.closePayload n b stripe i s.plainPayload else s.atUnit b stripe p i s.plainPayload)

/-- Bytes 0 to 4,095 of a codeword of a data position: open parity is computed, the rest as it stands. -/
def dataPayload (s : State) (d plane block page slot : Nat) : List Byte :=
  match s.unitAt d plane block page slot with
  | none => s.plainPayload d plane block page slot
  | some (_, b, j, pos, i) =>
    match (Table.get {} b.units (j * 64 + pos)).metas.find? fun (m : Meta) => decide (m.first ≤ i ∧ i < m.first + m.count) with
    | some m => if m.tag = 0xFFFFFFF4 then s.openPayload m.lba m.stripe (m.start + (i - m.first)) else s.plainPayload d plane block page slot
    | none => s.plainPayload d plane block page slot

/-- Bytes 0 to 4,095 of the codeword at a place. -/
def payload (s : State) (d plane block page slot : Nat) : List Byte :=
  match s.unitAt d plane block page slot with
  | none => s.plainPayload d plane block page slot
  | some (n, b, j, pos, i) =>
    if parityPos n b pos && !(page == 0 && slot == 0) then s.closePayload n b j i s.dataPayload else s.dataPayload d plane block page slot

/-- Bytes 4,096 to 4,123 of a codeword (R113, R141). -/
def headBytes (h : CwHead) : List Byte := toBytes (leBytes 8 h.lba ++ leBytes 4 h.nsid ++ [h.part % 4, 0, 0, 0] ++ leBytes 8 h.wseq ++ leBytes 4 h.flags)

/-- Bytes 0 to 4,127 of the codeword at a place, before scrambling: user data, tags, CRC-32 (R113). -/
def protectedBytes (s : State) (d plane block page slot : Nat) : List Byte :=
  let bs := s.payload d plane block page slot ++ headBytes (s.headAt d plane block page slot)
  bs ++ toBytes (leBytes 4 (crc32 bs).toNat)

/-- The codeword as it is programmed: the scrambled bytes, PAR bytes of parity, 0xFF up to the slot's size (R113, R115). [DESIGN CHOICE, log 63] -/
def codeword (s : State) (d plane block page slot : Nat) : List Byte :=
  let par := s.rget Reg.LD_CODE_CFG_PAR
  let body := scramble (Config.prbsSeed d plane block page slot) (s.protectedBytes d plane block page slot)
  let parity := (List.range par).map (Config.ldpcParity body par)
  body ++ parity ++ List.replicate ((s.die d).pageBytes / 4 - 4128 - par) 0xFF

end State

end Sys2Proof.Machine
end

