-- ==== Sys2Proof/Machine/Translate.lean ====
section
/-! DEFINITION. Meanings of the translation layer's commands (chapter 06): map lines, parcels, placement, stripes, journal, checkpoints. -/

namespace Sys2Proof.Machine

namespace State

/-- The segment of an IU waits to be loaded (R162). -/
def segWaits (s : State) (slot iu : Nat) : Bool := s.media.toLoad.contains (segOf slot iu)

/-- A segment moves to the front of the load order (R162). -/
def loadFirst (s : State) (seg : Nat) : State :=
  s.modMedia fun m => { m with toLoad := if m.toLoad.contains seg then seg :: m.toLoad.filter (· != seg) else m.toLoad }

/-- A number for a new codeword job. -/
def newJobNo (s : State) : Nat := (Table.keys s.flash.jobs).foldl max 0 + 1

/-- Registers one codeword job of a host read and puts it on its context. -/
def addHostJob (s : State) (n : Nat) (ns : Namespace) (cls : TClass) (loc iu part : Nat) : State :=
  let slot := if ns.parts = 4 then part else bits loc 0 2
  let k := s.newJobNo
  let j := s.newJob (.host n iu part) (locDie loc) (bits loc 26 2) (bits loc 14 12) (bits loc 2 12) slot (iu * ns.bpi + part * ns.bpp) ns.nsid cls
  let s := if j.state == .recon then s.rsat Reg.LD_CNT_LEVEL_RECON else s
  ({ s with flash := { s.flash with jobs := Table.ins s.flash.jobs k j } }).modCtxN n fun c => { c with jobs := c.jobs ++ [k] }

/-- Registers the read of one IU's codewords with the Timetable (R36, R121): Express for a Mainline read, in fetch order (R37), else Stopping. -/
def registerHostRead (s : State) (n : Nat) (ns : Namespace) (express : Bool) (loc iu : Nat) (parts : List Nat) : State :=
  let cls : TClass := if express then .express else if ((s.ctx n).map (·.goods)).getD false then .goods else .stopping
  let k := s.newJobNo
  let s := parts.foldl (fun s p => s.addHostJob n ns cls loc iu p) s
  if !express || parts.isEmpty then s
  else
    let slots := if ns.parts = 4 then parts.foldl (fun m p => m + 2 ^ p) 0 else 2 ^ bits loc 0 2
    let plane := bits loc 26 2
    let x : XRead := {
      owner := k, die := locDie loc, unit := (s.die (locDie loc)).unitOf plane, block := bits loc 14 12, page := bits loc 2 12
      planes := 2 ^ plane, slots := slots, codewords := parts.length, counted := false, queued := false, start := ((s.ctx n).map (·.start)).getD s.flash.tick * 1024
      issue := none, xfer := [], seq := ((s.ctx n).map (·.seq)).getD 0 }
    let q := s.flash.xreads
    { s with flash := { s.flash with xreads := q.takeWhile (fun y => decide (y.seq ≤ x.seq)) ++ x :: q.dropWhile (fun y => decide (y.seq ≤ x.seq)) } }

/-- Acts on the entry of an IU a context looked up (read path step 5): zeros, Unrecovered Read Error, or a registered flash read; an INBUF entry is left to PC_PIN_ADDR. -/
def actOnEntry (s : State) (n : Nat) (c : Ctx) (ns : Namespace) (iu : Nat) : State :=
  let e := s.mapGet (spaceOf ns) iu
  let parts := (c.todo.filter (·.1 == iu)).map (·.2)
  if isInbuf e then s
  else
    let s := parts.foldl (fun s p => s.settleTodo n iu p) s
    if isDealloc e then
      parts.foldl (fun s p => s.zeroPart n ns iu p) s
    else if isUnrec e then parts.foldl (fun s p => s.losePart n ns iu p) s
    else s.registerHostRead n ns c.express e iu parts

/-- The map line of an IU cannot be used until it is rebuilt: an uncorrectable error, or an entry with two flags (R140). -/
def lineBad (s : State) (slot iu : Nat) : Bool :=
  s.media.badLines.contains (mapKey slot (iu / 12)) ||
  (List.range 12).any fun k => badFlags (lineEntry (s.mapLine slot (iu / 12)) k)

/-- A line found bad: counted, logged, and waiting for its rebuild (R140). -/
def markLine (s : State) (slot iu : Nat) : State :=
  let k := mapKey slot (iu / 12)
  if s.media.badLines.contains k then s
  else (((s.rsat Reg.FT_MAP_CNT_LINE_UE).logIncident 0x10 0xFF 0 0xFF [slot, iu / 12])).modMedia fun m => { m with badLines := m.badLines ++ [k] }

/-- Lines that commands need and that cannot be used yet (R140, R162): an unloaded segment moves to the front of the load order, a bad line waits for its rebuild. None when every line can be used. -/
def linesWait (s : State) (slot : Nat) (ius : List Nat) : Option State :=
  match ius.filter fun i => s.segWaits slot i || s.lineBad slot i with
  | [] => none
  | bad => some (bad.foldl (fun s i => if s.segWaits slot i then s.loadFirst (segOf slot i) else s.markLine slot i) s)

/-- The entry of an IU that its segment's checkpoint and the journal give (R140, R161), INBUF where a parcel's CURRENT entry holds the IU. -/
def rebuiltEntry (s : State) (slot iu : Nat) : Nat :=
  let seg := segOf slot iu
  let ck := Table.find s.media.nand.ckpt seg
  let base := match ck with | some c => Table.get entDealloc c.entries iu | none => entDealloc
  let from_ := match ck with | some c => c.start | none => 0
  let rs := s.media.nand.journal ++ s.media.pages.flatMap (·.recs) ++ s.media.openPage
  let e := rs.foldl (fun e r =>
    if decide (from_ ≤ r.seq) && r.nsx == slot then
      if r.type == 5 then entDealloc
      else if r.index == iu && decide (1 ≤ r.type ∧ r.type ≤ 4) then r.entry else e
    else e) base
  match s.pcMatches slot iu 0 with
  | p :: _ => entInbuf p
  | [] => e

/-- Dirty parcels needed for an IU: four for a 16 KiB IU, one for a 4 KiB IU (R135). -/
def parcelsFor (ns : Namespace) (ius : Nat) : Nat := ns.parts * ius

/-- IUs a range of logical blocks covers whole. -/
def wholeIus (ns : Namespace) (slba n : Nat) : List Nat :=
  let lo := (slba + ns.bpi - 1) / ns.bpi
  let hi := (slba + n) / ns.bpi
  (List.range (hi - lo)).map (lo + ·)

/-- The IUs a context writes through parcels: every IU of a Write or Copy, the IUs a Write Zeroes covers in part; in an array namespace, which has no map to deallocate in, also those it or a Deallocate covers whole, and those of a Write Uncorrectable (R135, R286, R362). -/
def parcelIus (ns : Namespace) (c : Ctx) : List Nat :=
  let first := c.sqe.slba / ns.bpi
  let last := (c.sqe.slba + c.sqe.nlb) / ns.bpi
  let all := (List.range (last + 1 - first)).map (first + ·)
  let whole := fun i => decide (c.sqe.slba ≤ i * ns.bpi ∧ (i + 1) * ns.bpi ≤ c.sqe.slba + c.sqe.nlb + 1)
  if c.sqe.opcode = 0x08 then all.filter fun i => ns.array || !whole i
  else if c.sqe.opcode = 0x09 then
    (if ns.array && c.sqe.ad then c.sqe.ranges.flatMap fun r => wholeIus ns r.1 r.2 else [])
  else if [0x01, 0x19, 0x103, 0x104].contains c.sqe.opcode || (ns.array && c.sqe.opcode == 0x04) then all else []

/-- An earlier-fetched command waits for its reservation (R144). -/
def reserveAhead (s : State) (c : Ctx) : Bool :=
  s.adm.ctxs.any fun p =>
    decide (p.2.seq < c.seq) && p.2.word == .active && p.2.inserted && !p.2.started && p.2.parcels.isEmpty && p.2.status.isNone &&
    (match s.nsOf p.2.sqe.nsid with | some ns => !(parcelIus ns p.2).isEmpty | none => false)

/-- The parcels of one written IU, by part: same slot, IU and write. -/
def iuParcels (s : State) (p : Nat) : List Nat :=
  let x := s.parcel p
  (s.media.parcels.filter fun q => q.2.slot == x.slot && q.2.iu == x.iu && q.2.seq == x.seq && q.2.state != .free).map (·.1)

/-- Number of a write's IU among the waiting contexts: its fetch sequence and IU. -/
def iuTokOf (x : Parcel) : Nat := x.seq * 2 ^ 40 + x.iu

/-- Lookups of a merge write: the parts of its IUs that it does not cover whole (R135). -/
def mergeTodo (ns : Namespace) (c : Ctx) (ius : List Nat) : List (Nat × Nat) :=
  (ius.flatMap fun i => (List.range ns.parts).map fun k => (i, k)).filter fun q =>
    let l := q.1 * ns.bpi + q.2 * ns.bpp
    [0x103, 0x104].contains c.sqe.opcode || (c.sqe.opcode != 0x09 && !decide (c.sqe.slba ≤ l ∧ l + ns.bpp ≤ c.sqe.slba + c.sqe.nlb + 1))

/-- A write by placement directive: handle and reclaim group of its placement identifier (R149). -/
def placement (s : State) (c : Ctx) : Option (Nat × Nat) :=
  if c.sqe.dtype = 2 ∧ s.adm.fdp then some (c.sqe.dspec % 4096, c.sqe.dspec / 4096 % 16) else none

/-- A placement identifier names a group that does not exist, or a handle at or above the handle count (R149). -/
def badPlacement (s : State) (c : Ctx) : Bool :=
  (s.placement c).any fun q => decide (s.groupCount ≤ q.2) || decide (s.paramN .translationFdpHandles ≤ q.1)

/-- Reserves parcels for a context's IUs: any free parcels, the first of an IU being the one its map entry names. [DESIGN CHOICE, log 26] -/
def reserveAll (s : State) (n : Nat) (c : Ctx) (ns : Namespace) (ius : List Nat) : State :=
  let ps := s.freeParcels (parcelsFor ns ius.length)
  let place := s.placement c
  let spots := ius.flatMap fun i => (List.range ns.parts).map fun k => (i, k)
  let s := (ps.zip spots).zipIdx.foldl (fun s q =>
    s.setParcel q.1.1 { state := .reserved, slot := spaceOf ns, iu := q.1.2.1, part := q.1.2.2, first := ps.getD (q.2 - q.1.2.2) 0
                        ctx := n, seq := c.seq, place := place }) s
  s.modCtxN n fun c => { c with parcels := ps, accepted := true, todo := mergeTodo ns c ius }

/-- Codewords a superblock can still take: the rest of its open unit and every data unit after it. -/
def roomLeft (s : State) (n : Nat) (b : Superblock) : Nat :=
  let j := b.cursor / 64
  let later := ((List.range b.dies.length).filter fun p => decide (b.cursor % 64 < p) && !parityPos n b p).length
  let per := b.dies.length - (if b.closeParity then 1 else 0)
  s.unitFree b j b.used + later * s.unitFree b j 0 + (s.stripes b - j - 1) * (per * s.unitCap b)

/-- Room for `k` codewords in the group's metadata stream: an open superblock with that room, or one that opens now (R150, R176). [DEDUCED, log 29] -/
def metaRoom (s : State) (g k : Nat) : State × Option Nat :=
  let fits := fun (s : State) => (s.media.nand.sbs.find? fun p =>
    p.2.group == g && p.2.stream == .metadata && p.2.state == .open_ && decide (k ≤ s.roomLeft p.1 p.2)).map (·.1)
  match fits s with
  | some n => (s, some n)
  | none =>
    let t := s.openNew g .metadata
    match fits t with
    | some n => (((s.media.nand.sbs.filter fun p => p.2.group == g && p.2.stream == .metadata && p.2.state == .open_).map (·.1)).foldl closeSb t, some n)
    | none => (t, none)

/-- The group's host and relocation units wait for metadata space (R150). -/
def waitsMeta (s : State) (g : Nat) : Bool := (s.grp g).metaWait && !s.mayOpen g .metadata

/-- Host units of the group wait: for collection, for a superblock that cannot open, or for metadata space (R150, R175, R176). -/
def hostWaits (s : State) (g h : Nat) : Bool :=
  (s.grp g).hostWait || s.waitsMeta g || ((s.openSb g (.host h)).isNone && !s.mayOpen g (.host h))

/-- Next group in rotation that is open to new superblocks and whose host units do not wait (R149, R175, R176); as many tries as there are groups. -/
def nextGroup (s : State) (h : Nat) : Nat :=
  let n := s.groupCount
  (((List.range n).map fun i => (s.media.rotate + i) % n).find? fun g => !s.closedToNew g && !s.hostWaits g h).getD (s.media.rotate % n)

/-- The unit that is open in a superblock is completed with pad codewords and the cursor moves on. -/
def padUnit (s : State) (n : Nat) : State :=
  match s.sb n with
  | none => s
  | some b =>
    let s := s.modUnit n b.cursor fun u => { u with pad := true }
    let c := nextUnit n b b.cursor
    let s := s.modSb n fun b => { b with cursor := c, used := 0 }
    (if s.stripes b ≤ c / 64 then s.closeSb n else s).rset Reg.FT_STAT_PAD 1

/-- The stripe being filled is unfilled and holds something (R146). -/
def unfilled (b : Superblock) : Bool := b.state == .open_ && (b.used != 0 || b.units.any fun u => u.1 / 64 == b.cursor / 64)

/-- Completes an unfilled stripe: the partly filled unit with pad codewords, every missing unit with pads (R146). -/
def padStripe (s : State) (n : Nat) : State :=
  match s.sb n with
  | none => s
  | some b =>
    (List.range 64).foldl (fun s _ =>
      match s.sb n with
      | some c => if c.state == .open_ && c.cursor / 64 == b.cursor / 64 then s.padUnit n else s
      | none => s) s

/-- Some program unit is complete and its program has not passed (R146). -/
def unitComplete (s : State) : Bool :=
  s.media.nand.sbs.any fun p => p.2.units.any fun u =>
    (u.1 != p.2.cursor || p.2.state != .open_) && !p.2.passed.contains (u.1 / 64) && u.2.parcels.any fun q => (s.parcel q).state == .placed

/-- With the dirty count at seven eighths of the limit in force and no program unit complete, unfilled stripes that hold parcels are padded (R146). -/
def padPressure (s : State) : State :=
  if s.dirtyCount * 8 < s.limitInForce * 7 || s.unitComplete then s
  else ((s.media.nand.sbs.filter fun p => unfilled p.2 && p.2.units.any fun u => u.1 / 64 == p.2.cursor / 64 && !u.2.parcels.isEmpty).map (·.1)).foldl padStripe s

/-- Pads the unfilled stripes that hold parcels of written IUs a Flush covers (R146). -/
def padFor (s : State) (toks : List Nat) : State :=
  let ns := (s.media.parcels.filterMap fun p =>
    if toks.contains (p.2.seq * 2 ^ 40 + p.2.iu) && p.2.state == .placed then p.2.unit.map (·.1) else none).eraseDups
  (ns.filter fun n => (s.sb n).any unfilled).foldl padStripe s

/-- Pads for every Flush that runs, once each of its written IUs has its place (R20, R146). -/
def flushPads (s : State) : State :=
  (s.adm.ctxs.filter fun p => p.2.sqe.opcode == 0x00 && p.2.started && !p.2.waitIus.isEmpty &&
    s.media.parcels.all fun q => q.2.state != .filled || !p.2.waitIus.contains (iuTokOf q.2)).foldl (fun s p => s.padFor p.2.waitIus) s

/-- A program unit of the group has just been filled: debt and marks (R174, R175). -/
def unitFilled (s : State) (n : Nat) : State :=
  match s.sb n with
  | none => s
  | some b =>
    if s.unitFree b (b.cursor / 64) b.used = 0 then
      let s := s.advanceSb n
      match b.stream with
      | .host _ => s.pace b.group false
      | .relocation => s.pace b.group true
      | _ => s
    else s

/-- Gives one IU of `k` codewords a location in the open superblock of a stream, opening one where there is none (R148, R149, R176). None when the stream has no room: the IU waits. -/
def placeIu (s : State) (g : Nat) (st : Stream) (k : Nat) : State × Option (Nat × Nat × Nat) :=
  let s := if (s.openSb g st).isSome then s else s.openNew g st
  match s.openSb g st with
  | none => (s, none)
  | some n =>
    let r := s.takeSlots n k
    let r := match r.2 with
      | some _ => r
      | none => (r.1.padUnit n).takeSlots n k
    match r.2, r.1.sb n with
    | some l, some b => (r.1, some (n, b.cursor, l))
    | _, _ => (r.1, none)

/-- Places one written IU, named by its first parcel: WSEQ in ascending order, its parcels PLACED (R141, R143). -/
def placeParcel (s : State) (g : Nat) (st : Stream) (p : Nat) : State :=
  let ps := s.iuParcels p
  match s.placeIu g st ps.length with
  | (s, none) => s
  | (s, some (n, key, l)) =>
    let w := s.media.wseq
    let s := ps.foldl (fun s q => s.modParcel q fun x => { x with state := .placed, wseq := w, unit := some (n, key / 64, key % 64) }) s
    let s := s.modMedia fun m => { m with wseq := w + 1 }
    (s.modUnit n key fun u => { u with parcels := u.parcels ++ [p], locs := u.locs ++ [l], since := if u.parcels.isEmpty then s.flash.tick else u.since }).unitFilled n

/-- Codewords of the IU at a location (R137). -/
def iuCws (s : State) (x : Stored) : Nat := match Table.find s.media.nand.ns (x.slot % 128) with | some ns => ns.parts | none => 1

/-- Places one relocated IU, named by its source location, once its codewords have been read and decoded (R171, garbage-collection path). -/
def placeCopy (s : State) (g : Nat) (src : Nat) : State :=
  match Table.find s.media.nand.content src with
  | none => s
  | some x =>
    let k := s.iuCws x
    let cws := (List.range k).map (src + ·)
    if cws.any fun l => !s.media.readCopies.contains l then s
    else match s.placeIu g .relocation k with
    | (s, none) => s
    | (s, some (n, key, l)) =>
      let s := s.modMedia fun m => { m with readCopies := m.readCopies.filter fun l => !cws.contains l }
      (s.modUnit n key fun u => { u with copies := u.copies ++ [(src, l)] }).unitFilled n

/-- A parcel may be placed in a host stream: FILLED, first of its IU, committed unless its write completes only after step 9 (R143, R295), and of the group and handle its write names (R149). -/
def mayPlace (s : State) (g h : Nat) (p : Nat) : Bool :=
  let x := s.parcel p
  let through := match s.ctx x.ctx with | some c => c.seq == x.seq && c.throughWrite | none => false
  x.state == .filled && decide (x.slot < 128) && x.first == p && (x.committed || through) &&
  (match x.place with | some (ph, pg) => ph == h && pg == g | none => !s.adm.fdp || h == 0)

/-- Codewords of open parity of a stripe: one per plane page and slot for each subgroup of seven positions (R150). -/
def openParityCws (s : State) (b : Superblock) : Nat := ceilDiv b.dies.length 7 * (s.planesPer * s.wlPages b.slc * 4)

/-- Stores `k` codewords with a tag and LBA field in a metadata superblock (R141, R148); it closes past its last stripe. `stripe`: whose open parity they are. -/
def metaStore (s : State) (m k tag lba stripe : Nat) : State :=
  let rec go (s : State) : Nat → Nat → State
    | 0, _ => s
    | fuel + 1, left =>
      if left = 0 then s
      else match s.sb m with
        | none => s
        | some b =>
          let j := b.cursor / 64
          let i := s.slotFor j 1 b.used
          let t := min left ((if i < s.headTo j then (i + 4) / 4 * 4 else s.unitCap b) - i)
          let s := s.modUnit m b.cursor fun u => { u with metas := u.metas ++ [⟨i, t, tag, lba, k - left, stripe⟩] }
          go ((s.modSb m fun b => { b with used := i + t }).advanceSb m) fuel (left - t)
  (go s 1024 k).modSb m fun b => { b with openParity := b.openParity + k }

/-- The data of a written IU in part order. -/
def iuBlocks (s : State) (ps : List Nat) : List Cipher := ps.flatMap fun q => (s.parcel q).blocks

/-- Step 9 for one written IU at its stripe pass: the CAS against its INBUF entry, the journal record, its parcels CLEAN (R18, R143, R145, R214). -/
def passIu (s : State) (p l : Nat) : State :=
  let x := s.parcel p
  let ps := s.iuParcels p
  let nsid := ((Table.find s.media.nand.ns (x.slot % 128)).map (·.nsid)).getD 0
  let st : Stored := ⟨x.slot, nsid, x.iu, x.wseq, false, x.merge, s.iuBlocks ps⟩
  let s := s.modNand fun y => { y with content := Table.ins y.content l st }
  let won := s.mapGet x.slot x.iu == entInbuf p
  let s := if won then (s.mapSet x.slot x.iu l).validateLoc l else s.rsat Reg.FT_MAP_CNT_CAS_FAIL
  let s := s.settleGroup x.grp (iuTokOf x) (if won then some ⟨⟨l, x.iu, x.slot, 1, 0⟩, iuTokOf x, x.displaced⟩ else none)
  ps.foldl (fun s q => s.modParcel q fun y => { y with state := .clean }) s

/-- A relocated copy has been programmed: the destination holds the source's data with RELOC set (R141, R171). -/
def passCopy (s : State) (src dst : Nat) : State :=
  match Table.find s.media.nand.content src with
  | none => s
  | some x => s.modNand fun y => { y with content := Table.ins y.content dst { x with reloc := true } }

/-- Every position of the stripe has its program unit: the cursor has moved past it, or the superblock is closed. -/
def stripeFull (b : Superblock) (j : Nat) : Bool := decide (j < b.cursor / 64) || b.state != .open_

/-- The units of a stripe, position order. -/
def stripeUnits (b : Superblock) (j : Nat) : List (Nat × PUnit) := b.units.filter fun u => u.1 / 64 == j

/-- Queues a superblock under a source and chooses a victim where none is active. -/
def condemn (s : State) (n src : Nat) : State :=
  let s := s.queueVictim n src
  match s.sb n with
  | some b => if (s.grp b.group).victim.isNone then s.selectVictim b.group else s
  | none => s

/-- An IU moves out of its reclaim unit (R171, R305, R308): the relocated bytes are counted, and the event of its handle raised where it is enabled. -/
def fdpMoved (s : State) (slot src : Nat) : State :=
  match (s.sbOfLoc src).bind s.sb with
  | none => s
  | some b => match b.stream with
    | .host h =>
      if !s.adm.fdp then s
      else
        let n := match Table.find s.media.nand.ns (slot % 128) with | some x => 2 ^ x.iuShift | none => 0
        { s with adm := { s.adm with fdpRelocated := s.adm.fdpRelocated + n, fdpEvents := s.adm.fdpEvents + (if s.adm.fdpMasked.contains h then 0 else 1) } }
    | _ => s

/-- A valid IU of a superblock was relocated to another (R160). -/
def addDest (s : State) (src dst : Nat) : State :=
  match s.sbOfLoc src, s.sbOfLoc dst with
  | some a, some b => s.modSb a fun x => { x with dests := if x.dests.contains b then x.dests else x.dests ++ [b] }
  | _, _ => s

/-- Frees eligible superblocks, settles the marks and chooses the next victims (R160, R169, R173 to R175). -/
def settleVictims (s : State) : State :=
  let s := s.freeAll
  let s := (List.range s.groupCount).foldl startMark s
  ((List.range s.groupCount).foldl selectVictim s).urgentMark

/-- An IU may be copied out of its superblock into a group: the superblock is the group's active victim, or a victim of source 1, or the position that holds it lost a program (R155, R157, R169, R171); its copies go to the group's own relocation stream while the group opens superblocks. -/
def mayCopy (s : State) (g src : Nat) : Bool :=
  match s.sbOfLoc src with
  | none => false
  | some n => match s.sb n with
    | none => false
    | some b =>
      let x := s.grp b.group
      (b.group == g || s.closedToNew b.group) &&
      (x.victim == some n || x.queue.contains (1, n) || s.media.moves.any fun q => q.1 == n && b.dies[q.2]? == some (locDie src))

end State

/-- A map line a context waits for returns (R138, R140, R162): the line of an IU a context waits for returns. -/
def State.mapLineRead (n iu : Nat) (ue : Bool) (s : State) : State :=
  match s.ctx n with
  | none => s
  | some c =>
    match s.nsOf c.sqe.nsid with
    | none => s
    | some ns =>
      if !c.todo.any (·.1 == iu) || c.word != .active || !c.inserted then s
      else if s.segWaits (State.slotOf ns.nsid) iu then s.loadFirst (segOf (State.slotOf ns.nsid) iu)
      else if ue || s.lineBad (State.slotOf ns.nsid) iu then (s.markLine (State.slotOf ns.nsid) iu).leaveClass n
      else s.actOnEntry n c ns iu

namespace State

/-- An IU whose newest data lay in parcels that cannot be read becomes UNREC with its record (R403). -/
def parcelLost (s : State) (p : Nat) : State :=
  let x := s.parcel p
  let s := (s.iuParcels x.first).foldl (fun s q => s.pcClear q) s
  s.mapRecords x.slot [(x.iu, entUnrec, 4)]

/-- A parcel a read has found is pinned and serves the part; one that cannot be read is left to firmware: the IU is lost where the map still names the parcel, else the lookup is repeated (R239, R403). One of a Write Uncorrectable gives its error. -/
def serveParcel (s : State) (n : Nat) (ns : Namespace) (iu part p : Nat) (ue : Bool) : State :=
  if ue then
    let s := s.leaveClass n
    if s.mapGet (spaceOf ns) iu == entInbuf (s.parcel p).first then ((s.parcelLost p).losePart n ns iu part).settleTodo n iu part else s
  else if (s.parcel p).blocks.any fun b => b.slot == lostSlot then (s.losePart n ns iu part).settleTodo n iu part
  else
    let s := ((s.pin p).modCtxN n fun c => { c with pinned := c.pinned ++ [p] }).settleTodo n iu part
    s.deliver n ns iu part (s.parcel p).blocks

end State

/-- PC_SEARCH_PIN (R239, R241, R403): a unique CURRENT match is pinned and serves the part; a multi-match pins nothing and hands the read to firmware. `ue`: the parcel cannot be read. -/
def execPcSearchPin (n iu part : Nat) (ue : Bool) (s : State) : Result :=
  match s.ctx n with
  | none => .next s
  | some c =>
    match s.nsOf c.sqe.nsid with
    | none => .next s
    | some ns =>
      if !s.aeRuns 1 || !c.todo.contains (iu, part) || c.word != .active || !c.inserted then .next s
      else
        let s := s.countSearches 16
        match s.pcMatches (State.slotOf ns.nsid) iu part with
        | [] => .next s
        | [p] =>
          .next (s.serveParcel n ns iu part p ue)
        | ps =>
          .next ((((s.rset Reg.AE_ERR_PC_MULTI 1).rsat Reg.AE_PC_CNT_MULTI).logIncident 0x12 0xFF 0 0xFF
            ((State.parcelUnit (State.slotOf ns.nsid) iu part true).toNat :: ps)).leaveClass n)

/-- PC_PIN_ADDR (R239, R240, R403): the parcel the map entry named is pinned when it still holds the IU; else the lookup is repeated. `ue`: the parcel cannot be read. -/
def execPcPinAddr (n iu part p : Nat) (ue : Bool) (s : State) : Result :=
  match s.ctx n with
  | none => .next s
  | some c =>
    match s.nsOf c.sqe.nsid with
    | none => .next s
    | some ns =>
      if !s.aeRuns 1 || !c.todo.contains (iu, part) || c.word != .active || !c.inserted then .next s
      else
        let holds := match s.parcelEntry p with
          | some e => e.valid && ((e.value.getD 0 0 ^^^ State.parcelUnit (State.slotOf ns.nsid) iu part true) &&& BitVec.ofNat 64 (2 ^ 49 - 1)) == 0
          | none => false
        if holds then
          .next (s.serveParcel n ns iu part p ue)
        else .next (s.rsat Reg.AE_PC_CNT_PIN_RETRY)

/-- PC_RELEASE (R19, R143, R208, R239): a CLEAN parcel, unpinned and off the map, becomes FREE; it is kept while a command that displaced it has not passed its completion point. -/
def execPcRelease (p : Nat) (s : State) : Result :=
  let x := s.parcel p
  let kept := s.adm.ctxs.any fun q => q.2.word != .done && q.2.changed.any fun r => r.2.1 == entInbuf x.first
  let named := s.mapGet x.slot x.iu == entInbuf x.first
  if !s.aeRuns 1 || x.state != .clean || kept then .next s
  else if named || (s.isCurrent p && named) then .next (s.rsat Reg.AE_PC_CNT_RELEASE_BUSY)
  else .next (s.releaseParcel p)

/-- MAP_WRITE (R139, R140, R162): the map assist stores an entry and returns the one it replaced; a line that cannot be used yet is waited for. -/
def execMapWrite (slot iu : Nat) (entry : MapEntry) (s : State) : Result :=
  if !s.flag Reg.FT_CTRL_ENABLE then .next s
  else match s.linesWait slot [iu] with
    | some t => .next t
    | none => .next ((s.mapSet slot iu entry.toNat).emit (.mapReplaced (s.mapGet slot iu) true))

/-- MAP_CAS (R22, R139, R140, R162, R160, R169, R172): the entry is stored only where the current one equals the expected one. A relocation that wins is journalled and its source is no longer valid; one that loses is discarded. [DEDUCED, log 26] -/
def execMapCas (slot iu : Nat) (expected entry : MapEntry) (s : State) : Result :=
  let cur := s.mapGet slot iu
  let e := expected.toNat
  let w := entry.toNat
  if !s.flag Reg.FT_CTRL_ENABLE then .next s
  else match s.linesWait slot [iu] with
  | some t => .next t
  | none =>
  if cur != e then
    let s := if isInbuf e then s.rsat Reg.FT_MAP_CNT_CAS_FAIL else s
    .next (s.settleVictims.emit (.mapReplaced cur false))
  else
    let s := s.mapSet slot iu w
    let s := if isLoc e && isLoc w then
        ((((s.fdpMoved slot e).validateLoc w).addDest e w)).journalUnit [⟨⟨w, iu, slot, 2, 0⟩, 0, some e⟩]
      else s
    .next (s.settleVictims.emit (.mapReplaced cur true))

/-- MAP_LINE_REBUILD (R140): a bad line is rebuilt from its checkpoint and the journal, or, its checkpoint unreadable, every entry becomes UNREC with a record. -/
def execMapLineRebuild (slot line : Nat) (readable : Bool) (s : State) : Result :=
  let k := mapKey slot line
  if !s.media.badLines.contains k then .next s
  else
    let s := s.modMedia fun m => { m with badLines := m.badLines.filter (· != k) }
    let ius := (List.range 12).map (line * 12 + ·)
    if readable then .next (ius.foldl (fun s i => s.mapSet slot i (s.rebuiltEntry slot i)) s)
    else
      let s := ius.foldl (fun s i => (s.pcMatches slot i 0).foldl (fun s p => s.pcClear p) s) s
      .next (s.mapRecords slot (ius.map fun i => (i, entUnrec, 4)))

/-- Reserving for a write (R140, R143, R144, R146, R149, R161, R162, R191, R199): parcels for a write, in fetch order, within the limit in force; a write that names no placement there is fails and reserves nothing. -/
def State.tryReserve (n : Nat) (s : State) : State :=
  match s.ctx n with
  | none => s
  | some c =>
    match s.nsOf c.sqe.nsid with
    | none => s
    | some ns =>
      let ius := State.parcelIus ns c
      let need := State.parcelsFor ns ius.length
      if s.flushing || c.word != .active || !c.parcels.isEmpty || c.started || c.status.isSome || (c.sqe.opcode == 0x19 && (!c.fetched || !c.todo.isEmpty || !c.jobs.isEmpty)) || ius.isEmpty || s.reserveAhead c || s.bufferStop ||
          !s.media.bootMeasured || s.flag Reg.FT_STAT_JRNL_HOLD then s
      else if s.badPlacement c then s.finish n (stGen 0x2A)
      else match s.linesWait (State.spaceOf ns) ius with
      | some t => t
      | none =>
        if s.dirtyCount + need ≤ s.limitInForce ∧ (s.freeParcels need).length = need then
          ((s.rset Reg.FT_STAT_DIRTY_WAIT 0).reserveAll n c ns ius).padPressure
        else (s.rset Reg.FT_STAT_DIRTY_WAIT 1).padPressure

namespace State

/-- The unit a stream of a group is filling: superblock, stripe and position. -/
def cursorOf (s : State) (g : Nat) (st : Stream) : Option (Nat × Nat) := (s.openSb g st).bind fun n => (s.sb n).map fun b => (n, b.cursor)

/-- Places one written IU of no directive: each complete program unit goes to the next group in rotation (R149). -/
def placeRotating (s : State) (h p : Nat) : State :=
  let g := s.nextGroup h
  if (s.grp g).hostWait || s.waitsMeta g then s
  else
    let old := s.cursorOf g (.host h)
    let s := s.placeParcel g (.host h) p
    if old.isSome && s.cursorOf g (.host h) != old then s.modMedia fun m => { m with rotate := (g + 1) % s.groupCount } else s

/-- Places one written IU in the host stream of a handle: where its write directs it, else in rotation (R149). -/
def placeHost (s : State) (g h p : Nat) : State :=
  if (s.parcel p).place.isSome then (if (s.grp g).hostWait || s.waitsMeta g then s else s.placeParcel g (.host h) p) else s.placeRotating h p

end State

/-- PARCEL_PLACE (R146, R148, R149, R163, R171, R174 to R176, R295, R403): written IUs, named by their first parcels, or relocated IUs, named by their source locations, go into program units of a stream. Host units of a group wait while its debt is above the limit. `lost`: parcels that cannot be read: of a committed write the IU is lost, any other is fetched from the host again. [DEDUCED, log 29] -/
def execParcelPlace (g : Nat) (st : Stream) (ps copies lost : List Nat) (s : State) : Result :=
  if decide (s.groupCount ≤ g) || s.media.quiesced || s.flushing then .next s
  else
    match st with
    | .host h =>
      let old := s
      let ps := ps.filter fun p => s.mayPlace g h p
      let s := (ps.filter fun p => lost.contains p && (s.parcel p).committed).foldl (fun s p => s.parcelLost p) s
      let ps := ps.filter fun p => !lost.contains p
      let s := ps.foldl (fun s p => s.placeHost g h p) s
      let stuck := ps.any fun p => (s.parcel p).state == .filled
      let s := if stuck && !(s.grp g).openWait then s.rsat Reg.FT_GC_CNT_WAITS else s
      .next ((((s.modGrp g fun x => { x with openWait := stuck }).flushPads).padPressure).wearSince old)
    | .relocation =>
      if s.waitsMeta g then .next s
      else .next (((copies.filter fun l => s.mayCopy g l).foldl (fun s l => s.placeCopy g l) s).wearSince s)
    | _ => .next s

/-- PAD_TIMEOUT (R146): the partly filled unit and every missing unit of an unfilled stripe are padded. -/
def execPadTimeout (n j : Nat) (s : State) : Result :=
  match s.sb n with
  | none => .next s
  | some b => if !State.unfilled b || b.cursor / 64 != j then .next s else .next (s.padStripe n)

/-- STRIPE_PASS (R18, R143, R145, R150, R214): every unit of the stripe and its open parity has passed; step 9 runs for its IUs. Without metadata room for the open parity the stripe waits. -/
def execStripePass (n j : Nat) (s : State) : Result :=
  match s.sb n with
  | none => .next s
  | some b =>
    if !State.stripeFull b j || b.passed.contains j || (State.stripeUnits b j).isEmpty then .next s
    else
      let k := s.openParityCws b
      let bad := ((State.stripeUnits b j).filter fun u => !u.2.failed).flatMap fun u => u.2.parcels.filterMap fun p =>
        let x := s.parcel p
        if s.segWaits x.slot x.iu || s.lineBad x.slot x.iu then some (x.slot, x.iu) else none
      if !bad.isEmpty then .next (bad.foldl (fun s q => ((s.linesWait q.1 [q.2]).getD s)) s) else
        let r := match b.stream with
          | .metadata | .holdup => (s, some 0)
          | _ => s.metaRoom b.group k
        match r with
        | (t, none) => .next ((t.modGrp b.group fun x => { x with metaWait := true }).wearSince s)
        | (t, some m) =>
          let t := match b.stream with
            | .metadata | .holdup => t
            | _ => ((t.metaStore m k 0xFFFFFFF4 n j).modSb n fun b => { b with parityIn := b.parityIn ++ [(m, k)] }).modGrp b.group fun x => { x with metaWait := false }
          let lostParity := (State.stripeUnits b j).any fun u => u.2.failed && State.parityPos n b (u.1 % 64)
          let t := t.modSb n fun b => { b with passed := b.passed ++ [j], parity := if b.closeParity && !lostParity then b.parity ++ [j] else b.parity }
          let us := (State.stripeUnits b j).filter fun u => !u.2.failed
          let t := us.foldl (fun t u => (u.2.parcels.zip u.2.locs).foldl (fun t q => t.passIu q.1 q.2) t) t
          .next ((us.foldl (fun t u => u.2.copies.foldl (fun t q => t.passCopy q.1 q.2) t) t).wearSince s)

/-- PROGRAM_FAIL (R151, R155, R191): the superblock closes at the failing stripe; the failed unit's parcels go to the stream's next superblock, the position's blocks are retired at its erase and its valid IUs relocated; a failed close-parity program makes the superblock a source-2 victim. [DEDUCED, log 29] -/
def execProgramFail (n j pos : Nat) (s : State) : Result :=
  match s.sb n with
  | none => .next s
  | some b =>
    if decide (b.dies.length ≤ pos) || b.passed.contains j || (Table.get ({} : PUnit) b.units (j * 64 + pos)).failed then .next s
    else
      let s := (s.rsat Reg.FT_PARITY_CNT_PROG_FAIL).modSb n fun b => { b with
        state := if b.state == .open_ then .closed else b.state
        retirePos := if b.retirePos.contains pos then b.retirePos else b.retirePos ++ [pos] }
      let s := if State.parityPos n b pos then
          let s := s.modUnit n (j * 64 + pos) fun u => { u with failed := true }
          (match b.stream with
          | .metadata | .holdup => s
          | _ => (s.modSb n fun b => { b with state := .failedVerify, verifyFailed := true }).condemn n 2)
        else
          let u : PUnit := Table.get ({} : PUnit) b.units (j * 64 + pos)
          let s := s.modUnit n (j * 64 + pos) fun u => { u with failed := true }
          let s := u.parcels.foldl (fun s p => (s.iuParcels p).foldl (fun s q => s.modParcel q fun x => { x with state := .filled, unit := none, urgent := true }) s) s
          s.modMedia fun m => { m with moves := if m.moves.contains (n, pos) then m.moves else m.moves ++ [(n, pos)] }
      .next s.spareCheck

/-- ERASE_FAIL (R156, R163, R188, R191): the block is retired; a superblock that was taking it gets the next block of its plane, which is erased first where it is not yet. -/
def execEraseFail (d plane block : Nat) (s : State) : Result :=
  let bn := State.blockNo d plane block
  let i := s.blockInfo bn
  if i.retired || !(s.die d).present then .next s
  else
    let s := s.retireBlock bn
    let s := match i.serial with
      | none => s
      | some n =>
        match s.sb n, s.takeBlock d plane with
        | some b, some nb =>
          if b.state == SbState.open_ && b.units.isEmpty && b.used == 0 then
            let pos := b.dies.findIdx (· == d)
            let s := s.setSb n { b with blocks := b.blocks.set pos ((b.blocks.getD pos []).set plane nb) }
            s.modBlock (State.blockNo d plane nb) fun i => { i with serial := some n }
          else s
        | _, _ => s
    .next s.wearStat.spareCheck

/-- BUFFER_STOP_FLUSH_DONE (R192): every dirty parcel is programmed and the journal committed. -/
def execBufferStopFlushDone (s : State) : Result :=
  if s.media.bstopFlush && s.dirtyCount == 0 && s.media.openPage.isEmpty && s.media.pages.isEmpty then
    .next ((s.rset Reg.FT_WEAR_STAT_BSTOP_FLUSHED 1).modMedia fun m => { m with bstopFlush := false })
  else .next s

/-- JOURNAL_COMMIT (R159): the open page is filled with records of type 0x00 and committed. -/
def execJournalCommit (s : State) : Result := if s.media.quiesced || s.flushing then .next s else .next s.commitPage

/-- JOURNAL_COMMIT_TIMEOUT (R159): journal_commit_us has passed since the open page's oldest record. -/
def execJournalCommitTimeout (s : State) : Result := if s.media.quiesced || s.flushing then .next s else .next s.commitPage

namespace State

/-- Journal pages whose last sequence lies below every segment's start are reclaimed; a journal block with no page left, and not being filled, goes to the Sidings (R161). -/
def reclaim (s : State) : State :=
  let low := s.lowStart
  let old := s.media.nand.jpages
  let keep := old.filter fun p => decide (low ≤ p.2.1)
  let first := (keep.map (·.1)).foldl min s.media.durable
  let used := (keep.flatMap fun p => p.2.2.map (·.1)) ++ (s.media.pages.flatMap fun p => p.places.map (·.1)) ++ s.media.nand.jopen.map (·.1)
  let gone := ((old.flatMap fun p => p.2.2.map (·.1)).filter fun b => !used.contains b).eraseDups
  let s := s.modNand fun x => { x with jpages := keep, journal := x.journal.filter fun r => decide (first ≤ r.seq) }
  gone.foldl (fun s b => s.modBlock b fun i => { i with journal := false, dirty := true }) s

/-- Both copies of committed pages are on flash: their records are durable (R159). -/
def pagesDurable (s : State) (pgs : List JPage) : State :=
  pgs.foldl (fun s pg =>
    let last := (pg.recs.map (·.seq)).foldl max s.media.durable
    let first := (pg.recs.map (·.seq)).foldl min last
    (s.modMedia fun m => { m with durable := last + 1 }).modNand fun x => { x with
      journal := x.journal ++ pg.recs.filter (·.type != 0)
      jpages := x.jpages ++ [(first, last, pg.places)] }) s

end State

/-- JOURNAL_PAGE_DURABLE (R20, R159, R160): both programs of the oldest committed page have passed; blocks that wait for it become eligible. -/
def execJournalPageDurable (s : State) : Result :=
  match s.media.pages with
  | [] => .next s
  | pg :: rest => .next (((s.modMedia fun m => { m with pages := rest }).pagesDurable [pg]).reclaim.settleVictims.jrnlStat)

namespace State

/-- Codewords a segment's checkpoint takes: one granule of 2 MiB (R136, R161). -/
def segCws : Nat := 512

/-- A metadata superblock with room for a segment's checkpoint: of the groups in turn, from the segment's number on (R150, R161, R176). [DESIGN CHOICE, log 26] -/
def ckptRoom (s : State) (seg : Nat) : State × Option Nat :=
  (List.range s.groupCount).foldl (fun (a : State × Option Nat) i =>
    match a.2 with
    | some _ => a
    | none => a.1.metaRoom ((seg + i) % s.groupCount) segCws) (s, none)

/-- Segments whose live checkpoints lie in the oldest metadata superblock of a group below the urgent mark (R169). -/
def rewriteSegs (s : State) : List Nat :=
  ((List.range s.groupCount).filter fun g => decide (s.freeMin g < s.paramN .shuntingUrgentFree)).flatMap fun g =>
    match (s.media.nand.sbs.find? fun p => p.2.group == g && p.2.stream == .metadata && p.2.state != .open_).map (·.1) with
    | some n => (s.media.nand.ckpt.filter fun q => q.2.at_.any (·.1 == n)).map (·.1)
    | none => []

/-- The start sequence of a segment (R161). -/
def segStart (s : State) (seg : Nat) : Nat :=
  match Table.find s.media.nand.ckpt seg with
  | some c => c.start
  | none => if 2 ^ 27 ≤ seg then 0 else Table.get s.media.nextSeq s.media.dirtySegs seg

/-- A segment may be written now (R161, R169): above one half of the live-journal limit those with the oldest start go first, but for those a metadata superblock is emptied of. -/
def ckptTurn (s : State) (seg : Nat) : Bool :=
  decide (s.liveMib * 2 ≤ s.paramN .translationJournalLiveMib) || s.segStart seg == s.lowStart || s.rewriteSegs.contains seg

/-- Where an earlier checkpoint of the segment lies becomes obsolete (R152). -/
def dropCkpt (s : State) (seg : Nat) : State :=
  match (Table.find s.media.nand.ckpt seg).bind (·.at_) with
  | some (m, k) => s.dropMeta m k
  | none => s

end State

/-- CHECKPOINT_WRITE (R161, R169, R180, R181, R404, R477): the segment's entries are saved in the metadata stream with the durable sequence of that moment as its start; an INBUF entry is saved as the location it displaces. The incident log is saved with it. Segment numbers from 2^27 on are those of the per-block tables, whose Milepost counters are saved. Without metadata room the segment waits. [DEDUCED, log 26] -/
def execCheckpointWrite (seg : Nat) (s : State) : Result :=
  if s.media.quiesced || s.flushing || !s.ckptTurn seg then .next s
  else
    let start := s.media.durable
    match s.ckptRoom seg with
    | (_, none) => .next s
    | (s, some m) =>
      let s := (s.dropCkpt seg).metaStore m State.segCws 0xFFFFFFF2 seg 0 |>.saveIncidents
      if 2 ^ 27 ≤ seg then
        .next ((s.modNand fun x => { x with
          ckpt := Table.ins x.ckpt seg ⟨start, [], some (m, State.segCws)⟩
          blocks := x.blocks.map fun p => (p.1, { p.2 with savedMilepost := p.2.milepost }) }).reclaim.settleVictims.jrnlStat)
      else
        let mine := s.media.map.filter fun p => segOf (p.1 / 2 ^ 40) (p.1 % 2 ^ 40) == seg
        let keep := fun (e : Nat) => if isInbuf e then (s.parcel (e % 65536)).displaced.getD entDealloc else e
        let es : Table Nat := (mine.map fun p => (p.1 % 2 ^ 40, keep p.2)).filter fun p => p.2 != entDealloc
        let s := s.modNand fun x => { x with ckpt := Table.ins x.ckpt seg ⟨start, es, some (m, State.segCws)⟩ }
        let s := s.modMedia fun m => { m with dirtySegs := Table.del m.dirtySegs seg }
        .next ((s.rset Reg.FT_CKPT_STAT_SEG_DIRTY (min 65535 s.media.dirtySegs.length)).reclaim.settleVictims.jrnlStat)

/-- SEGMENT_LOAD (R161, R162): the map assist loads the next segment of the load order: its checkpoint, then the journal's records at or above its start. -/
def execSegmentLoad (seg : Nat) (s : State) : Result :=
  match s.media.toLoad with
  | [] => .next s
  | h :: rest =>
    if h != seg then .next s
    else
      let slot := seg / 2 ^ 20
      let base := seg % 2 ^ 20 * 393216
      let ius := ((Table.find s.media.nand.ckpt seg).map fun c => Table.keys c.entries).getD [] ++
        (s.media.nand.journal.filter fun r => r.nsx == slot && decide (1 ≤ r.type ∧ r.type ≤ 4)).map (·.index)
      let mine := ius.filter fun i => decide (base ≤ i ∧ i < base + 393216)
      let s := mine.foldl (fun s i => s.modMedia fun m => { m with
        map := Table.put entDealloc m.map (mapKey slot i) (s.rebuiltEntry slot i)
        initLines := if m.initLines.contains (mapKey slot (i / 12)) then m.initLines else m.initLines ++ [mapKey slot (i / 12)] }) s
      let s := s.modMedia fun m => { m with toLoad := rest }
      let s := s.rset Reg.FT_CKPT_STAT_SEG_UNLOADED (min 65535 rest.length)
      .next (if rest.isEmpty then s.rset Reg.FT_STAT_MAP_READY 1 else s)

end Sys2Proof.Machine
end

