-- ==== Sys2Proof/Machine/Yard.lean ====
section
/-! DEFINITION. Shunting, patrol, wear and end of life (chapter 07): refresh, verification, block checks, static relocation, indicators. -/

namespace Sys2Proof.Machine

namespace State

/-- Stripes of a superblock that hold program units. -/
def writtenStripes (b : Superblock) : Nat := (b.units.map fun u => u.1 / 64 + 1).foldl max 0

/-- Pages of each block of a superblock that hold data: whole stripes (R154, R177). -/
def writtenPages (s : State) (b : Superblock) : Nat := min s.pagesPer (writtenStripes b * s.wlPages b.slc)

/-- Samples of a verification or a patrol walk of a superblock: one per page of every block (R154, R177). -/
def sampleTotal (s : State) (b : Superblock) : Nat := b.dies.length * s.planesPer * s.writtenPages b

/-- What the Lengthman does about a worst sample (R178, R182): queue as urgent refresh (source 3), as refresh (source 4), or nothing. -/
def refreshSource (s : State) (w : SampleWorst) : Nat :=
  if 2 ≤ w.level || w.erased || w.uncorr then 3
  else if s.paramN .patrolRefreshCb < w.corrected || w.level = 1 then 4 else 0

/-- Queues a superblock for refresh and counts it where it was not queued before (R170, R178). -/
def queueRefresh (s : State) (n src : Nat) : State :=
  let t := s.condemn n src
  match s.sb n with
  | none => s
  | some b =>
    if t.grp b.group != s.grp b.group then t.rsat (if src = 3 then Reg.FT_PATROL_CNT_URGENT else Reg.FT_PATROL_CNT_REFRESH) else t

/-- Thins a verified superblock (R152): a record of type 0x08 with the address of its first block, its open parity obsolete. The rule does not say which of its blocks the record names. [DESIGN CHOICE, log 33] -/
def thin (s : State) (n : Nat) : State :=
  match s.sb n with
  | none => s
  | some b =>
    let first := blockNo (b.dies.getD 0 0) 0 ((b.blocks.getD 0 []).getD 0 0)
    ((s.journal1 (first * 2 ^ 14) 0 0 8).dropParity n).modSb n fun b => { b with thinned := true }

/-- A superblock's verification has ended (R154): passed, it is thinned; failed, it keeps its open parity, each block that gave a failing sample has a suspect mark, and it becomes a source-2 victim. -/
def verifyEnds (s : State) (n : Nat) : State :=
  match s.sb n with
  | none => s
  | some b =>
    if b.failing.isEmpty then (((s.modSb n fun b => { b with state := .verified }).rsat Reg.FT_VERIFY_CNT_PASS).thin n).settleVictims
    else
      let s := b.failing.foldl (fun s bn => s.modBlock bn fun i => { i with suspects := i.suspects + 1 }) s
      ((s.modSb n fun b => { b with state := .failedVerify, verifyFailed := true }).rsat Reg.FT_VERIFY_CNT_FAIL).condemn n 2

/-- A verification sample of a closed superblock has been read (R154); after the last one the result stands. [DEDUCED, log 33] -/
def verifySample (s : State) (j : Job) (good : Bool) : State :=
  let bn := blockNo j.die j.plane j.block
  match (s.blockInfo bn).serial with
  | none => s
  | some n =>
    match s.sb n with
    | none => s
    | some b =>
      if b.state != .closed || j.slot != (j.page + j.plane) % 4 then s
      else
        let s := s.modSb n fun b => { b with verified := b.verified + 1, failing := if good || b.failing.contains bn then b.failing else b.failing ++ [bn] }
        if b.verified + 1 < s.sampleTotal b then s else s.verifyEnds n

/-- The worse of two samples, field by field (R178). -/
def worseOf (a b : SampleWorst) : SampleWorst :=
  ⟨max a.corrected b.corrected, max a.level b.level, a.erased || b.erased, a.uncorr || b.uncorr⟩

/-- A finished codeword as a sample (R178). A tag mismatch, which no row of R178 names, counts as UNCORR does. [DESIGN CHOICE, log 33] -/
def sampleOf (j : Job) : SampleWorst := ⟨bits j.record 0 10, bits j.record 30 2, j.erased, j.uncorr⟩

/-- A Lengthman sample that is due has been read; after the last one of the block the worst decides, and a tracking read of the page with the most corrected bits follows (R177 to R179). [DEDUCED, log 33] -/
def patrolSample (s : State) (j : Job) : State :=
  let bn := blockNo j.die j.plane j.block
  let l := mkLoc j.die j.plane j.block j.page j.slot
  if !s.media.due.contains l then s
  else
    let w := Table.get {} s.media.walk bn
    let q := sampleOf j
    let x : Walk := ⟨w.n + 1, worseOf w.worst q, if w.worst.corrected < q.corrected || w.n == 0 then j.page else w.page⟩
    let done := s.media.samplesDone + 1
    let s := s.modMedia fun m => { m with walk := Table.ins m.walk bn x, samplesDone := done, due := m.due.filter (· != l) }
    let s := if done % 1000 = 0 then s.rsat Reg.FT_PATROL_CNT_SAMPLES_K else s
    let s := s.rset Reg.FT_PATROL_STAT_DONE_PCT (if s.media.samplesTotal = 0 then 100 else min 100 (done * 100 / s.media.samplesTotal))
    match (s.blockInfo bn).serial with
    | none => s
    | some n =>
      match s.sb n with
      | none => s
      | some b =>
        if x.n < s.writtenPages b then s
        else
          let s := s.modMedia fun m => { m with walk := Table.del m.walk bn, trackDue := m.trackDue ++ [(bn, x.page)] }
          let src := s.refreshSource x.worst
          if src = 0 || b.state != .verified then s else s.queueRefresh n src

/-- A sample of a queued block check has been read (R182). -/
def checkSample (s : State) (j : Job) : State :=
  let bn := blockNo j.die j.plane j.block
  let x := Table.get ([], ⟨0, 0, false, false⟩) s.media.checks bn
  if !(s.blockInfo bn).check || !s.sameErase j then s
  else s.modMedia fun m => { m with checks := Table.ins m.checks bn (if x.1.contains j.page then x.1 else x.1 ++ [j.page], worseOf x.2 (sampleOf j)) }

/-- Pages a block check reads: every written page p with p mod 16 equal to n mod 16, n the erase count, and the page that caused it (R182). -/
def checkPages (s : State) (bn : Nat) (b : Superblock) : List Nat :=
  let n := s.eraseCount bn
  (List.range (s.writtenPages b)).filter fun p => p % 16 == n % 16 || (s.blockInfo bn).checkPage == some p

/-- The better of two tracking senses (R122): fewest corrected bits, on a tie nearest the old SHIFT. Of two equally near, j and -j, which the rule does not part, the one sensed first. [DESIGN CHOICE, log 33] -/
def betterSense (a b : Int × Nat × Bool) : Int × Nat × Bool :=
  if b.2.1 < a.2.1 || (b.2.1 == a.2.1 && b.1.natAbs < a.1.natAbs) then b else a

/-- A sense of a tracking read that is due ends; after the fifth the tracker entry is updated, or, every sense failed, the superblock is queued as urgent refresh (R122, R179, R183). -/
def trackSense (s : State) (j : Job) (k : Int) (cb : Nat) (good : Bool) : State :=
  let bn := blockNo j.die j.plane j.block
  if !s.media.trackDue.contains (bn, j.page) then s
  else
    let l := (Table.get [] s.media.sense bn).filter (·.1 != k) ++ [(k, cb, good)]
    if l.length < 5 then s.modMedia fun m => { m with sense := Table.ins m.sense bn l }
    else
      let s := s.modMedia fun m => { m with sense := Table.del m.sense bn, trackDue := m.trackDue.filter (· != (bn, j.page)) }
      if !s.sameErase j then s
      else
        match l.filter (·.2.2) with
        | [] => match (s.blockInfo bn).serial with | some n => s.queueRefresh n 3 | none => s
        | x :: xs =>
          let best := xs.foldl betterSense x
          let old := if bits j.tracker 14 1 = 1 then signed (bits j.tracker 0 8) 8 else 0
          s.trackShift bn (shifted old (best.1 * s.param .readTrackStep)) j.band best.2.1

/-- Mean erase count of a superblock's blocks, as sum and number. -/
def sbWear (s : State) (b : Superblock) : Nat × Nat :=
  let bs := (b.dies.zip b.blocks).flatMap fun q => q.2.zipIdx.map fun r => s.eraseCount (blockNo q.1 r.2 r.1)
  (bs.sum, bs.length)

/-- By how much a superblock's mean lags the device mean, in thousandths of a cycle; 0 within the margin (R185). -/
def lag (s : State) (b : Superblock) : Nat :=
  let (sum, n) := s.sbWear b
  let mean := s.rget Reg.FT_WEAR_PE_MEAN_PE
  if n = 0 || mean * n ≤ sum + s.paramN .wearStaticMargin * n then 0 else (mean * n - sum) * 1000 / n

/-- Inserts by falling lag, the lower serial first on a tie. -/
def byLag (x : Nat × Nat) : List (Nat × Nat) → List (Nat × Nat)
  | [] => [x]
  | y :: t => if y.1 < x.1 then x :: y :: t else y :: byLag x t

/-- An indicator of the last hour: its current bit, its sticky bit, its event (R189, R310). -/
def indicator (s : State) (k : Nat) (f : Field) (on : Bool) : State :=
  let s := s.rset f (bit on)
  if on then
    let st := s.rget Reg.FT_WEAR_STAT_STICKY
    (s.rset Reg.FT_WEAR_STAT_STICKY (if st / 2 ^ (k - 1) % 2 = 1 then st else st + 2 ^ (k - 1))).postVendor k
  else s

/-- Verified superblocks in the order of a pass: group by group, ascending serial (R177). -/
def passSbs (s : State) : List (Nat × Superblock) :=
  (List.range s.groupCount).flatMap fun g => s.media.nand.sbs.filter fun p => p.2.group == g && p.2.state == .verified

/-- Blocks of a superblock in position order, planes ascending. -/
def sbBlocks (b : Superblock) : List Nat := (b.dies.zip b.blocks).flatMap fun q => q.2.zipIdx.map fun r => blockNo q.1 r.2 r.1

/-- A patrol pass begins (R177). -/
def newPass (s : State) : State :=
  let sbs := s.passSbs
  let total := (sbs.map fun p => s.sampleTotal p.2).sum
  let s := s.modMedia fun m => { m with
    pass := m.pass + 1, samplesLeft := total, samplesDone := 0, samplesTotal := total, walk := [], due := [], walkPos := 0
    walkBlocks := sbs.flatMap fun p => sbBlocks p.2 }
  (s.rset Reg.FT_PATROL_STAT_PASS s.media.pass).rset Reg.FT_PATROL_STAT_DONE_PCT 0

/-- A pass of the counters-only scheme begins: one tracking read of every block, on page 127 n mod the pages of a block (R179, R184). -/
def newTrackPass (s : State) : State :=
  let s := s.modMedia fun m => { m with pass := m.pass + 1 }
  let pg := 127 * s.media.pass % max 1 s.pagesPer
  (s.modMedia fun m => { m with trackDue := s.passSbs.flatMap fun p => (sbBlocks p.2).map fun b => (b, pg) }).rset Reg.FT_PATROL_STAT_PASS s.media.pass

/-- Samples of a block: its superblock's written pages; none once the superblock is no longer verified. -/
def blockSamples (s : State) (bn : Nat) : Nat :=
  match (s.blockInfo bn).serial.bind s.sb with
  | some b => if b.state == .verified then s.writtenPages b else 0
  | none => 0

/-- The next `k` samples of the walk, for page p and plane q in pass n slot (p + q + n) mod 4, and where the walk then stands (R177). -/
def nextSamples (s : State) : Nat → Nat → List Nat → Nat → List Nat × List Nat × Nat
  | 0, _, bs, pos => ([], bs, pos)
  | _, 0, bs, pos => ([], bs, pos)
  | _, _, [], _ => ([], [], 0)
  | fuel + 1, k + 1, b :: bs, pos =>
    if pos < s.blockSamples b then
      let r := nextSamples s fuel k (b :: bs) (pos + 1)
      ((b * 2 ^ 14 + pos * 4 + (pos + b / 4096 % 4 + s.media.pass) % 4) :: r.1, r.2)
    else nextSamples s fuel (k + 1) bs 0

/-- The Lengthman registers `k` samples (R177). -/
def registerSamples (s : State) (k : Nat) : State :=
  let m := s.media
  let r := s.nextSamples (k + m.walkBlocks.length) k m.walkBlocks m.walkPos
  s.modMedia fun m => { m with due := m.due ++ r.1, walkBlocks := r.2.1, walkPos := r.2.2, samplesLeft := m.samplesLeft - k }

/-- Ages every tracker entry by days, AGE saturating at 255 (R179, R180). -/
def ageTrackers (s : State) (days : Nat) : State :=
  let older := fun (v : Nat) => v - bits v 16 8 * 2 ^ 16 + min 255 (bits v 16 8 + days) * 2 ^ 16
  { s with flash := { s.flash with trackers := s.flash.trackers.map (fun (p : Nat × Nat) => (p.1, older p.2)), trackAge := s.flash.trackAge + days } }

end State

/-- PATROL_PERIOD (R177, R179, R184): the Lengthman registers its share of the samples left in the pass; a pass that ends with samples outstanding sets LATE and is finished first; else the next pass begins. The counters-only scheme makes tracking reads alone. [DEDUCED, log 33] -/
def execPatrolPeriod (periodsLeft : Nat) (s : State) : Result :=
  if s.media.quiesced then .next s
  else if s.paramN .patrolDisturbScheme = 1 then .next (if periodsLeft = 0 then s.newTrackPass else s)
  else if 0 < periodsLeft then .next (s.registerSamples (ceilDiv s.media.samplesLeft periodsLeft))
  else if !s.media.due.isEmpty || !s.media.walkBlocks.isEmpty then
    .next ((s.rset Reg.FT_PATROL_STAT_LATE 1).registerSamples s.media.samplesLeft)
  else .next s.newPass

/-- TRACKER_AGE (R179): a day of tick time has passed; AGE of every tracker entry grows by one, saturating at 255. [DEDUCED, log 32] -/
def execTrackerAge (s : State) : Result := .next (s.ageTrackers 1)

/-- BLOCK_CHECK (R178, R182, R183): the samples of a queued block check have been read. A check of a closed superblock that is not yet verified waits, as one of an open superblock does, of which the rule says nothing; one whose superblock failed verification is dropped. [DESIGN CHOICE, log 33] -/
def execBlockCheck (ch die plane block : Nat) (s : State) : Result :=
  let bn := State.blockNo (32 * ch + die) plane block
  let i := s.blockInfo bn
  if !i.check then .next s
  else
    let drop := (s.modBlock bn fun i => { i with check := false, checkPage := none }).modMedia fun m => { m with checks := Table.del m.checks bn }
    match i.serial with
    | none => .next drop
    | some n =>
      match s.sb n with
      | none => .next drop
      | some b =>
        match b.state with
        | .open_ | .closed => .next s
        | .failedVerify | .eligible => .next drop
        | .verified =>
          let x := Table.get ([], ⟨0, 0, false, false⟩) s.media.checks bn
          if (s.checkPages bn b).any fun p => !x.1.contains p then .next s
          else match s.refreshSource x.2 with
            | 0 => .next ((drop.modBlock bn fun i => { i with milepost := s.paramN .patrolMilepostLimit / 2 }).rsat Reg.FT_MILEPOST_CNT_CHECK_CLEAN)
            | k + 1 => .next ((drop.queueRefresh n (k + 1)).rsat Reg.FT_MILEPOST_CNT_CHECK_REFRESH)

/-- STATIC_RELOCATION_SCAN (R185): in each die group the superblocks that lag the device mean most are queued as source 6, at most static_per_day of them. -/
def execStaticRelocationScan (s : State) : Result :=
  let s := s.wearStat
  let limit := s.paramN .wearStaticPerDay
  .next ((List.range s.groupCount).foldl (fun s g =>
    let cand := (s.media.nand.sbs.filter fun p => p.2.group == g && p.2.state == .verified && decide (0 < s.lag p.2)).map fun p => (s.lag p.2, p.1)
    let worst := (cand.foldl (fun l x => State.byLag x l) []).take limit
    worst.foldl (fun s x => s.condemn x.2 6) (s.modGrp g fun x => { x with staticToday := worst.length })) s)

/-- INDICATOR_UPDATE (R189, R190, R310): indicators 1 to 3 over the last hour, then the wear and spare indicators. -/
def execIndicatorUpdate (s : State) : Result :=
  let m := s.media
  let ppm := fun (a b : Nat) => if b = 0 then 0 else a * 1000000 / b
  let above := fun (a b lim : Nat) => decide (lim * b < a * 1000000)
  let s := s.indicator 1 Reg.FT_WEAR_STAT_EW_RATE (above m.hourEw m.hourReads (s.paramN .wearEwRatePpm))
  let s := s.indicator 2 Reg.FT_WEAR_STAT_RETRY_RATE (above m.hourRetry m.hourReads (s.paramN .wearRetryRatePpm))
  let s := s.indicator 3 Reg.FT_WEAR_STAT_CLASS_LOSS (above m.hourLoss m.hourHost (s.paramN .wearClassLossPpm))
  let s := s.modMedia fun x => { x with
    rates := [ppm m.hourEw m.hourReads, ppm m.hourRetry m.hourReads, ppm m.hourLoss m.hourHost]
    hourReads := 0, hourEw := 0, hourRetry := 0, hourHost := 0, hourLoss := 0 }
  .next s.wearStat.spareCheck

end Sys2Proof.Machine
end

