-- ==== Sys2Proof/Machine/ReadDone.lean ====
section
/-! DEFINITION. The end of a codeword's decode and what its owner does with it (chapters 05 to 07): HARD_DECODE_DONE, SOFT_DECODE_DONE, RECONSTRUCTION. -/

namespace Sys2Proof.Machine

namespace State

/-- Location of the IU a job's codeword belongs to: its own slot, or slot 0 of a 16 KiB IU (R137). -/
def jobLoc (s : State) (j : Job) : Nat :=
  let l := mkLoc j.die j.plane j.block j.page j.slot
  if (Table.find s.media.nand.content l).isSome then l else mkLoc j.die j.plane j.block j.page 0

/-- The IU at a job's location is marked UNREC with a record of type 0x04, while the map still names that location (R142, R153). -/
def unrecJob (s : State) (j : Job) : State :=
  let l := s.jobLoc j
  match Table.find s.media.nand.content l with
  | none => s
  | some x => if s.mapGet x.slot x.iu = l then s.mapRecords x.slot [(x.iu, entUnrec, 4)] else s

/-- Fields of a read record (R129). -/
def recField (j : Job) (lo width : Nat) : Nat := bits j.record lo width

/-- Counts a finished codeword in the hour's figures (R189). -/
def countHour (s : State) (j : Job) : State :=
  s.modMedia fun m => { m with
    hourReads := m.hourReads + 1
    hourEw := m.hourEw + recField j 10 1
    hourRetry := m.hourRetry + (if 0 < recField j 30 2 then 1 else 0) }

/-- Early warning (R130, R182): a codeword with EW, read by anything but a Lengthman sample, queues a check of its block. -/
def earlyWarning (s : State) (j : Job) : State :=
  let bn := blockNo j.die j.plane j.block
  let queue := recField j 10 1 == 1 && j.owner != .patrol && (s.blockInfo bn).serial.isSome && s.sameErase j
  if queue then s.modBlock bn fun i => { i with check := true, checkPage := if i.check then i.checkPage else some j.page } else s

/-- What an unrecoverable codeword does to the map: UNREC; a tag mismatch is counted and logged (R142, R153). -/
def loseIu (s : State) (j : Job) (lba nsid : Nat) : State :=
  let s := if recField j 45 1 = 1 then (s.rsat Reg.FT_MAP_CNT_TAG_UNREC).logIncident 0x11 0xFF 0 0xFF [j.lba, j.nsid, lba, nsid] else s
  s.unrecJob j

/-- Transfer ticks beyond the first that R37 reserved for the read a codeword belongs to. -/
def extraTicks (s : State) (n : Nat) : Nat :=
  match s.flash.xreads.find? fun x => x.jobs.contains n with
  | some x => x.xfer.eraseDups.length - 1
  | none => 0

/-- The owner of a finished codeword takes it (R14, R142, R153, R154, R178, R179): the job is gone. `lba` and `nsid` are the tags found. -/
def ownerTakes (s : State) (n : Nat) (j : Job) (lba nsid : Nat) : State :=
  let s := { s with flash := { s.flash with jobs := Table.del s.flash.jobs n } }
  let s := (s.countHour j).earlyWarning j
  let level := recField j 30 2
  let cb := recField j 0 10
  match j.owner with
  | .host c iu part =>
    let s := s.modCtxN c fun x => { x with jobs := x.jobs.filter (· != n), slow := max x.slow (s.slowNs j.die), expDie := some j.die, extra := max x.extra (s.extraTicks n) }
    let s := if level = 0 && j.good then s else s.leaveClass c
    if j.good then
      match Table.find s.media.nand.content (s.jobLoc j), s.ctx c with
      | some x, some cx =>
        match s.nsOf cx.sqe.nsid with
        | some ns => s.deliver c ns iu part ((x.blocks.drop (part * ns.bpp)).take ns.bpp)
        | none => s
      | _, _ => s
    else
      let s := s.loseIu j lba nsid
      match s.ctx c with
      | some cx => match s.nsOf cx.sqe.nsid with | some ns => s.losePart c ns iu part | none => s
      | none => s
  | .patrol => (if j.good then s else s.loseIu j lba nsid).patrolSample j
  | .verify => s.verifySample j (j.good && decide (level ≤ 1 ∧ cb ≤ s.paramN .translationVerifyCbMax))
  | .tracking k => s.trackSense j k cb j.good
  | .relocation =>
    let l := mkLoc j.die j.plane j.block j.page j.slot
    if j.good then s.modMedia fun m => { m with readCopies := if m.readCopies.contains l then m.readCopies else m.readCopies ++ [l] } else s.loseIu j lba nsid
  | .check => (if j.good then s else s.loseIu j lba nsid).checkSample j
  | .selfTest => s
  | .other => s

/-- After an attempt: a finished codeword goes to its owner; a host codeword that rises takes its read out of the first-attempt class (R127, R128). -/
def afterAttempt (s : State) (n lba nsid : Nat) : State :=
  let s := match Table.find s.flash.jobs n with
    | none => s
    | some j =>
      if j.state = JobState.done then s.ownerTakes n j lba nsid
      else match j.owner with
        | .host c _ _ => s.leaveClass c
        | _ => s
  s.pruneXReads

/-- The Fogman's READ_FAIL (R507): the first decode of a codeword of the armed die uses an injection; decodes through level LEVELS do not converge. -/
def injectRead (s : State) (n : Nat) (r : DecRes) : State × DecRes :=
  match Table.find s.flash.jobs n with
  | none => (s, r)
  | some j =>
    let hit := s.fogNand 1 j.die && j.level == 0 && j.state == .hard
    let upTo := if hit then s.rget Reg.FG_NAND_LEVELS + 1 else j.failTo
    (if hit then s.usedNand.setJob n { j with failTo := upTo } else s, if j.level < upTo then { r with converged := false } else r)

/-- The parity, or parcels, that level 3 can rebuild a codeword from (R150, R153): the parcels of a stripe that has not passed; open parity until the superblock is thinned; close parity that was programmed, once it is thinned or where no open parity is kept. -/
def parityFor (s : State) (j : Job) : Bool :=
  match (s.blockInfo (blockNo j.die j.plane j.block)).serial.bind s.sb with
  | none => false
  | some b =>
    let stripe := j.page / max 1 (s.wlPages b.slc)
    let close := b.closeParity && b.parity.contains stripe
    match b.stream with
    | .metadata | .holdup => close
    | _ => if !b.passed.contains stripe then b.units.any fun u => u.1 / 64 == stripe && !u.2.parcels.isEmpty
      else if b.thinned then close else !b.parityIn.isEmpty

end State

/-- HARD_DECODE_DONE (R116, R122 to R130, R142, R154, R178, R179): the hard-decision decode in progress of a codeword ends. -/
def execHardDecodeDone (n : Nat) (r : DecRes) (s : State) : Result :=
  if !s.inDecoder false n then .next s
  else
    let (s, r) := s.injectRead n r
    .next ((s.decodeDone n false r).afterAttempt n r.lba r.nsid)

/-- SOFT_DECODE_DONE (R116, R122 to R126): the soft-decision decode in progress of a codeword ends. -/
def execSoftDecodeDone (n : Nat) (r : DecRes) (s : State) : Result :=
  if !s.inDecoder true n then .next s
  else
    let (s, r) := s.injectRead n r
    .next ((s.decodeDone n true r).afterAttempt n r.lba r.nsid)

/-- RECONSTRUCTION (R124, R142, R153): level 3 ends. `ok`: every codeword that the method needs decoded by level 2; a superblock without the parity needed, or a rebuilt payload whose tags differ, makes it fail. Successes and failures are counted, an IU that stays unrecoverable becomes UNREC. -/
def execReconstruction (n : Nat) (ok : Bool) (lba nsid : Nat) (s : State) : Result :=
  match Table.find s.flash.jobs n with
  | none => .next s
  | some j =>
    if j.state != .recon then .next s
    else
      let ok := ok && s.parityFor j
      let s := s.rsat (if ok && lba == j.lba && nsid == j.nsid then Reg.FT_PARITY_CNT_RECON_OK else Reg.FT_PARITY_CNT_RECON_FAIL)
      .next ((s.reconDone n ok lba nsid).afterAttempt n lba nsid)

end Sys2Proof.Machine
end

