-- ==== Sys2Proof/Machine/HoldUp.lean ====
section
/-! DEFINITION. The Tender, the bank measurement, the dirty limit and the power-loss flush (chapter 08). RECOVERY stands in Recover.lean, INPUT_RECOVERED and POWER_LOSS in Restart.lean. -/

namespace Sys2Proof.Machine

namespace State

/-- Voltage of a 12-bit conversion in mV: full scale 1200 mV before the divider (R197, R516). [PRESUMED, log 34] -/
def senseMv (code div : Nat) : Nat := min 65535 (min code 4095 * 1200 * div / 4096)

/-- Groups in service and not closed to new superblocks: G of R200. -/
def flushGroups (s : State) : List Nat := (List.range s.groupCount).filter fun g => !s.closedToNew g

/-- Data positions of a group's hold-up superblock, or of the one its dies would give (R200, R204). -/
def holdupData (s : State) (g : Nat) : Nat :=
  match s.openSb g .holdup with
  | some n => ((s.sb n).map fun b => b.dies.length - 1).getD 0
  | none => (s.groupDies g).length - 1

/-- N of R200. -/
def flushPrograms (s : State) : Nat := min (s.paramN .holdupFlushPrograms) (s.rget Reg.TT_BUDGET_CFG_MAX_PROG)

/-- T_FLUSH(L) in ns (R200), for given G, D, u, N and program times. -/
def flushNs (g d u n tSlc tProg l : Nat) : Nat :=
  let k := ceilDiv l (g * u)
  let units := g * (k + ceilDiv k d)
  let rounds := ceilDiv units n + ceilDiv (g + 2) n
  200000 + tProg + rounds * ((ceilDiv tSlc 8192 + 1) * 8192)

/-- T_FLUSH of L dirty parcels for the dies in service (R200). -/
def tFlush (s : State) (l : Nat) : Nat :=
  let gs := s.flushGroups
  flushNs gs.length (max 1 (minOf (gs.map s.holdupData))) (4 * s.planesPer) s.flushPrograms
    ((s.serviceDies.map fun d => (s.die d).tProgSlc).foldl max 0) ((s.serviceDies.map fun d => (s.die d).tProg).foldl max 0) l

/-- T_avail in ns for a bank voltage, before it is floored at 0: E / flush power less the reserve (R201). -/
def availNs (s : State) (mv : Nat) : Int :=
  let lo := s.paramN .holdupVMinMv
  if mv ≤ lo then 0
  else (s.media.cap * (mv * mv - lo * lo) * s.paramN .holdupEfficiencyPct / (200 * s.paramN .holdupFlushPowerMw) : Nat) - (s.paramN .holdupReserveUs * 1000 : Nat)

/-- The largest L up to 65,536 whose flush fits: T_FLUSH never falls as L grows, so the bits of L are found from the top (R201). -/
def largestL (fits : Nat → Bool) : Nat :=
  (List.range 17).foldl (fun l i => let c := l + 2 ^ (16 - i); if c ≤ 65536 && fits c then c else l) 0

/-- TENDER_MAX for a bank voltage (R201). -/
def tenderFor (s : State) (mv : Nat) : Nat :=
  if mv ≤ s.paramN .holdupVMinMv ∨ s.media.cap = 0 ∨ s.flushGroups.isEmpty then 0
  else largestL fun l => decide ((s.tFlush l : Int) ≤ s.availNs mv)

/-- Writes TENDER_MAX; FT_DIRTY.LIMIT is clamped to it, and follows it where it stood at it (R144, R201). [DEDUCED, log 27] -/
def setTender (s : State) (v : Nat) : State :=
  let l := s.rget Reg.FT_DIRTY_LIMIT
  let follows := l == s.rget Reg.FT_DIRTY_MAX_TENDER_MAX
  (s.rset Reg.FT_DIRTY_MAX_TENDER_MAX v).rset Reg.FT_DIRTY_LIMIT (if follows then v else min l v)

/-- R201 for the present bank voltage: AVAIL and TENDER_MAX, held down by a repeat measurement (R199). -/
def tenderUpdate (s : State) : State :=
  let mv := s.rget Reg.FT_HU_VOLT_BANK_MV
  let s := s.rset Reg.FT_HU_CAP_AVAIL (min 65535 ((s.availNs mv).toNat / 10000))
  let v := s.tenderFor mv
  s.setTender (match s.media.measureCap with | some c => min c v | none => v)

/-- A write that now completes only after step 9 (R18, R203): its IUs whose map update has not run are waited for, the journal so far must be durable. -/
def throughCtx (s : State) (c : Ctx) : Ctx :=
  if c.parcels.isEmpty || c.word == .done then c
  else
    let left := c.parcels.filter fun p => let x := s.parcel p; x.first == p && x.state != .clean && x.state != .free && x.seq == c.seq
    { c with throughWrite := true, waitIus := left.map fun p => c.seq * 2 ^ 40 + (s.parcel p).iu, needDurable := some (max s.media.nextSeq (c.needDurable.getD 0)) }

/-- The write cache is withdrawn (R203): write-through handling, dirty parcels to the front, WITHDRAWN, event 0x05. -/
def withdraw (s : State) : State :=
  if !s.cachePresent then s
  else
    let cs := s.adm.ctxs.map fun (p : Nat × Ctx) => (p.1, s.throughCtx p.2)
    let s := { s with adm := { s.adm with ctxs := cs } }
    let s := s.modMedia fun m => { m with parcels := m.parcels.map fun (p : Nat × Parcel) => (p.1, { p.2 with urgent := true }) }
    ((s.rset Reg.FT_HU_STAT_WITHDRAWN 1).rset Reg.FT_STAT_VWC 0).postVendor 5

/-- Hold-up Measure commands complete with the capacitance (R324). -/
def measureDone (s : State) : State :=
  ((s.adm.ctxs.filter fun q => q.2.sqid == 0 && q.2.sqe.opcode == 0xC5 && q.2.fetched && q.2.status.isNone).map (·.1)).foldl
    (fun s n => s.finish n stOk (s.rget Reg.FT_HU_CAP_CAP)) s

/-- A measurement ends (R198, R199): charger on, load off, C and its register; a repeat measurement that failed or leaves too low a limit withdraws the cache. -/
def endMeasure (s : State) (cap : Nat) (ok : Bool) : State :=
  let rep := s.media.repeatRun
  let s := s.modMedia fun m => { m with
    cap := cap, measure := .idle, repeatRun := false, bootMeasured := true, measureCap := none, measuredAt := s.flash.tick, chgEn := true, dis := false }
  let s := (s.rset Reg.FT_HU_CAP_CAP (min 65535 (cap / 10))).rset Reg.FT_HU_STAT_MEASURING 0
  let s := if ok then s.rset Reg.FT_HU_STAT_MEASURED 1 else s.rsat Reg.FT_HU_CNT_MEASURE_FAILS
  let s := s.tenderUpdate
  if rep && (!ok || decide (s.rget Reg.FT_DIRTY_MAX_TENDER_MAX < s.paramN .holdupMinParcels)) then s.withdraw.measureDone else s.measureDone

/-- Starts a repeat measurement: the limit is lowered first (R199). -/
def startRepeat (s : State) : State :=
  if s.paramN .holdupEnable = 0 || s.media.measure != .idle || !s.media.bootMeasured || s.flushing then s
  else
    let c := s.tenderFor (s.rget Reg.FT_HU_VOLT_BANK_MV - s.paramN .holdupMeasureDropMv)
    let s := s.modMedia fun m => { m with measure := .lowering, repeatRun := true, measureCap := some c }
    (s.rset Reg.FT_HU_STAT_MEASURING 1).setTender (min c (s.rget Reg.FT_DIRTY_MAX_TENDER_MAX))

/-- Starts the boot measurement (R199); without hold-up the Tender measures nothing. -/
def startBootMeasure (s : State) : State :=
  if s.paramN .holdupEnable = 0 then s.modMedia fun m => { m with bootMeasured := true }
  else (s.modMedia fun m => { m with measure := .settling }).rset Reg.FT_HU_STAT_MEASURING 1

/-- SAG follows TENDER_MAX, but for a repeat measurement (R199, R203). A sag is counted at its end, and only with the cache present: the rule names neither. [DESIGN CHOICE, log 27] -/
def sagUpdate (s : State) : State :=
  if s.media.repeatRun then s
  else
    let low := decide (s.rget Reg.FT_DIRTY_MAX_TENDER_MAX < s.paramN .holdupMinParcels)
    let ended := s.flag Reg.FT_HU_STAT_SAG && !low && s.cachePresent
    let s := if ended then s.rsat Reg.FT_HU_CNT_SAG_EVENTS else s
    (s.rset Reg.FT_HU_STAT_SAG (bit low)).modMedia fun m => { m with sagMs := if low then m.sagMs + 1 else 0 }

/-- The entry an IU has by committed commands alone: a change of a command that is not committed is undone (R208). [DEDUCED, log 26] -/
def committedEntry (s : State) (key e : Nat) : Nat :=
  match (s.adm.ctxs.find? fun p => p.2.word != .done && p.2.changed.any fun r => r.1 == key) with
  | some p => ((p.2.changed.find? fun r => r.1 == key).map fun r => r.2.1).getD e
  | none => e

/-- The flush set (R208): the first parcels of the IUs whose newest committed state is a parcel, in IU-index order. [DEDUCED, log 35] -/
def flushSet (s : State) : List Nat :=
  let open_ := s.adm.ctxs.flatMap fun p => if p.2.word != .done then p.2.changed.map (·.1) else []
  let keys : Table Nat := open_.foldl (fun t k => Table.ins t k (Table.get entDealloc s.media.map k)) s.media.map
  keys.filterMap fun q =>
    let e := s.committedEntry q.1 q.2
    if isInbuf e then some (e % 65536) else none

/-- The parcel number that stands for a pad codeword in a flush unit (R141, R209). -/
def padParcel : Nat := 65536

/-- The parcels of written IUs in codeword order: the four of a 16 KiB IU start at a slot 0, pad codewords before them where needed (R137). -/
def alignIus (l : List (List Nat)) : List Nat :=
  l.foldl (fun a ps => if ps.length = 4 then a ++ List.replicate ((4 - a.length % 4) % 4) padParcel ++ ps else a ++ ps) []

/-- Splits a list into pieces of `n`. -/
def chunks (n : Nat) : Nat → List Nat → List (List Nat)
  | 0, _ => []
  | f + 1, l => if l.isEmpty then [] else l.take n :: chunks n f (l.drop n)

/-- Stripe and position of the i-th data unit of a hold-up superblock of serial n and w positions (R204, R209). Stripe 0 holds the header codewords of its open, and no data: a data unit takes every slot of its pages (R148, R200). [DESIGN CHOICE, log 35] -/
def holdupSpot (n w i : Nat) : Nat × Nat :=
  let d := max 1 (w - 1)
  let p := i % d
  (i / d + 1, if n % max 1 w ≤ p then p + 1 else p)

/-- Flush units of a group in order: each stripe's data, then its close parity (R209). -/
def groupUnits (g n : Nat) (b : Superblock) (us : List (List Nat)) : List FlushUnit :=
  let w := b.dies.length
  let d := max 1 (w - 1)
  us.zipIdx.flatMap fun q =>
    let spot := holdupSpot n w q.2
    let u : FlushUnit := { group := g, kind := .data, serial := n, stripe := spot.1, pos := spot.2, die := b.dies.getD spot.2 0, parcels := q.1 }
    let last := decide (q.2 + 1 = us.length) || decide ((q.2 + 1) % d = 0)
    if last then [u, { group := g, kind := .parity, serial := n, stripe := spot.1, pos := n % max 1 w, die := b.dies.getD (n % max 1 w) 0, parcels := [] }] else [u]

/-- Round-robin share `i` of `n` of a list. -/
def share {α : Type} (i n : Nat) (l : List α) : List α := (l.zipIdx.filter fun q => q.2 % max 1 n == i).map (·.1)

/-- The flush programs (R209): the parcels of the flush set, u to a unit, dealt to the groups in turn; a summary per group; two copies of the open journal page. -/
def flushPlan (s : State) : List FlushUnit :=
  let ps := alignIus (s.flushSet.map fun p => s.iuParcels p)
  let us := chunks (4 * s.planesPer) (ps.length + 1) ps
  let gs := s.flushGroups.filterMap fun g => match s.openSb g .holdup with | some n => (s.sb n).map fun b => (g, n, b) | none => none
  let k := gs.length
  let data := gs.zipIdx.flatMap fun q => groupUnits q.1.1 q.1.2.1 q.1.2.2 (share q.2 k us)
  let sums := gs.zipIdx.map fun q =>
    let n := (share q.2 k us).length
    let spot := holdupSpot q.1.2.1 q.1.2.2.dies.length n
    ({ group := q.1.1, kind := .summary, serial := q.1.2.1, stripe := spot.1, pos := spot.2, die := q.1.2.2.dies.getD spot.2 0, parcels := [] } : FlushUnit)
  let jr := if s.media.openPage.isEmpty && s.media.pages.isEmpty then []
    else s.jrnlDies.zipIdx.map fun q => ({ group := s.groupOf q.1, kind := .journal, serial := 0, stripe := 0, pos := q.2, die := q.1, parcels := [] } : FlushUnit)
  data ++ sums ++ jr

/-- What a flush does to a die (R207): reads, loads and erases end by a LUN reset; a suspended program resumes, its reads' data discarded. An ended erase leaves its block not erased. -/
def flushDie (s : State) (d : Nat) : State :=
  let x := s.die d
  let erased := x.ctx.op == 6 || x.others.any (·.op == 6)
  let a := if x.ctx.op == 6 then x.ctx.arg else ((x.others.find? (·.op == 6)).map (·.arg)).getD x.ctx.arg
  match x.state with
  | .idle | .isolated | .absent | .prog => s
  | .suspProg => s.setDie d { x with reads := [], resumeAt := some s.flash.tick, request := none }
  | _ =>
    let s := (s.emit (.lunReset d)).failDie d .idle
    if erased then
      ((List.range 4).filter fun p => a.planes / 2 ^ p % 2 == 1).foldl (fun s p => s.modBlock (blockNo d p a.block) fun i => { i with dirty := true }) s
    else s

/-- A ticket ends and the gate closes (R505): armed controls, flip masks and lane tests are cleared; at level 0 the gate stays open. -/
def endTicket (s : State) : State :=
  let was := s.plat.ticket.isSome
  let s := ({ s with plat := { s.plat with ticket := none } }).rset Reg.GD_TICKET_ACTIVE 0
  let s := s.rset Reg.FG_STAT_GATE_OPEN (bit s.gateAny)
  if !was || s.gateAny then s
  else
    let s := if s.anythingArmed then s.rset Reg.FG_STAT_DISARMED 1 else s
    s.disarm.rset Reg.FG_LANE_CTRL_RUN 0

/-- The flush begins (R207, R208, R505, R508) with a cause: 1 power fail, 2 thermal. [DEDUCED, log 35] -/
def beginFlush (s : State) (cause : Nat) : State :=
  let s := s.endTicket
  let s := if s.anythingArmed then s.disarm else s
  let plan := s.flushPlan
  let s := { s with flash := { s.flash with xreads := [], jobs := [], decoders := [], startsStopped := true } }
  let s := (s.flash.dies.map (·.1)).foldl flushDie s
  let s := s.modMedia fun m => { m with readCopies := [], due := [] }
  let s := s.rset Reg.TT_BUDGET_EFF_PROG s.flushPrograms
  let sums := (s.flushGroups.filterMap fun g => s.openSb g .holdup).map fun n => ({ serial := n } : HoldSum)
  let s := s.modMedia fun m => { m with
    flush := .running, flushUnits := plan, flushStart := s.flash.tick, chgEn := false, dis := false, measure := .idle, repeatRun := false, measureCap := none, vinHigh := 0 }
  s.modNand fun x => { x with flushed := sums, flushCause := cause, flushOk := false, flushParcels := 0, flushTime := 0 }

/-- A flush program may be loaded (R209): data and parity at once, a summary once its group's data and parity have ended, the journal page once every group's have. -/
def flushReady (us : List FlushUnit) (u : FlushUnit) : Bool :=
  let data := fun (v : FlushUnit) => v.kind == .data || v.kind == .parity
  match u.kind with
  | .data => true
  | .parity => us.all fun v => v.group != u.group || v.stripe != u.stripe || v.kind != .data || v.loaded
  | .summary => us.all fun v => v.group != u.group || !data v || v.ended
  | .journal => us.all fun v => !data v || v.ended

/-- Loads the first programs that may be loaded, as many as the budget has places (R209). -/
def loadUnits (all : List FlushUnit) : Nat → List FlushUnit → List FlushUnit
  | _, [] => []
  | n, u :: us =>
    if n = 0 || u.loaded || !flushReady all u then u :: loadUnits all n us
    else { u with loaded := true } :: loadUnits all (n - 1) us

/-- Every flush program that is loaded and has not ended. -/
def flushBusy (s : State) : List FlushUnit := s.media.flushUnits.filter fun u => u.loaded && !u.ended

/-- WP_N goes low on every channel that has no flush program or program in progress left, once the final round is placed (R63, R210). -/
def dropWp (s : State) : State :=
  let us := s.media.flushUnits
  if us.any fun u => !u.loaded then s
  else (List.range s.channels).foldl (fun s ch =>
    if us.any (fun u => chOf u.die == ch && !u.ended) || (diesOf ch).any (fun d => (s.die d).state == .prog) then s else s.rset (Reg.SB_CH_STAT_WP ch) 0) s

/-- The parcels of a passed data unit are on flash: the codewords with their tags and WSEQ in ascending order (R204, R208). -/
def flushContent (s : State) (u : FlushUnit) : State :=
  match s.sb u.serial with
  | none => s
  | some b =>
    u.parcels.zipIdx.foldl (fun s q =>
      let x := s.parcel q.1
      let nsid := ((Table.find s.media.nand.ns (x.slot % 128)).map (·.nsid)).getD 0
      if x.first != q.1 then s
      else
        let st : Stored := ⟨x.slot, nsid, x.iu, s.media.wseq, false, x.merge, s.iuBlocks (s.iuParcels q.1)⟩
        let l := s.unitLoc b u.stripe u.pos q.2
        (s.modNand fun y => { y with content := Table.ins y.content l st }).modMedia fun m => { m with wseq := m.wseq + 1 }) s

/-- The journal's committed and open pages are durable (R209). -/
def journalAll (s : State) : State :=
  let s := s.commitPage
  (s.modMedia fun m => { m with pages := [] }).pagesDurable s.media.pages

/-- What a passed flush program leaves on flash (R204, R209). -/
def flushPassed (s : State) (u : FlushUnit) : State :=
  match u.kind with
  | .data =>
    let w := s.media.wseq
    let k := (u.parcels.filter (· != padParcel)).length
    let s := s.flushContent u
    let hi := s.media.wseq - 1
    s.modNand fun x => { x with
      flushParcels := x.flushParcels + k
      flushed := x.flushed.map fun q => if q.serial = u.serial then { q with parcels := q.parcels + k, lo := if q.parcels = 0 then w else min q.lo w, hi := max q.hi hi } else q }
  | .parity => s.modSb u.serial fun b => { b with parity := b.parity ++ [u.stripe] }
  | .summary => s.modNand fun x => { x with flushed := x.flushed.map fun q => if q.serial = u.serial then { q with written := true } else q }
  | .journal => if s.media.openPage.isEmpty && s.media.pages.isEmpty then s else s.journalAll

/-- The next free position of a hold-up superblock in the plan. -/
def nextSpot (us : List FlushUnit) (u : FlushUnit) (b : Superblock) : FlushUnit :=
  let n := (us.filter fun v => v.group == u.group && (v.kind == .data || v.kind == .summary)).length
  let spot := holdupSpot u.serial b.dies.length n
  { u with stripe := spot.1, pos := spot.2, die := b.dies.getD spot.2 0, loaded := false, ended := false, passed := false }

/-- A program of the flush failed (R209): data and a summary are placed again at the group's next free position; close parity and a journal page copy are not. -/
def replaceUnit (s : State) (u : FlushUnit) : State :=
  match u.kind, s.sb u.serial with
  | .data, some b | .summary, some b => s.modMedia fun m => { m with flushUnits := m.flushUnits ++ [nextSpot m.flushUnits u b] }
  | _, _ => s

/-- The flush is over when every program has ended (R210): FLUSH_DONE, the duration, the charger on again. -/
def finishFlush (s : State) : State :=
  if s.media.flush != .running || s.media.flushUnits.any (fun u => !u.ended) then s
  else
    let ns := (s.flash.tick - s.media.flushStart) * 8192
    let s := (s.rset Reg.FT_HU_STAT_FLUSH_DONE 1).modMedia fun m => { m with flush := .done, chgEn := true, vinHigh := 0 }
    let s := (List.range s.channels).foldl (fun s ch => s.rset (Reg.SB_CH_STAT_WP ch) 0) s
    s.saveIncidents.modNand fun x => { x with flushOk := x.flushed.all (·.written), flushTime := min 32767 (ns / 100000) }

end State

/-- TENDER_SAMPLE (R197, R205, R206, R516): voltages; the time the input has been low, or high again after a flush; a dip shorter than the filter is a glitch. [PRESUMED, log 34] -/
def execTenderSample (bank vin : Nat) (s : State) : Result :=
  let v := State.senseMv vin (s.paramN .holdupVinDiv)
  let s := (s.rset Reg.FT_HU_VOLT_BANK_MV (State.senseMv bank (s.paramN .holdupSenseDiv))).rset Reg.FT_HU_VOLT_VIN_MV v
  let low := decide (v < s.paramN .holdupVinFailMv) && decide (vin < 4095)
  let glitch := !low && decide (0 < s.media.vinLow) && !s.flushing
  let s := if glitch then s.rsat Reg.FT_HU_CNT_GLITCHES else s
  .next (s.modMedia fun m => { m with
    bankFull := decide (4095 ≤ bank)
    vinLow := if low then m.vinLow + 1 else 0
    vinHigh := if low then 0 else if m.flush == .done then m.vinHigh + 10 else 0 })

/-- TENDER_LIMIT_UPDATE (R201, R203): TENDER_MAX for the present bank voltage, AVAIL, SAG. Without hold-up nothing is computed. -/
def execTenderLimitUpdate (s : State) : Result :=
  if s.paramN .holdupEnable = 0 || s.flushing then .next s else .next s.tenderUpdate.sagUpdate

/-- REPEAT_MEASUREMENT (R199): firmware writes 1 to FT_HU_CTRL.MEASURE. -/
def execRepeatMeasurement (s : State) : Result := .next s.startRepeat

/-- REMEASURE_TIMER (R199): remeasure_h hours of tick time have passed; 0 never. -/
def execRemeasureTimer (s : State) : Result :=
  let h := s.paramN .holdupRemeasureH
  if h = 0 || decide ((s.flash.tick - s.media.measuredAt) * 8192 < h * 3600000000000) then .next s else .next s.startRepeat

/-- MEASURE_DISCHARGE_START (R199): the dirty count is at or below the lowered limit. -/
def execMeasureDischargeStart (s : State) : Result :=
  if s.media.measure == .lowering && decide (s.dirtyCount ≤ s.media.measureCap.getD 0) then .next (s.modMedia fun m => { m with measure := .settling })
  else .next s

/-- BANK_SETTLED (R198, R516): the bank has risen by less than 0.5 % over 100 ms and is not at full scale; charger off, load on. -/
def execBankSettled (s : State) : Result :=
  if s.media.measure == .settling && !s.media.bankFull then .next (s.modMedia fun m => { m with measure := .discharging, chgEn := false, dis := true })
  else .next s

/-- BANK_FALL_TIMED (R198, R203): C from the time of the fall; a fall under 1 ms or over 2 s fails. [DESIGN CHOICE, log 5] -/
def execBankFallTimed (us : Nat) (s : State) : Result :=
  if s.media.measure != .discharging then .next s
  else if 1000 ≤ us && us ≤ 2000000 then .next (s.endMeasure (s.paramN .holdupDischargeMa * us / s.paramN .holdupMeasureDropMv) true)
  else .next (s.endMeasure 0 false)

/-- MEASURE_TIMEOUT (R198, R203): the bank has not settled within 10 s or has not fallen within 2 s. -/
def execMeasureTimeout (s : State) : Result :=
  if s.media.measure == .settling || s.media.measure == .discharging then .next (s.endMeasure 0 false) else .next s

/-- SAG_TIMEOUT (R203): TENDER_MAX has been below min_parcels for sag_ms. -/
def execSagTimeout (s : State) : Result :=
  if s.flag Reg.FT_HU_STAT_SAG && s.cachePresent && decide (s.paramN .holdupSagMs ≤ s.media.sagMs) && !s.media.repeatRun then .next s.withdraw else .next s

/-- POWER_FAIL_DECLARE (R205, R207, R208, R481, R482): the input has been low for the filter time; a thermal flush goes on with its cause, and its restart then waits for the input too. -/
def execPowerFailDeclare (s : State) : Result :=
  if !(decide (0 < s.media.vinLow) && decide (s.paramN .holdupVinFilterUs ≤ (s.media.vinLow - 1) * 10)) then .next s
  else if !s.flushing then .next (s.beginFlush 1)
  else if s.media.nand.flushCause = 2 then .next (s.modMedia fun m => { m with alsoFailed := true })
  else .next s

/-- FLUSH_PROGRAM_LOAD (R207, R209): flush programs take the free places of the program budget. -/
def execFlushProgramLoad (s : State) : Result :=
  if s.media.flush != .running then .next s
  else
    let room := s.rget Reg.TT_BUDGET_EFF_PROG - s.flushBusy.length
    .next (s.modMedia fun m => { m with flushUnits := State.loadUnits m.flushUnits room m.flushUnits }).finishFlush

/-- FLUSH_PROGRAM_DONE (R209, R210): a flush program has passed or failed. -/
def execFlushProgramDone (i : Nat) (ok : Bool) (s : State) : Result :=
  match s.media.flushUnits[i]? with
  | none => .next s
  | some u =>
    if !u.loaded || u.ended || !s.flushing then .next s
    else
      let s := s.modMedia fun m => { m with flushUnits := m.flushUnits.set i { u with ended := true, passed := ok } }
      let s := if ok then s.flushPassed u else if s.media.flush == .running then s.replaceUnit u else s
      .next (if s.media.flush == .running then s.dropWp.finishFlush else s)

/-- BANK_DEPLETED (R211): the bank is at v_min_mv before the flush has ended; no further program starts, WP_N low, the device stops. -/
def execBankDepleted (s : State) : Result :=
  if s.media.flush == .running && decide (s.rget Reg.FT_HU_VOLT_BANK_MV ≤ s.paramN .holdupVMinMv) then
    .next ((List.range s.channels).foldl (fun s ch => s.rset (Reg.SB_CH_STAT_WP ch) 0) (s.modMedia fun m => { m with flush := .stopped }))
  else .next s

end Sys2Proof.Machine
end

