-- ==== Sys2Proof/Machine/PortOps.lean ====
section
/-! DEFINITION. What the PCIe rows and the NVMe rows share (chapters 10 and 11): sending, errors, read requests, messages, INTA, the end of a context. -/

namespace Sys2Proof.Machine

namespace State

/-- The port may issue TLPs: link in L0, bus master, D0, no function reset, no flush, no stop (R252, R261, R267, R207). -/
def txOk (s : State) (p : Nat) : Bool :=
  let x := s.port p
  x.linkUp && x.l1 == 0 && x.bme && !x.d3 && !x.flr && !x.tlpStop && !s.flushing

/-- A TLP is transmitted: an armed LCRC injection has it replayed, counted in VSEC_LINK.REPLAYS (R507). -/
def sendTlp (s : State) (p : Nat) : State :=
  if s.fogPcie 1 p then s.usedPcie.modPort p fun x => { x with replays := min 65535 (x.replays + 1) } else s

/-- Errors that R261 handles as advisory. -/
def AerError.advisory : AerError → Bool
  | .poisonedTlp | .completionTimeout | .unexpectedCompletion | .unsupportedRequest | .completerAbort => true
  | _ => false
/-- Correctable errors (R261). -/
def AerError.correctable : AerError → Bool
  | .receiverError | .badTlp | .badDllp | .replayRollover | .replayTimeout | .advisoryNonFatal | .correctedInternal | .headerOverflow => true
  | _ => false
/-- Errors whose TLP header is logged; a Completion Timeout records none (R262). -/
def AerError.hasHeader : AerError → Bool
  | .malformedTlp | .poisonedTlp | .unexpectedCompletion | .unsupportedRequest | .completerAbort => true
  | _ => false

/-- Adds an error to a status list once. -/
def addOnce (l : List AerError) (e : AerError) : List AerError := if l.contains e then l else l ++ [e]

/-- The port detects an error (R261, R262): status, header log, and the message its class, severity and mask give. -/
def aer (s : State) (p : Nat) (e : AerError) : State :=
  let x := s.port p
  let full := decide (4 ≤ x.headers.length)
  let s := s.modPort p fun x => { x with
    aerStatus := addOnce x.aerStatus e
    headers := if AerError.hasHeader e && !full then x.headers ++ [e] else x.headers }
  let s := if AerError.hasHeader e && full then
      let s := s.modPort p fun x => { x with aerStatus := addOnce x.aerStatus .headerOverflow }
      if x.aerMask.contains .headerOverflow then s else s.emit (.errMsg p 0)
    else s
  if x.aerMask.contains e then s
  else if AerError.correctable e then s.emit (.errMsg p 0)
  else if x.aerFatal.contains e then s.emit (.errMsg p 2)
  else if AerError.advisory e then
    let s := s.modPort p fun x => { x with aerStatus := addOnce x.aerStatus .advisoryNonFatal }
    if x.aerMask.contains .advisoryNonFatal then s else s.emit (.errMsg p 0)
  else s.emit (.errMsg p 1)

/-- Tags a port may use (R260): 768 with Tag[9:8] not 0 when 10-bit tags are enabled, else 0 to 255. -/
def tagSpace (x : Port) : List Nat := if x.tag10 then (List.range 768).map (256 + ·) else List.range 256

/-- The largest read request of a port (R259). -/
def readSize (s : State) (p : Nat) : Nat := min (128 * 2 ^ (s.port p).mrrs) (s.paramN .pcieMrrsCapBytes)

/-- The completion timeout a port uses, in ns: by the Completion Timeout Value, the default for an encoding the table does not list (R264). -/
def ctoNs (x : Port) : Nat :=
  match x.cto with
  | 0b0001 => 90000
  | 0b0010 => 8000000
  | 0b0101 => 50000000
  | 0b0110 => 200000000
  | 0b1001 => 800000000
  | 0b1010 => 3000000000
  | 0b1101 => 12000000000
  | 0b1110 => 60000000000
  | _ => 40000000

/-- A tag is in quarantine (R266). -/
def quarantined (x : Port) (t : Nat) : Bool := x.quarantine.any fun q => q.1 == t

/-- Issues read requests for host data of a context while tags are free (R259, R260, R266); an armed CPL_DELAY holds the completions of the next one. -/
def issueReads (p n : Nat) : Nat → State → State
  | 0, s => s
  | f + 1, s =>
    match s.ctx n with
    | none => s
    | some c =>
      let x := s.port p
      let tag := (tagSpace x).find? fun t => (Table.find x.reads t).isNone && !quarantined x t && !(x.stale.map (·.1)).contains t
      match tag with
      | none => s
      | some t =>
        if c.hostWant = 0 then s
        else
          let k := min c.hostWant (s.readSize p)
          let hold := s.fogPcie 3 p
          let s := (if hold then s.usedPcie else s).sendTlp p
          let s := s.modPort p fun x => { x with reads := Table.ins x.reads t { ctx := some n, want := k, limitNs := ctoNs x, held := hold } }
          issueReads p n f (s.setCtx n { c with hostWant := c.hostWant - k })

/-- A context asks the host for `bytes` of data, unless they lie in the buffer window. -/
def askHost (s : State) (n bytes : Nat) : State :=
  match s.ctx n with
  | none => s
  | some c =>
    if c.sqe.cmbData || decide (2 ≤ c.ctl) then s
    else issueReads c.ctl n 4096 (s.setCtx n { c with hostWant := bytes })

/-- A context still waits for host data. -/
def waitsHost (s : State) (n : Nat) : Bool :=
  match s.ctx n with
  | none => false
  | some c => 0 < c.hostWant || (s.port c.ctl).reads.any fun q => q.2.ctx == some n

/-- The reads a context has outstanding no longer belong to it; their completions are discarded. -/
def orphanReads (s : State) (n : Nat) : State :=
  { s with ports := s.ports.map fun (q : Nat × Port) => (q.1, { q.2 with reads := q.2.reads.map fun r => (r.1, if r.2.ctx = some n then { r.2 with ctx := none } else r.2) }) }

/-- An entry of the MSI-X table. -/
def msixEntry (s : State) (p v : Nat) : MsixEntry := Table.get {} (s.port p).msix v
/-- Changes it. -/
def modMsix (s : State) (p v : Nat) (f : MsixEntry → MsixEntry) : State :=
  s.modPort p fun x => { x with msix := Table.put {} x.msix v (f (Table.get {} x.msix v)) }

/-- A message of a vector may be sent (R257). -/
def msixOpen (s : State) (p v : Nat) : Bool := (s.port p).msixEnable && !(s.port p).funcMask && !(s.msixEntry p v).control.getLsbD 0

/-- The device generates a message for a vector: sent, or its pending bit set (R257). -/
def message (s : State) (p v : Nat) : State :=
  if s.msixOpen p v then (s.sendTlp p).emit (.msix p v) else s.modMsix p v fun e => { e with pending := true }

/-- Pending bits whose vectors are no longer masked are sent once and cleared (R257). -/
def sendPending (s : State) (p : Nat) : State :=
  ((s.port p).msix.filter fun q => q.2.pending).foldl (fun s q =>
    if s.msixOpen p q.1 then (((s.sendTlp p).emit (.msix p q.1)).modMsix p q.1 fun e => { e with pending := false }) else s) s

/-- INTA follows the completion queues while MSI-X is off (R278). -/
def updateInta (s : State) (k : Nat) : State :=
  let c := s.ctl k
  let on := !(s.port k).msixEnable && !(s.port k).intxDisable && !c.intMask && c.cqs.any fun q => q.2.ints && q.2.head != q.2.tail
  if on = c.inta then s else (s.modCtl k fun c => { c with inta := on }).emit (.inta k on)

/-- Vectors that coalesce (R278, R305): not 0, TIME not 0, coalescing not disabled for the vector. -/
def coalesces (s : State) (k v : Nat) : Bool :=
  v != 0 && (s.ctl k).coalTime != 0 && !(Table.get ({} : Coalesce) (s.port k).coal v).disabled

/-- Changes the coalescing state of a vector. -/
def modCoal (s : State) (k v : Nat) (f : Coalesce → Coalesce) : State :=
  s.modPort k fun x => { x with coal := Table.put {} x.coal v (f (Table.get {} x.coal v)) }

/-- A completion entry of a queue was written: its message, at once or coalesced, or INTA (R278). -/
def signal (s : State) (k : Nat) (q : CompQueue) : State :=
  if !q.ints then s
  else if !(s.port k).msixEnable then s.updateInta k
  else if s.coalesces k q.vector then
    let n := (Table.get ({} : Coalesce) (s.port k).coal q.vector).count + 1
    if (s.ctl k).coalThr + 1 ≤ n then (s.modCoal k q.vector fun c => { c with count := 0 }).message k q.vector
    else s.modCoal k q.vector fun c => { c with count := n }
  else s.message k q.vector

/-- Takes a written IU out of the program unit it was placed in; a codeword already programmed is a stale copy (R295). -/
def unplace (s : State) (p : Nat) : State :=
  match (s.parcel p).unit with
  | none => s
  | some (n, j, pos) => s.modUnit n (j * 64 + pos) fun u =>
      let keep := (u.parcels.zip u.locs).filter fun q => q.1 != p
      { u with parcels := keep.map (·.1), locs := keep.map (·.2) }

/-- Frees a parcel outright: off its unit, its Parcels entry invalid; a pinned one stays CLEAN until PC_RELEASE (R19). -/
def dropParcel (s : State) (p : Nat) : State :=
  let x := s.parcel p
  let s := if x.first == p then s.iuJournaled (iuTokOf x) 0 else s
  let s := (s.unplace p).pcClear p
  if 0 < s.pinOf p then s.modParcel p fun x => { x with state := .clean, unit := none }
  else ((s.modParcelEntry p fun e => { e with valid := false }).setParcel p {}).pcStat

/-- A displaced parcel is current again and goes back to FILLED, to be programmed again (R294). -/
def reviveParcel (s : State) (p : Nat) : State :=
  (s.iuParcels p).foldl (fun s q =>
    let x := s.parcel q
    let s := s.unplace q
    let s := s.modParcelEntry q fun e => { e with value := [parcelUnit x.slot x.iu x.part true], valid := true }
    s.modParcel q fun x => { x with state := .filled, unit := none }) s

/-- Key of the record group of a command's atomic unit (R213, R214): the unit is 1 MiB of logical block address space. -/
def groupKey (seq : Nat) (ns : Namespace) (iu : Nat) : Nat := seq * 2 ^ 40 + iu * 2 ^ ns.iuShift / 2 ^ 20

/-- The record type and entry that restore a map entry; INBUF goes back to the entry its parcel displaced (R294). -/
def restoreRecord (s : State) (replaced : Nat) : Nat × Nat :=
  let e := if isInbuf replaced then (s.parcel (replaced % 65536)).displaced.getD entDealloc else replaced
  (e, if isUnrec e then 4 else if isDealloc e then 3 else 1)

/-- Undoes one map change of a command (R294); the restore record, where the journal holds the command's. -/
def restoreOne (s : State) (seq : Nat) (ns : Namespace) (r : Nat × Nat × Nat) : State × Option Pending :=
  let slot := r.1 / 2 ^ 40
  let iu := r.1 % 2 ^ 40
  if s.mapGet slot iu != r.2.2 then (s, none)
  else
    let recorded := !isInbuf r.2.2 && (Table.find s.media.groups (groupKey seq ns iu)).isNone
    let s := if isLoc r.2.2 && !recorded then s.invalidateLoc r.2.2 s.media.nextSeq else s
    let s := s.mapSet slot iu r.2.1
    let s := if isLoc r.2.1 && recorded then s.validateLoc r.2.1 else s
    let s := if isInbuf r.2.1 then s.reviveParcel (r.2.1 % 65536) else s
    let (e, ty) := s.restoreRecord r.2.1
    (s, if recorded then some ⟨⟨e, iu, slot, ty, 0⟩, 0, if isLoc r.2.2 then some r.2.2 else none⟩ else none)

/-- Undoes every map change of a writer command (R294), its restore records together, and frees its parcels. -/
def restoreCtx (s : State) (n : Nat) : State :=
  match s.ctx n with
  | none => s
  | some c =>
    match Table.find s.media.nand.ns (slotOf c.sqe.nsid) with
    | none => s
    | some ns =>
      let (s, rs) := c.changed.foldl (fun (a : State × List Pending) r => let (s, p) := a.1.restoreOne c.seq ns r; (s, a.2 ++ p.toList)) (s, [])
      let s := s.modMedia fun m => { m with groups := m.groups.filter fun g => g.1 / 2 ^ 40 != c.seq }
      let s := if rs.isEmpty then s else s.journalUnit rs
      let s := c.parcels.foldl (fun s p => s.dropParcel p) s
      s.modCtxN n fun c => { c with changed := [], parcels := [], waitIus := [], needDurable := none }

/-- Stops what a context still has in work: its codeword jobs, lookups and host reads. -/
def stopWork (s : State) (n : Nat) : State :=
  match s.ctx n with
  | none => s
  | some c =>
    let s := { s with flash := { s.flash with
      jobs := s.flash.jobs.filter fun (p : Nat × Job) => !c.jobs.contains p.1
      decoders := s.flash.decoders.map fun (p : Nat × List Nat) => (p.1, p.2.filter fun j => !c.jobs.contains j)
      xreads := s.flash.xreads.filter fun x => !c.jobs.contains x.owner } }
    (s.orphanReads n).modCtxN n fun c => { c with todo := [], jobs := [], remote := [], hostWant := 0 }

/-- Abort commands that wait for the CAS on a context. -/
def abortersOf (s : State) (n : Nat) : List Nat := (s.adm.ctxs.filter fun q => q.2.target == some n && q.2.status.isNone).map (·.1)

/-- The command of a context has ended before the abort IL_CAS on it: the Abort has lost (R293). -/
def loseAborts (s : State) (n : Nat) : State := (s.abortersOf n).foldl (fun s a => s.finish a stOk 1) s

/-- A Format that ends without having run no longer holds its namespaces. -/
def endFormat (s : State) (c : Ctx) : State :=
  if c.ctl < 2 && c.sqid == 0 && c.sqe.opcode == 0x80 then s.modNand fun x => { x with ns := x.ns.map fun (q : Nat × Namespace) => (q.1, { q.2 with formatting := false }) } else s

/-- Ends a context without a completion entry (R298): its work stops, an uncommitted writer is undone, its pins and Interlocking entries go. -/
def endCtx (s : State) (n : Nat) : State :=
  match s.ctx n with
  | none => s
  | some c =>
    let s := s.stopWork n
    let s := if c.word == .done then s else s.restoreCtx n
    let s := c.pinned.foldl (fun s p => s.unpin p) s
    (((s.loseAborts n).endFormat c).ilRemove n |>.dropCtx n).ilStat

/-- Contexts of a controller, in fetch order as they are listed. -/
def ctxsOf (s : State) (k : Nat) : List Nat := (s.adm.ctxs.filter fun p => p.2.ctl == k).map (·.1)

/-- Ends every command of a controller without an entry (R298). -/
def endAll (s : State) (k : Nat) : State := (s.ctxsOf k).foldl endCtx s

/-- A command fails before any map change: its work stops, its reserved parcels are free (R300). -/
def failCtx (s : State) (n : Nat) (st : Status) : State :=
  let s := s.stopWork n
  let ps := ((s.ctx n).map (·.parcels)).getD []
  let s := ps.foldl (fun s p => s.dropParcel p) s
  s.modCtxN n fun c => { c with parcels := [], status := some (c.status.getD st), started := true }

/-- Ends a running self-test with a result code (R317): the log keeps the 20 newest. [DEDUCED, log 53] -/
def endSelfTest (s : State) (result seg : Nat) : State :=
  match s.adm.selfTest with
  | none => s
  | some t => { s with adm := { s.adm with
      selfTest := none
      testLog := ((if t.extended then 2 else 1, result, t.nsid, seg) :: s.adm.testLog).take 20 } }

/-- A saved feature value, or the default. [DEDUCED, log 55] -/
def savedOr (c : Controller) (fid : Nat) (d : List Nat) : List Nat := (Table.find c.saved fid).getD d

/-- Saved temperature thresholds by TMPSEL, kept under 0x400 (over) and 0x410 (under). -/
def savedThresh (c : Controller) (base : Nat) : Table Nat :=
  (c.saved.filter fun q => decide (base ≤ q.1 ∧ q.1 < base + 16)).map fun q => (q.1 - base, q.2.headD 0)

/-- The pairs of a flat list. -/
def pairs : List Nat → List (Nat × Nat)
  | a :: b :: t => (a, b) :: pairs t
  | _ => []

/-- A controller after a controller reset: registers cleared, I/O queues deleted, saved feature values in force (R298, R305); the logs stay. -/
def freshCtl (c : Controller) (vwc : Bool) : Controller :=
  let arb := savedOr c 0x01 [7, 0, 0, 0]
  let pm := savedOr c 0x02 [0, 0]
  let coal := savedOr c 0x08 [0, 0]
  { saved := c.saved, errLog := c.errLog, errCount := c.errCount, changedNs := c.changedNs, dataRead := c.dataRead, dataWritten := c.dataWritten
    ab := arb.getD 0 7, lpw := arb.getD 1 0, mpw := arb.getD 2 0, hpw := arb.getD 3 0
    powerState := pm.getD 0 0, lastOp := (if pm.getD 0 0 < 3 then pm.getD 0 0 else 0), workload := pm.getD 1 0
    wce := vwc && (savedOr c 0x06 [1]).getD 0 1 == 1
    coalThr := coal.getD 0 0, coalTime := coal.getD 1 0
    aec := (savedOr c 0x0B [0]).getD 0 0
    apstEnable := (savedOr c 0x0C [0]).getD 0 0 == 1, apst := pairs ((savedOr c 0x0C [0]).drop 1)
    overThresh := savedThresh c 0x400, underThresh := savedThresh c 0x410
    noppme := (savedOr c 0x11 [0]).getD 0 0 == 1
    vendorEvents := (savedOr c 0xC0 [0]).getD 0 0 }

/-- A controller reset (R298): commands end, the self-test it started ends with 0x2, the controller is in its reset state; the admin queue attributes survive. -/
def resetCtl (s : State) (k : Nat) : State :=
  let s := s.endAll k
  let s := match s.adm.selfTest with | some t => if t.ctl = k then s.endSelfTest 2 0 else s | none => s
  let c := s.ctl k
  let s := if c.inta then s.emit (.inta k false) else s
  let s := s.modPort k fun x => { x with coal := [] }
  s.modCtl k fun c => { freshCtl c s.cachePresent with asqs := c.asqs, acqs := c.acqs, asq := c.asq, acq := c.acq }

/-- The actions of a function reset on a port (R255, R257, R262, R268, R269, R271): configuration space at its reset values but for the sticky AER state and the VSEC registers; reads outstanding become stale, quarantined tags stay so. -/
def resetFunction (s : State) (p : Nat) : State :=
  let s := (s.resetCtl p).modCtl p fun c => { c with asqs := 0, acqs := 0, asq := 0, acq := 0 }
  s.modPort p fun x => { x with
    mse := false, bme := false, intxDisable := false, bar0 := 0, bar2 := 0, bar4 := 0, relaxed := true, tag10 := false, mrrs := 2, mps := 0
    cto := 0, ctoDisable := false, aspmL1 := false, l11 := false, l12 := false, d3 := false, msixEnable := false, funcMask := false
    msix := [], coal := [], stale := x.stale ++ x.reads.map (fun (r : Nat × HostRead) => (r.1, r.2.want - r.2.got)), reads := [], tlpStop := false, cre := false, cmse := false, cba := 0 }

/-- The buffer of a port reads as zero again (R255). -/
def clearCmb (s : State) (p : Nat) : State := s.modPort p fun x => { x with cmb := [] }

end State

end Sys2Proof.Machine
end

