-- ==== Sys2Proof/Machine/Nvme.lean ====
section
/-! DEFINITION. NVMe controllers: enable, shutdown, doorbells, arbitration and fetch, the Interlocking rows, the completion point (chapters 09 and 11). COMPLETION_POST and ABORT_IL_CAS stand in Post.lean. -/

namespace Sys2Proof.Machine

/-- Fields of a command in the order `arg` holds them; an absent one is 0. [DESIGN CHOICE, log 49] -/
def Ctx.a (c : Ctx) (i : Nat) : Nat := c.sqe.arg.getD i 0

namespace State

/-- A controller that exists and may fetch (R274, R275, R298). -/
def fetching (s : State) (k : Nat) : Bool :=
  let c := s.ctl k
  s.ctlList.contains k && c.en && c.rdy && !c.cfs && c.shst == 0 && !c.pp && s.txOk k && s.plat.hold == .none && s.plat.nonOp.isNone

/-- Entries between head and tail. -/
def SubQueue.count (q : SubQueue) : Nat := (q.tail + q.size - q.head) % max 1 q.size

/-- The queue has an entry to fetch. -/
def SubQueue.ready (q : SubQueue) : Bool := q.head != q.tail && !q.deleting

/-- I/O queues with entries whose priority class the filter takes, rising identifiers. -/
def readyQueues (c : Controller) (cls : Nat → Bool) : List Nat :=
  (c.sqs.filter fun q => q.1 != 0 && SubQueue.ready q.2 && cls q.2.prio).map (·.1)

/-- Round robin: the first identifier above the one served last, else the first. -/
def nextAfter (l : List Nat) (last : Nat) : Option Nat :=
  match l.find? fun q => decide (last < q) with
  | some q => some q
  | none => l.head?

/-- Starts a turn of a queue in a class (R279): at most 2^AB entries, AB 7 no limit, never more than the queue holds. -/
def startTurn (c : Controller) (cls q : Nat) : Option (Nat × Controller) :=
  let n := match Table.find c.sqs q with | some x => SubQueue.count x | none => 0
  let k := if c.ab = 7 then n else min (2 ^ c.ab) n
  some (q, { c with turn := if k ≤ 1 then none else some (q, k - 1), lastServed := c.lastServed.set cls q })

/-- A weighted class (1 high, 2 medium, 3 low) serves a turn where it has credit and an entry; with no entry it forfeits its credits (R279). -/
def weighted (c : Controller) : List Nat → Option (Nat × Controller)
  | [] => none
  | h :: hs =>
    let ready := readyQueues c (· == h)
    let credit := c.credits.getD (h - 1) 0
    match nextAfter ready (c.lastServed.getD h 0) with
    | none => weighted { c with credits := c.credits.set (h - 1) 0 } hs
    | some q => if 0 < credit then startTurn { c with credits := c.credits.set (h - 1) (credit - 1) } h q else weighted c hs

/-- The next submission queue to fetch from, with the arbitration state after it (R279): admin first, a turn in progress, then the queues of CC.AMS. -/
def pickQueue (c : Controller) : Option (Nat × Controller) :=
  let admin := match Table.find c.sqs 0 with | some q => SubQueue.ready q | none => false
  if admin then some (0, c)
  else
    let inTurn := match c.turn with
      | some (q, k) => match Table.find c.sqs q with | some x => if SubQueue.ready x then some (q, k) else none | none => none
      | none => none
    match inTurn with
    | some (q, k) => some (q, { c with turn := if k ≤ 1 then none else some (q, k - 1) })
    | none =>
      if c.ams = 1 then
        match nextAfter (readyQueues c (· == 0)) (c.lastServed.getD 0 0) with
        | some q => startTurn c 0 q
        | none =>
          match weighted c [1, 2, 3] with
          | some r => some r
          | none => weighted { c with credits := [c.hpw + 1, c.mpw + 1, c.lpw + 1] } [1, 2, 3]
      else
        match nextAfter (readyQueues c fun _ => true) (c.lastServed.getD 4 0) with
        | some q => startTurn c 4 q
        | none => none

/-- I/O opcodes (R282); the reservation ones with two ports only. -/
def ioOpcode (s : State) (o : Nat) : Bool :=
  [0x00, 0x01, 0x02, 0x04, 0x05, 0x08, 0x09, 0x0C, 0x12, 0x1D, 0x19].contains o || (s.bifur && [0x0D, 0x0E, 0x11, 0x15].contains o)

/-- Admin opcodes (R301). -/
def adminOpcode (s : State) (o : Nat) : Bool :=
  [0x00, 0x01, 0x02, 0x04, 0x05, 0x06, 0x08, 0x09, 0x0A, 0x0C, 0x0D, 0x10, 0x11, 0x14, 0x15, 0x19, 0x1A, 0x80, 0x84,
    0xC0, 0xC1, 0xC2, 0xC3, 0xC4, 0xC5, 0xC6, 0xC7].contains o ||
  ((o == 0x81 || o == 0x82) && s.paramN .cipherOpalEnable == 1)

/-- Serialised admin commands (R301): a Set Features only with SV 1. -/
def serialisedCmd (e : Sqe) : Bool :=
  [0x0D, 0x15, 0x10, 0x11, 0x14, 0x80, 0x81, 0x82, 0x84, 0xC0, 0xC1, 0xC2, 0xC3, 0xC4, 0xC5, 0xC6, 0xC7].contains e.opcode ||
  (e.opcode == 0x09 && e.arg.getD 1 0 == 1)

/-- A sanitize is in progress or has failed (R301, R319). -/
def sanitizing (s : State) : Bool := s.adm.sanitize.isSome

/-- Admin commands refused during a sanitize (R301); a failed one may be followed by another (R319). -/
def sanRefused (s : State) (e : Sqe) : Bool :=
  if e.opcode = 0x02 then !([0x01, 0x02, 0x03, 0x81, 0xC0, 0xC1, 0xC2, 0xC3].contains (e.arg.getD 0 0))
  else if e.opcode = 0x84 then e.arg.getD 0 0 != 1 && (match s.adm.sanitize with | some z => z.running | none => false)
  else [0x0D, 0x15, 0x10, 0x11, 0x14, 0x19, 0x1A, 0x80, 0xC0, 0xC1, 0xC3, 0xC4, 0xC5].contains e.opcode

/-- Commands that write, in the reservation classes of the base specification (R289). [PRESUMED, log 48] -/
def resWrites (o : Nat) : Bool := [0x00, 0x01, 0x04, 0x08, 0x09, 0x19].contains o
/-- Commands that read. [PRESUMED, log 48] -/
def resReads (o : Nat) : Bool := [0x02, 0x05, 0x0C].contains o

/-- A command of controller `k` conflicts with the reservation of the namespace (R281, R289). [PRESUMED, log 48] -/
def resConflict (ns : Namespace) (k o : Nat) : Bool :=
  let reg := ns.registrants.any fun r => r.1 == k
  match ns.rtype, ns.holder with
  | 1, some h => h != k && resWrites o
  | 2, some h => h != k && (resWrites o || resReads o)
  | 3, _ => ns.holder.isSome && !reg && resWrites o
  | 4, _ => ns.holder.isSome && !reg && (resWrites o || resReads o)
  | 5, _ => !ns.registrants.isEmpty && !reg && resWrites o
  | 6, _ => !ns.registrants.isEmpty && !reg && (resWrites o || resReads o)
  | _, _ => false

/-- Commands whose SLBA and NLB name a range of the namespace. -/
def hasRange (o : Nat) : Bool := [0x01, 0x02, 0x04, 0x05, 0x08, 0x0C].contains o

/-- Status of an invalid data pointer (R281). -/
def ptrStatus : PtrCheck → Option Status
  | .ok => none
  | .prpOffset => some (stGen 0x13)
  | .sglType => some (stGen 0x11)
  | .sglCount => some (stGen 0x0E)
  | .sglLength => some (stGen 0x0F)
  | .sglSegment => some (stGen 0x0D)
  | .sglOffset => some (stGen 0x16)

/-- The first status of a list of checks. -/
def firstSome : List (Option Status) → Option Status
  | [] => none
  | some st :: _ => some st
  | none :: l => firstSome l

/-- A check that fails with a status. -/
def failIf (b : Bool) (st : Status) : Option Status := if b then some st else none

/-- The namespace an I/O command names, where it is attached to the controller. -/
def attachedNs (s : State) (k nsid : Nat) : Option Namespace :=
  match s.nsOf nsid with
  | some n => if n.attached / 2 ^ k % 2 = 1 && (!n.array || (s.mode == .manager && s.rget Reg.AY_STAT_STATE != 4)) then some n else none
  | none => none

/-- The fetch-time checks in their order (R281); for an admin command the opcode, CID and FUSE checks and the sanitize column of R301. -/
def fetchCheck (s : State) (k q : Nat) (e : Sqe) : Option Status :=
  let cid := s.adm.ctxs.any fun p => p.2.ctl == k && p.2.sqid == q && p.2.sqe.cid == e.cid && !p.2.posted
  if q = 0 then
    firstSome [failIf (!s.adminOpcode e.opcode) (stGen 0x01), failIf cid (stGen 0x03), failIf (e.fuse != 0) stField,
      failIf (s.sanitizing && s.sanRefused e) (stGen 0x1D), failIf (decide (2 ^ 21 < e.bytes)) stField, ptrStatus e.ptr, failIf e.cmbEdge (stGen 0x12)]
  else
    let all := e.nsid == 0xFFFFFFFF && e.opcode == 0x00
    let ns := s.attachedNs k e.nsid
    let fmt := match ns with | some n => n.formatting | none => s.media.nand.ns.any fun p => p.2.formatting
    let size := match ns with | some n => if [0x01, 0x02, 0x05].contains e.opcode then (e.nlb + 1) * n.lbaBytes else e.bytes | none => e.bytes
    let range := match ns with | some n => hasRange e.opcode && decide (n.nsze ≤ e.slba + e.nlb) | none => false
    let res := match ns with | some n => resConflict n k e.opcode | none => false
    firstSome [failIf (!s.ioOpcode e.opcode) (stGen 0x01), failIf cid (stGen 0x03), failIf (e.fuse != 0) stField,
      failIf (ns.isNone && !all) (stGen 0x0B), failIf fmt (stGen 0x84), failIf s.sanitizing (stGen 0x1D), failIf (e.prinfo != 0) stField,
      failIf (decide (2 ^ 21 < size)) stField, failIf range (stGen 0x80), ptrStatus e.ptr, failIf e.cmbEdge (stGen 0x12), failIf res (stGen 0x83),
      (match ns with | some n => s.lockStatus (slotOf n.nsid) e.opcode | none => none)]

/-- The first and last IU of a range of logical blocks (R283). -/
def iuRange (ns : Namespace) (slba nlb : Nat) (w : Bool) : IlRange := ⟨slba / ns.bpi, (slba + nlb) / ns.bpi, slotOf ns.nsid, w⟩

/-- Interlocking ranges of an I/O command (R282, R283, R289). -/
def ilRanges (ns : Namespace) (e : Sqe) : List IlRange :=
  match e.opcode with
  | 0x01 | 0x04 | 0x08 | 0x103 | 0x104 => [iuRange ns e.slba e.nlb true]
  | 0x02 | 0x05 | 0x0C => [iuRange ns e.slba e.nlb false]
  | 0x09 => if e.ad then e.ranges.map fun r => iuRange ns r.1 (r.2 - 1) true else []
  | 0x19 => (e.ranges.map fun r => iuRange ns r.1 (r.2 - 1) false) ++ [iuRange ns e.slba ((e.ranges.map (·.2)).sum - 1) true]
  | 0x0D | 0x11 | 0x15 => [⟨0, 2 ^ 40 - 1, slotOf ns.nsid, true⟩]
  | _ => []

/-- Unit pairs of the entries a command takes: whole-namespace ones for reservations and for more than eight entries (R231, R283). -/
def ilUnits (ns : Namespace) (e : Sqe) : List (U64 × U64) :=
  if [0x0D, 0x11, 0x15].contains e.opcode then [ilUnit0 0 40 (slotOf ns.nsid) 0 true] else coverAll (ilRanges ns e) 0

/-- The dispatcher's choice (R14). -/
def pathOf (s : State) (q : Nat) (e : Sqe) : Path :=
  let pend := s.bufferStop && (match s.nsOf e.nsid with | some n => n.formatting | none => false)
  if q != 0 && e.opcode == 0x02 && !s.sanitizing && !pend && e.prinfo == 0 then .mainline else .firmware

/-- The context a fetched command gets (R14, R280, R281, R291). -/
def newCtx (s : State) (k q : Nat) (e : Sqe) : Ctx :=
  let st := s.fetchCheck k q e
  let e := if q != 0 && e.opcode == 0x19 then { e with nlb := (e.ranges.map (·.2)).sum - 1 } else e
  let path := s.pathOf q e
  let units := if q = 0 then [] else match s.nsOf e.nsid with | some n => ilUnits n e | none => []
  { ctl := k, sqid := q, sqe := e, seq := s.adm.seq, path := path, express := path == .mainline && st.isNone
    start := (((Table.find (s.ctl k).sqs q).bind fun x => x.bells.head?).map (·.2)).getD s.flash.tick
    inserted := if q = 0 then !serialisedCmd e else units.isEmpty || st.isSome
    word := if st.isSome then .done else .active, started := st.isSome, status := st }

/-- A free command context (R280): 16 of the 16,384 are reserved for the admin queues. -/
def freeCtx (s : State) (q : Nat) : Option Nat :=
  let io := (s.adm.ctxs.filter fun p => p.2.sqid != 0).length
  if q != 0 && decide (16368 ≤ io) then none else Table.firstFree s.adm.ctxs 16384 0

/-- The head of a queue moves past an entry, and past the doorbell writes it was the last entry of. -/
def advanceHead (q : SubQueue) : SubQueue :=
  let h := (q.head + 1) % max 1 q.size
  { q with head := h, bells := match q.bells with | b :: r => if b.1 = h then r else q.bells | [] => [] }

/-- Takes the entry at the head of a queue into a context: the head moves, the fetch sequence number is stamped. -/
def takeEntry (s : State) (k q n : Nat) (e : Sqe) : State :=
  let c := s.newCtx k q e
  let s := s.modCtl k fun c => { c with sqs := Table.modify advanceHead c.sqs q }
  let io := q != 0
  { s with adm := { s.adm with
      ctxs := Table.ins s.adm.ctxs n c
      seq := s.adm.seq + 1
      selfTest := s.adm.selfTest.map fun t => if io && t.extended then { t with suspended := true } else t } }

/-- A context whose reservation check fails as it becomes ACTIVE completes with Reservation Conflict (R289). -/
def recheck (s : State) (n : Nat) : State :=
  match s.ctx n with
  | none => s
  | some c =>
    let bad := match s.nsOf c.sqe.nsid with | some ns => decide (c.ctl < 2) && resConflict ns c.ctl c.sqe.opcode | none => false
    let locked := match s.nsOf c.sqe.nsid with | some ns => if c.ctl < 2 then s.lockStatus (slotOf ns.nsid) c.sqe.opcode else none | none => none
    let st := if bad then some (stGen 0x83) else locked
    match st with
    | some st => if c.word == .active then (s.ilSetState n .done).modCtxN n fun c => { c with status := some st, started := true } else s
    | none => s

/-- Contexts that wait in the Interlocking. -/
def waitingCtxs (s : State) : List Nat := (s.adm.ctxs.filter fun p => p.2.inserted && p.2.word == .waiting).map (·.1)

/-- Removes a context's entries; contexts this releases are checked again (R234, R289). -/
def removeEntries (s : State) (n : Nat) : State :=
  let w := s.waitingCtxs
  let s := s.ilRemove n
  w.foldl recheck s

/-- Every earlier-fetched context has been inserted or needs no entry (R233). -/
def insertTurn (s : State) (c : Ctx) : Bool := s.adm.ctxs.all fun p => p.2.inserted || p.2.sqid == 0 || decide (c.seq ≤ p.2.seq)

/-- Free Interlocking entries. -/
def ilFree (s : State) : Nat := 16384 - s.ilEntries.length

/-- Valid SPACE 1 entries. -/
def fwEntries (s : State) : Nat := (s.ilEntries.filter fun p => (p.2.value.getD 0 0).getLsbD 47).length

/-- A full Interlocking: the wait is counted once (R233). -/
def ilFull (s : State) : State :=
  if s.flag Reg.AE_IL_STAT_FULL then s else (s.rset Reg.AE_IL_STAT_FULL 1).rsat Reg.AE_IL_CNT_FULL_WAITS

/-- Inserts a host or Branch Link command (R233). -/
def insertHost (s : State) (n : Nat) (c : Ctx) : State :=
  match s.nsOf c.sqe.nsid with
  | none => s
  | some ns =>
    let us := ilUnits ns c.sqe
    if s.ilFree < us.length then s.ilFull
    else
      let s := s.ilInsert n us (coverHalves (ilRanges ns c.sqe))
      let waits : Bool := match s.ctx n with | some c => c.word == IlState.waiting | none => false
      if waits then s.rsat Reg.AE_IL_CNT_OVERLAPS else s.recheck n

/-- Inserts an internal range of firmware with a context of its own (R234, R237); it waits behind an earlier insertion that waits for free entries (R233). -/
def insertFw (s : State) (n : Nat) (r : IlRange) : State :=
  let us := coverAll [r] 1
  if s.flag Reg.AE_IL_STAT_FULL || s.ilFree < us.length || s.rget Reg.AE_IL_CFG_FW_MAX < s.fwEntries + us.length then s
  else
    let c : Ctx := { ctl := 3, sqid := 0xFFFF, sqe := Sqe.empty, seq := s.adm.seq, path := .firmware }
    let s := { s with adm := { s.adm with ctxs := Table.ins s.adm.ctxs n c, seq := s.adm.seq + 1 } }
    s.ilInsert n us (coverHalves [r])

/-- A command's work is done and its writes as durable as it must be (R18, R20): it may pass its completion point. -/
def mayComplete (s : State) (n : Nat) (c : Ctx) : Bool :=
  let array := match s.nsOf c.sqe.nsid with | some ns => ns.array && [0x01, 0x04, 0x08, 0x09, 0x19].contains c.sqe.opcode | none => false
  (c.il.isEmpty || s.aeRuns 0) &&
  c.word == .active && c.inserted && (c.started || c.status.isSome) && c.todo.isEmpty && c.jobs.isEmpty && c.remote.isEmpty && (array || c.waitIus.isEmpty) && !s.waitsHost n && !s.flushing &&
  (c.sqid != 0 || decide (2 ≤ c.ctl)) &&
  (match c.needDurable with | some d => decide (d ≤ s.media.durable) | none => true)

/-- The result of a Compare (R287). -/
def compareStatus (c : Ctx) : Option Status :=
  if c.sqe.opcode != 0x05 || c.status.isSome then c.status
  else
    let same := c.cmp.zipIdx.all fun q => (c.data.find? fun b => b.1 == c.sqe.slba + q.2).map (·.2) == some q.1
    if same then none else some (stMedia 0x85)

/-- The parcels of a command that passes its completion point are committed (R208); what they superseded is no longer kept. -/
def commitParcels (s : State) (c : Ctx) (sq : Nat) : State :=
  c.parcels.foldl (fun s p => s.modParcel p fun x => if x.seq = c.seq then { x with committed := true, cpSeq := sq, superseded := none } else x) s

end State

/-- CC_ENABLE (R274, R275): CC.EN goes from 0 to 1 with CSS, MPS and AMS. -/
def execCcEnable (k css mps ams : Nat) (s : State) : Result :=
  let c := s.ctl k
  if !s.ctlList.contains k || c.en || (s.port k).inReset then .next s
  else
    let bad := css != 0 || decide (4 < mps)
    let woken := c.shst == 2
    let s := s.modCtl k fun c => { c with
      en := true, css := css, mps := mps, ams := ams, cfs := bad, rdy := !bad && s.plat.ready, shn := 0, shst := 0
      sqs := [(0, { size := c.asqs + 1, cqid := 0, prio := 0, base := c.asq })]
      cqs := [(0, { size := c.acqs + 1, vector := 0, base := c.acq })] }
    .next (if woken || s.media.quiesced then (s.modMedia fun m => { m with quiesced := false }).modNand fun x => { x with cleanMark := none } else s)

/-- CONTROLLER_RESET (R298, R305, R317): CC.EN goes from 1 to 0. -/
def execControllerReset (k : Nat) (s : State) : Result :=
  if s.ctlList.contains k && (s.ctl k).en then .next (s.resetCtl k) else .next s

/-- NORMAL_SHUTDOWN (R275): fetching stops, SHST 0b01; outstanding commands complete. -/
def execNormalShutdown (k : Nat) (s : State) : Result :=
  let c := s.ctl k
  if s.ctlList.contains k && c.en && c.shst == 0 then .next (s.modCtl k fun c => { c with shn := 1, shst := 1 }) else .next s

/-- ABRUPT_SHUTDOWN (R275, R298): outstanding commands end without an entry. -/
def execAbruptShutdown (k : Nat) (s : State) : Result :=
  let c := s.ctl k
  if s.ctlList.contains k && c.en && c.shst == 0 then
    .next ((s.endAll k).modCtl k fun c => { c with shn := 2, shst := 1, aers := [] })
  else .next s

/-- What leaving a non-operational state wakes (R484, R487): from PS3 the cores but core 0, from PS4 every core, as the example of R488 has it; the powered channels' signal boxes; from PS4 the DRAM channels, the soft-decision decoders and the banks too. [DEDUCED, log 43] -/
def State.leaveWakes (s : State) (ps : Nat) : List Wake :=
  (if ps = 4 then [.dram 0, .dram 1] else []) ++ (if ps = 4 then (List.range 8).map Wake.core else (List.range 7).map fun n => Wake.core (n + 1)) ++
  ((List.range s.channels).filter s.channelClocked).map Wake.box ++
  (if ps = 4 then (List.range (if s.psInForce = 2 then 2 else 4)).map Wake.softDec ++ (List.range 24).map Wake.bank else [])

/-- A doorbell returns the controllers from PS3 or PS4 to their last operational state and asks for what the device must wake; it has left the state once every request is served (R486, R487). -/
def State.wake (s : State) : State :=
  match s.plat.nonOp with
  | none => s
  | some ps =>
    if s.waitsFor Wake.leaving then s
    else
      let s := s.ctlList.foldl (fun s k => s.modCtl k fun c => if 3 ≤ c.powerState then { c with powerState := c.lastOp } else c) s
      s.setBudget.askTokens (s.leaveWakes ps)

/-- SQ_TAIL_DOORBELL (R36, R274, R277, R486): the tail moves; its tick is the start event of the entries it adds. -/
def execSqTailDoorbell (k q tail : Nat) (s : State) : Result :=
  let c := s.ctl k
  if !s.ctlList.contains k || !c.en || !c.rdy || c.cfs then .next s
  else
    let s := s.wake
    match Table.find c.sqs q with
    | none => .next (s.postError k 0)
    | some x =>
      if x.size ≤ tail then .next (s.postError k 1)
      else .next (s.modCtl k fun c => { c with sqs := Table.ins c.sqs q { x with tail := tail, bells := if tail = x.tail then x.bells else x.bells ++ [(tail, s.flash.tick)] } })

/-- CQ_HEAD_DOORBELL (R277, R278, R486). -/
def execCqHeadDoorbell (k q head : Nat) (s : State) : Result :=
  let c := s.ctl k
  if !s.ctlList.contains k || !c.en || !c.rdy || c.cfs then .next s
  else
    let s := s.wake
    match Table.find c.cqs q with
    | none => .next (s.postError k 0)
    | some x =>
      let n := max 1 x.size
      if x.size ≤ head || decide ((x.tail + n - x.head) % n < (head + n - x.head) % n) then .next (s.postError k 1)
      else .next ((s.modCtl k fun c => { c with cqs := Table.ins c.cqs q { x with head := head } }).updateInta k)

/-- INTMS_WRITE (R273, R278): bit 0 masks INTA; no effect while MSI-X is enabled. -/
def execIntmsWrite (k : Nat) (v : Word) (s : State) : Result :=
  if (s.port k).msixEnable || !v.getLsbD 0 then .next s else .next ((s.modCtl k fun c => { c with intMask := true }).updateInta k)

/-- INTMC_WRITE (R273, R278): bit 0 unmasks INTA. -/
def execIntmcWrite (k : Nat) (v : Word) (s : State) : Result :=
  if (s.port k).msixEnable || !v.getLsbD 0 then .next s else .next ((s.modCtl k fun c => { c with intMask := false }).updateInta k)

namespace State

/-- Second since power-on, in ticks of 8.192 us (R484). -/
def second (s : State) : Nat := s.flash.tick * 8192 / 1000000000
/-- I/O commands that may be fetched in a second in the power state in force, in PS1 and PS2 (R484). -/
def fetchLimit (s : State) : Option Nat :=
  match s.psInForce with
  | 1 => some (1000 * s.paramN .powerPs1FetchKcps)
  | 2 => some (1000 * s.paramN .powerPs2FetchKcps)
  | _ => none
/-- The fetch limit holds back the I/O queues for the rest of this second (R484). [DESIGN CHOICE, log 59] -/
def fetchHeld (s : State) : Bool :=
  match s.fetchLimit with
  | none => false
  | some n => s.plat.fetchSecond == s.second && decide (n ≤ s.plat.fetched)
/-- An I/O command has been fetched. -/
def countFetch (s : State) (q : Nat) : State :=
  if q = 0 then s
  else { s with plat := { s.plat with fetched := if s.plat.fetchSecond = s.second then s.plat.fetched + 1 else 1, fetchSecond := s.second } }

end State

/-- COMMAND_FETCH (R14, R279 to R281, R291, R316, R403, R484): arbitration, the fetch limit, a free context, the fetch sequence number, the fetch-time checks, the path. `ue`: the entry lies in the buffer and cannot be read. -/
def execCommandFetch (k : Nat) (e : Sqe) (ue : Bool) (s : State) : Result :=
  if !s.fetching k then .next s
  else
    match State.pickQueue (s.ctl k) with
    | none => .next s
    | some (q, c) =>
      let cmb := match Table.find c.sqs q with | some x => x.inCmb | none => false
      if q != 0 && s.fetchHeld then .next s
      else if ue && cmb then .next (s.modCtl k fun c => { c with cfs := true })
      else
        match s.freeCtx q with
        | none => .next s
        | some n => .next ((((if cmb then s else s.sendTlp k).modCtl k fun _ => c).countFetch q).takeEntry k q n e)

/-- SERIALISED_START (R302): a serialised admin command starts once no earlier-fetched serialised command of either controller is outstanding. [DEDUCED, log 50] -/
def execSerialisedStart (n : Nat) (s : State) : Result :=
  match s.ctx n with
  | none => .next s
  | some c =>
    let earlier := s.adm.ctxs.any fun p => p.2.sqid == 0 && decide (p.2.ctl < 2) && State.serialisedCmd p.2.sqe && decide (p.2.seq < c.seq) && !p.2.posted
    if c.sqid != 0 || !State.serialisedCmd c.sqe || c.inserted || earlier then .next s
    else .next (s.modCtxN n fun c => { c with inserted := true })

/-- IL_INSERT (R231 to R237, R283, R289, R290): the entries of a command, in fetch order, or of an internal firmware range. -/
def execIlInsert (n : Nat) (fw : Option IlRange) (s : State) : Result :=
  if !s.aeRuns 0 then .next s
  else
    match s.ctx n, fw with
    | none, some r => .next (s.insertFw n r)
    | some c, none => if c.inserted || c.status.isSome || !s.insertTurn c then .next s else .next (s.insertHost n c)
    | _, _ => .next s

/-- IL_REMOVE (R234, R235, R289, R290): after its completion entry a command's entries go and its context is free; a firmware range goes when firmware says so. -/
def execIlRemove (n : Nat) (s : State) : Result :=
  match s.ctx n with
  | none => .next s
  | some c =>
    if s.aeRuns 0 && (c.posted || c.ctl == 3) then .next ((s.removeEntries n).dropCtx n) else .next s

/-- COMPLETION_POINT (R18, R20, R208, R235, R285, R287, R296): the completion-point IL_CAS takes ACTIVE to DONE; the command's parcels are committed. -/
def execCompletionPoint (n : Nat) (s : State) : Result :=
  match s.ctx n with
  | none => .next s
  | some c =>
    if !s.mayComplete n c then .next s
    else
      let st := (State.compareStatus c).getD stOk
      let s := if c.started then s else s.failCtx n st
      let s := s.ilSetState n .done
      let s := s.modCtxN n fun c => { c with status := some st, cpSeq := s.adm.seq, changed := [] }
      let s := s.commitParcels c s.adm.seq
      .next { s with adm := { s.adm with seq := s.adm.seq + 1 } }

end Sys2Proof.Machine
end

