-- ==== Sys2Proof/Machine/BranchOps.lean ====
section
/-! DEFINITION. The Branch Link's link layer, its error log and freeze, and what both ends share (chapter 13). -/

namespace Sys2Proof.Machine

/-- Little-endian number of bytes. -/
def fromLe : List Nat → Nat
  | [] => 0
  | b :: t => b % 256 + 256 * fromLe t

/-- Blocks of 4 KiB of a volume or namespace. -/
def Namespace.blocks4k (n : Namespace) : Nat := n.nsze * n.lbaBytes / 4096

namespace State

/-- A Branch port. -/
def bl (s : State) (p : Nat) : BlPort := Table.get {} s.link.ports p
/-- Changes a Branch port. -/
def modBl (s : State) (p : Nat) (f : BlPort → BlPort) : State := { s with link := { s.link with ports := Table.put {} s.link.ports p (f (s.bl p)) } }

/-- Branch ports of the device and mode: none, B0 to B5 of PORT_EN, B0 (R327). -/
def blInUse (s : State) (p : Nat) : Bool :=
  s.flag Reg.BL_CTRL_ENABLE && s.rget Reg.BL_CTRL_PORT_EN / 2 ^ p % 2 == 1 && decide (p < 6) && s.plat.hold == .none &&
  (s.mode == .manager || (s.mode == .worker && p == 0))

/-- GSTAT.UP and FROZEN_ANY, and the counts of a port, follow its state (R351). -/
def blStat (s : State) (p : Nat) : State :=
  let up := (List.range 6).foldl (fun m q => if (s.bl q).session then m + 2 ^ q else m) 0
  let frozen := (List.range 6).any fun q => s.flag (Reg.BL_STAT_FROZEN q)
  let n := if s.mode == .worker then s.link.inTags.length else (s.bl p).tags.length
  ((((s.rset Reg.BL_GSTAT_UP up).rset Reg.BL_GSTAT_FROZEN_ANY (bit frozen)).rset (Reg.BL_CNT_OUTSTANDING p) n).rset
    (Reg.BL_CNT_QUARANTINED p) (s.bl p).quarantine.length)

/-- Data credits a packet takes (R333). -/
def dataCredits (k : BlPacket) : Nat := ceilDiv k.body.length 256

/-- A packet carries a nonce: every type but HELLO and HELLO_ACK (R329). -/
def hasNonce (k : BlPacket) : Bool := k.typ != 0x10 && k.typ != 0x11

/-- A GCM nonce counter may be taken: encryption enabled, keys present, counter below the durable mark (R418, R420). -/
def gcmReady (s : State) : Bool := s.sec.gcmOn && !s.flag Reg.CE_STAT_ERASED && decide (s.sec.nonce < s.sec.mark)

/-- A nonce is taken: the counter grows by one; at the mark encryption waits (R417, R418). -/
def takeNonce (s : State) : State :=
  let s := { s with sec := { s.sec with nonce := s.sec.nonce + 1 } }
  if s.sec.nonce < s.sec.mark then s else s.rset Reg.CE_STAT_GCM_HOLD 1

/-- Puts a sent packet on the lanes: the Fogman may drop, spoil, swap or hold it (R507). -/
def emitPacket (s : State) (p : Nat) (k : BlSent) : State :=
  match (s.bl p).swap with
  | some e => (((s.modBl p fun b => { b with swap := none }).emit (.packet p k false false)).emit (.packet p e false false)).usedBl
  | none =>
    if s.fogBl 1 p then s.usedBl
    else if s.fogBl 2 p then (s.emit (.packet p k true false)).usedBl
    else if s.fogBl 3 p then (s.emit (.packet p k false true)).usedBl
    else if s.fogBl 4 p then s.modBl p fun b => { b with swap := some k }
    else if s.fogBl 5 p && (s.bl p).delayed.isNone then (s.modBl p fun b => { b with delayed := some k }).usedBl
    else s.emit (.packet p k false false)

/-- Sends waiting packets in order while credits, nonces and the replay buffer allow (R331, R333, R418). -/
def pump (p : Nat) : Nat → State → State
  | 0, s => s
  | f + 1, s =>
    let b := s.bl p
    match b.waiting with
    | [] => s
    | k :: rest =>
      if b.lanes = 0 || b.retraining || b.hdr = 0 || decide (b.data < dataCredits k) || decide (32768 ≤ b.replay.length) || s.plat.hold != .none then s
      else if hasNonce k && !b.session then s
      else if hasNonce k && !s.gcmReady then s.rset Reg.CE_STAT_GCM_HOLD (bit s.sec.gcmOn)
      else
        let x : BlSent := ⟨b.sendSeq, if hasNonce k then s.sec.nonce else 0, k⟩
        let s := if hasNonce k then s.takeNonce else s
        let s := s.modBl p fun b => { b with
          waiting := rest, sendSeq := (b.sendSeq + 1) % 65536, replay := b.replay ++ [x], hdr := b.hdr - 1, data := b.data - dataCredits k }
        pump p f (s.emitPacket p x)

/-- Sends what a port can. -/
def pumpAll (s : State) (p : Nat) : State := pump p (s.bl p).waiting.length s

/-- Queues a packet and sends what can be sent. -/
def blSend (s : State) (p : Nat) (k : BlPacket) : State := (s.modBl p fun b => { b with waiting := b.waiting ++ [k] }).pumpAll p

/-! ## The manager's commands -/

/-- The CMD body (R336). -/
def cmdBody (c : BlOut) : List Byte :=
  toBytes (([c.opcode, c.cls % 4 + bit c.fua * 4, c.volume, c.coef] ++ leBytes 4 c.count ++ leBytes 8 c.start ++ c.extra ++ List.replicate 48 0).take 64)

/-- Tags the manager may give a new command (R342). -/
def freeTag (b : BlPort) : Option Nat := (List.range 4096).find? fun t => (Table.find b.tags t).isNone && !b.quarantine.contains t

/-- Sends queued commands of a port while tags are free and sending is not frozen; a LOG_READ is sent while frozen (R342, R346). -/
def issueBl (p : Nat) : Nat → State → State
  | 0, s => s
  | f + 1, s =>
    let b := s.bl p
    let frozen := s.flag (Reg.BL_STAT_SEND_FROZEN p) || b.held
    match b.queue.find? fun c => c.isLog || !frozen with
    | none => s
    | some c =>
      if !b.session || decide (s.paramN .branchMaxOutstanding ≤ b.tags.length) then s
      else
        match freeTag b with
        | none => s
        | some t =>
          let s := s.modBl p fun b => { b with queue := b.queue.erase c, tags := Table.ins b.tags t c }
          let k : BlPacket := if c.isLog then ⟨0x07, false, t, [c.opcode, 0] ++ leBytes 2 (c.count - 1) ++ leBytes 4 c.start ++ leBytes 4 (c.extra.headD 0), []⟩
            else ⟨0x01, false, t, [], cmdBody c⟩
          issueBl p f (s.blSend p k)

/-- Queues a member command on a port and sends what may be sent. -/
def memberCmd (s : State) (p : Nat) (c : BlOut) : State :=
  let s := s.modBl p fun b => { b with queue := b.queue ++ [c] }
  (issueBl p (s.bl p).queue.length s).blStat p

/-- A LOG_READ to a worker: identifier, length in dwords, boot counter for 0x05 (R347). -/
def readLog (s : State) (p id dwords boot : Nat) : State :=
  s.memberCmd p { owner := .log id, opcode := id, count := dwords, extra := [boot], isLog := true }

/-! ## The error log -/

/-- Newest entry number of this device's error log. -/
def newestErr (s : State) : Nat := s.link.nextErr - 1

/-- Records an error (R345, R347): the 32 newest entries are kept. A freezing error freezes the receiving queue; a worker sends one EVENT for the freeze (R346), a manager holds its commands and reads the worker's log before its RESUME (R348). -/
def blError (s : State) (p code tag : Nat) (h : Option BlHdr) (freeze : Bool) : State :=
  let was := s.flag (Reg.BL_STAT_FROZEN p)
  let secs := if s.flag Reg.SC_STAT_VALID then s.sec.clockMs / 1000 % 2 ^ 32 else 2 ^ 32 - 1
  let typ := (h.map (·.typ)).getD 0
  let nonce := if typ == 0x10 || typ == 0x11 then [0, 0, 0, 0] else [bit (s.mode == .manager), p, 0, 0]
  let bytes := match h with
    | some h => [h.typ % 256, bit h.last] ++ leBytes 2 h.len ++ leBytes 2 h.lseq ++ leBytes 2 tag ++ nonce
    | none => List.replicate 12 0
  let e : BlError := ⟨s.link.nextErr, secs, s.flash.tick % 2 ^ 32, code, p, tag, typ, freeze && !was, bytes⟩
  let s := { s with link := { s.link with errors := (e :: s.link.errors).take 32, nextErr := s.link.nextErr + 1 } }
  if !freeze then s
  else
    let s := s.rset (Reg.BL_STAT_FROZEN p) 1
    let s := if s.mode == .manager then (let s := s.rset (Reg.BL_STAT_SEND_FROZEN p) 1; if was then s else s.readLog p 1 256 0)
      else if was then s else s.blSend p ⟨0x0A, false, 0, [1, 0, 0, 0] ++ leBytes 4 s.newestErr, []⟩
    s.blStat p

/-- A control packet is sent: never numbered, never replayed (R331). -/
def sendControl (s : State) (p typ a b : Nat) : State := s.emit (.control p typ a b)

/-- LEN a packet type may have (R330). -/
def lenOk (typ len : Nat) : Bool :=
  match typ with
  | 0x01 => len == 64
  | 0x03 => decide (1 ≤ len ∧ len ≤ 4096)
  | 0x04 => len == 80
  | 0x10 | 0x11 => decide (96 ≤ len ∧ len ≤ 1024)
  | _ => len == 0

/-- The direction of a packet type: received by a worker, by a manager, or by either (R330). -/
def dirOk (s : State) (typ : Nat) : Bool :=
  if [0x01, 0x05, 0x07, 0x08, 0x10].contains typ then s.mode == .worker
  else if [0x02, 0x04, 0x06, 0x09, 0x0A, 0x11].contains typ then s.mode == .manager
  else typ == 0x03

/-- The link layer's and the session's checks of a received packet (R331, R335, R345): the state after them, and whether the packet is passed up. Order: CRC and sequence, authentication, nonce, TYPE, LEN. [DEDUCED, log 42] -/
def blRecv (s : State) (p typ tag : Nat) (h : BlHdr) : State × Bool :=
  let b := s.bl p
  let behind := (b.recvSeq + 65536 - h.lseq) % 65536
  let last := (b.recvSeq + 65535) % 65536
  if b.lanes = 0 || !s.blInUse p then (s, false)
  else if !h.crcOk then
    if b.nakSent then (s, false) else ((s.modBl p fun b => { b with nakSent := true }).sendControl p 0x41 last 0, false)
  else if behind != 0 then
    if behind ≤ 32768 then (s.sendControl p 0x40 h.lseq 0, false)
    else if b.nakSent then (s, false)
    else ((s.modBl p fun b => { b with nakSent := true }).sendControl p 0x41 last 0, false)
  else
    let s := s.modBl p fun b => { b with recvSeq := (b.recvSeq + 1) % 65536, nakSent := false }
    let s := (s.sendControl p 0x40 h.lseq 0).sendControl p 0x42 1 (ceilDiv h.len 256)
    let hello := h.typ == 0x10 || h.typ == 0x11
    if !hello && !b.session then (s, false)
    else if !hello && !h.authOk then
      ((((s.rsat (Reg.BL_ERRCNT_AUTH p)).rset Reg.CE_ERR_AUTH 1).rsat Reg.CE_CNT_AUTH_FAILS).blError p 1 tag (some h) true, false)
    else if !hello && h.counter < b.rxNext then ((s.rsat (Reg.BL_ERRCNT_AUTH p)).blError p 2 tag (some h) true, false)
    else
      let s := if hello then s else s.modBl p fun b => { b with rxNext := h.counter + 1 }
      if !s.dirOk h.typ || h.typ != typ then (s.blError p 3 tag (some h) true, false)
      else if !lenOk h.typ h.len then (s.blError p 4 tag (some h) true, false)
      else (s, true)

/-- Replays every unacknowledged packet, oldest first; the fourth replay of the same packet retrains the link (R331). -/
def blReplay (s : State) (p : Nat) : State :=
  let b := s.bl p
  if b.replay.isEmpty || b.lanes = 0 then s
  else
    let n := b.replays + 1
    let s := (s.modBl p fun b => { b with replays := n }).rsat (Reg.BL_LINK_REPLAYS p)
    let s := b.replay.foldl (fun s k => s.emitPacket p k) s
    if n < 4 then s
    else ((s.modBl p fun b => { b with replays := 0, retraining := true }).rsat (Reg.BL_LINK_RETRAINS p)).blError p 8 0xFFFF none false

/-- An acknowledged packet and those before it leave the replay buffer (R331). -/
def blAcked (s : State) (p lseq : Nat) : State :=
  let b := s.bl p
  if b.replay.any fun k => k.lseq == lseq then
    let keep := (b.replay.dropWhile fun k => k.lseq != lseq).drop 1
    (s.modBl p fun b => { b with replay := keep, replays := 0 }).pumpAll p
  else s

/-! ## A worker's answers -/

/-- A RESP body (R338): status, detail, blocks processed, UNREC and DEALLOC bitmaps of block numbers from START. -/
def respBody (status detail count : Nat) (unrec zeros : List Nat) : List Byte :=
  let bm := fun (l : List Nat) => leBytes 32 (l.foldl (fun m i => if i < 256 then m ||| 2 ^ i else m) 0)
  toBytes ([status, detail, 0, 0] ++ leBytes 4 count ++ List.replicate 8 0 ++ bm unrec ++ bm zeros)

/-- Sends RESP for a tag; the tag is no longer outstanding; an ABORT that waited is acknowledged (R339, R344). -/
def blResp (s : State) (tag status detail count : Nat) (unrec zeros : List Nat) : State :=
  let s := s.blSend 0 ⟨0x04, false, tag, [], respBody status detail count unrec zeros⟩
  match Table.find s.link.inTags tag with
  | none => s
  | some t =>
    let s := { s with link := { s.link with inTags := Table.del s.link.inTags tag } }
    let s := if t.aborted then s.blSend 0 ⟨0x06, false, tag, [if status = 7 then 0 else 1], []⟩ else s
    s.blStat 0

/-- DATA packets of a list of blocks with their indices, LAST on the final one (R340, R341). -/
def blData (s : State) (p tag : Nat) (bs : List (Nat × List Byte)) : State :=
  bs.zipIdx.foldl (fun s q => s.blSend p ⟨0x03, q.2 + 1 == bs.length, tag, leBytes 4 q.1.1, q.1.2⟩) s

/-- Tag of a worker's context. -/
def tagOfCtx (s : State) (n : Nat) : Option Nat := (s.link.inTags.find? fun q => q.2.ctx == n).map (·.1)

/-- The volume of a slot (R336). -/
def volume (s : State) (v : Nat) : Option Namespace := Table.find s.media.nand.ns (v % 128)

/-- The manager sends RESUME naming the newest entry it has read; its own freeze of the port ends (R346, R348). -/
def sendResume (s : State) (p : Nat) : State :=
  let s := (s.rset (Reg.BL_STAT_FROZEN p) 0).rset (Reg.BL_STAT_SEND_FROZEN p) 0
  (s.blSend p ⟨0x08, false, 0, leBytes 4 (s.bl p).readEntry, []⟩).blStat p

end State

end Sys2Proof.Machine
end

