-- ==== Sys2Proof/Machine/Io.lean ====
section
/-! DEFINITION. Meanings of the I/O commands (chapter 11, R284 to R289), and the writes they share with the Branch Link. -/

namespace Sys2Proof.Machine

namespace State

/-- An array namespace waits for assembly before its map lookup (R500). -/
def arrayHeld (s : State) (ns : Namespace) : Bool := ns.array && !s.link.assembled

/-- A context may run its meaning: ACTIVE, its entries inserted, not started, no status, no flush. [DESIGN CHOICE, log 2] -/
def mayRun (s : State) (n : Nat) (op : Nat) : Option (Ctx × Namespace) :=
  match s.ctx n with
  | none => none
  | some c =>
    match s.nsOf c.sqe.nsid with
    | none => none
    | some ns =>
      if c.word == .active && c.inserted && !c.started && c.status.isNone && c.sqe.opcode == op && !s.flushing && s.plat.hold == .none && !s.arrayHeld ns && (c.sqid != 0 || decide (2 ≤ c.ctl))
      then some (c, ns) else none

/-- The write completes only after step 9 (R18, R285, R306). -/
def isThrough (s : State) (c : Ctx) : Bool := c.sqe.fua || (if c.ctl < 2 then s.wtCtl c.ctl || decide (c.seq < (s.ctl c.ctl).wceSeq) else !s.cachePresent)

/-- Writes one IU of a context into its parcels (R15, R135, R145, R214, R239): new blocks encrypted, the others as the merge lookups found them; the parcels CURRENT, the map entry INBUF, the replaced entry kept for R294. -/
def writeIu (s : State) (n : Nat) (c : Ctx) (ns : Namespace) (new : Nat → Option Block) (iu : Nat) : State :=
  let sp := spaceOf ns
  let slot := slotOf ns.nsid
  let ps := c.parcels.filter fun p => (s.parcel p).iu == iu
  let first := ps.headD 0
  let old := s.mapGet sp iu
  let olds := if isInbuf old then s.iuParcels (old % 65536) else []
  let displaced := if isLoc old then some old else if isInbuf old then (s.parcel (old % 65536)).displaced else none
  let grp := groupKey c.seq ns iu
  let whole := (List.range ns.bpi).all fun i => (new (iu * ns.bpi + i)).isSome
  let s := ps.zipIdx.foldl (fun s q =>
    let bs := (lbasOf ns iu q.2).map fun l =>
      match new l with
      | some b => s.encBlock slot l b
      | none => ((c.merge.find? fun m => m.1 == l).map (·.2)).getD (s.encBlock slot l (zeroBlock ns))
    let sup := olds.find? fun o => (s.parcel o).part == q.2
    let s := s.modParcel q.1 fun x => { x with state := .filled, blocks := bs, displaced := displaced, superseded := sup, merge := !whole, grp := grp }
    s.pcInsert q.1 slot iu q.2 sup) s
  let s := s.mapSet sp iu (entInbuf first)
  let s := if ns.array then s else s.modMedia fun m => { m with groups := Table.ins m.groups grp ((((Table.find m.groups grp).map (·.1)).getD 0) + 1, []) }
  s.modCtxN n fun c => { c with changed := c.changed ++ [(mapKey sp iu, old, entInbuf first)] }

/-- Writes every IU of a context that holds its parcels; a write-through one waits for step 9 of each (R18, R285). -/
def writeIus (s : State) (n : Nat) (c : Ctx) (ns : Namespace) (new : Nat → Option Block) : State :=
  let ius := parcelIus ns c
  let through := s.isThrough c
  let s := ius.foldl (fun s iu => s.writeIu n c ns new iu) s
  let s := { s with adm := { s.adm with globalErased := false } }
  s.modCtxN n fun c => { c with started := true, throughWrite := through, waitIus := if through then ius.map fun i => c.seq * 2 ^ 40 + i else [] }

/-- A write's data is here and its parcels and merge data are ready. -/
def writeReady (s : State) (n : Nat) (c : Ctx) : Bool := !c.parcels.isEmpty && c.todo.isEmpty && c.jobs.isEmpty && c.remote.isEmpty && !s.waitsHost n

/-- What a command that writes waits for: its data, parcels and merge data, and the map lines of the IUs it changes (R140, R162). -/
def writeWaits (s : State) (n : Nat) (c : Ctx) (ns : Namespace) (ius : List Nat) : Option State :=
  if !(parcelIus ns c).isEmpty && !s.writeReady n c then some s else s.linesWait (spaceOf ns) ius

/-- An IU that two ranges share: ranges from `lo` up to, not including, `hi`. -/
def shared (a b : Nat × Nat) : Option Nat := if max a.1 b.1 < min a.2 b.2 then some (max a.1 b.1) else none

/-- The IUs of ranges that a deallocation changes or must wait for: the mapped ones, one of each unloaded segment, one of each bad line (R140, R162, R286). -/
def deallocIus (s : State) (slot : Nat) (rs : List (Nat × Nat)) : List Nat :=
  let own := fun k : Nat => k / 2 ^ 40 == slot
  let inside := fun i : Nat => rs.any fun r => decide (r.1 ≤ i ∧ i < r.2)
  let seg := fun g : Nat => (g % 2 ^ 20 * 393216, (g % 2 ^ 20 + 1) * 393216)
  let line := fun k : Nat => (k % 2 ^ 40 * 12, k % 2 ^ 40 * 12 + 12)
  ((s.media.map.filter fun q => own q.1 && inside (q.1 % 2 ^ 40)).map fun q => q.1 % 2 ^ 40) ++
  (s.media.toLoad.filter fun g => g / 2 ^ 20 == slot).flatMap (fun g => rs.filterMap (shared (seg g))) ++
  (s.media.badLines.filter own).flatMap fun k => rs.filterMap (shared (line k))

/-- The ranges of whole IUs in ranges of logical blocks. -/
def iuRanges (ns : Namespace) (rs : List (Nat × Nat)) : List (Nat × Nat) := rs.map fun r => ((r.1 + ns.bpi - 1) / ns.bpi, (r.1 + r.2) / ns.bpi)

/-- Blocks by LBA of a list that starts at an LBA. -/
def blocksAt (slba : Nat) (bs : List Block) (l : Nat) : Option Block := if slba ≤ l then bs[l - slba]? else none

/-- Sets whole IUs to DEALLOC or UNREC with their records, each atomic unit's together (R145, R213, R214, R286); IUs that already are so stay. [DEDUCED, log 57] -/
def setIus (s : State) (n : Nat) (c : Ctx) (ns : Namespace) (ius : List Nat) (e ty : Nat) : State :=
  let slot := slotOf ns.nsid
  let ius := ius.filter fun i => s.mapGet slot i != e
  let pend := ius.map fun i =>
    let old := s.mapGet slot i
    let loc := if isLoc old then some old else if isInbuf old then (s.parcel (old % 65536)).displaced else none
    (i, old, (⟨⟨e, i, slot, ty, 0⟩, c.seq * 2 ^ 40 + i, loc⟩ : Pending))
  let s := pend.foldl (fun s q =>
    let s := if isInbuf q.2.1 then (s.iuParcels (q.2.1 % 65536)).foldl (fun s p => s.pcClear p) s else s
    s.mapSet slot q.1 e) s
  let keys := (pend.map fun q => groupKey c.seq ns q.1).eraseDups
  let s := keys.foldl (fun s k => s.journalUnit ((pend.filter fun q => groupKey c.seq ns q.1 == k).map (·.2.2))) s
  s.modCtxN n fun c => { c with changed := c.changed ++ pend.map fun q => (mapKey slot q.1, q.2.1, e) }

/-- The map changes a write-through command made are durable before it completes (R285). -/
def needNow (s : State) (n : Nat) (c : Ctx) : State :=
  if s.isThrough c then (s.modCtxN n fun x => { x with needDurable := some (max s.media.nextSeq (x.needDurable.getD 0)) }).commitPage else s

/-- Lookups of every part a range touches. -/
def rangeTodo (ns : Namespace) (slba nlb : Nat) : List (Nat × Nat) :=
  let lo := slba / ns.bpp
  let hi := (slba + nlb) / ns.bpp
  (List.range (hi + 1 - lo)).map fun i => ((lo + i) / ns.parts, (lo + i) % ns.parts)

/-- Starts the lookups of a reading command (R284, R287). -/
def beginRead (s : State) (n : Nat) (ns : Namespace) (c : Ctx) : State :=
  s.modCtxN n fun x => { x with started := true, todo := rangeTodo ns c.sqe.slba c.sqe.nlb }

/-- A writer that reserves is refused while the Buffer stop holds, unless its reservation was accepted before (R191, R193). -/
def stopRefused (s : State) (c : Ctx) : Bool := s.bufferStop && !c.accepted

end State

/-- PARCEL_RESERVE (R143, R144, R191, R199, R259): parcels for a write; the write's data is asked of the host. -/
def execParcelReserve (n : Nat) (s : State) : Result :=
  let had := ((s.ctx n).map fun c => c.parcels.isEmpty).getD false
  let s := s.tryReserve n
  match s.ctx n with
  | none => .next s
  | some c =>
    if had && !c.parcels.isEmpty && c.sqe.opcode == 0x01 then .next (s.askHost n (match s.nsOf c.sqe.nsid with | some ns => (c.sqe.nlb + 1) * ns.lbaBytes | none => 0))
    else .next s

/-- FLUSH (R20, R21, R146, R192, R296): every parcel of the namespaces written by a command whose completion-point sequence is below the Flush's fetch sequence goes to the front, the units they stand in are padded; the completion waits for their records. -/
def execFlush (n : Nat) (s : State) : Result :=
  match s.ctx n with
  | none => .next s
  | some c =>
    if c.word != .active || !c.inserted || c.started || c.status.isSome || c.sqe.opcode != 0x00 || (c.sqid == 0 && decide (c.ctl < 2)) || s.flushing then .next s
    else
      let mine := fun (x : Parcel) => decide (x.cpSeq < c.seq) && x.committed && (x.state == .filled || x.state == .placed || x.state == .stripeWait) &&
        (c.sqe.nsid == 0xFFFFFFFF || x.slot % 128 == State.slotOf c.sqe.nsid)
      let ps := s.media.parcels.filter fun q => mine q.2
      let toks := (ps.filter fun q => q.2.first == q.1).map fun q => State.iuTokOf q.2
      let s := ps.foldl (fun s q => s.modParcel q.1 fun x => { x with urgent := true }) s
      .next ((s.modCtxN n fun x => { x with started := true, waitIus := toks, needDurable := some s.media.nextSeq }).flushPads.commitPage)

/-- WRITE (R135, R285): the data goes encrypted into the parcels and the map entries become INBUF; `data` the host's blocks. -/
def execWrite (n : Nat) (data : List Block) (s : State) : Result :=
  match s.mayRun n 0x01 with
  | none => .next s
  | some (c, ns) =>
    if 2 ≤ c.ctl then .next s
    else if s.stopRefused c then .next (s.failCtx n stWriteProtected)
    else match s.writeWaits n c ns (State.parcelIus ns c) with
    | some t => .next t
    | none =>
      let s := s.modCtl c.ctl fun x => { x with dataWritten := x.dataWritten + (c.sqe.nlb + 1) * ns.lbaBytes / 512 }
      .next (s.writeIus n c ns fun l => if l ≤ c.sqe.slba + c.sqe.nlb then State.blocksAt c.sqe.slba data l else none)

/-- READ (R14, R284, R367): the lookups of the parts it covers begin. -/
def execRead (n : Nat) (s : State) : Result :=
  match s.mayRun n 0x02 with
  | none => .next s
  | some (c, ns) => .next ((s.modMedia fun m => { m with hourHost := m.hourHost + 1 }).beginRead n ns c)

/-- WRITE_UNCORRECTABLE (R286): every IU becomes UNREC with a record of type 0x04; a range that is not whole IUs fails. In an array namespace zeros are buffered that read as errors, and their destage puts the blocks into the media error map. -/
def execWriteUncorrectable (n : Nat) (s : State) : Result :=
  match s.mayRun n 0x04 with
  | none => .next s
  | some (c, ns) =>
    if s.stopRefused c then .next (s.failCtx n stWriteProtected)
    else if c.sqe.slba % ns.bpi != 0 || (c.sqe.slba + c.sqe.nlb + 1) % ns.bpi != 0 then .next (s.failCtx n stField)
    else
      let ius := State.wholeIus ns c.sqe.slba (c.sqe.nlb + 1)
      match s.writeWaits n c ns ius with
      | some t => .next t
      | none =>
      if ns.array then
        let s := s.writeIus n c ns fun _ => some (State.zeroBlock ns)
        .next (c.parcels.foldl (fun s p => s.modParcel p fun x => { x with blocks := x.blocks.map fun _ => ⟨lostSlot, 0, 0, 0, 0, State.zeroBlock ns⟩ }) s)
      else .next (((s.setIus n c ns ius entUnrec 4).needNow n c).modCtxN n fun c => { c with started := true })

/-- COMPARE (R287): reads its range in the Stopping class; the completion point compares it with the host data. -/
def execCompare (n : Nat) (data : List Block) (s : State) : Result :=
  match s.mayRun n 0x05 with
  | none => .next s
  | some (c, ns) => .next (((s.beginRead n ns c).modCtxN n fun x => { x with cmp := data }).askHost n ((c.sqe.nlb + 1) * ns.lbaBytes))

/-- WRITE_ZEROES (R286): IUs covered whole become DEALLOC, IUs covered in part are merge writes with zeros. -/
def execWriteZeroes (n : Nat) (s : State) : Result :=
  match s.mayRun n 0x08 with
  | none => .next s
  | some (c, ns) =>
    let part := State.parcelIus ns c
    if s.stopRefused c then .next (s.failCtx n stWriteProtected)
    else match s.writeWaits n c ns (part ++ State.wholeIus ns c.sqe.slba (c.sqe.nlb + 1)) with
    | some t => .next t
    | none =>
      let covered := fun l => decide (c.sqe.slba ≤ l ∧ l ≤ c.sqe.slba + c.sqe.nlb)
      let s := s.writeIus n c ns fun l => if covered l then some (State.zeroBlock ns) else none
      .next (if ns.array then s else (s.setIus n c ns (State.wholeIus ns c.sqe.slba (c.sqe.nlb + 1)) entDealloc 3).needNow n c)

/-- DATASET_MANAGEMENT (R286): Deallocate makes every IU that a range covers whole DEALLOC; without AD nothing changes. -/
def execDatasetManagement (n : Nat) (s : State) : Result :=
  match s.mayRun n 0x09 with
  | none => .next s
  | some (c, ns) =>
    if !c.sqe.ad then .next (s.modCtxN n fun c => { c with started := true })
    else if s.stopRefused c then .next (s.failCtx n stWriteProtected)
    else if ns.array then
      if (State.parcelIus ns c).isEmpty then .next (s.modCtxN n fun c => { c with started := true })
      else match s.writeWaits n c ns (State.parcelIus ns c) with
      | some t => .next t
      | none => .next (s.writeIus n c ns fun _ => some (State.zeroBlock ns))
    else
      let ius := (s.deallocIus (State.slotOf ns.nsid) (State.iuRanges ns c.sqe.ranges)).eraseDups
      match s.writeWaits n c ns ius with
      | some t => .next t
      | none =>
      .next (((s.setIus n c ns ius entDealloc 3).needNow n c).modCtxN n fun c => { c with started := true })

/-- VERIFY (R287): reads and decodes its range; no data is transferred. -/
def execVerify (n : Nat) (s : State) : Result :=
  match s.mayRun n 0x0C with
  | none => .next s
  | some (c, ns) => .next (s.beginRead n ns c)

namespace State

/-- Copies of more than 128 ranges, of a range or a total above 1 MiB (R288). -/
def copyTooLarge (ns : Namespace) (e : Sqe) : Bool :=
  let lim := 2 ^ 20 / ns.lbaBytes
  decide (128 < e.ranges.length) || decide (lim < (e.ranges.map (·.2)).sum) || e.ranges.any fun r => decide (lim < r.2)

/-- Source LBAs of a Copy in order. -/
def copySources (e : Sqe) : List Nat := e.ranges.flatMap fun r => (List.range r.2).map (r.1 + ·)

end State

/-- COPY (R288): first the lookups of the source ranges; once they are read and the parcels are reserved, the destination is written as one Write. -/
def execCopy (n : Nat) (s : State) : Result :=
  match s.mayRun n 0x19 with
  | none => .next s
  | some (c, ns) =>
    let src := State.copySources c.sqe
    if s.stopRefused c then .next (s.failCtx n stWriteProtected)
    else if c.sqe.fmt != 0 then .next (s.failCtx n stField)
    else if State.copyTooLarge ns c.sqe then .next (s.failCtx n (stCmd 0x83))
    else if src.any (fun l => decide (ns.nsze ≤ l)) || decide (ns.nsze < c.sqe.slba + src.length) then .next (s.failCtx n (stGen 0x80))
    else if src.isEmpty then .next (s.modCtxN n fun c => { c with started := true })
    else if !c.fetched then
      .next (s.modCtxN n fun x => { x with fetched := true, todo := (c.sqe.ranges.flatMap fun r => State.rangeTodo ns r.1 (r.2 - 1)).eraseDups })
    else match s.writeWaits n c ns (State.parcelIus ns c) with
    | some t => .next t
    | none =>
      let at_ := fun l => (c.data.find? fun d => d.1 == l).map (·.2)
      .next (s.writeIus n c ns fun l =>
        if c.sqe.slba ≤ l then (src[l - c.sqe.slba]?).bind at_ else none)

namespace State

/-- The open superblock of a handle in a group has this many logical blocks left (RUAMW). -/
def unitLeft (s : State) (ns : Namespace) (g h : Nat) : Nat :=
  match s.openSb g (.host h) with
  | none => 0
  | some m => match s.sb m with
    | none => 0
    | some b =>
      let rest := (List.range (s.stripes b - b.cursor / 64)).map fun i => s.unitFree b (b.cursor / 64 + i) 0 * (b.dies.length - (if b.closeParity then 1 else 0))
      (rest.sum - b.used) * ns.bpp

/-- Reclaim unit handle status descriptors of a namespace: placement identifier, handle, RUAMW. -/
def ruhStatus (s : State) (ns : Namespace) : List Nat :=
  let ds := ns.handles.zipIdx.flatMap fun q => (List.range s.groupCount).map fun g =>
    leBytes 2 (g * 4096 + q.2) ++ leBytes 2 q.1 ++ leBytes 4 0 ++ leBytes 8 (s.unitLeft ns g q.1) ++ List.replicate 16 0
  List.replicate 14 0 ++ leBytes 2 ds.length ++ ds.flatten

end State

/-- IO_MANAGEMENT_RECEIVE (R282, R307): reclaim unit handle status. -/
def execIoManagementReceive (n : Nat) (s : State) : Result :=
  match s.mayRun n 0x12 with
  | none => .next s
  | some (_, ns) =>
    if !s.adm.fdp then .next (s.failCtx n stField)
    else .next (s.modCtxN n fun c => { c with started := true, bytes := s.ruhStatus ns })

/-- IO_MANAGEMENT_SEND (R149, R282): each named placement identifier's reclaim unit is closed; the next write through it opens another. -/
def execIoManagementSend (n : Nat) (pids : List Nat) (s : State) : Result :=
  match s.mayRun n 0x1D with
  | none => .next s
  | some (_, ns) =>
    let bad := pids.any fun p => decide (ns.handles.length ≤ p % 4096) || decide (s.groupCount ≤ p / 4096)
    if !s.adm.fdp then .next (s.failCtx n stField)
    else if bad then .next (s.failCtx n (stGen 0x2A))
    else
      let s := pids.foldl (fun s p =>
        match s.openSb (p / 4096) (.host (ns.handles.getD (p % 4096) 0)) with
        | some m => (s.padUnit m).closeSb m
        | none => s) s
      .next (s.modCtxN n fun c => { c with started := true })

/-! ## Reservations -/

namespace State

/-- A reservation notification for a controller (R308 page 0x80): types 1 registration preempted, 2 reservation released, 3 reservation preempted; masked by feature 0x81. -/
def resNotify (s : State) (k ty nsid : Nat) : State :=
  if Table.get 0 (s.ctl k).resMask (State.slotOf nsid) / 2 ^ ty % 2 = 1 then s
  else (s.modCtl k fun c => { c with resCount := c.resCount + 1, resLog := c.resLog ++ [(c.resCount + 1, ty, nsid)] }).postEvent k 6 0 0x80

/-- Notifies every controller of a list. -/
def resNotifyAll (s : State) (ks : List Nat) (ty nsid : Nat) : State := ks.foldl (fun s k => s.resNotify k ty nsid) s

/-- The key a controller registered. -/
def regKey (ns : Namespace) (k : Nat) : Option Nat := (ns.registrants.find? fun r => r.1 == k).map (·.2)

/-- Every registrant shares the reservation. -/
def allReg (ty : Nat) : Bool := ty == 5 || ty == 6

/-- The reservation of a namespace is released. -/
def resDrop (ns : Namespace) : Namespace := { ns with holder := none, rtype := 0 }

/-- Removes a registrant; a reservation it held alone is released (base specification). -/
def resRemove (ns : Namespace) (k : Nat) : Namespace :=
  let n := { ns with registrants := ns.registrants.filter fun r => r.1 != k }
  if allReg ns.rtype then (if n.registrants.isEmpty then resDrop n else n)
  else if ns.holder = some k then resDrop n else n

/-- A reservation command ends: its namespace changed, or a status. -/
def resEnd (s : State) (n slot : Nat) (f : Namespace → Namespace) : State :=
  (s.modNs slot f).modCtxN n fun c => { c with started := true }

/-- Conflict of a reservation command. -/
def resFail (s : State) (n : Nat) : State := s.failCtx n (stGen 0x83)

/-- PTPL after a change requested by CPTPL: 2 clears it, 3 sets it, another value leaves it (base specification). -/
def ptplOf (ns : Namespace) (cptpl : Nat) : Bool := if cptpl = 2 then false else if cptpl = 3 then true else ns.ptpl

/-- Holders of a preempted key. -/
def keyHolders (ns : Namespace) (k prkey : Nat) : List Nat :=
  (ns.registrants.filter fun r => r.1 != k && (r.2 == prkey || (prkey == 0 && allReg ns.rtype))).map (·.1)

/-- Preempt (base specification): the registrants of a key go; a reservation they held is taken. [PRESUMED, log 48] -/
def resPreempt (s : State) (n k : Nat) (ns : Namespace) (rtype prkey : Nat) : State :=
  let slot := slotOf ns.nsid
  let gone := keyHolders ns k prkey
  let held := ns.holder.isSome || (allReg ns.rtype && !ns.registrants.isEmpty)
  let takes := held && (if allReg ns.rtype then prkey == 0 else match ns.holder with | some h => regKey ns h == some prkey | none => false)
  if gone.isEmpty && !takes then s.resFail n
  else
    let s := s.resEnd n slot fun x =>
      let y := gone.foldl (fun a g => if takes then { a with registrants := a.registrants.filter fun r => r.1 != g } else resRemove a g) x
      let y := { y with resGen := y.resGen + 1 }
      if takes then { y with holder := some k, rtype := rtype } else y
    let s := s.resNotifyAll gone 1 ns.nsid
    if takes && ns.rtype != rtype then s.resNotifyAll ((ns.registrants.map (·.1)).filter fun r => r != k && !gone.contains r) 2 ns.nsid else s

end State

/-- RESERVATION_REGISTER (R289): registers, unregisters or replaces the controller's key. -/
def execReservationRegister (n rrega crkey nrkey : Nat) (iekey : Bool) (cptpl : Nat) (s : State) : Result :=
  match s.mayRun n 0x0D with
  | none => .next s
  | some (c, ns) =>
    let slot := State.slotOf ns.nsid
    let k := c.ctl
    let cur := State.regKey ns k
    let set := fun (x : Namespace) => { x with registrants := (x.registrants.filter fun r => r.1 != k) ++ [(k, nrkey)], resGen := x.resGen + 1, ptpl := State.ptplOf x cptpl }
    match rrega with
    | 0 =>
      match cur with
      | some q => if q = nrkey || iekey then .next (s.resEnd n slot set) else .next (s.resFail n)
      | none => .next (s.resEnd n slot set)
    | 1 =>
      if cur.isNone || (cur != some crkey && !iekey) then .next (s.resFail n)
      else
        let released := ns.holder = some k && !State.allReg ns.rtype
        let s := s.resEnd n slot fun x => { State.resRemove x k with resGen := x.resGen + 1, ptpl := State.ptplOf x cptpl }
        .next (if released && (ns.rtype == 3 || ns.rtype == 4) then s.resNotifyAll ((ns.registrants.map (·.1)).filter (· != k)) 2 ns.nsid else s)
    | 2 => if cur.isNone || (cur != some crkey && !iekey) then .next (s.resFail n) else .next (s.resEnd n slot set)
    | _ => .next (s.failCtx n stField)

/-- RESERVATION_REPORT (R289): the reservation status data structure: generation, type, registered controllers, persist, then each registrant. -/
def execReservationReport (n : Nat) (s : State) : Result :=
  match s.mayRun n 0x0E with
  | none => .next s
  | some (_, ns) =>
    let ds := ns.registrants.map fun r =>
      let holds := ns.holder == some r.1 || State.allReg ns.rtype
      leBytes 2 (r.1 + 1) ++ [bit holds] ++ List.replicate 5 0 ++ leBytes 8 0 ++ leBytes 8 r.2
    let hdr := leBytes 4 ns.resGen ++ [ns.rtype] ++ leBytes 2 ns.registrants.length ++ [0, 0] ++ [bit ns.ptpl] ++ List.replicate 14 0
    .next (s.modCtxN n fun c => { c with started := true, bytes := hdr ++ ds.flatten })

/-- RESERVATION_ACQUIRE (R289): acquires, or preempts (and aborts: commands of the host preempted meet the reservation check). -/
def execReservationAcquire (n racqa rtype crkey prkey : Nat) (iekey : Bool) (s : State) : Result :=
  match s.mayRun n 0x11 with
  | none => .next s
  | some (c, ns) =>
    let k := c.ctl
    let slot := State.slotOf ns.nsid
    let cur := State.regKey ns k
    if rtype = 0 || 6 < rtype || 2 < racqa then .next (s.failCtx n stField)
    else if cur.isNone || (cur != some crkey && !iekey) then .next (s.resFail n)
    else if racqa = 0 then
      match ns.holder with
      | none => .next (s.resEnd n slot fun x => { x with holder := some k, rtype := rtype })
      | some h => if (h = k || State.allReg ns.rtype) && ns.rtype = rtype then .next (s.modCtxN n fun c => { c with started := true }) else .next (s.resFail n)
    else .next (s.resPreempt n k ns rtype prkey)

/-- RESERVATION_RELEASE (R289): releases the reservation, or clears it with every registrant. [PRESUMED, log 48] -/
def execReservationRelease (n rrela rtype crkey : Nat) (iekey : Bool) (s : State) : Result :=
  match s.mayRun n 0x15 with
  | none => .next s
  | some (c, ns) =>
    let k := c.ctl
    let slot := State.slotOf ns.nsid
    let cur := State.regKey ns k
    let others := (ns.registrants.map (·.1)).filter (· != k)
    if 1 < rrela then .next (s.failCtx n stField)
    else if cur.isNone || (cur != some crkey && !iekey) then .next (s.resFail n)
    else if rrela = 1 then
      let s := s.resEnd n slot fun x => { State.resDrop x with registrants := [], resGen := x.resGen + 1 }
      .next (s.resNotifyAll others 3 ns.nsid)
    else if !(ns.holder = some k || (State.allReg ns.rtype && ns.holder.isSome)) then .next (s.modCtxN n fun c => { c with started := true })
    else if ns.rtype != rtype then .next (s.failCtx n stField)
    else
      let s := s.resEnd n slot State.resDrop
      .next (if 3 ≤ ns.rtype then s.resNotifyAll others 2 ns.nsid else s)

end Sys2Proof.Machine
end

