-- ==== Sys2Proof/Machine/Parity.lean ====
section
/-! DEFINITION. The array's arithmetic and address mapping (chapter 14, R359 to R361), member 0's own strips, the media error map. -/

namespace Sys2Proof.Machine

/-- Multiplication in GF(2^8) modulo x^8 + x^4 + x^3 + x^2 + 1 (R361): the byte `a` times the low `n` bits of `b`. -/
def gfMul (a b : Nat) : Nat → Nat
  | 0 => 0
  | n + 1 => (if b % 2 = 1 then a else 0) ^^^ gfMul (if a < 128 then 2 * a else (2 * a - 256) ^^^ 0x1D) (b / 2) n

/-- The product of two bytes. -/
def gmul (a b : Nat) : Nat := gfMul a b 8
/-- g^i for the generator g = 0x02 (R361). -/
def gpow : Nat → Nat
  | 0 => 1
  | i + 1 => gmul (gpow i) 2
/-- The inverse of a byte other than 0. -/
def ginv (a : Nat) : Nat := ((List.range 256).find? fun b => gmul a b == 1).getD 0

/-- A block multiplied by a coefficient. -/
def bmul (k : Nat) (a : List Byte) : List Byte := a.map fun b => BitVec.ofNat 8 (gmul k b.toNat)

/-- Σ g^i ⊗ D_i with coefficients, over data indices from i on. -/
def qSum : Nat → List (List Byte) → List Byte
  | _, [] => bzero
  | i, d :: ds => bxor (bmul (gpow i) d) (qSum (i + 1) ds)
/-- XOR of blocks. -/
def pSum (ds : List (List Byte)) : List Byte := ds.foldl bxor bzero

/-- The data blocks at one offset of a row, from those known and the parity known (R361, R368): none where too many are missing. -/
def solve (ds : List (Option (List Byte))) (p q : Option (List Byte)) : Option (List (List Byte)) :=
  let full := ds.map fun d => d.getD bzero
  let miss := (ds.zipIdx.filter fun d => d.1.isNone).map (·.2)
  match miss, p, q with
  | [], _, _ => some full
  | [x], some p, _ => some (full.set x (bxor p (pSum full)))
  | [x], none, some q => some (full.set x (bmul (ginv (gpow x)) (bxor q (qSum 0 full))))
  | [x, y], some p, some q =>
    let pp := bxor p (pSum full)
    let qq := bxor q (qSum 0 full)
    let dx := bmul (ginv (gpow x ^^^ gpow y)) (bxor qq (bmul (gpow y) pp))
    some ((full.set x dx).set y (bxor pp dx))
  | _, _, _ => none

/-- Width of the array. -/
def ArrayHeader.n (h : ArrayHeader) : Nat := h.positions.length
/-- A mirror layout (R353). -/
def ArrayHeader.mirror (h : ArrayHeader) : Bool := decide (h.layout < 2)
/-- Copies of a strip: 1 for parity layouts. -/
def ArrayHeader.copies (h : ArrayHeader) : Nat := if h.layout = 0 then 2 else if h.layout = 1 then 3 else 1
/-- Data strips per row (R353). -/
def ArrayHeader.k (h : ArrayHeader) : Nat := if h.mirror then h.n else h.n - (h.layout - 1)
/-- Positions that may fail without loss (R353). -/
def ArrayHeader.tolerance (h : ArrayHeader) : Nat := if h.layout = 1 || h.layout = 3 then 2 else 1
/-- Position of P (R359). -/
def ArrayHeader.pPos (h : ArrayHeader) (r : Nat) : Nat := h.n - 1 - r % h.n
/-- Position of Q, in the dual-parity layout (R359). -/
def ArrayHeader.qPos (h : ArrayHeader) (r : Nat) : Nat := (h.pPos r + 1) % h.n
/-- Position of data index i (R359). -/
def ArrayHeader.dataPos (h : ArrayHeader) (r i : Nat) : Nat := (h.pPos r + 1 + (if h.layout = 3 then 1 else 0) + i) % h.n
/-- Places of block o of strip i of a row: position and offset in the position's part of the row; copies in copy order (R359, R360). -/
def ArrayHeader.places (h : ArrayHeader) (r i o : Nat) : List (Nat × Nat) :=
  if h.mirror then (List.range h.copies).map fun m => ((r * h.n + i + m) % h.n, m * 16 + o) else [(h.dataPos r i, o)]
/-- Row, data index and offset of an array block. -/
def ArrayHeader.locate (h : ArrayHeader) (a : Nat) : Nat × Nat × Nat := (a / 16 / h.k, a / 16 % h.k, a % 16)
/-- Array block of a row's strip. -/
def ArrayHeader.blockOf (h : ArrayHeader) (r i o : Nat) : Nat := (r * h.k + i) * 16 + o
/-- Member block of an offset in a position's part of a row. -/
def ArrayHeader.memberBlock (h : ArrayHeader) (r m : Nat) : Nat := r * 16 * h.copies + m
/-- A position serves a row of a namespace: ONLINE, or REBUILDING below the checkpoint (R366). -/
def ArrayHeader.online (h : ArrayHeader) (slot r pos : Nat) : Bool :=
  match h.positions[pos]? with
  | some p => p.state == .online || (p.state == .rebuilding && (decide (slot < h.ckpt.1) || (slot == h.ckpt.1 && decide (r < h.ckpt.2))))
  | none => false
/-- Positions FAILED or REBUILDING. -/
def ArrayHeader.down (h : ArrayHeader) : Nat := (h.positions.filter fun p => p.state == .failed || p.state == .rebuilding).length
/-- Rows of a namespace of A array blocks (R357). -/
def ArrayHeader.rows (h : ArrayHeader) (a : Nat) : Nat := ceilDiv a (16 * h.k)

namespace State

/-- The array header, where an array exists. -/
def hdr? (s : State) : Option ArrayHeader := s.arr.header
/-- The port whose session is with a member. -/
def memberPort (s : State) (m : Nat) : Option Nat := (List.range 6).find? fun p => (s.bl p).session && s.rget (Reg.BL_STAT_MEMBER p) == m

/-- Array namespaces, ascending slots. -/
def arrayNs (s : State) : List (Nat × Namespace) := s.media.nand.ns.filter fun q => q.2.array

/-- First block of the metadata area of a namespace's volumes (R356). -/
def metaBase (h : ArrayHeader) (ns : Namespace) : Nat := h.rows ns.blocks4k * 16 * h.copies

/-- Writes blocks into the metadata area of a namespace's volume on a member; member 0's are its own flash. -/
def metaWrite (s : State) (m : Nat) (h : ArrayHeader) (slot : Nat) (ns : Namespace) (fua : Bool) (blocks : List (Nat × List Byte)) : State :=
  match (if m = 0 then none else s.memberPort m) with
  | none => s
  | some p => blocks.foldl (fun s b => s.memberCmd p { owner := .none, opcode := 2, fua := fua, volume := slot, start := metaBase h ns + b.1, blocks := [b.2] }) s

/-- Changes the header: the generation grows, every copy is written anew (R354). -/
def modHdr (s : State) (f : ArrayHeader → ArrayHeader) : State :=
  let s := { s with arr := { s.arr with header := s.arr.header.map fun h => { f h with generation := h.generation + 1 } } }
  match s.hdr? with
  | none => s
  | some h =>
    let block : List Byte := (List.range 4096).map fun i => Config.headerByte h.ident h.generation i
    h.positions.foldl (fun s (p : Position) =>
      if p.state == .online || p.state == .rebuilding then s.arrayNs.foldl (fun s (q : Nat × Namespace) => s.metaWrite p.member h q.1 q.2 false [(0, block)]) s else s) s

/-- The worker that holds a copy of the dirty-region journal (R379). -/
def journalHolder (s : State) : Option Nat :=
  match s.hdr? with
  | none => none
  | some h => ((List.range h.n).find? fun j => s.flag (Reg.AY_POS_HOLDER j) && (h.positions[j]?).any fun p => p.member != 0).bind fun j => (h.positions[j]?).map (·.member)

/-- A journal block (R378): generation, then the bits of 32,704 regions. -/
def journalBlock (gen b : Nat) (dirty : List Nat) : List Byte :=
  toBytes (leBytes 8 gen ++ (List.range 4088).map fun i =>
    (List.range 8).foldl (fun m k => if dirty.contains (b * 32704 + i * 8 + k) then m + 2 ^ k else m) 0)

/-- Key of a journal block's generation. -/
def journalKey (slot b : Nat) : Nat := slot * 2 ^ 20 + b
/-- Generation of a journal block (R378). -/
def journalGen (s : State) (slot b : Nat) : Nat := Table.get 0 s.arr.gens (journalKey slot b)
/-- Journal blocks are written anew, each generation incremented (R378). -/
def stampJournal (s : State) (slot : Nat) (bs : List Nat) : State :=
  bs.foldl (fun s b => { s with arr := { s.arr with gens := Table.put 0 s.arr.gens (journalKey slot b) (s.journalGen slot b + 1) } }) s

/-- Journal blocks of a namespace's volume (R356). -/
def journalBlocksOf (h : ArrayHeader) (ns : Namespace) : Nat := ceilDiv (ceilDiv (metaBase h ns) 256) 32704

/-- An entry of the media error map (R375). -/
def emapBytes (e : EmapEntry) : List Byte := toBytes (leBytes 8 e.first ++ leBytes 4 e.count ++ [e.typ, e.position, e.cause, 0])

/-- Block b of a media error map: 256 entries of 16 bytes. -/
def emapBlock (l : List EmapEntry) (b : Nat) : List Byte := ((((l.drop (b * 256)).take 256).flatMap emapBytes) ++ bzero).take 4096

/-- The journal holder receives the blocks of a media error map that change (R375). -/
def saveEmap (s : State) (slot : Nat) (old new : List EmapEntry) : State :=
  match s.journalHolder, s.hdr?, Table.find s.media.nand.ns slot with
  | some m, some h, some ns =>
    let bs := (List.range 64).filter fun b => (old.drop (b * 256)).take 256 != (new.drop (b * 256)).take 256
    s.metaWrite m h slot ns true (bs.map fun b => (1 + journalBlocksOf h ns + b, emapBlock new b))
  | _, _, _ => s

/-- A new holder receives the whole journal and media error map (R379). -/
def giveJournal (s : State) (m : Nat) : State :=
  match s.hdr? with
  | none => s
  | some h => s.arrayNs.foldl (fun s (q : Nat × Namespace) =>
      let d := Table.get [] s.arr.dirty q.1
      let l := Table.get [] s.arr.emap q.1
      (s.metaWrite m h q.1 q.2 true ((List.range (journalBlocksOf h q.2)).map fun b => (1 + b, journalBlock (s.journalGen q.1 b) b d))).metaWrite m h q.1 q.2 true
        ((List.range (ceilDiv l.length 256)).map fun b => (1 + journalBlocksOf h q.2 + b, emapBlock l b))) s

/-- A position-row entry covers a position's strip of a row. -/
def emapRow (r pos : Nat) (e : EmapEntry) : Bool := e.typ == 2 && e.position == pos && decide (e.first ≤ r ∧ r < e.first + e.count)

/-- Position-row entries cover a strip of a row: that of its position, or for a mirror those of every copy (R374, R375). -/
def emapStrip (h : ArrayHeader) (l : List EmapEntry) (r i : Nat) : Bool := (h.places r i 0).all fun q => l.any (emapRow r q.1)

/-- An array block is in the media error map of its namespace: a block range, or position-row ranges that cover its strip (R375). -/
def emapHas (s : State) (h : ArrayHeader) (slot a : Nat) : Bool :=
  let (r, i, _) := h.locate a
  let l := Table.get [] s.arr.emap slot
  emapStrip h l r i || l.any fun e => e.typ == 1 && decide (e.first ≤ a ∧ a < e.first + e.count)

/-- AY_EMAP and EMAP_FULL follow the maps (R375). -/
def emapStat (s : State) : State :=
  let n := (s.arr.emap.map fun q => q.2.length).sum
  (s.rset Reg.AY_EMAP_ENTRIES (min 65535 n)).rset Reg.AY_STAT_EMAP_FULL (bit (s.arr.emap.any fun q => decide (16384 ≤ q.2.length)))

/-- Adds an entry, unless the namespace's map is full (R375). [DEDUCED, log 57] -/
def emapAdd (s : State) (slot : Nat) (e : EmapEntry) : State :=
  let l := Table.get [] s.arr.emap slot
  if 16384 ≤ l.length || l.contains e then s.emapStat
  else (({ s with arr := { s.arr with emap := Table.ins s.arr.emap slot (l ++ [e]) } }).saveEmap slot l (l ++ [e])).emapStat

/-- A written block leaves the map: its entry is replaced by entries that exclude it (R376). Of a row range, the rows around it and the other blocks it covers in the row stay. -/
def emapCut (h : ArrayHeader) (l : List EmapEntry) (a : Nat) (e : EmapEntry) : List EmapEntry :=
  let (r, i, o) := h.locate a
  if e.typ = 1 then
    if e.first ≤ a ∧ a < e.first + e.count then
      [{ e with count := a - e.first }, { e with first := a + 1, count := e.first + e.count - a - 1 }].filter fun x => x.count != 0
    else [e]
  else if emapRow r e.position e && emapStrip h l r i && (h.places r i o).any (fun q => q.1 == e.position) then
    let strips := (List.range h.k).filter fun j => emapStrip h l r j && (h.places r j 0).any fun q => q.1 == e.position
    let rest := strips.flatMap fun j =>
      if j = i then [⟨h.blockOf r j 0, o, 1, 0, e.cause⟩, ⟨a + 1, 15 - o, 1, 0, e.cause⟩] else [(⟨h.blockOf r j 0, 16, 1, 0, e.cause⟩ : EmapEntry)]
    ([{ e with count := r - e.first }, { e with first := r + 1, count := e.first + e.count - r - 1 }] ++ rest).filter fun x => x.count != 0
  else [e]

/-- Clears written blocks from a namespace's map. -/
def emapClear (s : State) (h : ArrayHeader) (slot : Nat) (as : List Nat) : State :=
  let old := Table.get [] s.arr.emap slot
  let l := as.foldl (fun l a => (l.flatMap (emapCut h l a)).eraseDups) old
  (({ s with arr := { s.arr with emap := Table.put [] s.arr.emap slot l } }).saveEmap slot old l).emapStat

/-! ## Member 0 -/

/-- A block given as bytes, as it is stored in a namespace's logical blocks. -/
def rawCiphers (ns : Namespace) (bytes : List Byte) : List Cipher :=
  (List.range ns.bpp).map fun i => ⟨rawSlot, 0, 0, 0, 0, (bytes.drop (i * ns.lbaBytes)).take ns.lbaBytes⟩

/-- A member block of member 0's volume: none when unrecoverable. -/
def localRead (s : State) (ns : Namespace) (b : Nat) : Option (List Byte) :=
  let e := s.mapGet (slotOf ns.nsid) (b / ns.parts)
  if isDealloc e then some bzero
  else if !isLoc e then none
  else match Table.find s.media.nand.content e with
    | some x => some (((x.blocks.drop (b % ns.parts * ns.bpp)).take ns.bpp).flatMap cipherBytes)
    | none => none

/-- Writes one member block of member 0's volume: the rest of its IU is kept, the IU placed in a host stream, the map entry and its record written. False when no superblock has room. -/
def localWrite (s : State) (ns : Namespace) (b : Nat) (cs : List Cipher) : State × Bool :=
  let slot := slotOf ns.nsid
  let iu := b / ns.parts
  let e := s.mapGet slot iu
  let old := if isLoc e then ((Table.find s.media.nand.content e).map (·.blocks)).getD [] else []
  let blocks := (List.range ns.bpi).map fun i =>
    if i / ns.bpp = b % ns.parts then cs.getD (i % ns.bpp) ⟨rawSlot, 0, 0, 0, 0, zeroBlock ns⟩
    else old.getD i ⟨rawSlot, 0, 0, 0, 0, zeroBlock ns⟩
  match s.placeIu (s.nextGroup 0) (.host 0) ns.parts with
  | (s, none) => (s, false)
  | (s, some (n, _, l)) =>
    let st : Stored := ⟨slot, ns.nsid, iu, s.media.wseq, false, true, blocks⟩
    let s := (s.modNand fun y => { y with content := Table.ins y.content l st }).modMedia fun m => { m with wseq := m.wseq + 1 }
    (((s.mapRecords slot [(iu, l, 1)]).validateLoc l).unitFilled n, true)

end State

end Sys2Proof.Machine
end

