-- ==== Sys2Proof/Machine/ArrayOps.lean ====
section
/-! DEFINITION. The array engine (chapter 14): jobs over one row, member failure, undegraded and degraded reads. -/

namespace Sys2Proof.Machine

namespace State

/-- AY_STAT, AY_POS and critical state follow the header (R382). A journal holder stays one while it is ONLINE; the first is the worker that `journal_member` names or the lowest ONLINE worker position, its successor the lowest-numbered ONLINE worker (R379). -/
def arrayStat (s : State) : State :=
  match s.hdr? with
  | none => s
  | some h =>
    let st := if !s.link.assembled then 0 else if h.positions.any (fun p => p.state == .rebuilding) then 3 else if 0 < h.down then 2 else 1
    let s := ((s.rset Reg.AY_STAT_LAYOUT h.layout).rset Reg.AY_STAT_WIDTH h.n).rset Reg.AY_STAT_SPARE_FAILURES (h.tolerance - h.down)
    let s := if s.rget Reg.AY_STAT_STATE = 4 then s else s.rset Reg.AY_STAT_STATE st
    let online := (h.positions.filter fun p => p.member != 0 && p.state == .online).map (·.member)
    let named := s.paramN .arrayJournalMember
    let lowest := online.foldl (fun (a : Option Nat) m => match a with | none => some m | some x => some (min x m)) none
    let holder := match s.journalHolder with
      | some m => if online.contains m then some m else lowest
      | none => if online.contains named then some named else online.head?
    h.positions.zipIdx.foldl (fun s q =>
      let c : Nat := match q.1.state with | .unused => 0 | .online => 1 | .failed => 2 | .rebuilding => 3
      ((((s.rset (Reg.AY_POS_MEMBER q.2) q.1.member).rset (Reg.AY_POS_STATE q.2) c).rset (Reg.AY_POS_CAUSE q.2) q.1.cause).rset
        (Reg.AY_POS_HOLDER q.2) (bit (q.1.member == 0 || some q.1.member == holder)))) s

/-- The same, and a new journal holder receives the journal and the media error map (R379). -/
def settleHolder (s : State) : State :=
  let was := s.journalHolder
  let s := s.arrayStat
  match s.journalHolder with
  | some m => if was = some m then s else s.giveJournal m
  | none => s

/-! ## Stripe locks (R364) -/

/-- Takes a stripe lock of a row with a context of its own; none when it is held, or the Interlocking has no room. -/
def takeLock (s : State) (slot row : Nat) (writer : Bool) : Option (State × Nat) :=
  let u := ilUnit0 row 0 slot 1 writer
  match s.freeCtx 0 with
  | none => none
  | some n =>
    if !s.aeRuns 0 || !(s.conflicts u).isEmpty || s.ilFree = 0 || s.rget Reg.AE_IL_CFG_FW_MAX < s.fwEntries + 1 then none
    else
      let c : Ctx := { ctl := 3, sqid := 0xFFFF, sqe := Sqe.empty, seq := s.adm.seq, path := .firmware }
      let s := { s with adm := { s.adm with ctxs := Table.ins s.adm.ctxs n c, seq := s.adm.seq + 1 } }
      some (s.ilInsert n [u] [0], n)

/-- Releases a stripe lock. -/
def dropLock (s : State) (n : Nat) : State := (s.ilRemove n).dropCtx n

/-! ## Jobs -/

/-- A job. -/
def ajob (s : State) (j : Nat) : Option AJob := Table.find s.link.jobs j
/-- Writes a job. -/
def setAJob (s : State) (j : Nat) (x : AJob) : State := { s with link := { s.link with jobs := Table.ins s.link.jobs j x } }
/-- Changes a job where there is one. -/
def modAJob (s : State) (j : Nat) (f : AJob → AJob) : State := { s with link := { s.link with jobs := Table.modify f s.link.jobs j } }
/-- Adds a job; its number. -/
def addAJob (s : State) (x : AJob) : State × Nat :=
  let j := (Table.keys s.link.jobs).foldl max 0 + 1
  (s.setAJob j x, j)

/-- Key of a block of a row. -/
def rowKey (pos m : Nat) : Nat := pos * 64 + m

/-- A block of the row came back: read, or as a delta. -/
def gotBlock (s : State) (j pos m : Nat) (delta : Bool) (b : List Byte) : State :=
  s.modAJob j fun x => if delta then { x with deltas := Table.ins x.deltas (rowKey pos m) b } else { x with reads := Table.ins x.reads (rowKey pos m) b }

/-- A position's block of a job's row is held in the media error map. -/
def markedAt (s : State) (j pos m : Nat) : Bool :=
  match s.ajob j, s.hdr? with
  | some x, some h => (List.range h.k).any fun k => h.dataPos x.row k == pos && s.emapHas h x.slot (h.blockOf x.row k m)
  | _, _ => false

/-- A block of a WRITE_DELTA came back (R363, R376): a marked block counts as zero before it, an unrecoverable one leaves the parity out of step. -/
def gotDelta (s : State) (j pos m : Nat) (new : List Byte) (delta : Option (List Byte)) : State :=
  if s.markedAt j pos m then s.gotBlock j pos m true new
  else match delta with
    | some d => s.gotBlock j pos m true d
    | none => s.modAJob j fun x => { x with redo := true }

/-- Executes a member command on member 0 (R361). -/
def localOp (s : State) (j pos m : Nat) (ns : Namespace) (c : BlOut) : State :=
  (List.range c.count).foldl (fun s i =>
    let b := c.start + i
    let old := s.localRead ns b
    let new := c.blocks.getD i bzero
    let own : Option (List Cipher) := (s.ajob j).bind fun x => x.parcels.foldl (fun (a : Option (List Cipher)) p =>
      (s.iuParcels p).foldl (fun a q =>
        let y := s.parcel q
        match s.hdr? with
        | some h => if h.mirror && a.isNone && !(y.blocks.any fun b => b.slot == lostSlot) && h.memberBlock x.row (m + i) == b && (h.places x.row ((h.locate (y.iu * ns.parts + y.part)).2.1) ((h.locate (y.iu * ns.parts + y.part)).2.2)).contains (pos, m + i) then some y.blocks else a
        | none => a) a) none
    let put := fun (s : State) (bytes : List Byte) =>
      let r := s.localWrite ns b (own.getD (rawCiphers ns bytes))
      if r.2 then r.1 else r.1.modAJob j fun x => { x with redo := true }
    match c.opcode with
    | 1 => match old with
      | some d => s.gotBlock j pos (m + i) false d
      | none => s.modAJob j fun x => { x with lost := x.lost ++ [rowKey pos (m + i)] }
    | 2 => put s new
    | 3 => (put s new).gotDelta j pos (m + i) new (old.map fun d => bxor d new)
    | 4 => put (if old.isSome then s else s.modAJob j fun x => { x with redo := true }) (bxor (old.getD bzero) (bmul c.coef new))
    | _ => s) s

/-- Sends a member command of a job to the member of a position, or executes it on member 0; a member without a session is one whose command fails. -/
def memberOp (s : State) (j pos m : Nat) (c : BlOut) : State :=
  match s.ajob j, s.hdr? with
  | some x, some h =>
    match h.positions[pos]?, Table.find s.media.nand.ns x.slot with
    | some p, some ns =>
      let c := { c with owner := .job j pos, volume := x.slot, mOff := m, start := h.memberBlock x.row m }
      if p.member = 0 then s.localOp j pos m ns c
      else match s.memberPort p.member with
        | some q => (s.modAJob j fun x => { x with pend := x.pend + 1 }).memberCmd q c
        | none => if c.opcode = 1 then s.modAJob j fun x => { x with lost := x.lost ++ (List.range c.count).map fun i => rowKey pos (m + i) }
                  else s.modAJob j fun x => { x with redo := true }
    | _, _ => s
  | _, _ => s

/-- Contiguous runs of a rising list: first and length. -/
def runs : List Nat → List (Nat × Nat)
  | [] => []
  | a :: t => match runs t with
    | (b, n) :: r => if b = a + 1 then (a, n + 1) :: r else (a, 1) :: (b, n) :: r
    | [] => [(a, 1)]

/-- Offsets of a strip that a job writes. -/
def newOffs (x : AJob) (i : Nat) : List Nat := (List.range 16).filter fun o => (Table.find x.news (i * 16 + o)).isSome

/-- Sends a command for each run of new blocks of a strip at one of its places. -/
def sendRuns (s : State) (j : Nat) (x : AJob) (op i pos base : Nat) : State :=
  (runs (newOffs x i)).foldl (fun s r =>
    s.memberOp j pos (base + r.1) { owner := .none, opcode := op, count := r.2, blocks := (List.range r.2).map fun o => Table.get bzero x.news (i * 16 + r.1 + o) }) s

/-- Reads offsets of a position. -/
def readOffs (s : State) (j pos base cls : Nat) (offs : List Nat) : State :=
  (runs offs).foldl (fun s r => s.memberOp j pos (base + r.1) { owner := .none, opcode := 1, cls := cls, count := r.2 }) s

/-- Writes blocks of a position at offsets. -/
def writeOffs (s : State) (j pos base : Nat) (bs : List (Nat × List Byte)) : State :=
  (runs (bs.map (·.1))).foldl (fun s r =>
    s.memberOp j pos (base + r.1) { owner := .none, opcode := 2, count := r.2, blocks := (List.range r.2).map fun o => ((bs.find? fun q => q.1 == r.1 + o).map (·.2)).getD bzero }) s

/-- Online parity positions of a row: position and whether it is Q. -/
def parities (h : ArrayHeader) (slot r : Nat) : List (Nat × Bool) :=
  (if h.mirror then [] else (h.pPos r, false) :: (if h.layout = 3 then [(h.qPos r, true)] else [])).filter fun q => h.online slot r q.1

/-- The first commands of a job: reads, data writes or delta writes (R363, R366, R368, R373, R377). -/
def issueData (s : State) (j : Nat) (x : AJob) (h : ArrayHeader) : State :=
  let on := h.online x.slot x.row
  let strips := List.range h.k
  let goods := match x.kind with | .rebuild _ | .inspect => 2 | _ => 1
  let readAll := fun (s : State) (offs : List Nat) =>
    (List.range h.n).foldl (fun s pos => if on pos then (List.range h.copies).foldl (fun s m => s.readOffs j pos (m * 16) goods offs) s else s) s
  match x.kind with
  | .destage =>
    if h.mirror then
      strips.foldl (fun s i => (h.places x.row i 0).foldl (fun s q => if on q.1 then s.sendRuns j x 2 i q.1 q.2 else s) s) s
    else
      let ps := parities h x.slot x.row
      let full := strips.all fun i => (newOffs x i).length == 16
      let hidden := strips.any fun i => !(newOffs x i).isEmpty && !on (h.dataPos x.row i)
      let offs := (List.range 16).filter fun o => strips.any fun i => (newOffs x i).contains o
      if ps.isEmpty then strips.foldl (fun s i => if on (h.dataPos x.row i) then s.sendRuns j x 2 i (h.dataPos x.row i) 0 else s) s
      else if full || hidden then
        let s := s.modAJob j fun y => { y with delta := false, offs := offs }
        if full then s else readAll s offs
      else
        let s := s.modAJob j fun y => { y with delta := true, offs := offs }
        strips.foldl (fun s i => s.sendRuns j x 3 i (h.dataPos x.row i) 0) s
  | .degraded _ _ _ => readAll s x.offs
  | .recompute => readAll s x.offs
  | .rebuild pos => (List.range h.n).foldl (fun s p => if p != pos && on p then (List.range h.copies).foldl (fun s m => s.readOffs j p (m * 16) goods (List.range 16)) s else s) s
  | .inspect => readAll s (List.range 16)

/-- What is known of a data block at an offset: new, marked (zero), or read. -/
def dataAt (s : State) (x : AJob) (h : ArrayHeader) (i o : Nat) : Option (List Byte) :=
  match Table.find x.news (i * 16 + o) with
  | some b => some b
  | none =>
    if s.emapHas h x.slot (h.blockOf x.row i o) then some bzero
    else Table.find x.reads (rowKey (h.dataPos x.row i) o)

/-- Every data block of a row at an offset: new blocks, marked ones as zeros, read ones, the missing ones solved from the old parity (R361, R366, R368, R376). -/
def rowData (s : State) (x : AJob) (h : ArrayHeader) (o : Nat) : Option (List (List Byte)) :=
  let rd := fun pos => Table.find x.reads (rowKey pos o)
  let old := (List.range h.k).map fun i => if s.emapHas h x.slot (h.blockOf x.row i o) then some bzero else rd (h.dataPos x.row i)
  let p := if h.layout = 2 || h.layout = 3 then rd (h.pPos x.row) else none
  let q := if h.layout = 3 then rd (h.qPos x.row) else none
  let all := (List.range h.k).map fun i => s.dataAt x h i o
  if all.all Option.isSome then some (all.map fun d => d.getD bzero)
  else (solve old p q).map fun ds => ds.zipIdx.map fun d => (Table.find x.news (d.2 * 16 + o)).getD d.1

/-- Marks the blocks of a row's offset that cannot be had in the media error map (R368, R374 to R377). -/
def markLost (s : State) (x : AJob) (h : ArrayHeader) (o cause : Nat) : State :=
  (List.range h.k).foldl (fun s i =>
    if (s.dataAt x h i o).isNone then s.emapAdd x.slot ⟨h.blockOf x.row i o, 1, 1, 0, cause⟩ else s) s

/-- Writes the parity of offsets to the online parity positions, from the data of the row. -/
def writeParity (s : State) (j : Nat) (x : AJob) (h : ArrayHeader) (offs : List Nat) (dat : Nat → List (List Byte)) : State :=
  (parities h x.slot x.row).foldl (fun s q => s.writeOffs j q.1 0 (offs.map fun o => (o, if q.2 then qSum 0 (dat o) else pSum (dat o)))) s

/-- Data of an offset, with zeros for what cannot be had. -/
def rowOrZero (s : State) (x : AJob) (h : ArrayHeader) (o : Nat) : List (List Byte) :=
  (s.rowData x h o).getD ((List.range h.k).map fun i => (s.dataAt x h i o).getD bzero)

/-- The lowest online position's copy of a mirror strip's block. -/
def mirrorCopy (x : AJob) (h : ArrayHeader) (i o : Nat) : Option (List Byte) :=
  let ps := (h.places x.row i o).filter fun q => (Table.find x.reads (rowKey q.1 q.2)).isSome
  let best := ps.foldl (fun (a : Option (Nat × Nat)) q => match a with | none => some q | some b => if q.1 < b.1 then some q else a) none
  best.bind fun q => Table.find x.reads (rowKey q.1 q.2)

/-- The blocks of a degraded read's part: its array block, or none. -/
def degradedBlock (s : State) (x : AJob) (h : ArrayHeader) (ns : Namespace) (iu part : Nat) : Option (List Byte) :=
  let (_, i, o) := h.locate (iu * ns.parts + part)
  if h.mirror then mirrorCopy x h i o else (s.rowData x h o).bind fun ds => ds[i]?

/-- A part a member gave reaches its context. -/
def remoteDone (s : State) (n : Nat) (ns : Namespace) (iu part : Nat) (b : Option (List Byte)) : State :=
  match s.ctx n with
  | none => s
  | some c =>
    if !c.remote.contains (iu, part) then s
    else
      let s := s.modCtxN n fun c => { c with remote := c.remote.filter (· != (iu, part)) }
      match b with
      | some bytes => s.deliver n ns iu part (rawCiphers ns bytes)
      | none => s.losePart n ns iu part

/-- The single data index whose strip alone explains the syndromes of an offset (R377). -/
def badIndex (k : Nat) (sp sq : List Byte) : Option Nat := (List.range k).find? fun z => bmul (gpow z) sp == sq

/-- Inspection of one offset of a parity row (R377): repairs as (position, block). -/
def inspectOff (s : State) (x : AJob) (h : ArrayHeader) (o : Nat) : List (Nat × List Byte) :=
  let ds := s.rowOrZero x h o
  let lostP := (Table.find x.reads (rowKey (h.pPos x.row) o)).isNone
  let lostQ := h.layout == 3 && (Table.find x.reads (rowKey (h.qPos x.row) o)).isNone
  let p := Table.get (pSum ds) x.reads (rowKey (h.pPos x.row) o)
  let q := Table.get (qSum 0 ds) x.reads (rowKey (h.qPos x.row) o)
  let sp := bxor p (pSum ds)
  let sq := if h.layout = 3 then bxor q (qSum 0 ds) else bzero
  let missing := (List.range h.k).filter fun i => (s.dataAt x h i o).isNone
  if !missing.isEmpty || lostP || lostQ then
    (missing.map fun i => (h.dataPos x.row i, ds.getD i bzero)) ++ (if lostP then [(h.pPos x.row, pSum ds)] else []) ++ (if lostQ then [(h.qPos x.row, qSum 0 ds)] else [])
  else if sp == bzero && sq == bzero then []
  else if h.layout = 2 then [(h.pPos x.row, pSum ds)]
  else if sp == bzero then [(h.qPos x.row, qSum 0 ds)]
  else if sq == bzero then [(h.pPos x.row, pSum ds)]
  else match badIndex h.k sp sq with
    | some z => [(h.dataPos x.row z, bxor (ds.getD z bzero) sp)]
    | none => [(h.pPos x.row, pSum ds), (h.qPos x.row, qSum 0 ds)]

/-- The second commands of a job (R363, R366, R373, R376, R377). -/
def issueParity (s : State) (j : Nat) (x : AJob) (h : ArrayHeader) : State :=
  let on := h.online x.slot x.row
  match x.kind with
  | .destage =>
    if h.mirror then s
    else if x.delta then
      (parities h x.slot x.row).foldl (fun s q => (List.range h.k).foldl (fun s i =>
        let pos := h.dataPos x.row i
        let have_ := (newOffs x i).filter fun o => (Table.find x.deltas (rowKey pos o)).isSome
        (runs have_).foldl (fun s r =>
          s.memberOp j q.1 r.1 { owner := .none, opcode := 4, coef := (if q.2 then gpow i else 1), count := r.2,
                                     blocks := (List.range r.2).map fun o => Table.get bzero x.deltas (rowKey pos (r.1 + o)) }) s) s) s
    else if (parities h x.slot x.row).isEmpty then s
    else
      let s := x.offs.foldl (fun s o => if (s.rowData x h o).isNone then s.markLost x h o 2 else s) s
      let dat := s.rowOrZero x h
      let s := (List.range h.k).foldl (fun s i => if on (h.dataPos x.row i) then s.sendRuns j x 2 i (h.dataPos x.row i) 0 else s) s
      s.writeParity j x h x.offs dat
  | .degraded _ _ _ => s
  | .recompute =>
    if h.mirror then
      (List.range h.k).foldl (fun s i => (h.places x.row i 0).foldl (fun s q =>
        if on q.1 then s.writeOffs j q.1 q.2 (x.offs.filterMap fun o =>
          match mirrorCopy x h i o with
          | some b => if Table.find x.reads (rowKey q.1 (q.2 + o)) == some b then none else some (o, b)
          | none => none)
        else s) s) s
    else
      let s := x.offs.foldl (fun s o => (List.range h.k).foldl (fun s i =>
        if (s.dataAt x h i o).isNone then s.emapAdd x.slot ⟨h.blockOf x.row i o, 1, 1, 0, if on (h.dataPos x.row i) then 2 else 3⟩ else s) s) s
      s.writeParity j x h x.offs fun o => (List.range h.k).map fun i => (s.dataAt x h i o).getD bzero
  | .rebuild pos =>
    if h.mirror then
      (List.range h.k).foldl (fun s i => ((h.places x.row i 0).filter fun q => q.1 == pos).foldl (fun s q =>
        let s := (List.range 16).foldl (fun s o => if (mirrorCopy x h i o).isNone then s.emapAdd x.slot ⟨h.blockOf x.row i o, 1, 1, 0, 2⟩ else s) s
        s.writeOffs j pos q.2 ((List.range 16).map fun o => (o, (mirrorCopy x h i o).getD bzero))) s) s
    else
      let s := (List.range 16).foldl (fun s o => if (s.rowData x h o).isNone then s.markLost x h o 2 else s) s
      let dat := s.rowOrZero x h
      let blk := fun o =>
        if pos = h.pPos x.row then pSum (dat o)
        else if h.layout = 3 && pos = h.qPos x.row then qSum 0 (dat o)
        else (dat o).getD (((List.range h.k).find? fun i => h.dataPos x.row i == pos).getD 0) bzero
      let marked := (List.range 16).filter fun o => (List.range h.k).any fun i => s.emapHas h x.slot (h.blockOf x.row i o)
      (s.writeOffs j pos 0 ((List.range 16).map fun o => (o, blk o))).writeParity j x h marked dat
  | .inspect =>
    if h.mirror then
      let bad := (List.range h.k).flatMap fun i => (List.range 16).flatMap fun o => match mirrorCopy x h i o with
        | some b => ((h.places x.row i o).filter fun q => on q.1 && Table.find x.reads (rowKey q.1 q.2) != some b).map fun q => (q.1, q.2, b)
        | none => []
      let s := bad.foldl (fun s q => s.writeOffs j q.1 0 [(q.2.1, q.2.2)]) s
      let gone := (List.range h.k).flatMap fun i => ((List.range 16).filter fun o => (mirrorCopy x h i o).isNone && !s.emapHas h x.slot (h.blockOf x.row i o)).map fun o => h.blockOf x.row i o
      let s := (gone.foldl (fun s a => s.emapAdd x.slot ⟨a, 1, 1, 0, 4⟩) s).rsat Reg.AY_CNT_INSPECT_MARKS gone.length
      s.rsat Reg.AY_CNT_INSPECT_REPAIRS bad.length
    else
      (List.range 16).foldl (fun s o =>
        if (s.rowData x h o).isNone then
          let n := ((List.range h.k).filter fun i => (s.dataAt x h i o).isNone).length
          let s := (s.markLost x h o 4).rsat Reg.AY_CNT_INSPECT_MARKS n
          s.writeParity j x h [o] fun o => s.rowOrZero x h o
        else
          let fs := s.inspectOff x h o
          (fs.foldl (fun s f => s.writeOffs j f.1 0 [(o, f.2)]) s).rsat Reg.AY_CNT_INSPECT_REPAIRS fs.length) s

/-- A destage has settled (R143, R362, R376): its parcels CLEAN, their entries no longer INBUF, the writes that wait for it released, written blocks off the media error map, those of a Write Uncorrectable on it. -/
def destaged (s : State) (x : AJob) (h : ArrayHeader) (ns : Namespace) : State :=
  let block := fun q => (s.parcel q).iu * ns.parts + (s.parcel q).part
  let qs := x.parcels.flatMap s.iuParcels
  let as := qs.map block
  let lost := (qs.filter fun q => (s.parcel q).blocks.any fun b => b.slot == lostSlot).map block
  let s := x.parcels.foldl (fun s p =>
    let y := s.parcel p
    let s := if s.mapGet y.slot y.iu == entInbuf p then s.mapSet y.slot y.iu entDealloc else s
    let s := (s.iuParcels p).foldl (fun s q => s.modParcel q fun z => { z with state := .clean }) s
    s.iuJournaled (iuTokOf y) 0) s
  lost.foldl (fun s a => s.emapAdd x.slot ⟨a, 1, 1, 0, 2⟩) (s.emapClear h x.slot as)

/-- Rebuild rows that ended within the last second. -/
def rebuiltLately (s : State) : List Nat := s.link.rebuilds.filter fun t => decide ((s.flash.tick - t) * 8192 < 1000000000)

/-- The rebuild write rate over the last second in MiB/s (R382): a row takes 16 blocks of 4 KiB for each copy. -/
def rebuildRate (s : State) : Nat := ((s.hdr?.map fun h => h.copies).getD 0) * s.rebuiltLately.length / 16

/-- The rate that rebuild writes are paced to: the urgent one while no further position may fail (R373). -/
def rebuildLimit (s : State) (h : ArrayHeader) : Nat := s.paramN (if h.tolerance ≤ h.down then .arrayRebuildUrgentMibS else .arrayRebuildMibS)

/-- Advances the rebuild checkpoint past a row; past the last row of the last namespace the position is ONLINE (R373). A position that is no longer REBUILDING stays as it is (R374). -/
def rebuilt (s : State) (x : AJob) (h : ArrayHeader) (ns : Namespace) (pos : Nat) : State :=
  if !(h.positions[pos]?).any (fun q => q.state == PosState.rebuilding) then s
  else
  let rows := h.rows ns.blocks4k
  let row := x.row + 1
  let s := { s with link := { s.link with rebuilds := s.rebuiltLately ++ [s.flash.tick] } }
  let next := ((s.arrayNs.map (·.1)).filter fun v => decide (x.slot < v)).head?
  let s := s.rset Reg.AY_RB_ROW_LO_ROW_LO row
  if row < rows then
    let s := if row % 4096 = 0 then s.modHdr fun h => { h with ckpt := (x.slot, row) } else { s with arr := { s.arr with header := s.arr.header.map fun h => { h with ckpt := (x.slot, row) } } }
    s
  else match next with
    | some v => (s.modHdr fun h => { h with ckpt := (v, 0) }).rset Reg.AY_REBUILD_NS v
    | none =>
      let s := s.modHdr fun h => { h with positions := h.positions.zipIdx.map fun q => if q.2 = pos then { q.1 with state := PosState.online, cause := 0 } else q.1 }
      s.settleHolder

/-- A job has ended: what it was for is settled, its lock released; parity left out of step is computed again by a further job. -/
def finishJob (s : State) (j : Nat) (x : AJob) (h : ArrayHeader) : State :=
  let s := { s with link := { s.link with jobs := Table.del s.link.jobs j } }
  let s := match x.lock with | some n => s.dropLock n | none => s
  match Table.find s.media.nand.ns x.slot with
  | none => s
  | some ns =>
    let s := match x.kind with
      | .destage => s.destaged x h ns
      | .degraded n iu part =>
        match s.degradedBlock x h ns iu part with
        | some b => s.remoteDone n ns iu part (some b)
        | none =>
          let (_, i, o) := h.locate (iu * ns.parts + part)
          let s := if h.mirror then s.emapAdd x.slot ⟨h.blockOf x.row i o, 1, 1, 0, 2⟩ else s.markLost x h o 2
          let s := s.remoteDone n ns iu part none
          if h.mirror then s else (s.addAJob { kind := .recompute, slot := x.slot, row := x.row, offs := [o] }).1
      | .rebuild pos => s.rebuilt x h ns pos
      | .recompute | .inspect => s
    if x.redo && !h.mirror then (s.addAJob { kind := .recompute, slot := x.slot, row := x.row, offs := if x.offs.isEmpty then List.range 16 else x.offs }).1 else s

/-- A job takes a writer lock, but for a delta or mirror destage (R364); a degraded read takes none. -/
def wantsWriter (x : AJob) (h : ArrayHeader) : Bool :=
  match x.kind with
  | .destage => !h.mirror && ((List.range h.k).all (fun i => (newOffs x i).length == 16) || (List.range h.k).any fun i => !(newOffs x i).isEmpty && !h.online x.slot x.row (h.dataPos x.row i))
  | _ => true

/-- Member block regions a destage writes, on any position (R365, R378): those of its row. -/
def regionsOf (x : AJob) (h : ArrayHeader) : List Nat :=
  let a := h.memberBlock x.row 0 / 256
  let b := h.memberBlock x.row (16 * h.copies - 1) / 256
  if a = b then [a] else [a, b]

/-- Marks regions dirty (R365, R378): member 0's copy at once, the journal holder's by WRITE with FUA of the journal block. -/
def markRegions (s : State) (j : Nat) (x : AJob) (h : ArrayHeader) (ns : Namespace) : State :=
  let old := Table.get [] s.arr.dirty x.slot
  let new := (regionsOf x h).filter fun g => !old.contains g
  if new.isEmpty then s
  else
    let all := (old ++ new).mergeSort
    let blocks := (new.map fun g => g / 32704).eraseDups
    let s := ({ s with arr := { s.arr with dirty := Table.ins s.arr.dirty x.slot all } }).stampJournal x.slot blocks
    match s.journalHolder.bind s.memberPort with
    | none => s
    | some p =>
      let base := metaBase h ns + 1
      blocks.foldl (fun s b => (s.modAJob j fun x => { x with pend := x.pend + 1 }).memberCmd p
        { owner := .job j 7, opcode := 2, fua := true, volume := x.slot, start := base + b, blocks := [journalBlock (s.journalGen x.slot b) b all] }) s

/-- Another job's mark of a region of this job's row is not durable in every journal copy yet (R365). -/
def marking (s : State) (j : Nat) (x : AJob) (h : ArrayHeader) : Bool :=
  s.link.jobs.any fun q => q.1 != j && q.2.slot == x.slot && q.2.phase == 1 && decide (0 < q.2.pend) && (regionsOf q.2 h).any fun g => (regionsOf x h).contains g

/-- Runs a job as far as it goes without an answer from a member. A destage that came to need a writer lock takes one. -/
def stepJob (j : Nat) : Nat → State → State
  | 0, s => s
  | f + 1, s =>
    match s.ajob j, s.hdr? with
    | some x, some h =>
      if 0 < x.pend then s
      else
        match Table.find s.media.nand.ns x.slot with
        | none => { s with link := { s.link with jobs := Table.del s.link.jobs j } }
        | some ns =>
          match x.phase with
          | 0 =>
            match x.kind with
            | .degraded _ _ _ => stepJob j f ((s.modAJob j fun x => { x with phase := 2 }).issueData j { x with phase := 2 } h)
            | _ =>
              match s.takeLock x.slot x.row (wantsWriter x h) with
              | none => s
              | some (s, n) =>
                let s := s.modAJob j fun y => { y with phase := 1, lock := some n, writer := wantsWriter x h }
                let s := match x.kind with | .inspect => s | _ => s.markRegions j x h ns
                stepJob j f s
          | 1 =>
            if s.marking j x h then s
            else if wantsWriter x h && !x.writer then
              stepJob j f ((match x.lock with | some n => s.dropLock n | none => s).modAJob j fun y => { y with phase := 0, lock := none })
            else stepJob j f ((s.modAJob j fun x => { x with phase := 2 }).issueData j { x with phase := 2 } h)
          | 2 => stepJob j f ((s.modAJob j fun x => { x with phase := 3 }).issueParity j { x with phase := 3 } h)
          | _ => s.finishJob j x h
    | _, _ => s

/-- Runs every job that can go on: those that wait for a lock too. -/
def runJobs (s : State) : State := (Table.keys s.link.jobs).foldl (fun s j => stepJob j 8 s) s

/-- Starts a job and runs it as far as it goes. -/
def startAJob (s : State) (x : AJob) : State :=
  let (s, j) := s.addAJob x
  stepJob j 8 s

/-! ## Reads of array namespaces -/

/-- Sends a part of a host read to its degraded read (R368): firmware takes the command over; counted. -/
def degrade (s : State) (n : Nat) (ns : Namespace) (h : ArrayHeader) (iu part : Nat) : State :=
  let a := iu * ns.parts + part
  let (r, _, o) := h.locate a
  let s := (s.leaveClass n).modCtxN n fun c => { c with remote := if c.remote.contains (iu, part) then c.remote else c.remote ++ [(iu, part)] }
  (s.rsat Reg.AY_CNT_DEGRADED_READS).startAJob { kind := .degraded n iu part, slot := slotOf ns.nsid, row := r, offs := [o] }

/-- A part of an array namespace after the Parcels search (R24, R367, R368): the media error map, member 0's own map, a member's READ with the class of the command, or a degraded read. -/
def arrayPart (s : State) (n : Nat) (c : Ctx) (ns : Namespace) (h : ArrayHeader) (iu part : Nat) : State :=
  let s := s.settleTodo n iu part
  let slot := slotOf ns.nsid
  let a := iu * ns.parts + part
  let (r, i, o) := h.locate a
  if s.emapHas h slot a then s.losePart n ns iu part
  else match (h.places r i o).find? fun q => h.online slot r q.1 with
    | none => if h.mirror then s.losePart n ns iu part else s.degrade n ns h iu part
    | some (pos, m) =>
      let b := h.memberBlock r m
      let member := ((h.positions[pos]?).map (·.member)).getD 0
      if member = 0 then
        let e := s.mapGet slot (b / ns.parts)
        if isDealloc e then s.zeroPart n ns iu part
        else if isLoc e then s.registerHostRead n ns c.express e iu [part]
        else s.degrade n ns h iu part
      else match s.memberPort member with
        | none => s.degrade n ns h iu part
        | some p =>
          (s.modCtxN n fun c => { c with remote := c.remote ++ [(iu, part)] }).memberCmd p
            { owner := .host n [(iu, part)], opcode := 1, cls := if c.express then 0 else 1, volume := slot, start := b }

/-- The lookup of an IU of an array namespace; one with a parcel is left to PC_PIN_ADDR or PC_SEARCH_PIN (R367). [DEDUCED, log 57] -/
def arrayLookup (s : State) (n iu : Nat) (c : Ctx) (ns : Namespace) : State :=
  match s.hdr? with
  | none => s
  | some h =>
    if isInbuf (s.mapGet (spaceOf ns) iu) then s
    else if isUnrec (s.mapGet (spaceOf ns) iu) then (c.todo.filter (·.1 == iu)).foldl (fun s q => (s.losePart n ns iu q.2).settleTodo n iu q.2) s
    else (c.todo.filter (·.1 == iu)).foldl (fun s q => s.arrayPart n c ns h iu q.2) s

/-! ## Member failure -/

/-- A command of a job ended as failed: a read leaves its blocks lost; anything else counts as written to a failed position where the position is FAILED, else the parity is computed again (R369, R370). -/
def jobCmdFailed (s : State) (j pos : Nat) (c : BlOut) : State :=
  let online := match s.ajob j, s.hdr? with | some x, some h => h.online x.slot x.row pos | _, _ => false
  let s := s.modAJob j fun x => { x with
    pend := x.pend - 1
    lost := if c.opcode = 1 then x.lost ++ (List.range c.count).map fun i => rowKey pos (c.mOff + i) else x.lost
    redo := x.redo || (c.opcode != 1 && online) }
  (stepJob j 8 s).runJobs

/-- A member does not sanitize (R358). [DEDUCED, log 57] -/
def memberUnsane (s : State) : State := { s with adm := { s.adm with sanitize := s.adm.sanitize.map fun z => { z with memberBad := true } } }

/-- A member command ended as failed to its owner (R343, R358, R368 to R370). -/
def cmdFailed (s : State) (c : BlOut) : State :=
  match c.owner with
  | .host n parts =>
    match s.ctx n, s.hdr? with
    | some x, some h => match s.nsOf x.sqe.nsid with
      | some ns => parts.foldl (fun s q => if h.mirror then s.remoteDone n ns q.1 q.2 none else s.degrade n ns h q.1 q.2) s
      | none => s
    | _, _ => s
  | .job j pos => s.jobCmdFailed j pos c
  | .admin n => s.modCtxN n fun x => { x with members := x.members - 1, status := some (x.status.getD (stGen 0x06)) }
  | .sanitize => s.memberUnsane
  | _ => s

/-- Rows of a namespace with more positions down than the layout tolerates: position-row entries for each, from the checkpoint for a position that is being rebuilt (R374, R381). -/
def markBeyond (s : State) (h : ArrayHeader) (slot rows : Nat) : State :=
  let k := if slot = h.ckpt.1 && h.positions.any (fun p => p.state == PosState.rebuilding) then min rows h.ckpt.2 else 0
  [(0, k), (k, rows)].foldl (fun s g =>
    let off := (List.range h.n).filter fun j => !h.online slot g.1 j
    if g.2 ≤ g.1 || decide (off.length ≤ h.tolerance) then s else off.foldl (fun s j => s.emapAdd slot ⟨g.1, g.2 - g.1, 2, j, 1⟩) s) s

/-- Declares a position FAILED with its cause (R369, R379, R381); commands outstanding to the member are settled. Losses beyond the tolerance enter the media error map (R374). -/
def declareFailed (s : State) (pos cause : Nat) : State :=
  match s.hdr? with
  | none => s
  | some h =>
    match h.positions[pos]? with
    | none => s
    | some p =>
      if p.state == .failed || p.state == .unused then s
      else
        let up := cause = 1 || cause = 6 || cause = 7
        let s := s.modHdr fun h => { h with positions := h.positions.set pos { p with state := PosState.failed, cause := cause } }
        let s := { s with link := { s.link with keptUp := (s.link.keptUp.filter (· != p.member)) ++ (if up then [] else [p.member]) } }
        let s := s.settleHolder.postSmart 2 0
        let s := match s.hdr? with
          | none => s
          | some h2 => s.arrayNs.foldl (fun s (q : Nat × Namespace) => s.markBeyond h2 q.1 (h2.rows q.2.blocks4k)) s
        match s.memberPort p.member with
        | none => s.runJobs
        | some q =>
          let cs := (s.bl q).tags.map (·.2) ++ (s.bl q).queue
          let mine := cs.filter fun c => match c.owner with | .host _ _ | .job _ _ => true | _ => false
          let s := s.modBl q fun b => { b with
            tags := b.tags.filter fun (t : Nat × BlOut) => match t.2.owner with | .host _ _ | .job _ _ => false | _ => true
            queue := b.queue.filter fun (c : BlOut) => match c.owner with | .host _ _ | .job _ _ => false | _ => true }
          mine.foldl (fun s c => s.cmdFailed c) s

/-- Position of a member. -/
def posOf (s : State) (m : Nat) : Option Nat := s.hdr?.bind fun h => (List.range h.n).find? fun j => (h.positions[j]?).any fun p => p.member == m

/-- A member command timed out or answered INTERNAL (R370): counted; a READ is served degraded, a write sent again as a plain WRITE, a parity command replaced by a recomputation; too many within 10 s, or a second time, and the member is FAILED. -/
def memberTrouble (s : State) (p : Nat) (c : BlOut) : State :=
  let m := s.rget (Reg.BL_STAT_MEMBER p)
  let recent := (s.bl p).events.filter fun t => decide ((s.flash.tick - t) * 8192 ≤ 10000000000)
  let s := (s.rsat Reg.AY_CNT_TIMEOUT_EVENTS).modBl p fun b => { b with events := s.flash.tick :: recent }
  let dead := c.again || decide (s.paramN .arrayTimeoutFailCount ≤ recent.length + 1)
  let s := match c.owner with
    | .job j _ =>
      if (c.opcode = 2 || c.opcode = 3) && !dead then
        (s.modAJob j fun x => { x with redo := true }).memberCmd p { c with opcode := 2, again := true, got := [] }
      else s.cmdFailed c
    | _ => s.cmdFailed c
  if dead then match s.posOf m with | some pos => s.declareFailed pos 2 | none => s else s

end State

/-- MAP_LINE_READ (R138, R140, R162, R367, R368): the map line of an IU returns; in an array namespace the lookup goes to the member that holds the block. -/
def execMapLineRead (n iu : Nat) (ue : Bool) (s : State) : Result :=
  match s.ctx n with
  | none => .next s
  | some c =>
    match s.nsOf c.sqe.nsid with
    | none => .next s
    | some ns =>
      if !ns.array then .next (s.mapLineRead n iu ue)
      else if !c.todo.any (·.1 == iu) || c.word != .active || !c.inserted then .next s
      else .next (s.arrayLookup n iu c ns)

end Sys2Proof.Machine
end

