-- ==== Sys2Proof/Machine/Memory.lean ====
section
/-! DEFINITION. The DRAM controller, the code, the merge buffer, the sweeper, flip masks and the Platelayer (chapter 15). -/

namespace Sys2Proof.Machine

/-- The byte stored at a physical address; zero where none is listed. -/
def Mem.byte (m : Mem) (a : Nat) : Byte := Table.get 0#8 m.dram a

/-- Stores bytes from an address up. -/
def Mem.store (m : Mem) (a : Nat) (bs : List Byte) : Mem :=
  { m with dram := (bs.zipIdx).foldl (fun t q => Table.put 0#8 t (a + q.2) q.1) m.dram }

/-- DRAM memory is in its canonical form: addresses strictly rising, no zero byte listed. -/
def Mem.wf (m : Mem) : Bool := (m.dram.map (·.1)).Pairwise (· < ·) && m.dram.all fun c => c.2 != 0#8

/-- The poison pattern of R392: every check symbol, those of devices 4 and 9, with 0xA5A5. [DEDUCED, log 31] -/
def poison : Table (BitVec 16) := (List.range 8).map (fun i => (32 + i, 0xA5A5#16)) ++ (List.range 8).map fun i => (72 + i, 0xA5A5#16)

/-- Adds symbol errors to those a word has: equal errors cancel. -/
def addErrs (t : Table (BitVec 16)) (es : List SymErr) : Table (BitVec 16) :=
  es.foldl (fun t e => let k := e.dev % 10 * 8 + e.sym % 8; Table.put 0#16 t k (Table.get 0#16 t k ^^^ e.pat)) t

/-- Devices an error pattern touches. -/
def errDevs (t : Table (BitVec 16)) : List Nat := ((List.range 10).filter fun d => t.any fun p => p.1 / 8 == d)

/-- Outcome of a read of a DRAM word (R391): clean, poisoned, corrected in one device, uncorrectable. -/
inductive DramOutcome where
  | clean | poisoned
  | corrected (dev : Nat)
  | uncorrectable
  deriving DecidableEq, Repr

/-- Decodes a word's stored errors (R391). Errors of two devices may look like those of a third, errors of more like anything: which do is a free value. [DESIGN CHOICE, log 12; DEDUCED, log 31] -/
def decodeErrs (word : Nat) (t : Table (BitVec 16)) : DramOutcome :=
  if t.isEmpty then .clean
  else if t = poison then .poisoned
  else match errDevs t with
    | [d] => .corrected d
    | ds => match Config.rsAlias word t with
      | some d =>
        if ds.length ≤ 2 then (if ds.contains d || 10 ≤ d then .uncorrectable else .corrected d)
        else if d < 10 then .corrected d else if d = 10 then .clean else .poisoned
      | none => .uncorrectable

/-- A place in DRAM (R385, R386). -/
structure DramPlace where
  /-- channel 0 or 1 -/
  channel : Nat
  /-- bank group 0 to 7 -/
  group : Nat
  /-- bank 0 to 3 -/
  bank : Nat
  /-- row -/
  row : Nat
  /-- column burst 0 to 63 -/
  column : Nat
  deriving DecidableEq, Repr

namespace State

/-- Changes the memory state. -/
def modMem (s : State) (f : Mem → Mem) : State := { s with mem := f s.mem }

/-- DRAM capacity in bytes (R384). -/
def dramBytes (s : State) : Nat :=
  match s.rget Reg.MC_CTRL_GEOM with | 0 => 32 * 2 ^ 30 | 1 => 48 * 2 ^ 30 | _ => 64 * 2 ^ 30
/-- Segments of 2 MiB. -/
def segCount (s : State) : Nat := s.dramBytes / 2 ^ 21

/-- Parity of the bits set in a number, 36 bits. -/
def parity36 (v : Nat) : Nat := (List.range 36).foldl (fun a i => (a + v / 2 ^ i) % 2) 0
/-- Output i of the address hash, the parity of the address bits in its mask: 0 CH, 1 to 3 BG0 to BG2, 4 and 5 BA0 and BA1 (R386). -/
def hashOut (s : State) (i pa : Nat) : Nat :=
  parity36 (Nat.land pa (s.rget (Reg.MC_HASH_LO_MASK_LO i) + s.rget (Reg.MC_HASH_HI_MASK_HI i) * 2 ^ 32))
/-- Channel of a physical address (R386). -/
def chanOf (s : State) (pa : Nat) : Nat := s.hashOut 0 pa
/-- Where a physical address lies in DRAM (R385, R386): the four hashed numbers, the column burst and the row, which pass unchanged. -/
def dramPlace (s : State) (pa : Nat) : DramPlace where
  channel := s.chanOf pa
  group := s.hashOut 1 pa + 2 * s.hashOut 2 pa + 4 * s.hashOut 3 pa
  bank := s.hashOut 4 pa + 2 * s.hashOut 5 pa
  row := bits pa 19 17
  column := bits pa 8 6

/-- The segment's valid bit (R395). -/
def segValid (s : State) (seg : Nat) : Bool :=
  (decide (seg < s.mem.sweepSeg) && !s.mem.inval.contains seg) || s.mem.early.contains seg

/-- Stored errors of a word. -/
def errsOf (s : State) (w : Nat) : Table (BitVec 16) := Table.get [] s.mem.errs w
/-- Sets them. -/
def setErrs (s : State) (w : Nat) (t : Table (BitVec 16)) : State := s.modMem fun m => { m with errs := Table.put [] m.errs w t }

/-- Merge buffer of a channel. -/
def mergeOf (s : State) (ch : Nat) : List MergeEntry := if ch = 0 then s.mem.merge0 else s.mem.merge1
/-- Writes it; ME_MERGE_STAT follows. -/
def setMerge (s : State) (ch : Nat) (l : List MergeEntry) : State :=
  let s := s.modMem fun m => if ch = 0 then { m with merge0 := l } else { m with merge1 := l }
  s.rset (if ch = 0 then Reg.ME_MERGE_STAT_USED_0 else Reg.ME_MERGE_STAT_USED_1) l.length

/-- Records the last error: word, port, kind, device (ME_ERR_ADDR, ME_ERR_INFO). [DEDUCED, log 58] -/
def errInfo (s : State) (w port kind dev : Nat) : State :=
  (((s.rset Reg.ME_ERR_ADDR_WORD w).rset Reg.ME_ERR_INFO_PORT port).rset Reg.ME_ERR_INFO_KIND kind).rset Reg.ME_ERR_INFO_DEVICE dev

/-- Counts and logs the outcome of a word's read; a corrected word is written back (R391). `log` is false for a poisoned word the Platelayer reads (R402). -/
def dramOutcome (s : State) (port w : Nat) (o : DramOutcome) (log : Bool) : State :=
  match o with
  | .clean => s
  | .poisoned =>
    let s := (s.rsat Reg.ME_CNT_DRAM_POISON).errInfo w port 3 0
    if log then s.logIncident 0x02 port (w * 128) 0xFF [s.chanOf (w * 128)] else s
  | .corrected d => ((s.rsat Reg.ME_CNT_DRAM_CE).errInfo w port 1 d).setErrs w []
  | .uncorrectable => ((s.rsat Reg.ME_CNT_DRAM_UE).errInfo w port 2 0).logIncident 0x01 port (w * 128) 0xFF [s.chanOf (w * 128)]

/-- A word whose errors look like those of another device, or like none, holds what the decoder takes it for: its data are a free value (R391). [DESIGN CHOICE, log 12] -/
def miscorrect (s : State) (w : Nat) (t : Table (BitVec 16)) (o : DramOutcome) : State :=
  let wrong := match o with | .clean => !t.isEmpty | .corrected d => errDevs t != [d] | _ => false
  if wrong then (s.modMem fun m => m.store (w * 128) ((List.range 128).map fun i => Config.rsMiscorrected w t i)).setErrs w [] else s

/-- An armed flip mask of the channel corrupts the next word written to it (R400). [DEDUCED, log 19; DEDUCED, log 31] -/
def applyFlip (s : State) (w : Nat) : State :=
  let c := s.chanOf (w * 128)
  if !s.flag (Reg.ME_FLIP_D_ARM c) then s
  else
    let pat := BitVec.ofNat 16 (s.rget (Reg.ME_FLIP_D_PATTERN c))
    let syms := (List.range 8).filter fun i => s.rget (Reg.ME_FLIP_D_SYM c) / 2 ^ i % 2 == 1
    let on := fun (d : Nat) => syms.map fun i => (⟨d, i, pat⟩ : SymErr)
    let es := on (s.rget (Reg.ME_FLIP_D_DEV_A c)) ++ (if s.flag (Reg.ME_FLIP_D_TWO c) then on (s.rget (Reg.ME_FLIP_D_DEV_B c)) else [])
    (((s.setErrs w (addErrs (s.errsOf w) es)).rset (Reg.ME_FLIP_D_ARM c) 0).rset Reg.ME_FLIP_HIT_WORD w).rset Reg.ME_FLIP_HIT_GRP_GROUP c

/-- Bytes of an entry, by offset in the word. -/
def entryBytes (e : MergeEntry) (w : Mem) : List Byte := (List.range 128).map fun i => Table.get (w.byte (e.word * 128 + i)) e.bytes i

/-- Retires a merge entry: a full one is written without a read; another goes through a read-modify-write, which a poisoned or uncorrectable read turns into a poisoned word (R398, R399). -/
def retire (s : State) (ch : Nat) (e : MergeEntry) : State :=
  let s := s.setMerge ch ((s.mergeOf ch).filter fun x => x.word != e.word)
  if e.bytes.length = 128 then
    ((s.modMem fun m => m.store (e.word * 128) (entryBytes e m)).setErrs e.word []).applyFlip e.word
  else
    let s := s.rsat Reg.ME_MERGE_STAT_RMW
    let t := s.errsOf e.word
    match decodeErrs e.word t with
    | .clean | .corrected _ =>
      let o := decodeErrs e.word t
      let s := (s.miscorrect e.word t o).dramOutcome (e.ports.headD 0) e.word o true
      ((s.modMem fun m => m.store (e.word * 128) (entryBytes e m)).setErrs e.word []).applyFlip e.word
    | o =>
      let s := s.dramOutcome (e.ports.headD 0) e.word o true
      let s := s.modMem fun m => m.store (e.word * 128) ((List.range 128).map fun i => Table.get 0#8 e.bytes i)
      let s := (s.setErrs e.word poison).applyFlip e.word
      let s := if o = .poisoned then s.logIncident 0x01 (e.ports.headD 0) (e.word * 128) 0xFF [ch] else s
      e.ports.foldl (fun s p => s.emit (.dramError p)) s

/-- ME_STAT.SWEEP_SEG and SWEEP_DONE: the segment being swept is the first of the priority list, else one to be re-initialised, else the next in ascending order (R396, R397). -/
def sweepStat (s : State) : State :=
  let done := decide (s.segCount ≤ s.mem.sweepSeg) && s.mem.inval.isEmpty
  (s.rset Reg.ME_STAT_SWEEP_SEG (s.mem.prio.headD (s.mem.inval.headD (min s.mem.sweepSeg (s.segCount - 1))))).rset Reg.ME_STAT_SWEEP_DONE (bit done)

/-- Priority list, and its count in ME_STAT (R396). -/
def fillPrio (s : State) : State :=
  let s := s.mem.held.foldl (fun s h =>
    let seg := h.addr / 2 ^ 21
    if s.mem.prio.contains seg || 16 ≤ s.mem.prio.length then s else s.modMem fun m => { m with prio := m.prio ++ [seg] }) s
  (s.rset Reg.ME_STAT_PRIO_WAIT s.mem.prio.length).sweepStat

/-- A write that has reached its word: whole words are stored, partial ones join or allocate a merge entry; a seventeenth entry retires the oldest (R398). -/
def writeWord (s : State) (h : HeldWrite) : State :=
  let ch := s.chanOf h.addr
  let w := h.addr / 128
  let off := h.addr % 128
  let l := s.mergeOf ch
  let old := l.find? (·.word == w)
  let bytes := (h.bytes.zipIdx).foldl (fun (t : Table Byte) q => Table.ins t (off + q.2) q.1) ((old.map (·.bytes)).getD [])
  let ports := ((old.map (·.ports)).getD []).filter (· != h.port) ++ [h.port]
  let e : MergeEntry := ⟨w, bytes, ports⟩
  match old with
  | some _ =>
    let s := s.setMerge ch (l.map fun x => if x.word == w then e else x)
    if e.bytes.length = 128 then s.retire ch e else s
  | none =>
    if e.bytes.length = 128 then s.retire ch e
    else
      let s := match l with
        | o :: _ => if 16 ≤ l.length then s.retire ch o else s
        | [] => s
      s.setMerge ch (s.mergeOf ch ++ [e])

/-- A write enters: into its word, or, its segment not valid, into the wait for the sweeper (R396). -/
def enterWrite (s : State) (h : HeldWrite) : State :=
  if s.segValid (h.addr / 2 ^ 21) then s.writeWord h
  else (s.modMem fun m => { m with held := m.held ++ [h] }).fillPrio

/-- A segment has been swept: zero data without errors, valid; the writes that waited for it go on in order (R395, R396). [DEDUCED, log 30] -/
def segmentSwept (s : State) (seg : Nat) (f : Mem → Mem) : State :=
  let s := s.modMem fun m => f { m with
    dram := m.dram.filter fun c => c.1 / 2 ^ 21 != seg
    errs := m.errs.filter fun p => p.1 / 2 ^ 14 != seg
    prio := m.prio.filter (· != seg) }
  let go := s.mem.held.filter fun h => h.addr / 2 ^ 21 == seg
  let s := s.modMem fun m => { m with held := m.held.filter fun h => h.addr / 2 ^ 21 != seg }
  (go.foldl writeWord s).fillPrio

/-- A segment swept out of order is valid (R396, R397). -/
def sweptEarly (m : Mem) (seg : Nat) : Mem :=
  { m with inval := m.inval.filter (· != seg), early := if seg < m.sweepSeg then m.early else m.early ++ [seg] }

/-- The data of a word as a read sees them: the stored bytes overlaid with a merge entry's (R398). -/
def wordBytes (s : State) (ch w : Nat) : List Byte :=
  match (s.mergeOf ch).find? (·.word == w) with
  | some e => entryBytes e s.mem
  | none => (List.range 128).map fun i => s.mem.byte (w * 128 + i)

/-- Throttle floor and DRAM_HOT while a DRAM device reports above 95 C (R406, R478). -/
def hotStep (s : State) : State :=
  let hot := !s.mem.hot.isEmpty
  let s := s.rset Reg.TH_STAT_DRAM_HOT (bit hot)
  if hot && decide (s.rget Reg.TH_STAT_STEP < 2) then ((s.rset Reg.TH_STAT_STEP 2).rsat Reg.TH_CNT_STEP_CHANGES).setBudget else s

/-- An uncorrectable unit of the Associative Engine stops the owning port (R228). -/
def stopAePort (s : State) (bank : Nat) : State :=
  let s := (s.rset Reg.AE_ERR_UNCORR 1).rsat Reg.AE_ERR_CNT_UNCORR
  if bank < 8 then { s with ae := { s.ae with stopped0 := true } } else { s with ae := { s.ae with stopped1 := true } }

end State

/-- DRAM_READ (R385, R389, R391, R395, R398): a word is read; `upset` are errors the array has added to it. [DEDUCED, log 31] -/
def execDramRead (port addr : Nat) (upset : List SymErr) (s : State) : Result :=
  if !s.flag Reg.MC_CTRL_ENABLE then .next s
  else if s.dramBytes ≤ addr then .next ((s.rsat Reg.MC_STAT_RANGE_ERR).emit (.dramData port none))
  else
    let w := addr / 128
    let s := s.wakeDram
    if s.flag Reg.MC_STAT_SELF_REFRESH then .next s
    else if !s.segValid (addr / 2 ^ 21) then
      let s := if s.flag Reg.ME_CTRL_UNINIT_CNT then s.rsat Reg.ME_CNT_UNINIT_COUNT else s
      .next (s.emit (.dramData port (some (List.replicate 128 0#8))))
    else
      let t := addErrs (s.errsOf w) upset
      let s := s.setErrs w t
      let o := decodeErrs w t
      let s := (s.miscorrect w t o).dramOutcome port w o true
      let good := o != .poisoned && o != .uncorrectable
      .next (s.emit (.dramData port (if good then some (s.wordBytes (s.chanOf addr) w) else none)))

/-- DRAM_WRITE (R385, R396, R398, R400): bytes of one word are written. -/
def execDramWrite (port addr : Nat) (bytes : List Byte) (s : State) : Result :=
  if !s.flag Reg.MC_CTRL_ENABLE || bytes.isEmpty then .next s
  else if s.dramBytes ≤ addr then .next ((s.rsat Reg.MC_STAT_RANGE_ERR).emit (.dramError port))
  else
    let s := s.wakeDram
    .next (if s.flag Reg.MC_STAT_SELF_REFRESH then s else s.enterWrite ⟨port, addr, bytes.take (128 - addr % 128)⟩)

/-- FLIP_MASK_ARM (R400, R503): a write of a flip-mask register; ARM takes effect only inside the diagnostic gate. Group 0-1: DRAM channel; 2-9: SRAM group. [DEDUCED, log 19] -/
def execFlipMaskArm (group : Nat) (v : Word) (s : State) : Result :=
  let n := v.toNat
  let arm := n % 2 == 1
  if arm && !s.gateOpen 4 then .next (s.rset Reg.FG_STAT_DENIED 1)
  else if group < 2 then
    .next ((((((s.rset (Reg.ME_FLIP_D_ARM group) n).rset (Reg.ME_FLIP_D_TWO group) (n / 2)).rset (Reg.ME_FLIP_D_DEV_A group) (n / 4)).rset
      (Reg.ME_FLIP_D_DEV_B group) (n / 2 ^ 6)).rset (Reg.ME_FLIP_D_SYM group) (n / 2 ^ 10)).rset (Reg.ME_FLIP_D_PATTERN group) (n / 2 ^ 16))
  else if group < 10 then
    let g := group - 2
    .next ((((s.rset (Reg.ME_FLIP_S_ARM g) n).rset (Reg.ME_FLIP_S_TWO g) (n / 2)).rset (Reg.ME_FLIP_S_BIT_A g) (n / 4)).rset
      (Reg.ME_FLIP_S_BIT_B g) (n / 2 ^ 9))
  else .next s

/-- MERGE_RETIRE (R398, R399): 256 memory-clock cycles have passed since the entry was allocated. -/
def execMergeRetire (ch w : Nat) (s : State) : Result :=
  match (s.mergeOf ch).find? (·.word == w) with
  | some e => .next (s.retire ch e)
  | none => .next s

/-- Urgency of a request after a time in ns, by the share of its port's target that has elapsed (R387, R388). -/
def State.urgency (s : State) (port ns : Nat) : Nat :=
  let t := s.rget (Reg.MC_PORT_CFG_TARGET_NS port)
  if ns * 2 < t then 0 else if ns * 4 < 3 * t then 1 else if ns < t then 2 else 3

/-- URGENCY_ESCALATE (R388): a pending request reaches the urgency level that its age gives; L3 counts as late. [DESIGN CHOICE, log 59] -/
def execUrgencyEscalate (port level latNs : Nat) (s : State) : Result :=
  if 10 ≤ port || s.urgency port latNs != level then .next s
  else
    let s := if level = 3 then s.rsat (Reg.MC_PORT_STAT_LATE port) else s
    .next (s.rset (Reg.MC_PORT_STAT_MAX_LAT port) (max (s.rget (Reg.MC_PORT_STAT_MAX_LAT port)) (min 65535 (latNs / 16))))

/-- SWEEP_SEGMENT_DONE (R395 to R397): the segment being swept is done: the first of the priority list, else one to be re-initialised, else the next in ascending order. [DEDUCED, log 30] -/
def execSweepSegmentDone (s : State) : Result :=
  if !s.mem.sweeping then .next s
  else match s.mem.prio with
  | seg :: _ =>
    .next (s.segmentSwept seg fun m => State.sweptEarly m seg).sweepStat
  | [] =>
    match s.mem.inval with
    | seg :: _ => .next (s.segmentSwept seg fun m => State.sweptEarly m seg).sweepStat
    | [] =>
      let seg := s.mem.sweepSeg
      if s.segCount ≤ seg then .next s
      else
        let skip := fun (m : Mem) => { m with sweepSeg := seg + 1, early := m.early.filter (· != seg) }
        if s.mem.early.contains seg then .next (s.modMem skip).sweepStat
        else .next (s.segmentSwept seg skip).sweepStat

/-- SEG_INVAL (R397, R398): the segment's merge entries retire, then its valid bit clears. [DEDUCED, log 30] -/
def execSegInval (seg : Nat) (s : State) : Result :=
  if s.segCount ≤ seg || !s.segValid seg then .next s
  else
    let s := [0, 1].foldl (fun s ch => ((s.mergeOf ch).filter fun e => e.word / 2 ^ 14 == seg).foldl (fun s e => s.retire ch e) s) s
    .next (s.modMem fun m => { m with early := m.early.filter (· != seg), inval := m.inval ++ [seg] }).sweepStat

/-- MR4_POLL (R406, R478): the temperature ranges of a channel's ten devices. -/
def execMr4Poll (ch : Nat) (temps : List Int) (s : State) : Result :=
  if 2 ≤ ch || s.flag Reg.MC_STAT_SELF_REFRESH then .next s
  else
    let r := s.rget Reg.MC_STAT_REF2X
    let has := r / 2 ^ ch % 2 == 1
    let s := if temps.any fun (t : Int) => decide (85 ≤ t) then (if has then s else s.rset Reg.MC_STAT_REF2X (r + 2 ^ ch))
      else if temps.all fun (t : Int) => decide (t < 82) then (if has then s.rset Reg.MC_STAT_REF2X (r - 2 ^ ch) else s) else s
    let hot := (temps.zipIdx).filter fun q => decide (95 < q.1)
    let s := hot.foldl (fun s q => s.logIncident 0x04 0xFF 0 q.2 [q.1.toNat]) s
    .next (s.modMem fun m => { m with hot := if hot.isEmpty then m.hot.filter (· != ch) else if m.hot.contains ch then m.hot else m.hot ++ [ch] }).hotStep

end Sys2Proof.Machine
end

