-- ==== Sys2Proof/Machine/NsOps.lean ====
section
/-! DEFINITION. Capacity, namespaces and the erasure of their data (R134, R136, R165, R186, R194, R313, R314, R319, R424, R425): what the admin rows and the Branch Link rows share. -/

namespace Sys2Proof.Machine

/-- Label number of a key. -/
def keyNum : KeyLabel → Nat
  | .medk => 0 | .blnk => 1 | .dpot => 2 | .attk => 3 | .other => 4

/-- Bytes of a namespace's logical blocks. -/
def Namespace.size (n : Namespace) : Nat := n.nsze * n.lbaBytes

namespace State

/-! ## The key cache (R411, R413) -/

/-- CE_KC_STAT follows the cache. -/
def keyStat (s : State) : State :=
  (s.rset Reg.CE_KC_STAT_VALID s.sec.keys.length).rset Reg.CE_KC_STAT_IN_USE (s.sec.keys.filter fun k => k.uses != 0).length

/-- Writes the cache. -/
def setKeys (s : State) (l : List KeyEntry) : State := ({ s with sec := { s.sec with keys := l } }).keyStat

/-- Invalidates the entries a test names; one in use goes when its use count reaches 0, and no new job uses it (R413). -/
def dropKeys (s : State) (f : KeyReq → Bool) : State :=
  s.setKeys ((s.sec.keys.filter fun k => !f k.req || k.uses != 0).map fun k => if f k.req then { k with drop := true } else k)

/-- The media key entries of a namespace slot; slot is the third context field (R410). -/
def ofSlot (slot : Nat) (r : KeyReq) : Bool := r.label == .medk && r.context.getD 2 999 == slot

/-! ## Capacity (R136, R165, R186) -/

/-- User bytes of a block: four codewords of 4096 bytes a page. -/
def blockBytes (s : State) : Nat := s.pagesPer * 16384
/-- Width of a group: its in-service dies. -/
def groupWidth (s : State) (g : Nat) : Nat := (s.groupDies g).length
/-- Data positions of a group (R151). -/
def groupData (s : State) (g : Nat) : Nat := s.groupWidth g - (if s.wantsParity (.host 0) then 1 else 0)
/-- User bytes of the good blocks of a group's dies. -/
def groupUser (s : State) (g : Nat) : Nat :=
  ((s.groupDies g).map fun d => ((List.range s.planesPer).map fun p => s.goodBlocks d p).sum).sum * s.blockBytes
/-- Groups open to new superblocks. -/
def openGroups (s : State) : List Nat := (List.range s.groupCount).filter fun g => !s.closedToNew g
/-- Product of the groups' widths: a common denominator. -/
def widthProduct (s : State) : Nat := ((List.range s.groupCount).map fun g => max 1 (s.groupWidth g)).foldl (· * ·) 1
/-- A group's part of C, over `widthProduct`. -/
def groupPart (s : State) (g : Nat) : Nat := s.groupData g * s.groupUser g * (s.widthProduct / max 1 (s.groupWidth g))
/-- C over `widthProduct`: the sum over the die groups, closed ones included (R165). -/
def physical (s : State) : Nat := ((List.range s.groupCount).map s.groupPart).sum
/-- The part of C that lies in groups open to new superblocks, over `widthProduct` (R186). -/
def openShare (s : State) : Nat := (s.openGroups.map s.groupPart).sum
/-- User bytes of one superblock of a group. -/
def sbBytes (s : State) (g : Nat) : Nat := s.groupData g * s.planesPer * s.blockBytes

/-- A format fixes TNVMCAP, and Q, G0 and S0 of each group (R165, R186): the share of a closed group falls to the open ones in proportion. [DEDUCED, log 32] -/
def fixCapacity (s : State) : State :=
  let t := s.physical * (100 - s.paramN .translationOverprovisionPct) / (100 * s.widthProduct) / 2 ^ 30 * 2 ^ 30
  let s := s.modNand fun x => { x with tnvmcap := t, lostDies := (List.range (32 * s.channels)).filter fun d => (s.die d).isol != 0 }
  (List.range s.groupCount).foldl (fun s g =>
    if s.closedToNew g then s.modGrp g fun x => { x with qNum := 0, qDen := 1, s0 := 0 }
    else
      let num := t * s.groupPart g
      let den := max 1 (s.openShare * s.sbBytes g)
      s.modGrp g fun x => { x with qNum := num, qDen := den, s0 := s.goodMin g - ceilDiv num den - s.paramN .wearBufstopReserve }) s

/-- The end of a format of all namespaces or of a sanitize (R194): capacity anew; with no group spare-exhausted the Buffer stop ends. -/
def endBufferStop (s : State) : State :=
  let s := s.fixCapacity
  let s := s.rset Reg.FT_WEAR_STAT_AVAIL_SPARE s.availSpare
  let s := s.rset Reg.FT_WEAR_STAT_SPARE_LOW (bit (decide (s.availSpare < s.paramN .wearSpareThresholdPct)))
  if (List.range s.groupCount).any s.spareExhausted then s
  else ((s.rset Reg.FT_WEAR_STAT_BUFFER_STOP 0).rset Reg.FT_WEAR_STAT_BSTOP_FLUSHED 0).modMedia fun m => { m with bstopFlush := false }

/-- Data blocks of an array namespace's volume on every member (R356, R357). -/
def volumeData (h : ArrayHeader) (a : Nat) : Nat := h.rows a * 16 * h.copies
/-- Journal blocks of a volume with that many data blocks (R356). -/
def journalBlocks (n : Nat) : Nat := ceilDiv (ceilDiv n 256) 32704
/-- Blocks of a volume (R356): data, header copy, journal, media error map. -/
def volumeBlocks (h : ArrayHeader) (a : Nat) : Nat := let n := volumeData h a; n + 1 + journalBlocks n + 64

/-- Bytes a namespace takes of this device's own flash. -/
def localBytes (s : State) (n : Namespace) : Nat :=
  match s.hdr? with
  | some h => if n.array then volumeBlocks h n.blocks4k * 4096 else n.size
  | none => n.size

/-- Map granules for that many bytes (R136). -/
def granulesFor (iuShift bytes : Nat) : Nat := ceilDiv (ceilDiv bytes (2 ^ iuShift)) 393216
/-- Free map granules (R136): the map region is the DRAM less 10.5 GiB. -/
def freeGranules (s : State) : Nat := (s.dramBytes - 21 * 2 ^ 29) / 2 ^ 21 - (s.media.nand.ns.map fun q => q.2.granules).sum
/-- Bytes of this device's flash that no namespace or volume holds. -/
def localFree (s : State) : Nat := s.media.nand.tnvmcap - (s.media.nand.ns.map fun q => s.localBytes q.2).sum

/-- Free capacity in blocks of the member at a position that holds one (R357). -/
def memberFree (s : State) (p : Position) : Option Nat :=
  if p.member = 0 then some (s.localFree / 4096) else (s.memberPort p.member).map fun q => (s.bl q).free

/-- UNVMCAP (R303, R355, R357). -/
def unvmcap (s : State) : Nat :=
  if s.mode != .manager then s.localFree
  else match s.hdr? with
    | none => 0
    | some h =>
      let free := (h.positions.filter fun p => p.state == .online || p.state == .rebuilding).filterMap s.memberFree
      let f := minOf free
      (f - (65 + journalBlocks f)) * 4096 * h.k / max 1 h.copies / 2 ^ 30 * 2 ^ 30

/-- TNVMCAP as reported: of the array in manager mode (R303). -/
def tnvm (s : State) : Nat :=
  if s.mode != .manager then s.media.nand.tnvmcap else s.unvmcap + (s.arrayNs.map fun q => q.2.size).sum

/-! ## Creation, deletion, erasure of data -/

/-- Gives a namespace its slot with a new creation count (R134, R304). -/
def addNs (s : State) (n : Namespace) : State :=
  let slot := slotOf n.nsid
  let c := Table.get 0 s.media.nand.creations slot + 1
  s.modNand fun x => { x with creations := Table.ins x.creations slot c, ns := Table.ins x.ns slot { n with creation := c } }

/-- Every IU of a slot becomes DEALLOC and its parcels are freed, with one record of type 0x05 (R313, R314, R319, R424). -/
def wipeSlot (s : State) (slot : Nat) : State :=
  let ps := (s.media.parcels.filter fun q => q.2.state != .free && q.2.slot % 128 == slot)
  let s := ps.foldl (fun s q => s.dropParcel q.1) s
  let gone := ps.map fun q => q.2.grp
  let mine := s.media.map.filter fun q => q.1 / 2 ^ 40 % 128 == slot
  let segs := ((mine.filter fun q => decide (q.1 / 2 ^ 40 < 128)).map fun q => segOf slot (q.1 % 2 ^ 40)).eraseDups
  let s := s.modMedia fun m => { m with
    groups := m.groups.filter fun g => !gone.contains g.1
    badLines := m.badLines.filter fun l => l / 2 ^ 40 != slot
    dirtySegs := segs.foldl (fun t g => if (Table.find t g).isSome then t else Table.ins t g m.nextSeq) m.dirtySegs
    map := m.map.filter fun q => q.1 / 2 ^ 40 % 128 != slot }
  let q := s.media.nextSeq
  let s := s.journal1 0 0 slot 5
  mine.foldl (fun s e => if isLoc e.2 then s.invalidateLoc e.2 (q + 1) else s) s

/-- The array's records of a namespace slot are cleared (R357). -/
def wipeArray (s : State) (slot : Nat) : State :=
  let s := { s with arr := { s.arr with emap := Table.del s.arr.emap slot, dirty := Table.del s.arr.dirty slot } }
  if s.hdr?.isSome then s.emapStat else s

/-- Deletes a namespace or volume (R313, R413): its data, its granules, its keys; an NSID-specific self-test ends. -/
def deleteNs (s : State) (slot : Nat) : State :=
  match Table.find s.media.nand.ns slot with
  | none => s
  | some n =>
    let s := ((s.wipeSlot slot).wipeArray slot).dropKeys (ofSlot slot)
    let s := s.modNand fun x => { x with ns := Table.del x.ns slot }
    match s.adm.selfTest with
    | some t => if t.nsid = n.nsid && s.mode != .worker then s.endSelfTest 3 0 else s
    | none => s

/-- Every namespace's data is erased and the map cleared (R319). -/
def wipeAll (s : State) : State := s.media.nand.ns.foldl (fun s q => (s.wipeSlot q.1).wipeArray q.1) s

/-- The crypto-erase of R425 as far as the keys go: a new salt, G + 1, every media key entry invalidated. [DESIGN CHOICE, log 10] -/
def cryptoErase (s : State) : State :=
  let g := s.sec.mediaGen + 1
  let s := { s with sec := { s.sec with mediaGen := g, mediaSalt := Config.random s.free }, free := s.free + 1 }
  (s.rset Reg.CE_GEN_GEN g).dropKeys fun r => r.label == .medk

/-- Every non-retired block of every in-service die is erased (R318): each counts its erase cycles, its tracker entry is zero (R120), no superblock is left. -/
def blockErase (s : State) (cycles : Nat) : State :=
  let ds := (List.range (32 * s.channels)).filter fun d => (s.die d).present && (s.die d).isol == 0
  let bns := ds.flatMap fun d => (List.range s.planesPer).flatMap fun p => (List.range s.blocksPer).map fun b => blockNo d p b
  let live := bns.filter fun b => !(s.blockInfo b).retired
  let s := { s with flash := { s.flash with eraseCounts := live.foldl (fun t b => Table.put 0 t b (Table.get 0 t b + cycles)) s.flash.eraseCounts } }
  let s := live.foldl (fun s b => (s.setTracker b 0).forgetBlock b) s
  (s.modMedia fun m => { m with groupsSt := m.groupsSt.map fun q => (q.1, { q.2 with victim := none, source := 0, queue := [] }) }).modNand fun x =>
    { x with
      sbs := []
      content := []
      blocks := x.blocks.map fun q => (q.1, { q.2 with serial := none, dirty := false, milepost := 0, check := false, checkPage := none }) }

/-- Ends every outstanding I/O command of both controllers without an entry (R298, R319). -/
def endIo (s : State) : State := (s.adm.ctxs.filter fun p => p.2.sqid != 0 && decide (p.2.ctl < 3)).foldl (fun s p => s.endCtx p.1) s

/-- A sanitize starts (R319): the self-test ends, I/O ends, dirty parcels go, the action is recorded. -/
def startSanitize (s : State) (z : Sanitize) : State :=
  let s := (s.endSelfTest 9 0).endIo
  let s := ((s.media.parcels.filter fun q => q.2.state != .free && q.2.state != .clean).map (·.1)).foldl (fun s p => s.dropParcel p) s
  { s with adm := { s.adm with sanitize := some z, sanStatus := 2 } }

/-- What a sanitize action does when it finishes (R318, R319): its work, the map cleared, R194. [DEDUCED, log 51] -/
def sanitized (s : State) (z : Sanitize) : State :=
  let s := s.wipeAll
  let s := match z.action with
    | 4 => s.cryptoErase
    | 3 => s.blockErase z.owpass
    | _ => s.blockErase 1
  let s := s.endBufferStop
  { s with adm := { s.adm with sanitize := none, sanStatus := 1, globalErased := true } }

/-- A sanitize that cannot finish (R319). [DEDUCED, log 51] -/
def sanitizeFailed (s : State) : State :=
  { s with adm := { s.adm with sanitize := s.adm.sanitize.map fun z => { z with running := false, failed := true }, sanStatus := 3 } }

/-- The volumes of an array namespace are deleted and created again on every worker that holds a position in service, which deallocates them (R357). -/
def renewVolumes (s : State) (slot : Nat) : State :=
  match s.hdr?, Table.find s.media.nand.ns slot with
  | some h, some n =>
    if !n.array || s.mode != .manager then s
    else h.positions.foldl (fun s (p : Position) =>
      if p.member = 0 || !(p.state == .online || p.state == .rebuilding) then s
      else match s.memberPort p.member with
        | none => s
        | some q => (s.memberCmd q { owner := .none, opcode := 9, volume := slot }).memberCmd q
            { owner := .none, opcode := 8, volume := slot, extra := leBytes 8 (volumeBlocks h n.blocks4k) ++ [n.iuShift] }) s
  | _, _ => s

/-- GenKey on a namespace row (R424). -/
def genKey (s : State) (slot : Nat) : State :=
  let s := { s with sec := { s.sec with rangeGens := Table.ins s.sec.rangeGens slot (Table.get 0 s.sec.rangeGens slot + 1) } }
  (((s.dropKeys (ofSlot slot)).wipeSlot slot).wipeArray slot).renewVolumes slot

/-- No command is outstanding in the Interlocking on the namespaces a test names: a whole-namespace writer entry would be ACTIVE (R423). -/
def nsQuiet (s : State) (f : Nat → Bool) : Bool :=
  s.adm.ctxs.all fun p => p.2.il.isEmpty || p.2.word == .done || p.2.word == .aborted || !f (slotOf p.2.sqe.nsid)

end State

end Sys2Proof.Machine
end

