-- ==== Sys2Proof/Machine/Cipher.lean ====
section
/-! DEFINITION. Meanings of the cipher engine's commands (chapter 16). -/

namespace Sys2Proof.Machine

namespace State

/-- A cache entry a new job may use: an exact match that is not to be dropped (R411, R413). -/
def keyFits (r : KeyReq) (k : KeyEntry) : Bool := k.req == r && !k.drop

/-- Takes the first entry that fits out of a list. -/
def takeKey (r : KeyReq) (l : List KeyEntry) : Option KeyEntry × List KeyEntry :=
  match l.find? (keyFits r) with
  | some k => (some k, l.erase k)
  | none => (none, l)

/-- Drops the least recently used entry with use count 0 of a full cache; none when every entry is in use (R411). -/
def evict (l : List KeyEntry) : Option (List KeyEntry) :=
  if l.length < 64 then some l
  else match (l.filter fun k => k.uses == 0).getLast? with
    | some k => some (l.erase k)
    | none => none

/-- Requests a key (R411): an exact match, else a derivation into the least recently used free entry; none when every entry is in use, the wait counted. The entry's use count grows. -/
def requestKey (s : State) (r : KeyReq) : State × Bool :=
  match takeKey r s.sec.keys with
  | (some k, l) => (s.setKeys ({ k with uses := k.uses + 1 } :: l), true)
  | (none, l) =>
    match evict l with
    | some l => ((s.rsat Reg.CE_KC_STAT_MISSES).setKeys (⟨r, 1, false⟩ :: l), true)
    | none => (s.rsat Reg.CE_KC_STAT_FULL_WAITS, false)

/-- A job's key (R411, R412): an entry that was requested ahead and is in use, or a request now. The count falls again when the job ends. -/
def jobKey (s : State) (r : KeyReq) : State × Bool :=
  match takeKey r s.sec.keys with
  | (some k, l) => (s.setKeys ({ k with uses := max 1 k.uses } :: l), true)
  | (none, _) => s.requestKey r

/-- A job's use of a key ends: the count falls; an entry to be dropped goes at 0 (R413). -/
def releaseKey (s : State) (r : KeyReq) : State :=
  match s.sec.keys.find? fun k => k.req == r && k.uses != 0 with
  | none => s
  | some k =>
    let k2 := { k with uses := k.uses - 1 }
    s.setKeys (if k2.drop && k2.uses == 0 then s.sec.keys.erase k else s.sec.keys.map fun x => if x = k then k2 else x)

/-- The media key request of a namespace slot (R410). -/
def medkReq (s : State) (slot : Nat) : KeyReq :=
  ⟨.medk, [s.sec.mediaSalt, s.sec.mediaGen, slot, ((Table.find s.media.nand.ns slot).map (·.creation)).getD 0, Table.get 0 s.sec.rangeGens slot]⟩

/-- The key request of a GCM stream (R410): a link session's, or a Depot secret's. -/
def gcmReq (s : State) : GcmStream → KeyReq
  | .link d p =>
    let b := s.bl p
    let own := s.mode != .worker
    ⟨.blnk, [d, (if own then s.sec.serial else b.serial), (if own then b.serial else s.sec.serial), p, s.rget (Reg.BL_STAT_MEMBER p),
      (if own then s.sec.boot else b.peerBoot), (if own then b.peerBoot else s.sec.boot), s.rget (Reg.BL_STAT_SESSION p)]⟩
  | .depot x => ⟨.dpot, [x, s.rget Reg.GD_STAT_LEVEL]⟩

/-- The engine takes a job: enabled, its keys not erased; an erased engine ends the job with KEY_ERASED (R420). -/
def engineReady (s : State) : Bool := s.flag Reg.CE_CTRL_ENABLE && !s.flag Reg.CE_STAT_ERASED
/-- A job that the engine does not take. -/
def jobRefused (s : State) : State := if s.flag Reg.CE_STAT_ERASED then s.rset Reg.CE_ERR_KEY_ERASED 1 else s
/-- A job outside the limits of R419. -/
def lenError (s : State) : State := (s.rset Reg.CE_ERR_LEN 1).rsat Reg.CE_CNT_LEN_ERRS

/-- Limits of an XTS job (R419). -/
def xtsOk (j : XtsJob) : Bool :=
  decide (16 ≤ j.unit ∧ j.unit ≤ 65536) && decide (1 ≤ j.blocks.length ∧ j.blocks.length ≤ 512) && decide (j.unit * j.blocks.length ≤ 2 ^ 21)
/-- Limits of a GCM job (R419). -/
def gcmOk (j : GcmJob) : Bool := decide (j.bytes.length ≤ 65536) && decide (j.aad ≤ 256)

end State

/-- KEY_DERIVE (R409 to R412, R420): a request for a key; a label outside the table, or the Guard's label asked by a core, is refused. -/
def execKeyDerive (byGuard : Bool) (r : KeyReq) (s : State) : Result :=
  if !s.flag Reg.CE_STAT_ROOT_LOADED || s.flag Reg.CE_STAT_ERASED then .next s.jobRefused
  else match r.label with
    | .other => .next (s.rset Reg.CE_ERR_REFUSED 1)
    | .attk => if byGuard then .next (s.rsat Reg.CE_KC_STAT_MISSES) else .next (s.rset Reg.CE_ERR_REFUSED 1)
    | _ => .next (s.requestKey r).1

/-- KEY_CACHE_INVALIDATE (R413): the entries of one label, or of one label and namespace slot. -/
def execKeyCacheInvalidate (label : KeyLabel) (slot : Option Nat) (s : State) : Result :=
  .next (s.dropKeys fun r => r.label == label && (match slot with | some x => r.context.getD 2 999 == x | none => true))

/-- XTS_JOB (R414, R415, R419, R420): encrypts or decrypts data units under the media key of a slot, each with its own number. -/
def execXtsJob (j : XtsJob) (s : State) : Result :=
  if !s.engineReady then .next s.jobRefused
  else if !State.xtsOk j then .next s.lenError
  else
    let r := s.medkReq j.slot
    match s.jobKey r with
    | (s, false) => .next s
    | (s, true) =>
      let c := r.context
      let f := if j.encrypt then Config.xtsEncrypt else Config.xtsDecrypt
      let out := j.blocks.zipIdx.map fun q => f (c.getD 2 0) (c.getD 3 0) (c.getD 1 0) (c.getD 4 0) (j.lba + q.2) q.1
      .next ((s.releaseKey r).emit (.xts out))

/-- GCM_ENCRYPT (R416 to R420): the engine generates the nonce; at the durable mark, or while encryption is not enabled, the job waits. -/
def execGcmEncrypt (j : GcmJob) (s : State) : Result :=
  if !s.engineReady then .next s.jobRefused
  else if !State.gcmOk j then .next s.lenError
  else if !s.gcmReady then .next (s.rset Reg.CE_STAT_GCM_HOLD (bit s.sec.gcmOn))
  else
    let r := s.gcmReq j.stream
    match s.jobKey r with
    | (s, false) => .next s
    | (s, true) =>
      let n := s.sec.nonce
      .next ((s.takeNonce.releaseKey r).emit (.sealed n (Config.gcmEncrypt (keyNum r.label) r.context n j.bytes)))

/-- GCM_DECRYPT (R416, R419, R420): the nonce comes with the data; a tag that does not verify releases zeros, is flagged and counted. -/
def execGcmDecrypt (j : GcmJob) (nonce : Nat) (tagOk : Bool) (s : State) : Result :=
  if !s.engineReady then .next s.jobRefused
  else if !State.gcmOk j then .next s.lenError
  else
    let r := s.gcmReq j.stream
    match s.jobKey r with
    | (s, false) => .next s
    | (s, true) =>
      let s := s.releaseKey r
      if tagOk then .next (s.emit (.opened (Config.gcmDecrypt (keyNum r.label) r.context nonce j.bytes)))
      else .next (((s.rset Reg.CE_ERR_AUTH 1).rsat Reg.CE_CNT_AUTH_FAILS).emit (.opened (j.bytes.map fun _ => 0#8)))

namespace State

/-- CE_HWM shows the durable mark. -/
def showMark (s : State) : State := (s.rset Reg.CE_HWM_LO_MARK_LO (s.sec.mark % 2 ^ 32)).rset Reg.CE_HWM_HI_MARK_HI (s.sec.mark / 2 ^ 32)

/-- The Guard may program a further mark: encryption not yet enabled in this boot, or the counter within 2^31 of the mark (R418). -/
def markDue (s : State) : Bool := decide (s.sec.hwmFails < 2) && (!s.sec.gcmOn || decide (s.sec.mark ≤ s.sec.nonce + 2 ^ 31))

end State

/-- HWM_ADVANCE (R418): the program of a mark 2^32 above the stored one passes, or fails; the second failure in a row disables GCM encryption until the next full reset. [DESIGN CHOICE, log 15] -/
def execHwmAdvance (ok : Bool) (s : State) : Result :=
  if !s.markDue then .next s
  else if ok then
    let s := { s with sec := { s.sec with mark := s.sec.mark + 2 ^ 32, gcmOn := true, hwmFails := 0 } }
    let s := s.showMark.rset Reg.CE_STAT_GCM_HOLD 0
    .next ((List.range 6).foldl (fun s p => s.pumpAll p) s)
  else
    let s := { s with sec := { s.sec with hwmFails := s.sec.hwmFails + 1 } }
    if s.sec.hwmFails < 2 then .next s
    else
      let s := { s with sec := { s.sec with gcmOn := false } }
      .next ((s.rset Reg.CE_ERR_HWM_FAIL 1).logIncident Config.markIncidentClass 0xFF 0 0xFF [])

namespace State

/-- A reset that LockOnReset names (bit 0 Power Cycle, bit 1 Hardware Reset) locks the rows whose enables are set (R421). [PRESUMED, log 41] -/
def lockOnReset (s : State) (kinds : List Nat) : State :=
  let lock := fun (r : OpalRow) =>
    if kinds.any fun b => r.lockOnReset / 2 ^ b % 2 == 1 then { r with readLocked := r.readLocked || r.readEn, writeLocked := r.writeLocked || r.writeEn } else r
  { s with sec := { s.sec with opal := s.sec.opal.map fun (q : Nat × OpalRow) => (q.1, lock q.2) } }

/-- Namespaces a Locking row governs (R421, R423): its slot, or every namespace whose own row has no enable. -/
def governs (s : State) (slot : Option Nat) (x : Nat) : Bool :=
  match slot with
  | some y => x == y
  | none => let r : OpalRow := Table.get {} s.sec.opal x; !r.readEn && !r.writeEn

/-- Key of a Locking row. -/
def rowOf (slot : Option Nat) : Nat := slot.getD 128

/-- Changes a Locking row. -/
def modRow (s : State) (slot : Option Nat) (f : OpalRow → OpalRow) : State :=
  { s with sec := { s.sec with opal := Table.put {} s.sec.opal (rowOf slot) (f (Table.get {} s.sec.opal (rowOf slot))) } }

/-- The Opal crypto-erase of all namespaces (R424, R425): new media key, map cleared. -/
def opalErase (s : State) : State := (s.arrayNs.map (·.1)).foldl renewVolumes s.cryptoErase.wipeAll

/-- Back to the manufactured-inactive state: the Locking SP no longer activated, no row set. -/
def opalRevert (s : State) : State :=
  ({ s with sec := { s.sec with opalActive := false, opal := [] } }).rset Reg.CE_STAT_OPAL_ACTIVE 0

end State

/-- OPAL_SET (R421, R423): a Set of a row's lock state, once earlier commands on the namespaces it governs have completed; one that names a range fails. -/
def execOpalSet (slot : Option Nat) (readLocked writeLocked namesRange : Bool) (s : State) : Result :=
  if !s.sec.opalActive then .next s
  else if namesRange then .next (s.emit (.opal false))
  else if !s.nsQuiet (s.governs slot) then .next s
  else .next ((s.modRow slot fun r => { r with readLocked := readLocked, writeLocked := writeLocked }).emit (.opal true))

/-- OPAL_GENKEY (R424, R425): on a namespace row a new range key generation and its data gone; on the Global row the crypto-erase of all namespaces. -/
def execOpalGenkey (slot : Option Nat) (s : State) : Result :=
  if !s.sec.opalActive || !s.nsQuiet (match slot with | some y => (· == y) | none => fun _ => true) then .next s
  else match slot with
    | some y => .next ((s.genKey y).emit (.opal true))
    | none => .next (s.opalErase.emit (.opal true))

/-- OPAL_REVERT (R424, R425): the crypto-erase of all namespaces, and the Locking SP inactive; a record that cannot be programmed refuses the advance. -/
def execOpalRevert (ok : Bool) (s : State) : Result :=
  if !s.nsQuiet (fun _ => true) then .next s
  else if ok then .next (s.opalErase.opalRevert.emit (.opal true)) else .next (s.emit (.opal false))

end Sys2Proof.Machine
end

