-- ==== Sys2Proof/Machine/RulebookCheck.lean ====
section
/-! DEFINITION. The Rulebook blob byte by byte, its checks in the order of R529, and the Rulebook it gives (R28, R524 to R532). -/

namespace Sys2Proof

namespace Rulebook

/-- The Rulebook a blob's records give (R526). -/
def ofRecords (l : List RbRecord) : Rulebook where
  ints := l.filterMap fun r => match r with | .int p v => some (p, v) | .bytes _ _ => none
  bytes := l.filterMap fun r => match r with | .int _ _ => none | .bytes p v => some (p, v)

/-- Values of a parameter that takes only some of its range (R57, R81, R132, R168, R272, R383). -/
def steps (p : Param) (v : Nat) : Bool :=
  match p with
  | .timetableMaintTicksPerPeriod => [1, 2, 4].contains v
  | .flashRateMts | .flashMinRateMts => v % 400 == 0
  | .flashDriveOhm => [25, 35, 50].contains v
  | .flashNandOdtOhm => [0, 50, 75, 100, 150].contains v
  | .readParityBytes => v == 0 || (decide (224 ≤ v) && v % 32 == 0)
  | .translationDefaultIuKib => [4, 16].contains v
  | .pcieMaxSpeedGts => [8, 16, 32, 64].contains v
  | .pcieCmbMib => [0, 16, 32, 64, 128, 256].contains v
  | .pcieMrrsCapBytes => [512, 1024, 2048, 4096].contains v
  | .arrayMemberMask => v % 2 == 1
  | _ => true

/-- A record's value lies in its range (R529 check 5; byte strings R81, R112, R132). -/
def inRange : RbRecord → Bool
  | .int p v => decide (p.lo ≤ v ∧ v ≤ p.hi) && (decide (v < 0) || steps p v.toNat)
  | .bytes p b => p.lengths.contains b.length

/-- The record gives one of the parameters. -/
def names (l : List Param) : RbRecord → Bool
  | .int p _ => l.contains p
  | .bytes _ _ => false

/-- Bits set in a mask. -/
def ones (n : Nat) (v : Nat) : Nat := ((List.range n).filter fun i => v / 2 ^ i % 2 == 1).length

/-- No bit is set in both masks. -/
def disjoint (n a b : Nat) : Bool := (List.range n).all fun i => a / 2 ^ i % 2 == 0 || b / 2 ^ i % 2 == 0

/-- Every bit of the first mask is set in the second. -/
def within (n a b : Nat) : Bool := (List.range n).all fun i => a / 2 ^ i % 2 == 0 || b / 2 ^ i % 2 == 1

/-- A hash mask of R386: its own home bit, at most eight bits, none of [6:0], no home bit of another output. -/
def maskOk (home v : Nat) : Bool :=
  v / 2 ^ home % 2 == 1 && decide (ones 36 v ≤ 8) && v % 128 == 0 && ([7, 14, 15, 16, 17, 18].filter (· != home)).all fun h => v / 2 ^ h % 2 == 0

/-- Least width of a layout (R353). -/
def minWidth : Nat → Nat
  | 0 => 2
  | 3 => 4
  | _ => 3

/-- The cross-parameter conditions (R81, R132, R173, R221, R272, R353, R386, R490), each with the parameters it involves. [DEDUCED, log 39] -/
def cross (bifur : Bool) (r : Rulebook) : List (List Param × Bool) :=
  let n := fun p => (r.get p).toNat
  let mask := fun (p : Param) home => ([p], maskOk home (n p))
  [([.flashMinRateMts, .flashRateMts], decide (r.get .flashMinRateMts ≤ r.get .flashRateMts)),
   ([.readBandEdge1C, .readBandEdge2C, .readBandEdge3C],
    decide (r.get .readBandEdge1C < r.get .readBandEdge2C ∧ r.get .readBandEdge2C < r.get .readBandEdge3C)),
   ([.translationSidingsLow, .shuntingUrgentFree, .shuntingStartFree],
    decide (n .translationSidingsLow < n .shuntingUrgentFree ∧ n .shuntingUrgentFree < n .shuntingStartFree)),
   ([.holdupVinFailMv, .holdupVMinMv], decide (n .holdupVMinMv < n .holdupVinFailMv)),
   ([.pcieCmbMib], !bifur || decide (n .pcieCmbMib ≤ 128)),
   ([.arrayMemberMask, .arraySpareMask], disjoint 7 (n .arrayMemberMask) (n .arraySpareMask)),
   ([.arraySpareMask], n .arraySpareMask % 2 == 0),
   ([.arrayLayout, .arrayMemberMask], decide (minWidth (n .arrayLayout) ≤ ones 7 (n .arrayMemberMask))),
   mask .dramHashCh 7, mask .dramHashBg0 14, mask .dramHashBg1 15, mask .dramHashBg2 16, mask .dramHashBa0 17, mask .dramHashBa1 18,
   ([.thermalWarnC, .thermalThrottleC, .thermalShutdownC],
    decide (n .thermalWarnC < n .thermalThrottleC ∧ n .thermalThrottleC < n .thermalShutdownC ∧ n .thermalShutdownC ≤ 110)),
   ([.thermalCompositeMask, .thermalInputEnable], within 18 (n .thermalCompositeMask) (n .thermalInputEnable))] ++
  (List.range 16).map fun c => ([.thermalChanSensor c, .thermalInputEnable], n .thermalInputEnable / 2 ^ n (.thermalChanSensor c) % 2 == 1)

/-- Ordinal of the first record that fails check 5, none when it passes (R529). [DEDUCED, log 39] -/
def rangeFault (bifur : Bool) (l : List RbRecord) : Option Nat :=
  match l.findIdx? (fun r => !inRange r) with
  | some i => some i
  | none =>
    let bad := (cross bifur (ofRecords l)).filter fun c => !c.2
    if bad.isEmpty then none else some ((l.findIdx? fun r => bad.any fun c => names c.1 r).getD 0)

end Rulebook

/-- A record as the blob holds it (R525): the bytes of NAME, TYPE, VALUE. -/
structure RbRaw where
  name : List Nat
  type : Nat
  value : List Byte
  deriving DecidableEq, Repr

namespace RbRaw

/-- Bytes of an ASCII path. -/
def ascii (p : String) : List Nat := p.toList.map Char.toNat

/-- The integer parameter a record names. -/
def intParam (r : RbRaw) : Option Param := Param.all.find? fun p => ascii p.path == r.name

/-- The byte-string parameter a record names. -/
def bytesParam (r : RbRaw) : Option BytesParam := BytesParam.all.find? fun p => ascii p.path == r.name

/-- The integer VALUE gives: two's complement with TYPE 2. -/
def int (r : RbRaw) : Int :=
  let v := leField r.value 0 r.value.length
  if r.type = 2 && 2 ^ (8 * r.value.length) ≤ 2 * v then (v : Int) - 2 ^ (8 * r.value.length) else v

/-- TYPE and VLEN hold every value of the parameter's range (R525). -/
def holds (r : RbRaw) (p : Param) : Bool :=
  let n := r.value.length
  [1, 2, 4, 8].contains n &&
    if p.lo < 0 then r.type == 2 && decide (-(2 ^ (8 * n - 1) : Int) ≤ p.lo ∧ p.hi < 2 ^ (8 * n - 1)) else r.type == 1 && decide (p.hi < 2 ^ (8 * n))

/-- The parameter and value of a record, none where check 4 of R529 refuses its NAME, TYPE or VLEN. -/
def record (r : RbRaw) : Option RbRecord :=
  match r.intParam with
  | some p => if r.holds p then some (.int p r.int) else none
  | none => match r.bytesParam with
    | some p => if r.type = 3 && p.lengths.contains r.value.length then some (.bytes p r.value) else none
    | none => none

/-- Ascending byte order. -/
def below : List Nat → List Nat → Bool
  | [], b => !b.isEmpty
  | _ :: _, [] => false
  | a :: x, b :: y => decide (a < b) || (a == b && below x y)

/-- NAMEs rise strictly, so none is repeated. -/
def rising : List RbRaw → Bool
  | a :: b :: l => below a.name b.name && rising (b :: l)
  | _ => true

end RbRaw

/-- Verdict of the checks of R529: RESULT of the RULEBOOK entry, byte 48 of page 0xC1, bytes 52 to 55. -/
structure RbVerdict where
  result : Nat
  status : Nat
  first : Nat
  deriving DecidableEq, Repr

namespace RulebookImage

/-- SVN (R524). -/
def svn (i : RulebookImage) : Nat := leField i.bytes 6 1
/-- MIN_SVN. -/
def minSvn (i : RulebookImage) : Nat := leField i.bytes 7 1
/-- SEQ. -/
def seq (i : RulebookImage) : Nat := leField i.bytes 8 8
/-- LENGTH. -/
def length (i : RulebookImage) : Nat := leField i.bytes 0x10 4
/-- COUNT. -/
def count (i : RulebookImage) : Nat := leField i.bytes 0x14 4
/-- Digest of the signing key (R527). -/
def key (i : RulebookImage) : Nat := sha384Of ((i.bytes.drop (i.length - 192)).take 96)
/-- Digest of the blob (R438). -/
def digest (i : RulebookImage) : Nat := sha384Of i.bytes

/-- Check 1 of R529: MAGIC, FORMAT, LENGTH and the zero fields (R524). -/
def formatOk (i : RulebookImage) : Bool :=
  leField i.bytes 0 4 == 0x4B424C52 && leField i.bytes 4 2 == 1 && i.length % 4 == 0 && decide (256 ≤ i.length ∧ i.length ≤ 262144) &&
    i.bytes.length == i.length && zeroFrom i.bytes 0x18 0x40

/-- The next `n` records from an offset, and where they end; none where the layout of R525 is broken. -/
def recordsFrom (i : RulebookImage) : Nat → Nat → Option (List RbRaw × Nat)
  | 0, off => some ([], off)
  | n + 1, off =>
    let nl := leField i.bytes off 1
    let vl := leField i.bytes (off + 2) 2
    let stop := off + 4 + nl + vl
    let next := (stop + 3) / 4 * 4
    if i.length < next + 192 || nl < 8 || 63 < nl || !zeroFrom i.bytes stop next then none
    else match i.recordsFrom n next with
      | none => none
      | some (l, e) => some (⟨((i.bytes.drop (off + 4)).take nl).map (·.toNat), leField i.bytes (off + 1) 1, (i.bytes.drop (off + 4 + nl)).take vl⟩ :: l, e)

/-- The records that check 4 of R529 accepts, in blob order, none where it fails: layout, names rising and known, TYPE and VLEN, zero bytes up to the key. -/
def records (i : RulebookImage) : Option (List RbRecord) :=
  match i.recordsFrom i.count 0x40 with
  | none => none
  | some (l, e) => if RbRaw.rising l && zeroFrom i.bytes e (i.length - 192) then l.mapM RbRaw.record else none

/-- The Rulebook the blob gives (R526). -/
def rulebook (i : RulebookImage) : Rulebook := (i.records.map Rulebook.ofRecords).getD {}

/-- The checks of R529 in their order, at a lifecycle level, with the recorded key digest, the SVN minimum and the strap PCIE_BIFUR of the check (R527, R528). [DEDUCED, log 17; DEDUCED, log 39] -/
def check (i : RulebookImage) (level rbKey minSvn : Nat) (bifur : Bool) : RbVerdict :=
  if !i.formatOk then ⟨2, 2, 0⟩
  else if !i.sigOk || (level != 0 && (rbKey = 0 || i.key != rbKey)) then ⟨1, 1, 0⟩
  else if i.svn < minSvn then ⟨3, 1, 0⟩
  else match i.records with
    | none => ⟨2, 2, 0⟩
    | some l => match Rulebook.rangeFault bifur l with
      | some n => ⟨5, 3, n⟩
      | none => ⟨0, 0, 0⟩

end RulebookImage

end Sys2Proof
end

