-- ==== Sys2Proof/Machine/Guard.lean ====
section
/-! DEFINITION. The Guard: Journey Log, mailbox, lifecycle, SPDM, Station clock (chapter 17). The boot chain stands in Startup.lean, alarms in Restart.lean. -/

namespace Sys2Proof.Machine

namespace State

/-- Changes the security state. -/
def modSec (s : State) (f : Sec → Sec) : State := { s with sec := f s.sec }

/-- Firmware and the Guard mailbox run: nothing holds the device in reset (R434, R491). -/
def alive (s : State) : Bool := s.plat.hold == .none

/-! ## Journey Log (R439 to R442) -/

/-- The current boot's record as it is signed. -/
def record (s : State) : JRec :=
  ⟨s.sec.boot, s.sec.journey, s.sec.strapMode, s.sec.member, s.rget Reg.GD_STAT_LEVEL, s.sec.guardDigest, s.sec.bootDigest, s.free⟩

/-- Signs the record and archives it in slot boot counter mod 256 (R441, R442). -/
def sign (s : State) : State :=
  (({ s with free := s.free + 1 } : State).modSec fun x => { x with archive := Table.ins x.archive (x.boot % 256) s.record }).rset Reg.GD_STAT_SIGNED 1

/-- Appends an entry (R439): index, boot counter, Station clock and tick count are the Guard's; a signed record is signed again (R441). -/
def append (s : State) (e : JEntry) : State :=
  let e := { e with
    index := s.sec.journey.length, boot := s.sec.boot, clockMs := s.sec.clockMs, clockValid := s.flag Reg.SC_STAT_VALID
    tick := if s.flash.ticking then s.flash.tick else 0 }
  let s := (s.modSec fun x => { x with journey := x.journey ++ [e] })
  let s := s.rset Reg.GD_STAT_ENTRIES s.sec.journey.length
  if s.flag Reg.GD_STAT_SIGNED then s.sign else s

/-- The 96 bytes of an entry (R439). -/
def entryBytes96 (e : JEntry) : List Nat :=
  [e.stage, e.result] ++ leBytes 2 e.index ++ leBytes 4 e.version ++ [e.svn, e.slot, 0, 0] ++ leBytes 4 e.boot ++
  leBytes 8 (e.clockMs % 2 ^ 48 + bit e.clockValid * 2 ^ 63) ++ leBytes 8 e.tick ++ leBytes 48 e.digest ++ leBytes 16 e.info

/-- Order of the curve P-384. [PRESUMED, log 13] -/
def p384Order : Nat := 0xFFFFFFFFFFFFFFFFFFFFFFFFFFFFFFFFFFFFFFFFFFFFFFFFC7634D81F4372DDF581A0DB248B0A77AECEC196ACCC52973

/-- A key derived under the root key, as a number (R409). -/
def derivedKey (label : KeyLabel) (context : List Nat) (n : Nat) : Nat :=
  Sha384.ofBytes ((List.range n).map fun i => (Config.rootKdf (keyNum label) context i).toNat)

/-- The attestation key of two image digests and a level (R443). -/
def attKey (guard boot level : Nat) : Nat :=
  derivedKey .attk (leBytes 48 guard ++ leBytes 48 boot ++ [level % 256]) 48 % (p384Order - 1) + 1

/-- The 96 bytes of the public key of a private key. -/
def publicKey (key : Nat) : List Nat := (List.range 96).map fun i => (Config.p384Public key i).toNat

/-- The 96 bytes of a signature. -/
def signature (key : Nat) (msg : List Nat) (draw : Nat) : List Nat := (List.range 96).map fun i => (Config.ecdsaByte key (Sha384.digest msg) draw i).toNat

/-- The bytes of a signed record: header, entries, attestation public key, signature; an unsigned one of zero entries has its header alone (R440, R441). -/
def recordBytes (s : State) (r : JRec) (signed : Bool) : List Nat :=
  let head := leBytes 4 0x474C4A59 ++ leBytes 2 1 ++ leBytes 2 (if signed then r.entries.length else 0) ++ leBytes 4 r.boot ++
    [r.mode, r.member, r.level, 0] ++ leBytes 8 s.sec.serial ++ List.replicate 40 0
  let key := attKey r.guardDigest r.bootDigest r.level
  let body := head ++ r.entries.flatMap entryBytes96 ++ publicKey key
  if signed then body ++ signature key body r.draw else head

/-- The bytes of a certificate: subject key and signer (R444). -/
def Cert.bytes : Cert → List Byte
  | .rootCa => Config.certificate 0 [] (publicKey (Config.fixedKey 2)) (Config.fixedKey 2) 0
  | .manufacturingCa => Config.certificate 1 [] (publicKey (Config.fixedKey 1)) (Config.fixedKey 2) 0
  | .identity n => Config.certificate 2 (leBytes 8 n) (publicKey (Config.fixedKey 0)) (Config.fixedKey 1) 0
  | .attestation g b l d => Config.certificate 3 (leBytes 48 g ++ leBytes 48 b ++ [l]) (publicKey (attKey g b l)) (Config.fixedKey 0) d

/-- The chain in SPDM slot 0: the identity sector's certificates, then the one issued in this boot (R444). -/
def chainBytes (s : State) : List Byte := (s.sec.chain ++ s.sec.issued.toList).flatMap Cert.bytes

/-- The attestation certificate of this boot is issued (R444). -/
def issueCert (s : State) : State :=
  { s with sec := { s.sec with issued := some (.attestation s.sec.guardDigest s.sec.bootDigest (s.rget Reg.GD_STAT_LEVEL) s.free) }, free := s.free + 1 }

/-- The record that readers of the current boot get: the most recently signed one, or an unsigned one of zero entries (R441). -/
def currentRecord (s : State) : List Nat :=
  match Table.find s.sec.archive (s.sec.boot % 256) with
  | some r => if r.boot = s.sec.boot && s.flag Reg.GD_STAT_SIGNED then s.recordBytes r true else s.recordBytes s.record false
  | none => s.recordBytes s.record false

/-- The archived record of a boot counter (R442). -/
def archived (s : State) (b : Nat) : Option (List Nat) :=
  if s.sec.boot < b || b + 255 < s.sec.boot then none
  else match Table.find s.sec.archive (b % 256) with
    | some r => if r.boot = b then some (s.recordBytes r true) else none
    | none => none

/-! ## Requests the mailbox and other rows share -/

/-- The SVN minimum of an image class (R107, R437, R528). -/
def classMin (s : State) (cls : Nat) : Nat :=
  match cls with
  | 1 => s.sec.rbMinSvn
  | 2 => s.paramN .microcodeMinCustomerSvn
  | _ => s.sec.minSvn

/-- What VERIFY_IMAGE answers (R432, R437): 0 OK, 3 VERIFY_FAIL, 4 SVN_LOW. [DEDUCED, log 17] -/
def verifyStatus (s : State) (i : ImageCheck) : Nat :=
  if !(i.formatOk && i.keyOk && i.sigOk && i.digestsOk) then 3 else if i.svn < s.classMin i.cls then 4 else 0

/-- RESULT of an entry for an image (R439). -/
def imageResult (s : State) (i : ImageCheck) : Nat :=
  if !i.formatOk then 2 else if !(i.keyOk && i.sigOk && i.digestsOk) then 1 else if i.svn < s.sec.minSvn then 3 else 0

/-- TYPE of the component a stage measures (R438). -/
def stageType (stage : Nat) : Nat := match stage with | 2 => 1 | 3 => 2 | 4 => 4 | _ => 3

/-- The entry of an image at a stage: of a package in the boot chain the component it measures, in an ACTIVATION entry the image's own digest (R432, R438, R439). -/
def imageEntry (s : State) (stage slot : Nat) (i : ImageCheck) : JEntry :=
  let i := if stage = 10 then i else { i with cls := 0 }
  { stage := stage, result := s.imageResult i, index := 0, version := i.version, svn := i.svn, slot := slot
    digest := if stage = 10 then i.digest else i.compDigest (stageType stage) }

/-- A new challenge nonce, the previous one void (R432). [DESIGN CHOICE, log 10] -/
def newChallenge (s : State) : State := { s with sec := { s.sec with challenge := some (Config.random s.free) }, free := s.free + 1 }

/-- The conditions of R504. -/
def ticketOk (s : State) (t : Ticket) : Bool :=
  t.formatOk && t.serial == s.sec.serial && s.sec.challenge.map (· % 2 ^ 256) == some t.nonce && t.keyOk && t.sigOk

/-- A ticket is checked (R504, R505): accepted, it replaces the one in force and is logged; rejected, the nonce is consumed (R326). [DEDUCED, log 42] -/
def takeTicket (s : State) (t : Ticket) : State × Bool :=
  if s.ticketOk t then
    let until_ := s.flash.tick + ceilDiv (t.duration * 1000000000) 8192
    let s := { s with plat := { s.plat with ticket := some (t.scope, until_) } }
    (((s.rset Reg.GD_TICKET_ACTIVE 1).rset Reg.FG_STAT_GATE_OPEN 1).logIncident 0x33 0xFF 0 0xFF (leBytes 4 t.scope), true)
  else (s.modSec fun x => { x with challenge := none }, false)

/-- A lifecycle request (R450, R527): accepted, it replaces any pending one, records the key digest of the Rulebook in force and ends a ticket. -/
def lifecycle (s : State) (target confirm : Nat) : State × Bool :=
  let level := s.rget Reg.GD_STAT_LEVEL
  if s.sec.fuse || level = 2 || target = level || 2 < target || confirm != 0x4C564C30 then (s, false)
  else
    let s := s.modSec fun x => if target = 2 then { x with fuse := true, pendingLevel := none } else { x with pendingLevel := some target }
    let s := if target = 0 then s else s.modSec fun x => { x with rbKey := (x.inForce.map (·.key)).getD 0 }
    ((s.rset Reg.GD_STAT_PENDING target).endTicket, true)

/-- A set of the Station clock (R453): VALID, LOST cleared, counted. -/
def setClock (s : State) (ms : Nat) : State :=
  (((s.modSec fun x => { x with clockMs := ms % 2 ^ 48 }).rset Reg.SC_STAT_VALID 1).rset Reg.SC_STAT_LOST 0).rsat Reg.SC_STAT_SETS

/-- A HELLO or HELLO_ACK payload that verifies (R446). -/
def helloVerifies (h : Hello) (ack : Bool) : Bool := h.sigOk && h.chainOk && (!ack || h.digestOk)

/-- A HELLO payload of this device for a port: 644 bytes, or 868 of a HELLO_ACK that answers the payload with a digest (R446, R447). [DEDUCED, log 42] -/
def helloBytes (s : State) (p : Nat) (ack : Option Nat) : List Byte :=
  let g := leBytes 48 s.sec.guardDigest ++ leBytes 48 s.sec.bootDigest
  let key := attKey s.sec.guardDigest s.sec.bootDigest (s.rget Reg.GD_STAT_LEVEL)
  let serial := leBytes 8 s.sec.serial
  let head := serial ++ [s.sec.strapMode, s.sec.member, s.rget Reg.GD_STAT_LEVEL, s.rget Reg.GD_MIN_SVN_RUNNING] ++
    leBytes 4 s.sec.boot ++ leBytes 2 (s.rget (Reg.BL_STAT_SESSION p)) ++ [0, 0] ++ Sha384.digest s.currentRecord ++ publicKey (Config.random s.free)
  let att := publicKey key
  let ident := publicKey (Config.fixedKey 0)
  let body := head ++ att ++ signature (Config.fixedKey 0) (att ++ g) 0 ++ ident ++ signature (Config.fixedKey 1) (ident ++ serial) 0
  let body := match ack with
    | none => body
    | some d => body ++ leBytes 48 d ++ ((List.range 80).map fun i => (Config.guardByte s.free i).toNat) ++
        Sha384.digest (publicKey (Config.fixedKey 1)) ++ List.replicate 48 0
  toBytes (body ++ signature key body s.free)

/-- The ephemeral key of a port's HELLO is held by the Guard until the session ends or its check fails (R446). -/
def holdEphemeral (s : State) (p : Nat) : State := ({ s with free := s.free + 1 } : State).modBl p fun b => { b with ephemeral := some s.free }

/-- Sends HELLO on a manager's port, with a new session number (R334). -/
def sendHello (s : State) (p : Nat) : State :=
  let n := (s.rget (Reg.BL_STAT_SESSION p) + 1) % 65536
  let s := (s.rset (Reg.BL_STAT_SESSION p) n).rset (Reg.BL_STAT_STATE p) 2
  let k : BlPacket := ⟨0x10, false, 0, [], s.helloBytes p none⟩
  (s.holdEphemeral p).blSend p k

/-- A mailbox slot answers (R431, R432). -/
def answer (s : State) (slot status : Nat) (data : List Nat) : State := s.emit (.mailbox slot status data)

/-- The mailbox serves a slot: in the strap-fault state no application core runs (R5, R431). -/
def mailboxOpen (s : State) (slot : Nat) : Bool := s.alive && s.mode != .strapFault && decide (slot < 8)

end State

/-- STATUS (R432): GD_STAT, the boot counter and the level. -/
def execStatus (slot : Nat) (s : State) : Result :=
  if !s.mailboxOpen slot then .next s
  else
    let g := [Reg.GD_STAT_LEVEL, Reg.GD_STAT_PENDING, Reg.GD_STAT_SIGNED, Reg.GD_STAT_ROOT_OK, Reg.GD_STAT_RECOVERY, Reg.GD_STAT_ENTRIES].foldl
      (fun a f => a + s.rget f * 2 ^ f.lo) 0
    .next (s.answer slot 0 (leBytes 4 g ++ leBytes 4 s.sec.boot ++ [s.rget Reg.GD_STAT_LEVEL]))

/-- VERIFY_IMAGE (R432, R437): returns the digest of an image that passes; it may then be measured in this boot. -/
def execVerifyImage (slot : Nat) (i : ImageCheck) (s : State) : Result :=
  if !s.mailboxOpen slot then .next s
  else
    let st := s.verifyStatus i
    let s := if st = 0 then s.modSec fun x => { x with verified := if x.verified.contains i.digest then x.verified else x.verified ++ [i.digest] } else s
    .next (s.answer slot st (if st = 0 then leBytes 48 i.digest else []))

/-- MEASURE (R322, R432, R441): appends an ACTIVATION entry for an image that passed VERIFY_IMAGE in this boot; a full record answers LOG_FULL. -/
def execMeasure (slot : Nat) (i : ImageCheck) (s : State) : Result :=
  if !s.mailboxOpen slot then .next s
  else if !s.sec.verified.contains i.digest then .next (s.answer slot 2 [])
  else if 64 ≤ s.sec.journey.length then .next (s.answer slot 6 [])
  else .next ((s.append (s.imageEntry 10 0 i)).answer slot 0 [])

/-- CHALLENGE (R432): a new nonce; the previous one is void. -/
def execChallenge (slot : Nat) (s : State) : Result :=
  if !s.mailboxOpen slot then .next s
  else
    let s := s.newChallenge
    .next (s.answer slot 0 (leBytes 32 (s.sec.challenge.getD 0)))

/-- TICKET (R432, R504, R505). -/
def execTicket (slot : Nat) (t : Ticket) (s : State) : Result :=
  if !s.mailboxOpen slot then .next s
  else
    let (s, ok) := s.takeTicket t
    .next (s.answer slot (if ok then 0 else 3) [])

/-- LIFECYCLE (R432, R450). -/
def execLifecycle (slot target : Nat) (confirm : Word) (s : State) : Result :=
  if !s.mailboxOpen slot then .next s
  else
    let (s, ok) := s.lifecycle target confirm.toNat
    .next (s.answer slot (if ok then 0 else 2) [])

/-- MEDIA_KEY_ADVANCE (R425, R432): a new salt and G + 1; a record that cannot be programmed leaves the old key in force. -/
def execMediaKeyAdvance (slot : Nat) (ok : Bool) (s : State) : Result :=
  if !s.mailboxOpen slot then .next s
  else if ok then .next (s.cryptoErase.answer slot 0 []) else .next (s.answer slot 5 [])

/-- SET_TIME (R432, R453). -/
def execSetTime (slot ms : Nat) (s : State) : Result :=
  if !s.mailboxOpen slot then .next s else .next ((s.setClock ms).answer slot 0 [])

namespace State

/-- Connection state of a transport (R448). -/
def spdmState (s : State) (t : Nat) : Nat := Table.get 0 s.sec.spdm t
/-- Sets it. -/
def setSpdm (s : State) (t n : Nat) : State := s.modSec fun x => { x with spdm := Table.put 0 x.spdm t n }

/-- The last signed record, none before the first signing. -/
def signedRecord (s : State) : Option JRec :=
  if s.flag Reg.GD_STAT_SIGNED then Table.find s.sec.archive (s.sec.boot % 256) else none

/-- An entry as a measurement: index, type, and its digest or the raw entry (R448). The hardware configuration is reported raw, since its entry holds no digest. [DEDUCED, log 42] -/
def measured (e : JEntry) : Measurement :=
  let t : MeasurementType :=
    if e.stage = 1 then .hardwareConfig else if e.stage = 6 || e.stage = 7 then .firmwareConfig
    else if e.stage = 8 || e.stage = 9 then .freeform else .mutableFirmware
  let raw := t == .hardwareConfig || t == .freeform
  ⟨e.index + 1, t, raw, if raw then entryBytes96 e else leBytes 48 e.digest⟩

/-- The Guard answers an SPDM request on a transport, with the connection state after it (R448). -/
def spdmAnswer (s : State) (t : Nat) (r : SpdmReq) : State × SpdmAnswer :=
  let st := s.spdmState t
  match r with
  | .getVersion => (s.setSpdm t 1, .version)
  | .getCapabilities => if st = 1 then (s.setSpdm t 2, .capabilities) else (s, .unexpected)
  | .negotiateAlgorithms p h => if st != 2 then (s, .unexpected) else if p && h then (s.setSpdm t 3, .algorithms) else (s, .invalid)
  | .getDigests => if st = 3 then (s, .digests (Sha384.digest (s.chainBytes.map fun (b : Byte) => b.toNat))) else (s, .unexpected)
  | .getCertificate slot off len =>
    if st != 3 then (s, .unexpected) else if slot != 0 then (s, .invalid)
    else let c := s.chainBytes; (s, .certificate ((c.drop off).take len) (c.length - off - len))
  | .challenge slot nonce =>
    if st != 3 then (s, .unexpected) else if slot != 0 then (s, .invalid)
    else (s, .challengeAuth nonce (signature (attKey s.sec.guardDigest s.sec.bootDigest (s.rget Reg.GD_STAT_LEVEL)) [nonce] s.free))
  | .getMeasurements i sg =>
    if st != 3 then (s, .unexpected)
    else match s.signedRecord with
      | none => (s, .busy)
      | some r =>
        if i = 0xFE then (s, .manifest (s.recordBytes r true) sg)
        else if i = 0xFF then (s, .measurements (r.entries.map measured) sg)
        else match r.entries[i - 1]? with
          | some e => if 1 ≤ i ∧ i ≤ 64 then (s, .measurements [measured e] sg) else (s, .invalid)
          | none => (s, .invalid)
  | .other => (s, .unsupported)

/-- A transport that answers: DOE on port A or B, MCTP where the Rulebook enables it (R448, R455). -/
def spdmOpen (s : State) (t : Nat) : Bool :=
  s.alive && s.mode != .strapFault && (match t with
    | 0 => (s.port 0).linkUp
    | 1 => s.bifur && (s.port 1).linkUp
    | 2 => s.paramN .guardMctpEnable == 1
    | _ => false)

/-- Serves a request on a transport. -/
def spdm (s : State) (t : Nat) (r : SpdmReq) : State :=
  if !s.spdmOpen t then s
  else
    let (s, a) := s.spdmAnswer t r
    s.emit (.spdm t a)

end State

/-- SPDM (R432, R448): one request in, one response out. -/
def execSpdm (slot t : Nat) (r : SpdmReq) (s : State) : Result :=
  if !s.mailboxOpen slot || !s.spdmOpen t then .next s else .next ((s.spdm t r).answer slot 0 [])
/-- GET_VERSION (R448). -/
def execGetVersion (t : Nat) (s : State) : Result := .next (s.spdm t .getVersion)
/-- GET_CAPABILITIES (R448). -/
def execGetCapabilities (t : Nat) (s : State) : Result := .next (s.spdm t .getCapabilities)
/-- NEGOTIATE_ALGORITHMS (R448). -/
def execNegotiateAlgorithms (t : Nat) (p384 sha384 : Bool) (s : State) : Result := .next (s.spdm t (.negotiateAlgorithms p384 sha384))
/-- GET_DIGESTS (R448). -/
def execGetDigests (t : Nat) (s : State) : Result := .next (s.spdm t .getDigests)
/-- GET_CERTIFICATE (R444, R448): slot 0 only. -/
def execGetCertificate (t slot off len : Nat) (s : State) : Result := .next (s.spdm t (.getCertificate slot off len))
/-- CHALLENGE of SPDM (R448). -/
def execSpdmChallenge (t slot nonce : Nat) (s : State) : Result := .next (s.spdm t (.challenge slot nonce))
/-- GET_MEASUREMENTS (R448): an entry, every entry, or the whole signed record; Busy before the first signing. -/
def execGetMeasurements (t i : Nat) (sg : Bool) (s : State) : Result := .next (s.spdm t (.getMeasurements i sg))

/-- HELLO_BUILD (R446): the payload of a port, a HELLO_ACK for the HELLO received last. -/
def execHelloBuild (slot p : Nat) (s : State) : Result :=
  if !s.mailboxOpen slot || 5 < p then .next s
  else .next ((s.holdEphemeral p).answer slot 0 ((s.helloBytes p (if s.mode == Mode.worker then some (s.bl p).helloDigest else none)).map fun (b : Byte) => b.toNat))

/-- HELLO_CHECK (R446): a check that fails erases the ephemeral key. -/
def execHelloCheck (slot p : Nat) (h : Hello) (s : State) : Result :=
  if !s.mailboxOpen slot || 5 < p then .next s
  else if State.helloVerifies h (s.mode == .manager) then .next (s.answer slot 0 []) else .next ((s.modBl p fun b => { b with ephemeral := none }).answer slot 3 [])

/-- SEAL (R410, R416, R432): a secret of up to 4 KiB encrypted under its DPOT key with a generated nonce and stored; a program that fails changes nothing. -/
def execSeal (slot secretId : Nat) (bytes : List Byte) (ok : Bool) (s : State) : Result :=
  if !s.mailboxOpen slot then .next s
  else if 4096 < bytes.length || !s.gcmReady then .next (s.answer slot 2 [])
  else if !ok then .next (s.answer slot 5 [])
  else
    let r := s.gcmReq (.depot secretId)
    let c := Config.gcmEncrypt (keyNum r.label) r.context s.sec.nonce bytes
    .next ((s.takeNonce.modSec fun x => { x with secrets := Table.ins x.secrets secretId (s.rget Reg.GD_STAT_LEVEL, bytes) }).answer slot 0 (c.map fun b => b.toNat))

/-- UNSEAL (R410, R432): the plaintext of a stored secret; one sealed at another level does not verify, since its key names the level. [DEDUCED, log 42] -/
def execUnseal (slot secretId : Nat) (s : State) : Result :=
  if !s.mailboxOpen slot then .next s
  else match Table.find s.sec.secrets secretId with
    | some (level, b) =>
      if level = s.rget Reg.GD_STAT_LEVEL then .next (s.answer slot 0 (b.map fun x => x.toNat))
      else .next (((s.rset Reg.CE_ERR_AUTH 1).rsat Reg.CE_CNT_AUTH_FAILS).answer slot 3 [])
    | none => .next (s.answer slot 2 [])

/-- STAMP (R404, R432): Station clock seconds with their validity, and the tick count. -/
def execStamp (slot : Nat) (s : State) : Result :=
  if !s.mailboxOpen slot then .next s
  else
    let v := s.flag Reg.SC_STAT_VALID
    .next (s.answer slot 0 (leBytes 4 (if v then s.sec.clockMs / 1000 % 2 ^ 32 else 2 ^ 32 - 1) ++ [bit v] ++ leBytes 8 s.flash.tick))

/-- CLOCK_OSC_STOP (R453): an oscillator that stood still for more than 2 ms makes the clock invalid. -/
def execClockOscStop (us : Nat) (s : State) : Result :=
  if us ≤ 2000 then .next s else .next ((s.rset Reg.SC_STAT_VALID 0).rset Reg.SC_STAT_LOST 1)

/-- VBAT_LOW (R453): VBAT below 1.8 V while main power is absent makes the clock invalid. -/
def execVbatLow (mv : Nat) (s : State) : Result :=
  if 1800 ≤ mv || s.plat.hold != .off then .next s else .next ((s.rset Reg.SC_STAT_VALID 0).rset Reg.SC_STAT_LOST 1)

/-- SC_TIME_LO_READ (R454): ms [31:0]; ms [47:32] is latched. -/
def execScTimeLoRead (s : State) : Result :=
  .next ((s.rset Reg.SC_TIME_HI_MS_HI (s.sec.clockMs / 2 ^ 32)).emit (.readData 0x9040 (BitVec.ofNat 32 s.sec.clockMs)))

end Sys2Proof.Machine
end

