-- ==== Sys2Proof/Machine/Thermal.lean ====
section
/-! DEFINITION. Meanings of the temperature, power-state and token rows (chapter 19). -/

namespace Sys2Proof.Machine

namespace State

/-- Changes it. -/
def modTemp (s : State) (i : Nat) (f : TempInput → TempInput) : State :=
  { s with plat := { s.plat with inputs := Table.put {} s.plat.inputs i (f (s.tempIn i)) } }
/-- Number of a cause (R473, TH_SENS). -/
def BrokenCause.num : BrokenCause → Nat
  | .none => 0 | .open_ => 1 | .short => 2 | .slew => 3

/-- One reading of an input (R472, R473): a thermistor below -40 C is open and above 150 C short, the other inputs as their front end says; an enabled input that is open, short or too fast becomes broken until the next full reset. -/
def readTemp (s : State) (i : Nat) (r : TempReading) : State :=
  let x := s.tempIn i
  let slew := x.recent.any fun t => decide (s.paramN .thermalMaxSlewC < (t - r.temp).natAbs)
  let isOpen := r.isOpen || decide (14 ≤ i && r.temp < -40)
  let isShort := r.isShort || decide (14 ≤ i && 150 < r.temp)
  let bad := isOpen || isShort
  let cause : BrokenCause := if isOpen then .open_ else if isShort then .short else if slew then .slew else .none
  let s := s.modTemp i fun x => { x with
    reading := if bad then x.reading else r.temp
    recent := if bad then x.recent else (r.temp :: x.recent).take 10
    top := if bad then x.top else if x.recent.isEmpty then r.temp else max x.top r.temp }
  let s := if i < 6 && !bad && decide ((s.rget Reg.GD_TJ_TJ_MAX : Int) < r.temp) then s.rset Reg.GD_TJ_TJ_MAX r.temp.toNat else s
  if cause == .none || x.broken != .none || !s.tempEnabled i then s
  else
    let s := s.modTemp i fun x => { x with broken := cause }
    let s := (s.rset Reg.TH_BROKEN_MAP (s.rget Reg.TH_BROKEN_MAP ||| 2 ^ i)).rsat Reg.TH_CNT_BROKEN_EVENTS
    s.logIncident 0x31 0xFF 0 0xFF [i, BrokenCause.num cause]

/-- The band of a temperature, falling only 2 C below an edge (R117). -/
def bandFor (s : State) (old : Nat) (t : Int) : Nat :=
  let edges := [s.param .readBandEdge1C, s.param .readBandEdge2C, s.param .readBandEdge3C]
  let up := (edges.filter fun e => decide (e ≤ t)).length
  let down := (edges.filter fun e => decide (e - 2 < t)).length
  if old < up then up else if down < old then down else old

/-- A channel's band, which SB_SEQ_STAT shows and routines latch (R104), and the RETRAIN of chip enables whose temperature has moved too far since their training (R73, R117). -/
def channelTemp (s : State) (ch : Nat) : State :=
  let t := s.chanTemp ch
  let b := s.bandFor (Table.get 0 s.flash.bands ch) t
  let s := ({ s with flash := { s.flash with bands := Table.put 0 s.flash.bands ch b } }).rset (Reg.SB_SEQ_STAT_BAND ch) b
  let moved := (List.range 8).filter fun ce =>
    let c := s.ceCal ch ce
    c.trained && !c.isolated && !c.retrain && decide (s.paramN .flashRetrainDeltaC ≤ (t - c.trainTemp).natAbs)
  if moved.isEmpty then s else (moved.foldl (fun s ce => s.modCal ch ce fun c => { c with retrain := true, retrainFailed := false }) s).retrainPend ch

/-- Temperature in kelvin of a TMPSEL (R305, R309): 0 the composite, 1 to 8 the sensors; 0 for one that is broken or not enabled. -/
def tmpselK (s : State) (n : Nat) : Nat :=
  if n = 0 then (s.composite + 273).toNat else if s.tempValid (n - 1) then ((s.tempIn (n - 1)).reading + 273).toNat else 0

/-- Limits of Temperature Threshold that are crossed on a controller (R309): over at or above, under at or below; a sensor that reads 0 K crosses none. [DEDUCED, log 43] -/
def crossings (s : State) (k : Nat) : List Nat :=
  let c := s.ctl k
  (List.range 9).flatMap fun n =>
    let t := s.tmpselK n
    let above := decide (0 < t) && decide (Table.get (s.param .thermalWarnC + 273).toNat c.overThresh n ≤ t)
    let under := decide (0 < t) && decide (t ≤ Table.get 0 c.underThresh n)
    (if above then [2 * n] else []) ++ (if under then [2 * n + 1] else [])

/-- A limit newly crossed posts the temperature event where bit 1 of Asynchronous Event Configuration is set (R309). -/
def watchLimits (s : State) : State :=
  s.ctlList.foldl (fun s k =>
    let now := s.crossings k
    let new := now.any fun n => !(s.ctl k).crossed.contains n
    let s := s.modCtl k fun c => { c with crossed := now }
    if new && (s.ctl k).aec / 2 % 2 = 1 then s.postEvent k 1 1 0x02 else s) s

/-- Threshold of R477 in degrees. -/
def threshold (s : State) : Threshold → Int
  | .warning => s.param .thermalWarnC
  | .throttle => s.param .thermalThrottleC
  | .shutdown => s.param .thermalShutdownC

/-- The composite as TH_STAT shows it. -/
def shownComposite (s : State) : Int := signed (s.rget Reg.TH_STAT_COMPOSITE) 8

/-- Place of a threshold in `Plat.stays`. -/
def thresholdNum : Threshold → Nat
  | .warning => 0 | .throttle => 1 | .shutdown => 2

/-- How long the composite has stayed about a threshold. -/
def stay (s : State) (t : Threshold) : Stay := Table.get {} s.plat.stays (thresholdNum t)

/-- The composite's last 10 ms lie at or above the threshold (R477). -/
def crossedNow (s : State) (t : Threshold) : Bool := decide (s.threshold t ≤ s.shownComposite) && decide (10 ≤ (s.stay t).above)
/-- The composite's last 10 ms lie below the threshold less the hysteresis (R477). -/
def clearedNow (s : State) (t : Threshold) : Bool :=
  decide (s.shownComposite < s.threshold t - s.param .thermalHysteresisC) && decide (10 ≤ (s.stay t).below)

/-- One more millisecond of the composite about each threshold (R477) and of the throttle threshold crossed or cleared (R478). -/
def countStays (s : State) : State :=
  let one (t : Threshold) : Nat × Stay :=
    (thresholdNum t, { above := if s.threshold t ≤ s.shownComposite then min 10 ((s.stay t).above + 1) else 0
                       below := if s.shownComposite < s.threshold t - s.param .thermalHysteresisC then min 10 ((s.stay t).below + 1) else 0 })
  let up := s.flag Reg.TH_STAT_THROTTLE && decide (s.threshold .throttle ≤ s.shownComposite)
  { s with plat := { s.plat with
      stays := [one .warning, one .throttle, one .shutdown]
      stepUpMs := if up then s.plat.stepUpMs + 1 else 0
      stepDownMs := if s.flag Reg.TH_STAT_THROTTLE then 0 else s.plat.stepDownMs + 1 } }

/-- The throttle step moves (R478): its register, its count, both times from the start and the limits of the new step. -/
def moveStep (s : State) (n : Nat) : State :=
  let s : State := { s with plat := { s.plat with stepUpMs := 0, stepDownMs := 0 } }
  ((s.rset Reg.TH_STAT_STEP n).rsat Reg.TH_CNT_STEP_CHANGES).setBudget

/-- A millisecond of warning and of critical time (R477). -/
def countMinutes (s : State) : State :=
  let w := if s.flag Reg.TH_STAT_WARN then s.plat.warnMs + 1 else s.plat.warnMs
  let c := if s.flag Reg.TH_STAT_STOPPING then s.plat.critMs + 1 else s.plat.critMs
  let s := { s with plat := { s.plat with warnMs := w % 60000, critMs := c % 60000 } }
  let s := if 60000 ≤ w then s.rsat Reg.TH_TIME_WARN_MIN else s
  if 60000 ≤ c then s.rsat Reg.TH_TIME_CRIT_MIN else s

end State

/-- TEMP_SAMPLE (R73, R117, R472 to R476, R309): the 18 inputs are read, the composite, the channels' bands and the host's limits follow. -/
def execTempSample (inputs : List TempReading) (s : State) : Result :=
  if s.plat.hold != .none || s.mode == .strapFault then .next s
  else
    let s := (inputs.take 18).zipIdx.foldl (fun s q => s.readTemp q.2 q.1) s
    let s := s.rset Reg.TH_STAT_COMPOSITE (unsigned (max (-128) (min 127 s.composite)) 8)
    let s := (List.range s.channels).foldl (fun s ch => s.channelTemp ch) s
    .next s.countStays.countMinutes.watchLimits

/-- THRESHOLD_CROSSED (R477, R480, R481): the composite has stayed at or above a threshold for 10 ms; the shutdown threshold begins a flush on main power. -/
def execThresholdCrossed (t : Threshold) (s : State) : Result :=
  if !s.flag Reg.TH_CTRL_ENABLE || !s.crossedNow t then .next s
  else match t with
    | .warning => .next (s.rset Reg.TH_STAT_WARN 1)
    | .throttle => if s.flag Reg.TH_STAT_THROTTLE then .next s else .next ((s.rset Reg.TH_STAT_THROTTLE 1).rsat Reg.TH_CNT_THROTTLE_ENTRIES)
    | .shutdown =>
      if s.flag Reg.TH_STAT_STOPPING then .next s
      else
        let s := (s.rset Reg.TH_STAT_STOPPING 1).logIncident 0x32 0xFF 0 0xFF [unsigned s.shownComposite 8]
        .next (if s.flushing then s else s.beginFlush 2)

/-- THRESHOLD_CLEARED (R477): the composite has stayed below the threshold less the hysteresis for 10 ms. -/
def execThresholdCleared (t : Threshold) (s : State) : Result :=
  if !s.flag Reg.TH_CTRL_ENABLE || !s.clearedNow t then .next s
  else match t with
    | .warning => .next (s.rset Reg.TH_STAT_WARN 0)
    | .throttle => .next (s.rset Reg.TH_STAT_THROTTLE 0)
    | .shutdown => .next s

/-- THROTTLE_STEP_UP (R478, R479): 500 ms with the throttle threshold crossed since the step last moved. -/
def execThrottleStepUp (s : State) : Result :=
  let n := s.rget Reg.TH_STAT_STEP
  if !s.flag Reg.TH_STAT_THROTTLE || s.shownComposite < s.threshold .throttle || s.plat.stepUpMs < 500 || 4 ≤ n then .next s
  else .next (s.moveStep (n + 1))

/-- THROTTLE_STEP_DOWN (R478, R479): 2 s with the threshold cleared since the step last moved; the step stays at least 2 while a DRAM device is hot. -/
def execThrottleStepDown (s : State) : Result :=
  let n := s.rget Reg.TH_STAT_STEP
  let floor := if s.flag Reg.TH_STAT_DRAM_HOT then 2 else 0
  if s.flag Reg.TH_STAT_THROTTLE || s.plat.stepDownMs < 2000 || n ≤ floor then .next s
  else .next (s.moveStep (n - 1))

namespace State

/-- No command is outstanding on either controller but Asynchronous Event Requests (R485, R486). -/
def idleHosts (s : State) : Bool :=
  s.adm.ctxs.all fun p => decide (2 ≤ p.2.ctl) || (p.2.sqid == 0 && p.2.sqe.opcode == 0x0C)

end State

/-- NON_OPERATIONAL_ENTER (R486): with PS3 or PS4 in force and no command outstanding, dirty parcels go first and the journal is committed; then the blocks of the state are gated, in PS4 with DRAM in self-refresh. -/
def execNonOperationalEnter (ps : Nat) (s : State) : Result :=
  if !s.plat.ready || s.psInForce != ps || ps < 3 || !s.idleHosts || s.flushing || s.plat.nonOp.isSome then .next s
  else if s.dirtyCount != 0 || !s.media.openPage.isEmpty || !s.media.pages.isEmpty then
    let dirty := s.media.parcels.filter fun q => q.2.state == .filled || q.2.state == .placed || q.2.state == .stripeWait
    .next (dirty.foldl (fun s q => s.modParcel q.1 fun x => { x with urgent := true }) s).commitPage
  else
    let off := (s.leaveWakes ps).flatMap fun w => match w with | .dram _ => [] | w => w.domains
    let s : State := { s with plat := { s.plat with nonOp := some ps, gated := s.plat.gated.filter (fun d => !off.contains d) ++ off } }
    .next (if ps = 4 then s.rset Reg.MC_STAT_SELF_REFRESH 1 else s)

/-- APST_TIMEOUT (R485): the idle time of the state a controller is in has passed with no command outstanding; it takes the state of its table. -/
def execApstTimeout (k : Nat) (s : State) : Result :=
  let c := s.ctl k
  let next := (c.apst.getD c.powerState (0, 0)).1
  if !s.ctlList.contains k || !c.apstEnable || next < 3 || 4 < next || next ≤ c.powerState || !s.idleHosts then .next s
  else .next (s.modCtl k fun c => { c with powerState := next, lastOp := if c.powerState < 3 then c.powerState else c.lastOp }).setBudget

/-- TOKEN_REFILL (R487, R488): the pool gains RATE tokens for each microsecond, up to POOL_MAX, and the head of the line collects; `us` microseconds have passed. -/
def execTokenRefill (us : Nat) (s : State) : Result :=
  let s : State := { s with plat := { s.plat with tokens := s.plat.tokens.map fun x => { x with waited := x.waited + 10 * us } } }
  .next (s.grantFrom (s.rget Reg.TK_STAT_LEVEL + s.rget Reg.TK_RATE_RATE * us))

/-- TOKEN_AGE (R488): a request that has waited max_wait_us goes to the head of priority 1, behind requests already there. -/
def execTokenAge (id waitedUs : Nat) (s : State) : Result :=
  match s.plat.tokens.find? fun r => r.id == id with
  | none => .next s
  | some r =>
    if waitedUs < s.paramN .tokenMaxWaitUs || r.aged then .next s
    else
      let rest := s.plat.tokens.filter fun x => x.id != id
      let s := match r.wake with | .flash d => s.modDie d fun x => { x with tokenAged := true } | _ => s
      .next (({ s with plat := { s.plat with tokens := rest ++ [{ r with prio := 1, waited := max r.waited (10 * waitedUs), aged := true }] } }).rset Reg.TK_STAT_AGED 1)

end Sys2Proof.Machine
end

