-- ==== Sys2Proof/Machine/Logs.lean ====
section
/-! DEFINITION. Log pages, byte by byte (chapter 12, R308 to R312, R317, R318; R404). Bytes that no rule of the spec states are free values. -/

namespace Sys2Proof.Machine

/-- The value of a whole register: its fields at their places. -/
def RegFile.word (r : RegFile) (off : Nat) : Nat :=
  ((Reg.all.filter fun f => f.off == off).map fun f => r.get f * 2 ^ f.lo).sum

/-- Bytes of a page that the spec does not state. -/
def openBytes (page off draw n : Nat) : List Nat := (List.range n).map fun i => (Config.openByte page (off + i) draw).toNat

/-- A list cut or zero-padded to a length. -/
def padTo (n : Nat) (l : List Nat) : List Nat := (l ++ List.replicate (n - l.length) 0).take n

/-- The status field of a completion or log entry, phase bit excluded: SC, SCT, More 0, DNR. -/
def Status.word (st : Status) : Nat := st.sc + st.sct * 2 ^ 8 + bit st.dnr * 2 ^ 14

namespace State

/-- Critical Warning (R309) of a controller. -/
def critWarn (s : State) (k : Nat) : Nat :=
  let stop := s.flag Reg.FT_WEAR_STAT_BUFFER_STOP
  let chan := (List.range s.channels).any fun ch => s.flag (Reg.SB_CH_STAT_ISOLATED ch)
  let array := s.mode == .manager && (match s.hdr? with | some h => decide (0 < h.down) | none => false)
  let offline := s.mode == .manager && s.rget Reg.AY_STAT_STATE == 4
  bit (s.flag Reg.FT_WEAR_STAT_SPARE_LOW) + 2 * bit (!(s.crossings k).isEmpty) + 4 * bit (stop || chan || array || offline) + 8 * bit stop + 16 * bit s.adm.backupFailed

/-- SMART / Health Information (R309). -/
def smartPage (s : State) (k : Nat) : List Nat :=
  let c := s.ctl k
  padTo 512 (
    [s.critWarn k] ++ leBytes 2 (s.tmpselK 0) ++ [s.rget Reg.FT_WEAR_STAT_AVAIL_SPARE, s.paramN .wearSpareThresholdPct, s.rget Reg.FT_WEAR_STAT_PCT_USED] ++
    openBytes 2 6 s.free 26 ++ leBytes 16 (ceilDiv c.dataRead 1000) ++ leBytes 16 (ceilDiv c.dataWritten 1000) ++ openBytes 2 64 s.free 80 ++
    leBytes 16 s.media.nand.unclean ++ leBytes 16 s.adm.mediaErrors ++ leBytes 16 c.errCount ++
    leBytes 4 (s.rget Reg.TH_TIME_WARN_MIN) ++ leBytes 4 (s.rget Reg.TH_TIME_CRIT_MIN) ++ ((List.range 8).flatMap fun i => leBytes 2 (s.tmpselK (i + 1))))

/-- Error Information: 256 entries, newest first (R308); of an Unexpected Completion's entry only the count is stated, the rest is open. -/
def errorPage (s : State) (k : Nat) : List Nat :=
  let entry := fun (e : Nat × Nat × Nat × Status) =>
    if e.2.1 = 65536 then leBytes 8 e.1 ++ openBytes 1 (e.1 * 64 + 8) s.free 56
    else leBytes 8 e.1 ++ leBytes 2 e.2.1 ++ leBytes 2 e.2.2.1 ++ leBytes 2 (Status.word e.2.2.2 * 2) ++ openBytes 1 (e.1 * 64 + 14) s.free 18 ++ List.replicate 32 0
  padTo 16384 ((s.ctl k).errLog.flatMap entry)

/-- Firmware Slot Information: AFI and the revisions of the slots that hold a package. -/
def firmwarePage (s : State) : List Nat :=
  let slot := fun i => match Table.find s.adm.fwSlots i with | some x => x.revision | none => List.replicate 8 0
  padTo 512 ([s.adm.activeSlot + 16 * s.adm.pendingSlot.getD 0] ++ List.replicate 7 0 ++ slot 1 ++ slot 2 ++ slot 3)

/-- Changed Namespace List. -/
def changedPage (s : State) (k : Nat) : List Nat := padTo 4096 ((s.ctl k).changedNs.flatMap fun n => leBytes 4 n)

/-- Commands Supported and Effects: every supported command has CSUPP; what else its entry says is not stated. -/
def effectsPage (s : State) : List Nat :=
  let e := fun (base o : Nat) (on : Bool) =>
    if on then [1 + 2 * ((Config.openByte 5 (base + 4 * o) 0).toNat % 16), 0, (Config.openByte 5 (base + 4 * o + 2) 0).toNat % 8, 0] else [0, 0, 0, 0]
  padTo 4096 (((List.range 256).flatMap fun o => e 0 o (s.adminOpcode o)) ++ ((List.range 256).flatMap fun o => e 1024 o (s.ioOpcode o)))

/-- Device Self-test: the running operation and the 20 newest results (R317). -/
def selfTestPage (s : State) : List Nat :=
  let cur := match s.adm.selfTest with | some t => [if t.extended then 2 else 1, (Config.openByte 6 1 s.free).toNat % 128] | none => [0, 0]
  let e := fun (r : Nat × Nat × Nat × Nat) =>
    [r.1 * 16 + r.2.1, r.2.2.2, 1, 0] ++ openBytes 6 4 s.free 8 ++ leBytes 4 r.2.2.1 ++ List.replicate 12 0
  padTo 564 (cur ++ [0, 0] ++ (s.adm.testLog.flatMap e) ++ (List.replicate (20 - s.adm.testLog.length) (15 :: List.replicate 27 0)).flatten)

/-- Endurance Group Information of group 1. -/
def endurancePage (s : State) : List Nat :=
  openBytes 9 0 s.free 3 ++ [s.rget Reg.FT_WEAR_STAT_AVAIL_SPARE, s.paramN .wearSpareThresholdPct, s.rget Reg.FT_WEAR_STAT_PCT_USED] ++ openBytes 9 6 s.free 506

/-- Data capacity of one host-stream superblock: the reclaim unit size (R307). -/
def reclaimUnit (s : State) : Nat := (s.openGroups.map s.sbBytes).foldl max 0

/-- FDP Configurations: one configuration (R307). -/
def fdpConfigPage (s : State) : List Nat :=
  let h := s.paramN .translationFdpHandles
  let d := leBytes 2 (64 + 4 * h) ++ [0x84, 0] ++ leBytes 4 s.openGroups.length ++ leBytes 2 h ++ leBytes 2 (h - 1) ++ leBytes 4 128 ++ leBytes 8 s.reclaimUnit ++
    openBytes 0x20 40 0 4 ++ List.replicate 36 0 ++ (List.replicate h [1, 0, 0, 0]).flatten
  [0, 0, 0, 0] ++ leBytes 4 (16 + d.length) ++ List.replicate 8 0 ++ d

/-- Reclaim Unit Handle Usage: handles that a namespace holds are host specified. -/
def fdpUsagePage (s : State) : List Nat :=
  let h := s.paramN .translationFdpHandles
  leBytes 2 h ++ List.replicate 6 0 ++ (List.range h).flatMap fun i => bit (s.media.nand.ns.any fun q => q.2.handles.contains i) :: List.replicate 7 0

/-- FDP Statistics: host bytes written; with the relocated bytes, media bytes written (R171); erased bytes are not stated. -/
def fdpStatsPage (s : State) : List Nat :=
  let h := (s.ctlList.map fun k => (s.ctl k).dataWritten * 512).sum
  leBytes 16 h ++ leBytes 16 (h + s.adm.fdpRelocated) ++ openBytes 0x22 32 s.free 16 ++ List.replicate 16 0

/-- FDP Events: events of type 0x80, Media Reallocated; all but the type is not stated. -/
def fdpEventPage (s : State) : List Nat :=
  leBytes 4 s.adm.fdpEvents ++ List.replicate 60 0 ++ (List.range (min 63 s.adm.fdpEvents)).flatMap fun i => 0x80 :: openBytes 0x23 (64 * i) s.adm.fdpEvents 63

/-- Reservation Notification: the oldest notification and how many there are. -/
def reservationPage (s : State) (k : Nat) : List Nat :=
  match (s.ctl k).resLog with
  | [] => List.replicate 64 0
  | e :: rest => padTo 64 (leBytes 8 e.1 ++ [e.2.1, min 255 rest.length] ++ [0, 0] ++ leBytes 4 e.2.2)

/-- Sanitize Status (R318): progress while it runs, status, Global Data Erased, the action, the estimated times of the table. -/
def sanitizePage (s : State) : List Nat :=
  let prog := match s.adm.sanitize with | some z => if z.running then openBytes 0x81 0 s.free 2 else leBytes 2 65535 | none => leBytes 2 65535
  let cdw := match s.adm.sanitize with | some z => leBytes 4 (z.action + bit z.ause * 8 + z.owpass % 16 * 16 + bit z.oipbp * 256) | none => openBytes 0x81 4 s.free 4
  padTo 512 (prog ++ leBytes 2 (s.adm.sanStatus + 256 * bit s.adm.globalErased) ++ cdw ++ leBytes 4 6480 ++ leBytes 4 60 ++ leBytes 4 5)

/-- Dies that are isolated, ascending. -/
def isolatedDies (s : State) : List Nat := (List.range (32 * s.channels)).filter fun d => (s.die d).isol != 0

/-- Media Health (R311). -/
def mediaHealthPage (s : State) : List Nat :=
  let ds := s.isolatedDies
  let spare := (List.range 16).map fun g => if g < s.groupCount then s.groupSpare g else 0
  padTo 8192 (leBytes 4 (RegFile.word s.regs Reg.FT_WEAR_STAT_EW_RATE.off) ++ s.media.rates.flatMap (fun r => leBytes 4 (min r (2 ^ 32 - 1))) ++
    leBytes 8 s.adm.leftClassTotal ++ leBytes 4 (RegFile.word s.regs Reg.FT_WEAR_PE_MEAN_PE.off) ++
    [(s.adm.vendorPending.map fun n => 2 ^ (n - 1)).sum % 256, 0, 0, 0] ++ spare ++ List.replicate 48 0 ++ leBytes 2 ds.length ++ List.replicate 6 0 ++
    ds.flatMap fun d => leBytes 2 d ++ [(s.die d).isol, 0] ++ leBytes 4 (s.die d).isolSecs)

/-- Digest of the staged image of R324; zero when none is staged. The digest of what is staged is the Guard's. -/
def stagedDigest (s : State) : List Nat :=
  if s.adm.depotBytes.isEmpty then List.replicate 48 0 else openBytes 0xC1 64 s.adm.depotBytes.length 48

/-- Configuration (R312). -/
def configPage (s : State) : List Nat :=
  let rb := match s.sec.inForce with | some r => leBytes 48 r.digest | none => openBytes 0xC1 0 0 48
  padTo 512 (rb ++ [s.adm.rbStatus, 0, 0, 0] ++ leBytes 4 s.adm.rbFirstBad ++ [s.rget Reg.SB_MC_STAT_CUST_REJECT, s.rget Reg.SB_MC_STAT_CUST_SVN, s.adm.parStatus, 0] ++
    leBytes 2 (s.rget Reg.LD_CODE_CFG_PAR) ++ [0, 0] ++ s.stagedDigest ++ [s.sec.strapMode, bit s.bifur, s.sec.member, s.rget Reg.GD_STAT_LEVEL] ++
    leBytes 2 ((List.range (32 * s.channels)).filter fun d => (s.die d).accepted).length)

/-- An incident record (R404); the class data of classes 0x10, 0x11, 0x12 and 0x20 is named in R405 without a layout. -/
def incidentBytes (i : Incident) : List Nat :=
  let info := if [0x10, 0x11, 0x12, 0x20].contains i.cls then openBytes 0xC3 (i.num * 64 + 29) 0 35 else i.info
  padTo 64 (leBytes 4 i.num ++ leBytes 4 i.secs ++ leBytes 8 i.tick ++ [i.cls, i.port, 0, 0] ++ leBytes 8 i.addr ++ [i.dev] ++ info)

/-- A log page as controller `k` reads it; none for an identifier that is not supported (R308). -/
def logPage (s : State) (k lid : Nat) : Option (List Nat) :=
  match lid with
  | 0x01 => some (s.errorPage k)
  | 0x02 => some (s.smartPage k)
  | 0x03 => some s.firmwarePage
  | 0x04 => some (s.changedPage k)
  | 0x05 => some s.effectsPage
  | 0x06 => some s.selfTestPage
  | 0x09 => some s.endurancePage
  | 0x20 => some s.fdpConfigPage
  | 0x21 => some s.fdpUsagePage
  | 0x22 => some (s.fdpStatsPage)
  | 0x23 => some s.fdpEventPage
  | 0x80 => if s.bifur then some (s.reservationPage k) else none
  | 0x81 => some s.sanitizePage
  | 0xC0 => some s.mediaHealthPage
  | 0xC1 => some s.configPage
  | 0xC2 => some s.currentRecord
  | 0xC3 => some (padTo 16384 (s.mem.incidents.flatMap incidentBytes))
  | _ => none

/-- `n` bytes of a page from an offset; zeros past its end. -/
def pageBytes (page : List Nat) (off n : Nat) : List Nat := padTo n (page.drop off)

/-- An entry of this device's Branch Link error log (R347). -/
def blErrorBytes (e : BlError) : List Nat :=
  padTo 32 (leBytes 4 e.num ++ leBytes 4 e.secs ++ leBytes 4 e.tick ++ [e.code, e.port] ++ leBytes 2 e.tag ++ [e.typ, bit e.froze, 0, 0] ++ e.bytes)

end State

end Sys2Proof.Machine
end

