-- ==== Sys2Proof/Machine/Branch.lean ====
section
/-! DEFINITION. Meanings of the Branch Link rows (chapter 13) and of array assembly (R355, R500). -/

namespace Sys2Proof.Machine

namespace State

/-! ## Packets on the lanes (R329, R332, R335) -/

/-- The NONCE of a packet: direction, port as the manager sees it, zeros, counter; zero in HELLO and HELLO_ACK (R329, R335). [DEDUCED, log 56] -/
def nonceBytes (s : State) (p : Nat) (k : BlSent) : List Nat :=
  if hasNonce k.packet then [if s.mode == .manager then 0 else 1, p, 0, 0] ++ leBytes 8 k.counter else List.replicate 12 0

/-- Bytes 0 to 31 of a transaction packet (R329). -/
def packetHead (s : State) (p : Nat) (k : BlSent) : List Byte :=
  toBytes ([k.packet.typ, bit k.packet.last] ++ leBytes 2 k.packet.body.length ++ leBytes 2 k.lseq ++ leBytes 2 (k.packet.tag % 4096) ++
    s.nonceBytes p k ++ padTo 12 k.packet.param)

/-- A transaction packet as it stands on the lanes: header, ciphertext, tag, CRC-32 over every byte before it; HELLO and HELLO_ACK in clear and without a tag (R329). -/
def packetImage (s : State) (p : Nat) (k : BlSent) : List Byte :=
  let head := s.packetHead p k
  let r := s.gcmReq (.link (if s.mode == .manager then 0 else 1) p)
  let bs :=
    if hasNonce k.packet then
      head ++ Config.gcmEncrypt (keyNum r.label) r.context k.counter k.packet.body ++
        (List.range 16).map (Config.gcmTag (keyNum r.label) r.context k.counter head k.packet.body)
    else head ++ k.packet.body
  bs ++ toBytes (leBytes 4 (crc32 bs).toNat)

/-- The 12 bytes of a control packet (R332). -/
def controlImage (typ a b : Nat) : List Byte :=
  let bs := toBytes ([typ, 0] ++ leBytes 2 a ++ leBytes 4 b)
  bs ++ toBytes (leBytes 4 (crc32 bs).toNat)

/-! ## Link -/

/-- The keys of a port's session leave the key cache, and the Guard erases its ephemeral key (R349, R446). -/
def dropSession (s : State) (p : Nat) : State :=
  (s.dropKeys fun r => r.label == .blnk && r.context.getD 3 9 == p).modBl p fun b => { b with session := false, rxNext := 0, ephemeral := none }

/-- Both direction keys of a port's session are loaded into the key cache (R334, R447). -/
def loadSession (s : State) (p : Nat) : State :=
  [0, 1].foldl (fun s d => let r := s.gcmReq (.link d p); (s.requestKey r).1.releaseKey r) s

/-- A port's link layer at a fresh link: no packets, credits of the peer, numbers from 0 (R331, R333). -/
def freshLink (b : BlPort) (lanes : Nat) : BlPort :=
  { b with lanes := lanes, sendSeq := 0, recvSeq := 0, nakSent := false, replay := [], replays := 0, retraining := false, hdr := 64, data := 512, waiting := []
           swap := none, delayed := none, session := false, rxNext := 0 }

/-- The abort IL_CAS (R235, R294, R296, R344): wins over WAITING and ACTIVE, and the command is undone; loses to DONE. -/
def ilAbort (s : State) (n : Nat) : State × Bool :=
  let (s, old) := s.ilCas n [.waiting, .active] .aborted
  match old with
  | some .waiting | some .active => (((s.stopWork n).restoreCtx n).rsat Reg.AE_IL_RACE_ABORT_WON, true)
  | _ => (s.rsat Reg.AE_IL_RACE_ABORT_LOST, false)

/-- A command has answered: its pins go; its Interlocking entries wait for IL_REMOVE, and with none its context is free (R234, R280). -/
def release (s : State) (n : Nat) : State :=
  match s.ctx n with
  | none => s
  | some c =>
    let s := c.pinned.foldl (fun s p => s.unpin p) s
    let s := s.modCtxN n fun c => { c with pinned := [], posted := true }
    if c.il.isEmpty then s.dropCtx n else s

/-! ## Worker: commands -/

/-- The volume's NSID for a slot: a value from 1 to 128 (R134). [DEDUCED, log 57] -/
def volumeNsid (v : Nat) : Nat := if v % 128 = 0 then 128 else v % 128

/-- Opcodes of R337. -/
def blOpcode (o : Nat) : Bool := decide (1 ≤ o ∧ o ≤ 0x0B)

/-- The STATUS a command is refused with, 0 none (R338, R193, R319). [DEDUCED, log 42] -/
def blRefusal (s : State) (c : BlCmd) : Nat :=
  let o := c.opcode
  let range := match s.volume c.volume with | some v => decide (v.blocks4k < c.start + c.count) | none => false
  if !blOpcode o then 3
  else if c.reserved || c.cls % 4 == 3 || c.count = 0 || 256 < c.count || (o != 4 && c.coef != 0) then 4
  else if (o ≤ 6 || o == 9) && (s.volume c.volume).isNone then 5
  else if o ≤ 5 && range then 6
  else if s.sanitizing && (o ≤ 6 || o == 8 || o == 9 || (o == 0x0A && (match s.adm.sanitize with | some z => z.running | none => false))) then 9
  else if [2, 3, 4, 5].contains o && s.bufferStop then 2
  else 0

/-- The checks of a CMD packet on B0 (R331, R335, R342, R345, R346) and its refusals; true when the command is to run. -/
def blAccept (s : State) (c : BlCmd) : State × Bool :=
  let (s, up) := s.blRecv 0 0x01 c.tag c.h
  if !up then (s, false)
  else if (Table.find s.link.inTags c.tag).isSome then (s.blError 0 5 c.tag (some c.h) true, false)
  else if 512 ≤ s.link.inTags.length then (s.blError 0 6 c.tag (some c.h) true, false)
  else if s.flag (Reg.BL_STAT_FROZEN 0) then ((s.rsat (Reg.BL_ERRCNT_FROZEN_CMDS 0)).blResp c.tag 8 0 0 [] [], false)
  else
    let r := s.blRefusal c
    if r = 0 then (s, true) else (s.blResp c.tag r 0 0 [] [], false)

/-- A row for one opcode takes a packet of that opcode, or of one that the table does not hold. -/
def blRow (op : Nat) (c : BlCmd) : Bool := c.opcode == op || !blOpcode c.opcode

/-- The entry of a worker's command: volume, blocks, and the opcode its work has here. -/
def blSqe (c : BlCmd) : Sqe :=
  let o := match c.opcode with | 1 => 0x02 | 2 => 0x01 | 3 => 0x103 | 4 => 0x104 | 5 => 0x09 | 6 => 0x00 | _ => 0x10A
  { Sqe.empty with opcode := o, cid := c.tag, nsid := volumeNsid c.volume, slba := c.start, nlb := c.count - 1, fua := c.fua, ad := c.opcode == 5
                   ranges := if c.opcode = 5 then [(c.start, c.count)] else [] }

/-- A worker's command takes a context in arrival order (R25, R290). -/
def blStart (s : State) (c : BlCmd) : State :=
  match s.freeCtx 1 with
  | none => s.blResp c.tag 0x0A 0x0B 0 [] []
  | some n =>
    let e := blSqe c
    let us := match s.volume c.volume with | some v => ilUnits v e | none => []
    let x : Ctx := { ctl := 2, sqid := 1, sqe := e, seq := s.adm.seq, path := (if c.opcode = 1 && c.cls = 0 then .mainline else .firmware)
                     express := c.opcode == 1 && c.cls == 0, goods := c.opcode == 1 && c.cls == 2, inserted := us.isEmpty, start := s.flash.tick }
    let t : BlIn := { ctx := n, opcode := c.opcode, coef := c.coef, start := c.start, count := c.count }
    ({ s with adm := { s.adm with ctxs := Table.ins s.adm.ctxs n x, seq := s.adm.seq + 1 }
              link := { s.link with inTags := Table.ins s.link.inTags c.tag t } }).blStat 0

/-- A row that starts a command with a context. -/
def blCommand (s : State) (op : Nat) (c : BlCmd) : State :=
  if !blRow op c then s
  else
    let (s, ok) := s.blAccept c
    if ok then s.blStart c else s

/-- Raw capacity of the accepted dies in blocks (R337). -/
def rawBlocks (s : State) : Nat := ((List.range s.groupCount).map s.groupUser).sum / 4096

/-- The 4096 bytes of IDENTIFY (R337). -/
def identifyBlock (s : State) : List Byte :=
  let map := s.media.nand.ns.foldl (fun m q => m + 2 ^ q.1) 0
  toBytes (padTo 4096 (leBytes 8 s.sec.serial ++ [s.sec.member, s.rget Reg.GD_STAT_LEVEL] ++ leBytes 8 s.rawBlocks ++ leBytes 8 (s.localFree / 4096) ++ leBytes 16 map))

/-- All blocks of a writer's grants are here: the write, the delta, or the parity (R337). -/
def blWrite (s : State) (tag : Nat) (t : BlIn) : State :=
  match s.ctx t.ctx, s.volume ((s.ctx t.ctx).map (·.sqe.nsid) |>.getD 0) with
  | some c, some ns =>
    let got := fun l => if t.start ≤ l ∧ l < t.start + t.count then Table.find t.got (l - t.start) else none
    let old := fun l => if c.lost.contains l then bzero else match c.merge.find? fun m => m.1 == l with | some m => cipherBytes m.2 | none => bzero
    let new := fun l => (got l).map fun d => if t.opcode = 4 then bxor (old l) (bmul t.coef d) else d
    let ret := if t.opcode = 3 then (List.range t.count).filterMap fun i =>
        if c.lost.contains (t.start + i) then none else (got (t.start + i)).map fun d => (t.start + i, bxor (old (t.start + i)) d)
      else []
    let s := s.writeIus t.ctx c ns new
    let s := s.modCtxN t.ctx fun c => { c with data := ret }
    { s with link := { s.link with inTags := Table.modify (fun (t : BlIn) => { t with grant := none }) s.link.inTags tag } }
  | _, _ => s

/-- A granted block arrives at a worker (R340). -/
def blGranted (s : State) (tag : Nat) (h : BlHdr) (index : Nat) (bytes : List Byte) : State :=
  match Table.find s.link.inTags tag with
  | none => s.blError 0 7 tag (some h) true
  | some t =>
    match t.grant with
    | none => s.blError 0 7 tag (some h) true
    | some (first, n) =>
      if index < first || first + n ≤ index then s.blError 0 7 tag (some h) true
      else
        let t := { t with got := Table.ins t.got index bytes }
        let all := (List.range n).all fun i => (Table.find t.got (first + i)).isSome
        let t := if all then { t with grant := none, granted := first + n } else t
        let s := { s with link := { s.link with inTags := Table.ins s.link.inTags tag t } }
        if all && t.granted == t.count then s.blWrite tag t else s

/-! ## Manager: answers -/

/-- An Unexpected Completion (R343). [DEDUCED, log 56] -/
def blLate (s : State) (p tag : Nat) (h : BlHdr) : State := (s.rsat (Reg.BL_ERRCNT_LATE p)).blError p 10 tag (some h) false

/-- Sends what waits on a port. -/
def issueAll (s : State) (p : Nat) : State := (issueBl p (s.bl p).queue.length s).blStat p

/-- A deallocated block of a host read (R338): zeros. -/
def remoteZero (s : State) (n : Nat) (ns : Namespace) (iu part : Nat) : State :=
  match s.ctx n with
  | none => s
  | some c =>
    if !c.remote.contains (iu, part) then s
    else (s.modCtxN n fun c => { c with remote := c.remote.filter (· != (iu, part)) }).zeroPart n ns iu part

/-- The blocks of an undegraded host read (R24, R338, R368): decrypted, zeros, or a degraded read for an unrecoverable one. -/
def hostAnswered (s : State) (c : BlOut) (n : Nat) (parts : List (Nat × Nat)) (unrec zeros : List Nat) : State :=
  match s.ctx n, s.hdr? with
  | some x, some h =>
    match s.nsOf x.sqe.nsid with
    | none => s
    | some ns => parts.zipIdx.foldl (fun s q =>
        if unrec.contains q.2 then s.degrade n ns h q.1.1 q.1.2
        else if zeros.contains q.2 then s.remoteZero n ns q.1.1 q.1.2
        else s.remoteDone n ns q.1.1 q.1.2 (Table.find c.got q.2)) s
  | _, _ => s

/-- The blocks of an array job's command (R338, R363, R376). -/
def jobAnswered (s : State) (c : BlOut) (j pos : Nat) (unrec zeros : List Nat) : State :=
  let s := (List.range c.count).foldl (fun s i =>
    let m := c.mOff + i
    match c.opcode with
    | 1 =>
      if unrec.contains i then s.modAJob j fun x => { x with lost := x.lost ++ [rowKey pos m] }
      else if zeros.contains i then s.gotBlock j pos m false bzero
      else match Table.find c.got i with
        | some b => s.gotBlock j pos m false b
        | none => s.modAJob j fun x => { x with lost := x.lost ++ [rowKey pos m] }
    | 3 =>
      let new := c.blocks.getD i bzero
      s.gotDelta j pos m new (if unrec.contains i then none else Table.find c.got i)
    | 4 => if unrec.contains i then s.modAJob j fun x => { x with redo := true } else s
    | _ => s) s
  ((stepJob j 8 (s.modAJob j fun x => { x with pend := x.pend - 1 }))).runJobs

/-- What the manager learns from a worker's error log (R342, R348): commands whose packets were discarded end as failed; the newest entry is named in RESUME. [DEDUCED, log 56] -/
def logAnswered (s : State) (p : Nat) (bytes : List Nat) : State :=
  let e := fun i => (bytes.drop (32 * i)).take 32
  let s := (List.range 32).foldl (fun s i =>
    let num := fromLe ((e i).take 4)
    let code := (e i).getD 12 0
    let tag := fromLe (((e i).drop 14).take 2)
    if num ≤ (s.bl p).readEntry || !(code == 5 || code == 6) then s
    else match Table.find (s.bl p).tags tag with
      | some c => (s.modBl p fun b => { b with tags := Table.del b.tags tag }).cmdFailed c
      | none => s) s
  let newest := fromLe ((e 0).take 4)
  let s := s.modBl p fun b => { b with readEntry := max newest b.readEntry }
  if (s.bl p).held || s.flag (Reg.BL_STAT_SEND_FROZEN p) then s.sendResume p else s

/-- Bytes a log read returned, in offset order. -/
def logBytes (c : BlOut) : List Nat := (c.got.flatMap fun q => q.2).map fun (b : Byte) => b.toNat

/-- IDENTIFY's data (R337). -/
def identified (s : State) (p : Nat) (c : BlOut) : State :=
  match Table.find c.got 0 with
  | none => s
  | some b =>
    let v := b.map fun (x : Byte) => x.toNat
    s.modBl p fun x => { x with raw := fromLe ((v.drop 10).take 8), free := fromLe ((v.drop 18).take 8) }

/-- The host status of a member's refusal for an admin command (R357). -/
def memberStatus (status : Nat) : Status := if status = 0x0B then stCmd 0x15 else stGen 0x06

/-- A member command was answered (R338, R346, R348, R369, R370); after a volume came or went the member's free capacity is asked again (R357). -/
def blAnswered (s : State) (p : Nat) (c : BlOut) (status : Nat) (unrec zeros : List Nat) : State :=
  if status = 8 then (s.modBl p fun b => { b with queue := { c with got := [] } :: b.queue, held := true }).readLog p 1 256 0
  else
    let s := match c.owner with
      | .host n parts => if status ≤ 1 then s.hostAnswered c n parts unrec zeros else if status = 0x0A then s.memberTrouble p c else s.cmdFailed c
      | .job j pos =>
        if status ≤ 1 then s.jobAnswered c j pos unrec zeros else if status = 0x0A then s.memberTrouble p c else s.cmdFailed c
      | .admin n => s.modCtxN n fun x => { x with members := x.members - 1, status := if status = 0 then x.status else some (x.status.getD (memberStatus status)) }
      | .sanitize => if status = 0 then s else s.memberUnsane
      | .spare m => if status = 0 then { s with link := { s.link with spareClean := s.link.spareClean ++ [m] } } else s
      | .identify => s.identified p c
      | .log id => if id = 1 && status = 0 then s.logAnswered p (logBytes c) else s
      | _ => s
    let s := if status = 0 && !c.isLog && (c.opcode = 8 || c.opcode = 9) then s.memberCmd p { owner := .identify, opcode := 7 } else s
    if status = 2 then match s.posOf (s.rget (Reg.BL_STAT_MEMBER p)) with | some pos => s.declareFailed pos 4 | none => s else s

/-- First commands of an accepted worker (R350): IDENTIFY, SET_TIME when the clock is valid. -/
def firstCommands (s : State) (p : Nat) : State :=
  let s := s.memberCmd p { owner := .identify, opcode := 7 }
  let s := if s.flag Reg.SC_STAT_VALID then s.memberCmd p { owner := .setTime, opcode := 0x0B, extra := leBytes 6 s.sec.clockMs } else s
  if s.flag (Reg.BL_STAT_SEND_FROZEN p) then s.readLog p 1 256 0 else s

/-- The cause the manager refuses a worker with, 0 none (R334); of several, the first in this order. [DESIGN CHOICE, log 56] -/
def helloRefusal (s : State) (p : Nat) (h : Hello) : Nat :=
  if !helloVerifies h true then 1
  else if h.mode != 2 then 6
  else if h.member = 0 || 6 < h.member then 2
  else if (List.range 6).any fun q => q != p && (s.bl q).session && s.rget (Reg.BL_STAT_MEMBER q) == h.member then 3
  else if h.level < s.rget Reg.GD_STAT_LEVEL then 4
  else if h.svn < s.paramN .branchMinWorkerSvn then 5
  else 0

/-! ## Assembly (R355, R500) -/

/-- A member is present: itself, or accepted. -/
def present (s : State) (m : Nat) : Bool := m == 0 || (s.memberPort m).isSome
/-- Serial of a present member. -/
def memberSerial (s : State) (m : Nat) : Nat := if m = 0 then s.sec.serial else match s.memberPort m with | some p => (s.bl p).serial | none => 0

/-- A new array from `member_mask`. -/
def newArray (s : State) (ms : List Nat) : State :=
  let spares := (List.range 7).filter fun m => s.paramN .arraySpareMask / 2 ^ m % 2 == 1
  let h : ArrayHeader := { ident := Config.random s.free, layout := s.paramN .arrayLayout, positions := ms.map fun m => ⟨m, s.memberSerial m, .online, 0⟩, spares := spares }
  ({ s with arr := { s.arr with header := some h }, free := s.free + 1 }).arrayStat.modHdr id

/-- A position's state at assembly. -/
def assemblePos (s : State) (q : Position) : Position :=
  if q.state == .unused || q.state == .failed then q
  else if !s.present q.member then { q with state := .failed, cause := 6 }
  else if s.memberSerial q.member != q.serial then { q with state := .failed, cause := 7 }
  else q

/-- Contexts of commands to array namespaces that are held before assembly. -/
def heldCtxs (s : State) : List Nat :=
  (s.adm.ctxs.filter fun q => q.2.sqid != 0 && decide (q.2.ctl < 2) && !q.2.started && q.2.status.isNone &&
    (match s.nsOf q.2.sqe.nsid with | some n => n.array | none => false)).map (·.1)

/-- The tolerance is exceeded: OFFLINE, held commands end, the namespaces are detached. -/
def goOffline (s : State) : State :=
  let s := s.rset Reg.AY_STAT_STATE 4
  let s := s.heldCtxs.foldl (fun s n => s.failCtx n (stGen 0x0B)) s
  let ids := s.arrayNs.map fun q => q.2.nsid
  let s := s.ctlList.foldl (fun s k => s.modCtl k fun c => { c with changedNs := (c.changedNs ++ ids.filter fun i => !c.changedNs.contains i).take 1024 }) s
  (s.postSmart 2 0).postNotice 0 0x04

/-- SANITIZE goes to every worker that holds a position; a FAILED position, or a member out of reach, makes the whole fail (R358). [DEDUCED, log 51] -/
def sendSanitize (s : State) : State :=
  match s.adm.sanitize, s.hdr? with
  | some z, some h =>
    if s.mode != .manager || !z.running then s
    else h.positions.foldl (fun s p =>
      if p.state == .unused || (p.member = 0 && p.state != .failed) then s
      else if p.state == .failed then s.memberUnsane
      else match s.memberPort p.member with
        | some q => s.memberCmd q { owner := .sanitize, opcode := 0x0A, extra := [z.action, z.owpass, 0, 0] ++ leBytes 4 z.ovrpat.toNat }
        | none => s.memberUnsane) s
  | _, _ => s

/-- A sanitize command to a member is outstanding. -/
def sanitizeOut (s : State) : Bool :=
  s.link.ports.any fun q => (q.2.queue.any fun c => c.owner == .sanitize) || (q.2.tags.any fun t => t.2.owner == .sanitize)

/-- No journal copy can be read: member 0's position is not ONLINE and no worker holds one (R380). -/
def journalLost (s : State) : Bool :=
  match s.hdr? with
  | none => false
  | some h => !(h.positions.any fun p => p.member == 0 && p.state == PosState.online) && s.journalHolder.isNone

/-- Every region of every array namespace is dirty (R380). -/
def allDirty (s : State) : State :=
  match s.hdr? with
  | none => s
  | some h => s.arrayNs.foldl (fun s (q : Nat × Namespace) =>
      { s with arr := { s.arr with dirty := Table.put [] s.arr.dirty q.1 (List.range (ceilDiv (metaBase h q.2) 256)) } }) s

/-- Array assembly at the end of the discovery window; a recovery boot resynchronises (R380); a sanitize that a power loss interrupted starts again (R319). -/
def assemble (s : State) : State :=
  let s := { s with link := { s.link with assembled := true } }
  let s := match s.hdr? with
    | none =>
      let ms := (List.range 7).filter fun m => s.paramN .arrayMemberMask / 2 ^ m % 2 == 1
      if ms.all s.present then s.newArray ms else s
    | some h =>
      let ps := h.positions.map s.assemblePos
      let failed := (ps.filter fun (q : Position) => q.state == PosState.failed).length
      if h.tolerance < failed then s.goOffline
      else
        let s := if ps = h.positions then s else s.modHdr fun h => { h with positions := ps }
        let s := s.arrayStat
        let s := if 0 < h.down || ps != h.positions then s.postSmart 2 0 else s
        let s := if s.plat.recovered && s.journalLost then s.allDirty else s
        s.rset Reg.AY_STAT_RESYNC (bit (s.plat.recovered && s.arr.dirty.any fun q => !q.2.isEmpty))
  let s := s.sendSanitize
  { s with plat := { s.plat with progress := if s.plat.ready then 7 else s.plat.progress } }

/-- Member 0 fails its position in the Buffer stop, and without an in-service die (R369). -/
def ownHealth (s : State) : State :=
  if s.mode != .manager || !s.link.assembled then s
  else match s.posOf 0 with
    | none => s
    | some pos =>
      if (List.range s.groupCount).all fun g => (s.groupDies g).isEmpty then s.declareFailed pos 5
      else if s.bufferStop then s.declareFailed pos 4 else s

/-- A worker reports changes of its health (R347): EVENT 0x02 for the critical warning bits, 0x03 for entry into the Buffer stop. A manager watches its own flash (R369). [DEDUCED, log 56] -/
def healthEvents (s : State) : State :=
  let s := s.ownHealth
  if s.mode != .worker || !(s.bl 0).session then s
  else
    let w := s.critWarn 0
    let ev := fun (s : State) (code : Nat) => s.blSend 0 ⟨0x0A, false, 0, [code, 0, 0, 0] ++ leBytes 4 s.newestErr, []⟩
    let s := if w = s.link.warned then s else { (ev s 2) with link := { (ev s 2).link with warned := w } }
    if s.bufferStop && !s.link.stopTold then { (ev s 3) with link := { (ev s 3).link with stopTold := true } } else s

end State

/-! ## Rows -/

/-- BL_LINK_TRAIN (R328): a port in use without a link attempts training. -/
def execBlLinkTrain (p : Nat) (s : State) : Result :=
  if s.blInUse p && (s.bl p).lanes == 0 then .next (s.rset (Reg.BL_STAT_STATE p) 1) else .next s

/-- BRANCH_LINK_UP (R328, R331, R333, R334): the port grants its credits, and the manager sends HELLO; the end of a retrain keeps the replay buffer. -/
def execBranchLinkUp (p lanes : Nat) (s : State) : Result :=
  if !s.blInUse p || lanes = 0 || 2 < lanes then .next s
  else if (s.bl p).retraining then .next (((s.modBl p fun b => { b with retraining := false, lanes := lanes }).rset (Reg.BL_LINK_WIDTH p) lanes).pumpAll p)
  else if (s.bl p).lanes != 0 then .next s
  else
    let s := (s.modBl p fun b => State.freshLink b lanes).rset (Reg.BL_LINK_WIDTH p) lanes
    let s := s.rset (Reg.BL_STAT_STATE p) 2
    .next (if s.mode == .manager then s.sendHello p else s)

/-- BRANCH_LINK_DOWN (R349, R369): keys and replay buffer go; a worker keeps only what it can finish; a manager's commands fail, their tags are quarantined, the member fails. -/
def execBranchLinkDown (p : Nat) (s : State) : Result :=
  if (s.bl p).lanes = 0 then .next s
  else
    let s := if s.mode != .manager then s
      else
        let tags := (s.bl p).tags.map (·.1)
        let s := s.modBl p fun b => { b with quarantine := b.quarantine ++ tags }
        let m := s.rget (Reg.BL_STAT_MEMBER p)
        let s := if s.link.assembled && (s.bl p).session then (match s.posOf m with | some pos => s.declareFailed pos 1 | none => s) else s
        let s := { s with link := { s.link with keptUp := s.link.keptUp.filter (· != m) } }
        let rest := (s.bl p).tags.map (·.2) ++ (s.bl p).queue
        rest.foldl (fun s c => s.cmdFailed c) (s.modBl p fun b => { b with tags := [], queue := [] })
    let s := if s.mode != .worker then s
      else
        let open_ := s.link.inTags.filter fun q => [2, 3, 4].contains q.2.opcode && decide (q.2.granted < q.2.count)
        let s := open_.foldl (fun s q => s.endCtx q.2.ctx) s
        { s with link := { s.link with inTags := [] } }
    let s := (s.dropSession p).modBl p fun b => { State.freshLink b 0 with hdr := 0, data := 0 }
    let s := s.blError p 9 0xFFFF none true
    let s := s.modBl p fun b => { b with waiting := [] }
    .next (((s.rset (Reg.BL_STAT_STATE p) 5).rset (Reg.BL_LINK_WIDTH p) 0).blStat p)

/-- HELLO (R334, R446, R447, R499): a worker that is ready checks the manager and answers with HELLO_ACK; the session's keys are derived. -/
def execHello (h : Hello) (s : State) : Result :=
  if s.mode != .worker || !s.plat.ready then .next s
  else
    let (s, up) := s.blRecv 0 0x10 0 h.h
    if !up then .next s
    else if !State.helloVerifies h false then .next ((s.rset (Reg.BL_STAT_STATE 0) 4).rset (Reg.BL_STAT_REFUSE_CAUSE 0) 1)
    else
      let s := (s.dropSession 0).modBl 0 fun b => { b with serial := h.serial, peerBoot := h.boot, session := true, helloDigest := h.digest }
      let s := (((s.rset (Reg.BL_STAT_SESSION 0) h.session).rset (Reg.BL_STAT_MEMBER 0) s.sec.member).rset (Reg.BL_STAT_STATE 0) 3).rset (Reg.BL_STAT_REFUSE_CAUSE 0) 0
      let s := s.loadSession 0
      let k : BlPacket := ⟨0x11, false, 0, [], s.helloBytes 0 (some h.digest)⟩
      .next (((s.holdEphemeral 0).blSend 0 k).blStat 0)

/-- HELLO_ACK (R334, R350, R446, R447): the manager accepts the worker and loads the keys, or refuses the port with a cause. -/
def execHelloAck (p : Nat) (h : Hello) (s : State) : Result :=
  if s.mode != .manager || s.rget (Reg.BL_STAT_STATE p) != 2 then .next s
  else
    let (s, up) := s.blRecv p 0x11 0 h.h
    if !up then .next s
    else
      let cause := s.helloRefusal p h
      if cause != 0 then .next (((s.rset (Reg.BL_STAT_STATE p) 4).rset (Reg.BL_STAT_REFUSE_CAUSE p) cause).modBl p fun b => if cause = 1 then { b with ephemeral := none } else b)
      else
        let s := s.modBl p fun b => { b with
          serial := h.serial, peerBoot := h.boot, session := true, rxNext := 0, readEntry := if b.serial = h.serial && b.peerBoot = h.boot then b.readEntry else 0 }
        let s := ((s.rset (Reg.BL_STAT_MEMBER p) h.member).rset (Reg.BL_STAT_STATE p) 3).rset (Reg.BL_STAT_REFUSE_CAUSE p) 0
        .next (((s.loadSession p).blStat p).firstCommands p)

/-- HELLO_REPEAT (R334): HELLO again on a port whose link is up and that has no session. -/
def execHelloRepeat (p : Nat) (s : State) : Result :=
  if s.mode == .manager && s.blInUse p && (s.bl p).lanes != 0 && !(s.bl p).session then .next (s.sendHello p) else .next s

/-- BL_READ (R25, R337, R341). -/
def execBlRead (c : BlCmd) (s : State) : Result := .next (s.blCommand 1 c)
/-- BL_WRITE (R337, R340). -/
def execBlWrite (c : BlCmd) (s : State) : Result := .next (s.blCommand 2 c)
/-- WRITE_DELTA (R337, R340). -/
def execWriteDelta (c : BlCmd) (s : State) : Result := .next (s.blCommand 3 c)
/-- PARITY_APPLY (R337, R340, R361). -/
def execParityApply (c : BlCmd) (s : State) : Result := .next (s.blCommand 4 c)
/-- DEALLOCATE (R286, R337). -/
def execDeallocate (c : BlCmd) (s : State) : Result := .next (s.blCommand 5 c)
/-- BL_FLUSH (R20, R337). -/
def execBlFlush (c : BlCmd) (s : State) : Result := .next (s.blCommand 6 c)

/-- BL_IDENTIFY (R337): 4096 bytes of data, then RESP. -/
def execBlIdentify (c : BlCmd) (s : State) : Result :=
  if !State.blRow 7 c then .next s
  else
    let (s, ok) := s.blAccept c
    if ok then .next ((s.blData 0 c.tag [(0, s.identifyBlock)]).blResp c.tag 0 0 1 [] []) else .next s

/-- VOLUME_CREATE (R133, R136, R337, R338): capacity in blocks and IU shift. -/
def execVolumeCreate (c : BlCmd) (capacity iuShift : Nat) (s : State) : Result :=
  if !State.blRow 8 c then .next s
  else
    let (s, ok) := s.blAccept c
    if !ok then .next s
    else if (s.volume c.volume).isSome || !(iuShift == 12 || iuShift == 14) || capacity == 0 then .next (s.blResp c.tag 4 0 0 [] [])
    else
      let g := State.granulesFor iuShift (capacity * 4096)
      if s.freeGranules < g || s.localFree < capacity * 4096 then .next (s.blResp c.tag 0x0B 0 0 [] [])
      else
        let n : Namespace := { nsid := State.volumeNsid c.volume, iuShift := iuShift, lbaf := 1, nsze := capacity, creation := 0, granules := g, attached := 0, handles := [0] }
        .next ((s.addNs n).blResp c.tag 0 0 0 [] [])

/-- VOLUME_DELETE (R313, R337): once no command on the volume is outstanding. -/
def execVolumeDelete (c : BlCmd) (s : State) : Result :=
  if !State.blRow 9 c || !s.nsQuiet (fun x => x == c.volume % 128) then .next s
  else
    let (s, ok) := s.blAccept c
    if ok then .next ((s.deleteNs (c.volume % 128)).blResp c.tag 0 0 0 [] []) else .next s

/-- BL_SANITIZE (R318, R319, R337): the commands it ends answer BUSY; its own RESP waits for SANITIZE_COMPLETE. [DEDUCED, log 51] -/
def execBlSanitize (c : BlCmd) (sanact owpass : Nat) (ovrpat : Word) (s : State) : Result :=
  if !State.blRow 0x0A c then .next s
  else
    let (s, ok) := s.blAccept c
    if !ok then .next s
    else if !([2, 3, 4].contains sanact) || (sanact == 3 && (owpass == 0 || decide (16 < owpass))) then .next (s.blResp c.tag 4 0 0 [] [])
    else
      let ended := (s.link.inTags.filter fun q => (s.ctx q.2.ctx).isSome).map (·.1)
      let s := s.startSanitize ⟨sanact, false, owpass, ovrpat, false, true, false, false, false⟩
      let s := ended.foldl (fun s t => s.blResp t 9 0 0 [] []) s
      let s := s.blStart c
      .next (match Table.find s.link.inTags c.tag with
        | some t => s.modCtxN t.ctx fun x => { x with started := true, inserted := true }
        | none => s)

/-- BL_SET_TIME (R323, R337). -/
def execBlSetTime (c : BlCmd) (ms : Nat) (s : State) : Result :=
  if !State.blRow 0x0B c then .next s
  else
    let (s, ok) := s.blAccept c
    if ok then .next ((s.setClock ms).blResp c.tag 0 0 0 [] []) else .next s

/-- GRANT_OPEN (R191, R340): with its parcels reserved and the blocks it needs read, a writer's next grant of at most 64 blocks opens. -/
def execGrantOpen (tag : Nat) (s : State) : Result :=
  match Table.find s.link.inTags tag with
  | none => .next s
  | some t =>
    match s.ctx t.ctx with
    | none => .next s
    | some c =>
      if s.mode != .worker || t.grant.isSome || t.count ≤ t.granted || !([2, 3, 4].contains t.opcode) || c.word != .active || !c.inserted || c.status.isSome || t.aborted then .next s
      else if s.stopRefused c then .next (s.failCtx t.ctx stWriteProtected)
      else if c.parcels.isEmpty || !c.todo.isEmpty || !c.jobs.isEmpty then .next s
      else
        let n := min 64 (t.count - t.granted)
        let s := { s with link := { s.link with inTags := Table.ins s.link.inTags tag { t with grant := some (t.granted, n) } } }
        .next (s.blSend 0 ⟨0x02, false, tag, leBytes 4 t.granted ++ leBytes 2 n, []⟩)

/-- XFER_RDY (R340, R343): the manager sends the granted blocks in ascending order. -/
def execXferRdy (p : Nat) (h : BlHdr) (tag first count : Nat) (s : State) : Result :=
  let (s, up) := s.blRecv p 0x02 tag h
  if !up then .next s
  else match Table.find (s.bl p).tags tag with
    | none => .next (s.blLate p tag h)
    | some c => .next (s.blData p tag ((List.range count).map fun i => (first + i, c.blocks.getD (first + i) bzero)))

/-- DATA (R340, R341, R343, R345): a granted block at a worker; a block or log bytes at the manager. -/
def execData (p : Nat) (h : BlHdr) (tag index : Nat) (bytes : List Byte) (s : State) : Result :=
  let (s, up) := s.blRecv p 0x03 tag h
  if !up then .next s
  else if s.mode == .worker then
    if h.len != 4096 then .next (s.blError p 4 tag (some h) true) else .next (s.blGranted tag h index bytes)
  else match Table.find (s.bl p).tags tag with
    | none => .next (s.blLate p tag h)
    | some c =>
      if !c.isLog && h.len != 4096 then .next (s.blError p 4 tag (some h) true)
      else .next (s.modBl p fun b => { b with tags := Table.ins b.tags tag { c with got := Table.ins c.got index bytes } })

/-- RESP (R338, R342, R343, R348, R363, R368 to R370): the tag is free and the command's owner goes on. -/
def execResp (p : Nat) (h : BlHdr) (tag status _detail _count : Nat) (unrec zeros : List Nat) (s : State) : Result :=
  let (s, up) := s.blRecv p 0x04 tag h
  if !up then .next s
  else match Table.find (s.bl p).tags tag with
    | none => .next (s.blLate p tag h)
    | some c =>
      let s := s.modBl p fun b => { b with tags := Table.del b.tags tag }
      .next ((s.blAnswered p c status unrec zeros).issueAll p)

/-- BL_ABORT (R344): the abort IL_CAS on the tag's command. -/
def execBlAbort (h : BlHdr) (tag : Nat) (s : State) : Result :=
  let (s, up) := s.blRecv 0 0x05 tag h
  if !up then .next s
  else match Table.find s.link.inTags tag with
    | none => .next (s.blSend 0 ⟨0x06, false, tag, [1], []⟩)
    | some t =>
      let s := { s with link := { s.link with inTags := Table.ins s.link.inTags tag { t with aborted := true } } }
      let (s, won) := if t.opcode = 0x0A then (s, false) else s.ilAbort t.ctx
      if won then .next ((s.blResp tag 7 0 0 [] []).release t.ctx) else .next s

/-- ABORT_ACK (R343, R344): on a tag that is quarantined or not outstanding it is an Unexpected Completion; NO_SUCH_TAG on an outstanding tag is discarded. -/
def execAbortAck (p : Nat) (h : BlHdr) (tag : Nat) (_noSuchTag : Bool) (s : State) : Result :=
  let (s, up) := s.blRecv p 0x06 tag h
  if !up then .next s
  else if (Table.find (s.bl p).tags tag).isSome then .next s else .next (s.blLate p tag h)

/-- LOG_READ (R342, R347): the bytes of the log in DATA packets, then RESP. -/
def execLogRead (h : BlHdr) (tag logId numd offset bootCounter : Nat) (s : State) : Result :=
  let (s, up) := s.blRecv 0 0x07 tag h
  if !up then .next s
  else if (Table.find s.link.inTags tag).isSome then .next (s.blError 0 5 tag (some h) true)
  else if 512 ≤ s.link.inTags.length then .next (s.blError 0 6 tag (some h) true)
  else
    let page : Option (List Nat) := match logId with
      | 1 => some (s.link.errors.flatMap State.blErrorBytes)
      | 2 => some (s.smartPage 0)
      | 3 => some s.mediaHealthPage
      | 4 => some s.currentRecord
      | 5 => s.archived bootCounter
      | _ => none
    match page with
    | none => .next (s.blResp tag 4 0 0 [] [])
    | some bs =>
      let n := (numd + 1) * 4
      let b := toBytes (State.pageBytes bs offset n)
      let parts := (List.range (ceilDiv n 4096)).map fun i => (offset + i * 4096, (b.drop (i * 4096)).take 4096)
      .next ((s.blData 0 tag parts).blResp tag 0 0 0 [] [])

/-- RESUME (R348). -/
def execResume (h : BlHdr) (lastEntry : Nat) (s : State) : Result :=
  let (s, up) := s.blRecv 0 0x08 0 h
  if !up then .next s
  else
    let stale := s.flag (Reg.BL_STAT_FROZEN 0) && lastEntry != s.newestErr
    let s := if stale then s else s.rset (Reg.BL_STAT_FROZEN 0) 0
    .next ((s.blSend 0 ⟨0x09, false, 0, [bit stale, 0, 0, 0] ++ leBytes 4 s.newestErr, []⟩).blStat 0)

/-- RESUME_ACK (R348): on STALE the manager reads the log again; else held commands are sent. -/
def execResumeAck (p : Nat) (h : BlHdr) (stale : Bool) (_newest : Nat) (s : State) : Result :=
  let (s, up) := s.blRecv p 0x09 0 h
  if !up then .next s
  else if stale then .next (s.readLog p 1 256 0)
  else .next ((s.modBl p fun b => { b with held := false }).issueAll p)

/-- EVENT (R346, R347, R369): frozen: the log is read; health changed: the SMART page is read; Buffer stop: the member has FAILED. -/
def execEvent (p : Nat) (h : BlHdr) (code _entry : Nat) (s : State) : Result :=
  let (s, up) := s.blRecv p 0x0A 0 h
  if !up then .next s
  else match code with
    | 1 => .next ((s.modBl p fun b => { b with held := true }).readLog p 1 256 0)
    | 2 => .next (s.readLog p 2 128 0)
    | 3 => .next (match s.posOf (s.rget (Reg.BL_STAT_MEMBER p)) with | some pos => s.declareFailed pos 4 | none => s)
    | _ => .next s

/-- ACK (R331). -/
def execAck (p lseq : Nat) (s : State) : Result := .next (s.blAcked p lseq)
/-- NAK (R331): every unacknowledged packet is sent again. [DEDUCED, log 56] -/
def execNak (p _lseq : Nat) (s : State) : Result := .next (if (s.bl p).replay.isEmpty then s else (s.blReplay p))
/-- CREDIT (R333). -/
def execCredit (p hdr data : Nat) (s : State) : Result :=
  if (s.bl p).lanes = 0 then .next s
  else .next ((s.modBl p fun b => { b with hdr := min 64 (b.hdr + hdr), data := min 512 (b.data + data) }).pumpAll p)
/-- REPLAY_TIMEOUT (R331): no ACK within `replay_timeout_ns`. -/
def execReplayTimeout (p : Nat) (s : State) : Result := .next (s.blReplay p)

/-- CMD_TIMEOUT (R343, R370). -/
def execCmdTimeout (p tag : Nat) (s : State) : Result :=
  match Table.find (s.bl p).tags tag with
  | none => .next s
  | some c =>
    let s := (s.rsat (Reg.BL_ERRCNT_TIMEOUTS p)).modBl p fun b => { b with tags := Table.del b.tags tag, quarantine := b.quarantine ++ [tag] }
    let s := s.blSend p ⟨0x05, false, tag, [], []⟩
    .next ((s.memberTrouble p c).issueAll p)

/-- BL_TAG_QUARANTINE_END (R343). -/
def execBlTagQuarantineEnd (p tag : Nat) (s : State) : Result :=
  .next ((s.modBl p fun b => { b with quarantine := b.quarantine.filter (· != tag) }).issueAll p)

/-- DISCOVERY_WINDOW_END (R350, R355, R500). -/
def execDiscoveryWindowEnd (s : State) : Result :=
  if s.mode != .manager || !s.link.window || s.plat.hold != .none then .next s
  else
    let s := { s with link := { s.link with window := false } }
    .next (if s.link.assembled then s else s.assemble)

end Sys2Proof.Machine
end

