-- ==== Sys2Proof/Machine/Post.lean ====
section
/-! DEFINITION. The end of a command (R54, R234, R235, R278, R292 to R297, R308, R338): the abort IL_CAS, the completion entry or RESP, interrupt coalescing. -/

namespace Sys2Proof.Machine

namespace State

/-- The commands whose entries come before this one have their entries (R293, R297). -/
def afterDone (s : State) (c : Ctx) : Bool := c.after.all fun q => s.adm.ctxs.all fun p => p.2.seq != q || p.2.posted

/-- A completion queue has a free slot. -/
def CompQueue.free (q : CompQueue) : Bool := (q.tail + 1) % max 1 q.size != q.head

/-- The completion queue of a context. -/
def cqOf (s : State) (c : Ctx) : Option (Nat × CompQueue) :=
  match Table.find (s.ctl c.ctl).sqs c.sqid with
  | none => none
  | some q => (Table.find (s.ctl c.ctl).cqs q.cqid).map fun x => (q.cqid, x)

/-- A command has ended: its CAS is decided, or it is an admin command that has run (R235, R301). -/
def ended (c : Ctx) : Bool := c.status.isSome && !c.posted && (c.word == .done || c.word == .aborted || (c.sqid == 0 && decide (c.ctl < 2) && c.started) || c.sqe.opcode == 0x10A)

/-- A status other than success is logged (R308), an Unrecovered Read Error counted (R309). -/
def logError (s : State) (c : Ctx) (st : Status) : State :=
  if st.sct = 0 && st.sc = 0 then s
  else
    let s := s.modCtl c.ctl fun x => { x with errCount := x.errCount + 1, errLog := ((x.errCount + 1, c.sqid, c.sqe.cid, st) :: x.errLog).take 256 }
    if st.sct = 2 && st.sc = 0x81 then { s with adm := { s.adm with mediaErrors := s.adm.mediaErrors + 1 } } else s

/-- First phase of an Express read over its bound, with the excess in ns (R54): 0 admission, 1 array, 2 transfer. -/
def ceilingExcess (s : State) (c : Ctx) (admitNs arrayNs xferNs : Nat) : Option (Nat × Nat) :=
  let a := s.rget Reg.TT_EXPRESS_CFG_ADMIT_TICKS * 8192
  let t := match c.expDie with | some d => (s.die d).tR | none => 0
  let x := (5 + c.extra) * 8192
  if a < admitNs then some (0, admitNs - a)
  else if t < arrayNs + c.slow then some (1, arrayNs + c.slow - t)
  else if x < xferNs then some (2, xferNs - x)
  else none

/-- The ceiling monitor, for a command with its worst Express read (R54): counted; the first since CEIL_VIOL was cleared is recorded. -/
def ceilingMonitor (s : State) (c : Ctx) (admitNs arrayNs xferNs : Nat) : State :=
  if !c.express || !s.flag Reg.TT_CTRL_CEIL_MON || c.leftClass then s
  else match c.expDie, s.ceilingExcess c admitNs arrayNs xferNs with
    | some d, some (ph, ex) =>
      let s := s.rsat Reg.TT_CEIL_VIOL_CNT_COUNT
      let e := min 65535 (ex / 128)
      let s := if s.flag Reg.TT_STATUS_CEIL_VIOL then s
        else (((s.rset Reg.TT_CEIL_VIOL_REC_DIE d).rset Reg.TT_CEIL_VIOL_REC_PHASE ph).rset Reg.TT_CEIL_VIOL_REC_EXCESS e).rset Reg.TT_STATUS_CEIL_VIOL 1
      s.logIncident 0x13 0xFF 0 0xFF (leBytes 4 (d + ph * 512 + e * 65536))
    | _, _ => s

/-- RO is set on read-data writes only, where Device Control and the Rulebook both allow it (R259). -/
def relaxes (s : State) (p : Nat) : Bool := (s.port p).relaxed && s.paramN .pcieRelaxedOrdering == 1

/-- The data of a command reaches the host (R14, R259, R507): read data, or a data structure. -/
def sendData (s : State) (c : Ctx) (st : Status) : State :=
  if st.sct != 0 || st.sc != 0 then s
  else if c.sqid != 0 && c.sqe.opcode == 0x02 then
    let bad := s.fogPcie 2 c.ctl
    let s := (if bad then s.usedPcie else s).sendTlp c.ctl
    let bytes := (c.data.map fun b => b.2.length).sum
    (s.modCtl c.ctl fun x => { x with dataRead := x.dataRead + bytes / 512 }).emit (.hostData c.ctl c.sqe.cid (c.data.mergeSort fun a b => decide (a.1 ≤ b.1)) bad (s.relaxes c.ctl))
  else if c.bytes.isEmpty then s else (s.sendTlp c.ctl).emit (.hostBytes c.ctl c.sqe.cid c.bytes)

/-- Writes a context's completion entry (R278): data first, then the entry at the tail, the phase, the interrupt; the error log. -/
def postHost (s : State) (n : Nat) (c : Ctx) (st : Status) (cqid : Nat) (q : CompQueue) : State :=
  let s := s.sendData c st
  let tail := (q.tail + 1) % max 1 q.size
  let q2 := { q with tail := tail, phase := if tail = 0 then !q.phase else q.phase }
  let s := (s.modCtl c.ctl fun x => { x with cqs := Table.ins x.cqs cqid q2 }).emit (.completion c.ctl c.sqid c.sqe.cid st c.dw0 q.phase)
  let s := (s.logError c st).signal c.ctl q2
  (s.loseAborts n).release n

/-- STATUS of the RESP for a status (R338): blocks that are lost give UNRECOVERED. -/
def respStatus (c : Ctx) (st : Status) : Nat :=
  if st.sct = 0 && st.sc = 0 then (if c.lost.isEmpty then 0 else 1)
  else if st = stWriteProtected then 2
  else if st.sct = 2 then 1
  else 0x0A

/-- A worker's command answers (R338, R341): its DATA packets, then RESP; without its tag the answer is discarded (R349). -/
def postWorker (s : State) (n : Nat) (c : Ctx) (st : Status) : State :=
  match s.tagOfCtx n with
  | none => s.release n
  | some tag =>
    match Table.find s.link.inTags tag with
    | none => s.release n
    | some t =>
      let code := respStatus c st
      let lost := (c.lost.map (· - t.start)).eraseDups
      let zeros := (c.zeros.map (· - t.start)).eraseDups
      let data := if code ≤ 1 && (t.opcode == 1 || t.opcode == 3) then
          (c.data.filter fun b => !(c.lost.contains b.1 || c.zeros.contains b.1)).map fun b => (b.1 - t.start, b.2)
        else []
      let lost := if code = 1 && lost.isEmpty then List.range t.count else lost
      ((s.blData 0 tag data).blResp tag code (if code = 0x0A then 0x0B else 0) t.count (if code = 1 then lost else []) (if t.opcode = 1 then zeros else [])).release n

/-- Queues being deleted whose Delete has posted its entry are gone (R297). -/
def dropQueue (s : State) (c : Ctx) (st : Status) : State :=
  if c.sqid != 0 || c.sqe.opcode != 0x00 || st != stOk then s
  else s.modCtl c.ctl fun x => { x with sqs := Table.del x.sqs (c.sqe.arg.getD 0 0) }

/-- A Set Features that sets WCE holds for writes fetched after its completion (R306). -/
def cacheOn (s : State) (c : Ctx) (st : Status) : State :=
  if c.sqid != 0 || c.sqe.opcode != 0x09 || st != stOk || c.sqe.arg.getD 0 0 != 6 || c.sqe.arg.getD 2 0 % 2 = 0 then s
  else s.modCtl c.ctl fun x => { x with wce := true, wceSeq := s.adm.seq }

/-- A Delete I/O Submission Queue waits for a context (R297). -/
def beingDeleted (s : State) (c : Ctx) : Bool :=
  decide (c.ctl < 2) && c.sqid != 0 && (match Table.find (s.ctl c.ctl).sqs c.sqid with | some q => q.deleting | none => false)

end State

/-- ABORT_IL_CAS (R235, R292 to R297): the abort IL_CAS on a command that an Abort names or whose queue is being deleted. -/
def execAbortIlCas (n : Nat) (s : State) : Result :=
  match s.ctx n with
  | none => .next s
  | some c =>
    let as := s.abortersOf n
    let del := s.beingDeleted c
    if (as.isEmpty && !del) || c.ctl > 1 || c.posted || !(c.il.isEmpty || s.aeRuns 0) then .next s
    else if c.word = .aborted then .next (as.foldl (fun s a => s.finish a stOk 0) s)
    else
      let (s, won) := s.ilAbort n
      if won then
        let s := s.modCtxN n fun c => { c with status := some (stGen (if del then 0x08 else 0x07)), started := true }
        .next (as.foldl (fun s a => (s.finish a stOk 0).modCtxN a fun x => { x with after := [c.seq] }) s)
      else .next (as.foldl (fun s a => s.finish a stOk 1) s)

/-- COMPLETION_POST (R14, R54, R278, R280, R293, R308, R309, R338): the completion entry of a command that has ended is written, or its RESP sent. [DESIGN CHOICE, log 5] -/
def execCompletionPost (n admitNs arrayNs xferNs : Nat) (s : State) : Result :=
  match s.ctx n with
  | none => .next s
  | some c =>
    match c.status with
    | none => .next s
    | some st =>
      if !State.ended c || !c.waitIus.isEmpty || 0 < c.members || !s.afterDone c || s.flushing || s.plat.hold != .none then .next s
      else if c.ctl = 2 then .next ((s.ceilingMonitor c admitNs arrayNs xferNs).postWorker n c st)
      else match s.cqOf c with
        | none => .next s
        | some (cqid, q) =>
          if 2 ≤ c.ctl || !State.CompQueue.free q || !(s.txOk c.ctl || q.inCmb) then .next s
          else .next ((((s.ceilingMonitor c admitNs arrayNs xferNs).postHost n c st cqid q).dropQueue c st).cacheOn c st)

/-- COALESCE_TIMEOUT (R278, R305): TIME has passed since a vector's first unsignalled entry. -/
def execCoalesceTimeout (p v : Nat) (s : State) : Result :=
  let c := Table.get ({} : Coalesce) (s.port p).coal v
  if c.count = 0 then .next s else .next ((s.modCoal p v fun c => { c with count := 0 }).message p v)

end Sys2Proof.Machine
end

