-- ==== Sys2Proof/Machine/Depot.lean ====
section
/-! DEFINITION. Meanings of the Depot rows (chapter 18). -/

namespace Sys2Proof.Machine

/-- An erased word (R460). -/
def erasedWord : Nat := 2 ^ 64 - 1

namespace State

/-- Bank of a word (R456). -/
def bankOf (w : Nat) : Nat := w / 2 ^ 20
/-- Sector of a word. -/
def sectorOf (w : Nat) : Nat := w / 512

/-- Sectors the Guard owns (R457). -/
def guardSector (x : Nat) : Bool := decide ((2016 ≤ x ∧ x ≤ 2047) ∨ (2944 ≤ x ∧ x ≤ 3455) ∨ (4064 ≤ x ∧ x ≤ 4095))
/-- Reserved sectors (R457). -/
def reservedSector (x : Nat) : Bool := decide ((1737 ≤ x ∧ x ≤ 2015) ∨ (3529 ≤ x ∧ x ≤ 4063) ∨ 4096 ≤ x)

/-- The operation of a bank. -/
def bankOp (s : State) (b : Nat) : Option DepotOp := if b = 0 then s.sec.op0 else s.sec.op1
/-- Writes the operation of a bank. -/
def setBank (s : State) (b : Nat) (o : Option DepotOp) : State := s.modSec fun x => if b = 0 then { x with op0 := o } else { x with op1 := o }

/-- The stored value of a word. -/
def depotWord (s : State) (w : Nat) : Nat := Table.get erasedWord s.sec.depot w
/-- Writes a word. -/
def putDepot (s : State) (w v : Nat) : State := s.modSec fun x => { x with depot := Table.put erasedWord x.depot w v }

/-- DP_STAT follows the commands and operations (R471). -/
def depotStat (s : State) : State :=
  let core := s.sec.coreCmd.isSome || [s.sec.op0, s.sec.op1].any fun o => match o with | some x => !x.guard | none => false
  let m := fun (f : DepotOp → Bool) => bit ((s.sec.op0.map f).getD false) + 2 * bit ((s.sec.op1.map f).getD false)
  ((s.rset Reg.DP_STAT_CORE_BUSY (bit core)).rset Reg.DP_STAT_BANK_BUSY (m fun _ => true)).rset Reg.DP_STAT_BANK_SUSP (m fun o => o.suspended)

/-- Starts the commands whose banks are free, the Guard port's first (R464). [DEDUCED, log 60] -/
def startDepot (s : State) : State :=
  let go := fun (s : State) (o : Option DepotOp) (clear : Sec → Sec) =>
    match o with
    | none => s
    | some o => if (s.bankOp (bankOf o.word)).isSome then s else (s.setBank (bankOf o.word) (some o)).modSec clear
  let s := go s s.sec.guardCmd fun x => { x with guardCmd := none }
  (go s s.sec.coreCmd fun x => { x with coreCmd := none }).depotStat

/-- The result a command is refused with (R465): 1 BUSY_SELF, 2 PROTECTED, 3 OWNER, 4 NOT_ERASED; 0 none. [DEDUCED, log 20] -/
def depotRefusal (s : State) (o : DepotOp) (pcBank : Option Nat) : Nat :=
  let x := sectorOf o.word
  if !o.guard && pcBank == some (bankOf o.word) then 1
  else if s.sec.wp.contains x || reservedSector x then 2
  else if !o.guard && guardSector x then 3
  else if !o.erase && (s.depotWord o.word != erasedWord || s.sec.spoilt.contains o.word) then 4
  else 0

/-- The DP_ERR bit of a result. -/
def depotErr (s : State) (r : Nat) : State :=
  match r with
  | 1 => s.rset Reg.DP_ERR_BUSY_SELF 1
  | 2 => s.rset Reg.DP_ERR_PROTECTED 1
  | 3 => s.rset Reg.DP_ERR_OWNER 1
  | 4 => s.rset Reg.DP_ERR_NOT_ERASED 1
  | 5 => s.rset Reg.DP_ERR_PROG_FAIL 1
  | 6 => s.rset Reg.DP_ERR_ERASE_FAIL 1
  | _ => s

/-- Records the result of a command; DP_STAT.RESULT is the core port's (R465, R471). -/
def depotResult (s : State) (o : DepotOp) (r : Nat) : State :=
  let s := s.depotErr r
  if o.guard then s else s.rset Reg.DP_STAT_RESULT r

/-- A command of a port: refused, held, or begun (R464, R465). [DEDUCED, log 60] -/
def depotCommand (s : State) (o : DepotOp) (pcBank : Option Nat) : State :=
  if s.plat.hold == .off then s
  else if !o.guard && (s.sec.coreCmd.isSome || s.flag Reg.DP_STAT_CORE_BUSY) then s.rset Reg.DP_ERR_OVERRUN 1
  else if o.guard && s.sec.guardCmd.isSome then s
  else
    let r := s.depotRefusal o pcBank
    if r != 0 then s.depotResult o r
    else (s.modSec fun x => if o.guard then { x with guardCmd := some o } else { x with coreCmd := some o }).startDepot

/-- The operation a write of DP_CMD makes: the registers name the word and its data (R471). -/
def coreOp (s : State) (erase : Bool) : DepotOp :=
  { erase := erase, word := s.rget Reg.DP_ADDR_WORD, value := s.rget Reg.DP_DATA_HI_DATA_HI * 2 ^ 32 + s.rget Reg.DP_DATA_LO_DATA_LO, guard := false }

/-- An operation ends; the next waiting command of its bank starts. -/
def endDepot (s : State) (b : Nat) (o : DepotOp) (r : Nat) : State := ((s.setBank b none).depotResult o r).startDepot

/-- The words of a sector. -/
def sectorWords (x : Nat) : List Nat := (List.range 512).map (x * 512 + ·)

/-- A word is hidden by the operation on it: it is being programmed, or its sector erased (R461). -/
def hiddenWord (s : State) (w : Nat) : Bool :=
  match s.bankOp (bankOf w) with
  | some o => if o.erase then sectorOf o.word == sectorOf w else o.word == w
  | none => false

/-- An operation of a bank is suspended for a read (R466). -/
def suspendBank (s : State) (b : Nat) : State :=
  match s.bankOp b with
  | some o => if o.suspended then s else ((s.setBank b (some { o with suspended := true })).rsat Reg.DP_CNT_SUSPENDS).depotStat
  | none => s

/-- The value a clean read of a word returns (R460, R461). -/
def readWord (s : State) (w : Nat) : Nat := if s.hiddenWord w then erasedWord else s.depotWord w

/-- A byte of the Depot aperture (R470): zero above level 0 and in Guard-owned sectors. -/
def apertureByte (s : State) (a : Nat) : Nat :=
  if s.rget Reg.GD_STAT_LEVEL != 0 || guardSector (a / 4096) || 2 ^ 24 ≤ a then 0 else bits (s.readWord (a / 8)) (8 * (a % 8)) 8

/-- Sets a sector's write-protect bit (R467). -/
def protectSector (s : State) (x : Nat) : State := s.modSec fun y => { y with wp := if y.wp.contains x || decide (4096 ≤ x) then y.wp else y.wp ++ [x] }

end State

/-- DEPOT_PROGRAM (R462, R464, R465): one word; the Guard port names it in the command, the core port in DP_ADDR and DP_DATA. -/
def execDepotProgram (guard : Bool) (word value : Nat) (pcBank : Option Nat) (s : State) : Result :=
  .next (s.depotCommand (if guard then ⟨false, word % 2 ^ 21, value % 2 ^ 64, true, false⟩ else s.coreOp false) pcBank)

/-- DEPOT_ERASE (R462, R464, R465): one sector. -/
def execDepotErase (guard : Bool) (word : Nat) (pcBank : Option Nat) (s : State) : Result :=
  .next (s.depotCommand (if guard then ⟨true, word % 2 ^ 21, 0, true, false⟩ else s.coreOp true) pcBank)

/-- DEPOT_PROGRAM_DONE (R462): the word holds its data, or PROG_FAIL leaves it undefined until an erase. [DESIGN CHOICE, log 14] -/
def execDepotProgramDone (b : Nat) (ok : Bool) (s : State) : Result :=
  match s.bankOp b with
  | none => .next s
  | some o =>
    if o.erase || o.suspended then .next s
    else if ok then .next ((s.putDepot o.word o.value).endDepot b o 0)
    else
      let s := ({ s.putDepot o.word (Config.failedWord o.word s.free).toNat with free := s.free + 1 }).modSec fun x => { x with spoilt := x.spoilt ++ [o.word] }
      .next (s.endDepot b o 5)

/-- DEPOT_ERASE_DONE (R462, R463): the sector is erased and its count grows; ERASE_FAIL leaves its words undefined. [DESIGN CHOICE, log 14] -/
def execDepotEraseDone (b : Nat) (ok : Bool) (s : State) : Result :=
  match s.bankOp b with
  | none => .next s
  | some o =>
    if !o.erase || o.suspended then .next s
    else
      let x := State.sectorOf o.word
      let n := Table.get 0 s.sec.erases x + 1
      let s := s.modSec fun y => { y with
        erases := Table.ins y.erases x n
        depot := y.depot.filter fun q => State.sectorOf q.1 != x
        spoilt := y.spoilt.filter fun w => State.sectorOf w != x }
      let s := if 10000 < n then s.rset Reg.DP_ERR_WEAR 1 else s
      if ok then .next (s.endDepot b o 0)
      else
        let s := (State.sectorWords x).foldl (fun (s : State) w => s.putDepot w (Config.failedWord w s.free).toNat) s
        let s := ({ s with free := s.free + 1 }).modSec fun y => { y with spoilt := y.spoilt ++ State.sectorWords x }
        .next (s.endDepot b o 6)

/-- DEPOT_READ (R459 to R461, R466): a running operation of the bank is suspended; the word comes back, corrected, or an error response with an incident; a word being programmed or erased reads erased with no check event. -/
def execDepotRead (guard : Bool) (addr upset : Nat) (s : State) : Result :=
  let w := addr / 8 % 2 ^ 21
  let hidden := s.hiddenWord w
  let s := s.suspendBank (State.bankOf w)
  let v := s.readWord w
  if hidden || upset = 0 then .next (s.emit (.depot guard (some v)))
  else if upset = 1 then .next ((s.rsat Reg.DP_CNT_CORR).emit (.depot guard (some v)))
  else .next (((s.rset Reg.DP_ERR_UNCORR 1).logIncident 0x30 0xFF 0 0xFF (leBytes 3 w)).emit (.depot guard none))

/-- DEPOT_SUSPEND (R466). -/
def execDepotSuspend (b : Nat) (s : State) : Result := .next (s.suspendBank b)

/-- DEPOT_RESUME (R466). -/
def execDepotResume (b : Nat) (s : State) : Result :=
  match s.bankOp b with
  | some o => .next ((s.setBank b (some { o with suspended := false })).depotStat)
  | none => .next s

/-- DP_WP_SET (R467). -/
def execDpWpSet (x : Nat) (s : State) : Result := .next (s.protectSector (x % 4096))

end Sys2Proof.Machine
end

