-- ==== Sys2Proof/Machine/FogRows.lean ====
section
/-! DEFINITION. Meanings of the Fogman rows (chapter 21): injections, lane tests, the end of a ticket; a PCIe port goes down. -/

namespace Sys2Proof.Machine

namespace State

/-- A PCIe port's link goes down (R270): the FLR actions, the buffer cleared. [DEDUCED, log 44] -/
def pcieDown (s : State) (p : Nat) : State :=
  if (s.port p).inReset || !((s.port p).linkUp || (s.port p).training) then s
  else ((s.resetFunction p).clearCmb p).modPort p fun x => { x with linkUp := false, speedGts := 0, width := 0, flit := false, l1 := 0, training := false, flr := false }

/-- A write outside its facility's gate has no effect (R503). -/
def deniedFog (s : State) : State := s.rset Reg.FG_STAT_DENIED 1

/-- Writes FG_PCIE (R507): a control is armed, or cleared with KIND 0. [DEDUCED, log 61] -/
def armPcie (s : State) (port kind count delay : Nat) : State :=
  if kind % 4 != 0 && !s.gateOpen 2 then s.deniedFog
  else ((((s.rset Reg.FG_PCIE_PORT port).rset Reg.FG_PCIE_KIND kind).rset Reg.FG_PCIE_COUNT (max 1 (count % 256))).rset Reg.FG_PCIE_DELAY_US delay)

/-- Writes FG_BL (R507); KIND 6 and 7 are stored as 0. [DEDUCED, log 61] -/
def armBl (s : State) (port kind count delay : Nat) : State :=
  let k := if kind % 8 ≤ 5 then kind % 8 else 0
  if k != 0 && !s.gateOpen 3 then s.deniedFog
  else ((((s.rset Reg.FG_BL_PORT port).rset Reg.FG_BL_KIND k).rset Reg.FG_BL_COUNT (max 1 (count % 256))).rset Reg.FG_BL_DELAY_US delay)

/-- Writes FG_NAND (R507): the target die is taken from FG_NAND_DIE; LEVELS 3 is stored as 2. [DEDUCED, log 61] -/
def armNand (s : State) (kind levels count extra : Nat) : State :=
  if kind % 4 != 0 && !s.gateOpen 5 then s.deniedFog
  else
    let s := ((((s.rset Reg.FG_NAND_KIND kind).rset Reg.FG_NAND_LEVELS (min 2 (levels % 4))).rset Reg.FG_NAND_COUNT (max 1 (count % 256))).rset Reg.FG_NAND_EXTRA_US extra)
    if kind % 4 = 0 then s else { s with plat := { s.plat with nandDie := s.rget Reg.FG_NAND_DIE_DIE } }

/-- PCIe port of a lane, where the lane is one (R244, R509). -/
def lanePcie (s : State) (lane : Nat) : Nat := if s.bifur && 2 ≤ lane then 1 else 0

/-- Starts a lane test (R509): the lane's port leaves service. [DEDUCED, log 61] -/
def laneStart (s : State) (loop pattern : Nat) : State :=
  let lane := s.rget Reg.FG_LANE_SEL_LANE
  if !s.gateOpen 6 then s.deniedFog
  else if s.xd6408 && 6 ≤ lane then s
  else
    let s := (((s.rset Reg.FG_LANE_CTRL_LOOP (if loop % 4 = 3 then 0 else loop % 4)).rset Reg.FG_LANE_CTRL_PATTERN pattern).rset Reg.FG_LANE_CTRL_RUN 1).rset Reg.FG_LANE_CTRL_LOCKED 0
    if lane < 4 then s.pcieDown (s.lanePcie lane)
    else match execBranchLinkDown ((lane - 4) / 2) s with
      | .next t => t
      | _ => s

/-- Stops the lane test; the port, where the device and mode have it, may train again (R3, R5, R509). [DEDUCED, log 61] -/
def laneStop (s : State) : State :=
  if !s.flag Reg.FG_LANE_CTRL_RUN then s
  else
    let lane := s.rget Reg.FG_LANE_SEL_LANE
    let s := (s.rset Reg.FG_LANE_CTRL_RUN 0).rset Reg.FG_LANE_CTRL_LOCKED 0
    if lane < 4 then s.modPort (s.lanePcie lane) fun x => if x.inReset then x else { x with training := true }
    else if s.blInUse ((lane - 4) / 2) then s.rset (Reg.BL_STAT_STATE ((lane - 4) / 2)) 1 else s

/-- A port whose lane is under test is out of service. -/
def laneTested (s : State) (branch : Bool) (p : Nat) : Bool :=
  let lane := s.rget Reg.FG_LANE_SEL_LANE
  s.flag Reg.FG_LANE_CTRL_RUN && (if branch then decide (4 ≤ lane) && (lane - 4) / 2 == p else decide (lane < 4) && s.lanePcie lane == p)

end State

/-- TICKET_EXPIRE (R505): DURATION has passed in tick time. [DESIGN CHOICE, log 2] -/
def execTicketExpire (s : State) : Result :=
  match s.plat.ticket with
  | some (_, e) => if e ≤ s.flash.tick then .next s.endTicket else .next s
  | none => .next s

/-- LCRC (R507). -/
def execLcrc (p count : Nat) (s : State) : Result := .next (s.armPcie p 1 count 0)
/-- POISON (R507). -/
def execPoison (p count : Nat) (s : State) : Result := .next (s.armPcie p 2 count 0)
/-- CPL_DELAY (R507). -/
def execCplDelay (p count us : Nat) (s : State) : Result := .next (s.armPcie p 3 count us)
/-- DROP (R507). -/
def execDrop (p count : Nat) (s : State) : Result := .next (s.armBl p 1 count 0)
/-- CORRUPT_CRC (R507). -/
def execCorruptCrc (p count : Nat) (s : State) : Result := .next (s.armBl p 2 count 0)
/-- CORRUPT_AUTH (R507). -/
def execCorruptAuth (p count : Nat) (s : State) : Result := .next (s.armBl p 3 count 0)
/-- REORDER (R507). -/
def execReorder (p count : Nat) (s : State) : Result := .next (s.armBl p 4 count 0)
/-- DELAY (R507). -/
def execDelay (p count us : Nat) (s : State) : Result := .next (s.armBl p 5 count us)
/-- READ_FAIL (R507). -/
def execReadFail (count levels : Nat) (s : State) : Result := .next (s.armNand 1 levels count 0)
/-- PROG_FAIL (R507). -/
def execProgFail (count : Nat) (s : State) : Result := .next (s.armNand 2 0 count 0)
/-- SLOW (R507, R508). -/
def execSlow (extraUs : Nat) (s : State) : Result := .next (s.armNand 3 0 1 extraUs)

/-- LANE_TEST_START (R509). -/
def execLaneTestStart (loop pattern : Nat) (s : State) : Result := .next (s.laneStart loop pattern)
/-- LANE_TEST_STOP (R509). -/
def execLaneTestStop (s : State) : Result := .next s.laneStop
/-- LANE_PATTERN_LOCK (R509): the checker locks and counts bit errors. -/
def execLanePatternLock (errors : Nat) (s : State) : Result :=
  if s.flag Reg.FG_LANE_CTRL_RUN then .next ((s.rset Reg.FG_LANE_CTRL_LOCKED 1).rsat Reg.FG_LANE_ERR_ERRORS errors) else .next s

end Sys2Proof.Machine
end

