-- ==== Sys2Proof/Machine/Admin.lean ====
section
/-! DEFINITION. Meanings of the admin commands that manage queues, identify, read logs, abort and wait for events (chapter 12, R276, R277, R292, R297, R301 to R304, R308). Values that the tables leave to the base specification are PRESUMED from it. -/

namespace Sys2Proof.Machine

namespace State

/-- An admin command may run (R301, R302): fetched from an admin queue, a serialised one admitted, not yet run, no status but what members answered, nothing that holds the device. [DESIGN CHOICE, log 2; DEDUCED, log 50] -/
def adminRun (s : State) (n op : Nat) : Option Ctx :=
  match s.ctx n with
  | none => none
  | some c =>
    if decide (c.ctl < 2) && c.sqid == 0 && c.sqe.opcode == op && c.inserted && !c.started && (c.status.isNone || c.fetched) && !s.flushing && s.alive then some c else none

/-- The command ends with data for the host. -/
def finishData (s : State) (n : Nat) (bytes : List Nat) (dw0 : Nat := 0) : State := (s.modCtxN n fun c => { c with bytes := bytes }).finish n stOk dw0

/-! ## Queues (R276, R297) -/

/-- A queue identifier of the I/O queues. -/
def qidOk (q : Nat) : Bool := decide (1 ≤ q ∧ q ≤ 256)
/-- A queue size, 0's based. -/
def qsizeOk (z : Nat) : Bool := decide (1 ≤ z ∧ z ≤ 0xFFFF)

/-- Status of a Create I/O Completion Queue: QID, QSIZE, IV, location. -/
def createCqStatus (s : State) (c : Ctx) : Option Status :=
  firstSome [failIf (!qidOk (c.a 0) || (Table.find (s.ctl c.ctl).cqs (c.a 0)).isSome) (stCmd 0x01), failIf (!qsizeOk (c.a 1)) (stCmd 0x02),
    failIf (decide (256 < c.a 2) || (!(s.port c.ctl).msixEnable && c.a 2 != 0)) (stCmd 0x08), failIf (c.a 5 == 2) (stGen 0x12)]

/-- Status of a Create I/O Submission Queue: QID, QSIZE, the completion queue, location. [PRESUMED, log 47] -/
def createSqStatus (s : State) (c : Ctx) : Option Status :=
  firstSome [failIf (!qidOk (c.a 0) || (Table.find (s.ctl c.ctl).sqs (c.a 0)).isSome) (stCmd 0x01), failIf (!qsizeOk (c.a 1)) (stCmd 0x02),
    failIf (c.a 3 == 0) (stCmd 0x01), failIf (Table.find (s.ctl c.ctl).cqs (c.a 3)).isNone (stCmd 0x00), failIf (c.a 5 == 2) (stGen 0x12)]

/-- Commands of a submission queue that have no completion entry yet: their fetch sequence numbers. -/
def inFlight (s : State) (k q : Nat) : List Nat := (s.adm.ctxs.filter fun p => p.2.ctl == k && p.2.sqid == q && !p.2.posted).map fun p => p.2.seq

/-! ## Identify (R303, R304) -/

/-- Bytes of fields placed at their offsets, ascending; what lies between is zero. -/
def place : Nat → List (Nat × List Nat) → List Nat
  | _, [] => []
  | p, (o, b) :: t => List.replicate (o - p) 0 ++ b ++ place (o + b.length) t

/-- A 4096-byte data structure of fields. -/
def fields4k (l : List (Nat × List Nat)) : List Nat := padTo 4096 (place 0 l)

/-- Characters of a text, padded with spaces. -/
def ascii (n : Nat) (t : String) : List Nat := ((t.toList.map Char.toNat) ++ List.replicate n 0x20).take n

/-- An upper-case hexadecimal digit. -/
def hexDigit (d : Nat) : Nat := if d < 10 then 0x30 + d else 0x37 + d

/-- The SN field: the Device Serial Number as 16 hexadecimal characters, padded to 20 (R303). -/
def serialText (s : State) : List Nat := ((List.range 16).map fun i => hexDigit (s.sec.serial / 16 ^ (15 - i) % 16)) ++ List.replicate 4 0x20

/-- The MN field (R303). -/
def modelText (s : State) : List Nat := ascii 40 ((if s.xd6408 then "XD6408" else "XD6416") ++ (if s.mode == .manager then "-M" else "-S"))

/-- Raw bytes of the accepted dies, in TiB times 2^40 (R316). -/
def rawBytes (s : State) : Nat := s.serviceDies.length * s.planesPer * s.blocksPer * s.blockBytes
/-- EDSTT (R316): ⌈90 × raw / 128 TiB⌉, at least 15. -/
def edstt (s : State) : Nat := max 15 (ceilDiv (90 * s.rawBytes) (128 * 2 ^ 40))

/-- A power state descriptor (R484): MP in 0.01 W, NOPS, ENLAT, EXLAT. -/
def powerDesc (mp nops enlat exlat : Nat) : List Nat := leBytes 2 mp ++ [0, 2 * nops] ++ leBytes 4 enlat ++ leBytes 4 exlat ++ List.replicate 20 0

/-- Identify Controller (R303). -/
def identifyCtl (s : State) (k : Nat) : List Nat :=
  let opal := bit (s.paramN .cipherOpalEnable == 1)
  let dual := bit s.bifur
  let fr := match Table.find s.adm.fwSlots s.adm.activeSlot with | some i => i.revision | none => openBytes 0x100 64 s.adm.activeSlot 8
  fields4k
    [(0, leBytes 2 0x1D9A), (2, leBytes 2 (s.paramN .pcieSubsysVendorId)), (4, s.serialText), (24, s.modelText), (64, fr), (76, [3 * dual]), (77, [9]),
     (78, leBytes 2 (k + 1)), (80, leBytes 4 0x20000), (84, leBytes 4 2000000), (88, leBytes 4 1000000), (92, leBytes 4 0x300),
     (96, leBytes 4 (if s.paramN .translationFdpEnable = 1 then 2 ^ 19 else 0)), (256, leBytes 2 (opal + 0x3E)), (258, [7]), (259, [7]), (260, [0x16]), (261, [6]),
     (262, [255]), (263, [4]), (265, [1]), (266, leBytes 2 (s.param .thermalWarnC + 273).toNat), (268, leBytes 2 (s.param .thermalShutdownC + 273).toNat),
     (270, leBytes 2 5), (280, leBytes 16 s.tnvm), (296, leBytes 16 s.unvmcap), (316, leBytes 2 s.edstt), (318, [0]), (319, [1]),
     (328, leBytes 4 (7 + 2 ^ 31)), (516, leBytes 4 128), (520, leBytes 2 (0x1DF + 32 * dual)), (524, [6]), (525, [6 + bit s.cachePresent]),
     (526, leBytes 2 255), (528, leBytes 2 255), (532, leBytes 2 0), (534, leBytes 2 1), (536, leBytes 4 0x10002), (540, leBytes 4 128),
     (2048, powerDesc 1650 0 0 0), (2080, powerDesc 1200 0 100 100), (2112, powerDesc 800 0 100 100), (2144, powerDesc 350 1 50000 5000), (2176, powerDesc 120 1 60000 20000)]

/-- NUSE (R304): logical blocks in IUs that are not DEALLOC; of an array namespace, whose blocks lie on the members, no rule says how the manager knows. -/
def nuse (s : State) (n : Namespace) : List Nat :=
  if n.array then openBytes 0x101 16 s.free 8
  else leBytes 8 ((s.media.map.filter fun e => e.1 / 2 ^ 40 == slotOf n.nsid && !isDealloc e.2).length * n.bpi)

/-- NGUID (R304): serial, NSID, creation count, little-endian. -/
def nguid (s : State) (n : Namespace) : List Nat := leBytes 8 s.sec.serial ++ leBytes 4 n.nsid ++ leBytes 4 n.creation

/-- Identify Namespace (R304, R133, R212, R288). -/
def identifyNs (s : State) (n : Namespace) : List Nat :=
  let iu := leBytes 2 (n.bpi - 1)
  let au := leBytes 2 (2 ^ 20 / n.lbaBytes - 1)
  fields4k
    [(0, leBytes 8 n.nsze), (8, leBytes 8 n.nsze), (16, s.nuse n), (24, [0x12]), (25, [1]), (26, [n.lbaf]), (30, [bit n.shared]),
     (31, [if s.bifur then 0x7F else 0]), (33, [1]), (34, au), (36, au), (38, leBytes 2 0), (40, au), (42, leBytes 2 0), (44, au),
     (48, leBytes 16 n.size), (64, iu), (66, iu), (68, iu), (70, iu), (72, iu), (74, leBytes 2 (2 ^ 20 / n.lbaBytes)), (76, leBytes 4 (2 ^ 20 / n.lbaBytes)), (80, [127]),
     (104, s.nguid n), (128, [0, 0, 9, 0]), (132, [0, 0, 12, 0]), (3072, [n.iuShift])]

/-- The fields common to every namespace, for NSID 0xFFFF_FFFF. -/
def identifyCommon (s : State) : List Nat :=
  fields4k [(24, [0x12]), (25, [1]), (31, [if s.bifur then 0x7F else 0]), (33, [1]), (80, [127]), (128, [0, 0, 9, 0]), (132, [0, 0, 12, 0])]

/-- NSIDs of the namespaces a test names, ascending, above a given one. -/
def nsList (s : State) (above : Nat) (f : Namespace → Bool) : List Nat :=
  let ids := ((s.media.nand.ns.filter fun q => f q.2).map fun q => q.2.nsid).filter fun i => decide (above < i)
  padTo 4096 ((ids.mergeSort).flatMap fun i => leBytes 4 i)

/-- A controller list above an identifier. -/
def ctlIds (s : State) (from_ : Nat) (f : Nat → Bool) : List Nat :=
  let ids := ((s.ctlList.filter f).map (· + 1)).filter fun i => decide (from_ ≤ i)
  padTo 4096 (leBytes 2 ids.length ++ ids.flatMap fun i => leBytes 2 i)

/-- The namespace is attached to a controller. -/
def attachedTo (k : Nat) (n : Namespace) : Bool := n.attached / 2 ^ k % 2 == 1

/-- An NSID that the device may hold. -/
def nsidOk (i : Nat) : Bool := decide (1 ≤ i ∧ i ≤ 128)

/-- The data structure of a CNS for controller `k`, or the status (R303, R304): those of the base specification's mandatory set and namespace management. [PRESUMED, log 47] -/
def identify (s : State) (k nsid cns cntid : Nat) : Except Status (List Nat) :=
  let one := fun (f : Namespace → List Nat) (ok : Namespace → Bool) =>
    if !nsidOk nsid then Except.error (stGen 0x0B)
    else match s.nsOf nsid with
      | some n => if ok n then .ok (f n) else .ok (List.replicate 4096 0)
      | none => .ok (List.replicate 4096 0)
  match cns with
  | 0x00 => if nsid = 0xFFFFFFFF then .ok s.identifyCommon else one s.identifyNs (attachedTo k)
  | 0x01 => .ok (s.identifyCtl k)
  | 0x02 => .ok (s.nsList nsid (attachedTo k))
  | 0x03 => match s.nsOf nsid with
    | some n => if attachedTo k n then .ok (padTo 4096 ([2, 16, 0, 0] ++ s.nguid n)) else .error (stGen 0x0B)
    | none => .error (stGen 0x0B)
  | 0x10 => .ok (s.nsList nsid fun _ => true)
  | 0x11 => one s.identifyNs fun _ => true
  | 0x12 => match s.nsOf nsid with
    | some n => .ok (s.ctlIds cntid fun j => attachedTo j n)
    | none => .error (stGen 0x0B)
  | 0x13 => .ok (s.ctlIds cntid fun _ => true)
  | _ => .error stField

/-! ## Log pages, asynchronous events -/

/-- Event type that a log page clears (R308, R310): information in `eventMasked` is type * 256 + information. [PRESUMED, log 47] -/
def pageClears (lid ty info : Nat) : Bool :=
  match lid with
  | 0x01 => ty == 0
  | 0x02 => ty == 1
  | 0x03 => ty == 2 && info == 1
  | 0x04 => ty == 2 && info == 0
  | 0x80 => ty == 6
  | 0xC0 => ty == 7
  | _ => false

/-- What reading a page with RAE 0 changes. -/
def pageRead (s : State) (k lid : Nat) : State :=
  let s := s.modCtl k fun c => { c with
    eventMasked := c.eventMasked.filter fun e => !pageClears lid (e / 256) (e % 256)
    changedNs := if lid = 0x04 then [] else c.changedNs
    resLog := if lid = 0x80 then c.resLog.drop 1 else c.resLog }
  if lid = 0xC0 then { s with adm := { s.adm with vendorPending := [] } } else s

/-- Aborts of a controller that were fetched before and have no completion entry (R292). -/
def abortsBefore (s : State) (c : Ctx) : Nat :=
  (s.adm.ctxs.filter fun p => p.2.ctl == c.ctl && p.2.sqid == 0 && p.2.sqe.opcode == 0x08 && !p.2.posted && decide (p.2.seq < c.seq)).length

/-- The command in flight that an Abort names: an I/O command without its completion entry. -/
def abortTarget (s : State) (c : Ctx) : Option Nat :=
  (s.adm.ctxs.find? fun p => c.a 0 != 0 && p.2.ctl == c.ctl && p.2.sqid == c.a 0 && p.2.sqe.cid == c.a 1 && !p.2.posted).map (·.1)

/-- Directives a receive reports (R149, R301): Identify, and Data Placement while FDP is enabled. [DEDUCED, log 55] -/
def directiveParams (s : State) : List Nat :=
  padTo 4096 (place 0 [(0, [1 + 4 * bit (s.paramN .translationFdpEnable == 1)]), (32, [1 + 4 * bit s.adm.fdp])])

end State

/-- CREATE_IO_CQ (R276, R278). -/
def execCreateIoCq (n : Nat) (s : State) : Result :=
  match s.adminRun n 0x05 with
  | none => .next s
  | some c =>
    match s.createCqStatus c with
    | some st => .next (s.finish n st)
    | none =>
      let q : CompQueue := { size := c.a 1 + 1, vector := c.a 2, ints := c.a 3 == 1, base := c.a 4, inCmb := c.a 5 == 1 }
      .next ((s.modCtl c.ctl fun x => { x with cqs := Table.ins x.cqs (c.a 0) q }).finish n stOk)

/-- CREATE_IO_SQ (R276). -/
def execCreateIoSq (n : Nat) (s : State) : Result :=
  match s.adminRun n 0x01 with
  | none => .next s
  | some c =>
    match s.createSqStatus c with
    | some st => .next (s.finish n st)
    | none =>
      let q : SubQueue := { size := c.a 1 + 1, cqid := c.a 3, prio := c.a 2 % 4, base := c.a 4, inCmb := c.a 5 == 1 }
      .next ((s.modCtl c.ctl fun x => { x with sqs := Table.ins x.sqs (c.a 0) q }).finish n stOk)

/-- DELETE_IO_SQ (R297): the queue's commands in flight meet the abort IL_CAS (ABORT_IL_CAS); the Delete's entry comes after theirs, and the queue is gone with it. -/
def execDeleteIoSq (n : Nat) (s : State) : Result :=
  match s.adminRun n 0x00 with
  | none => .next s
  | some c =>
    match (if c.a 0 = 0 then none else Table.find (s.ctl c.ctl).sqs (c.a 0)) with
    | none => .next (s.finish n (stCmd 0x01))
    | some q =>
      if q.deleting then .next (s.finish n (stCmd 0x01))
      else
        let l := s.inFlight c.ctl (c.a 0)
        let s := s.modCtl c.ctl fun x => { x with sqs := Table.ins x.sqs (c.a 0) { q with deleting := true } }
        .next ((s.modCtxN n fun x => { x with after := l }).finish n stOk)

/-- DELETE_IO_CQ (R276). -/
def execDeleteIoCq (n : Nat) (s : State) : Result :=
  match s.adminRun n 0x04 with
  | none => .next s
  | some c =>
    let x := s.ctl c.ctl
    if c.a 0 = 0 || (Table.find x.cqs (c.a 0)).isNone then .next (s.finish n (stCmd 0x01))
    else if x.sqs.any fun q => q.2.cqid == c.a 0 then .next (s.finish n (stCmd 0x0C))
    else .next ((s.modCtl c.ctl fun x => { x with cqs := Table.del x.cqs (c.a 0) }).finish n stOk)

/-- GET_LOG_PAGE (R301, R308). -/
def execGetLogPage (n : Nat) (s : State) : Result :=
  match s.adminRun n 0x02 with
  | none => .next s
  | some c =>
    match s.logPage c.ctl (c.a 0) with
    | none => .next (s.finish n (stCmd 0x09))
    | some page =>
      let s := s.nextFree.finishData n (State.pageBytes page (c.a 1) (c.a 2))
      .next (if c.a 3 = 0 then s.pageRead c.ctl (c.a 0) else s)

/-- IDENTIFY (R303, R304). -/
def execIdentify (n : Nat) (s : State) : Result :=
  match s.adminRun n 0x06 with
  | none => .next s
  | some c =>
    match s.identify c.ctl c.sqe.nsid (c.a 0) (c.a 1) with
    | .error st => .next (s.finish n st)
    | .ok bytes => .next (s.nextFree.finishData n bytes)

/-- ABORT (R292, R293): the ninth outstanding one fails; one that names no I/O command in flight is not aborted; else the abort IL_CAS decides. -/
def execAbort (n : Nat) (s : State) : Result :=
  match s.adminRun n 0x08 with
  | none => .next s
  | some c =>
    if c.target.isSome then .next s
    else if 8 ≤ s.abortsBefore c then .next (s.finish n (stCmd 0x03))
    else match s.abortTarget c with
      | none => .next (s.finish n stOk 1)
      | some t => .next (s.modCtxN n fun x => { x with target := some t })

/-- ASYNC_EVENT_REQUEST (R277, R302): at most eight outstanding; an event that waits is reported at once. -/
def execAsyncEventRequest (n : Nat) (s : State) : Result :=
  match s.adminRun n 0x0C with
  | none => .next s
  | some c =>
    let x := s.ctl c.ctl
    if x.aers.contains n then .next s
    else if 8 ≤ x.aers.length then .next (s.finish n (stCmd 0x05))
    else match x.events with
      | e :: rest => .next ((s.modCtl c.ctl fun x => { x with events := rest }).finish n stOk (e.1 + e.2.1 * 256 + e.2.2 * 65536))
      | [] => .next (s.modCtl c.ctl fun x => { x with aers := x.aers ++ [n] })

/-- DIRECTIVE_SEND (R301): Enable Directive of the Identify directive; a directive is enabled as FDP sets it and cannot be changed. -/
def execDirectiveSend (n : Nat) (s : State) : Result :=
  match s.adminRun n 0x19 with
  | none => .next s
  | some c =>
    if c.sqe.nsid != 0xFFFFFFFF && (s.nsOf c.sqe.nsid).isNone then .next (s.finish n (stGen 0x0B))
    else if c.a 0 = 0 && c.a 1 = 1 && c.a 3 = 2 && (c.a 2 == 1) == s.adm.fdp then .next (s.finish n stOk)
    else .next (s.finish n stField)

/-- DIRECTIVE_RECEIVE (R301): Return Parameters of the Identify directive. -/
def execDirectiveReceive (n : Nat) (s : State) : Result :=
  match s.adminRun n 0x1A with
  | none => .next s
  | some c =>
    if c.sqe.nsid != 0xFFFFFFFF && (s.nsOf c.sqe.nsid).isNone then .next (s.finish n (stGen 0x0B))
    else if c.a 0 = 0 && c.a 1 = 1 then .next (s.finishData n s.directiveParams)
    else .next (s.finish n stField)

end Sys2Proof.Machine
end

