-- ==== Sys2Proof/Machine/Features.lean ====
section
/-! DEFINITION. Get Features and the Set Features rows (R305 to R307, R323). A Set Features names FID, SV, command dwords 11 and 12; the row of a feature takes a command of its feature, or of one that the table does not hold. Field layouts of the dwords are PRESUMED from the base specification. -/

namespace Sys2Proof.Machine

namespace State

/-- Features that can be saved (R305). -/
def saveable (f : Nat) : Bool := [0x01, 0x02, 0x04, 0x06, 0x08, 0x0B, 0x0C, 0x11, 0xC0].contains f

/-- Features of the table (R305); the reservation ones with two ports only. -/
def featureOk (s : State) (f : Nat) : Bool :=
  [0x01, 0x02, 0x04, 0x06, 0x07, 0x08, 0x09, 0x0A, 0x0B, 0x0C, 0x0E, 0x11, 0x1D, 0x1E, 0xC0].contains f || (s.bifur && (f == 0x81 || f == 0x82))

/-- TMPSEL and THSEL of dword 11, as the key of a threshold (R305). -/
def tmpKey (d : Nat) : Nat × Nat := (bits d 16 4, bits d 20 2)
/-- TMPSEL 0 to 8, THSEL over or under. -/
def tmpOk (d : Nat) : Bool := decide ((tmpKey d).1 ≤ 8 ∧ (tmpKey d).2 ≤ 1)
/-- Default of a temperature limit: over WCTEMP, under 0 K, for every TMPSEL (R305). -/
def tmpDefault (s : State) (d : Nat) : Nat :=
  if (tmpKey d).2 = 1 then 0 else (s.param .thermalWarnC + 273).toNat

/-- The 256 bytes of the Autonomous Power State Transition table. -/
def apstBytes (l : List (Nat × Nat)) : List Nat := padTo 256 (l.flatMap fun e => leBytes 4 (e.1 % 32 * 8 + e.2 % 2 ^ 24 * 256) ++ [0, 0, 0, 0])

/-- A list of values packed into a dword: each with its bit. -/
def pack (l : List (Nat × Nat)) : Nat := (l.map fun e => e.1 * 2 ^ e.2).sum

/-- Dword 0 of a feature from the values kept for it: those of `freshCtl`. -/
def packed (f : Nat) (v : List Nat) : Nat :=
  match f with
  | 0x01 => pack [(v.getD 0 0, 0), (v.getD 1 0, 8), (v.getD 2 0, 16), (v.getD 3 0, 24)]
  | 0x02 => pack [(v.getD 0 0, 0), (v.getD 1 0, 5)]
  | 0x08 => pack [(v.getD 0 0, 0), (v.getD 1 0, 8)]
  | _ => v.getD 0 0

/-- Default values (R305). -/
def defaultVals (s : State) (f d : Nat) : List Nat :=
  match f with
  | 0x01 => [7, 0, 0, 0]
  | 0x02 => [0, 0]
  | 0x04 => [s.tmpDefault d]
  | 0x06 => [bit s.cachePresent]
  | 0x07 => [255 + 255 * 65536]
  | 0x08 => [0, 0]
  | 0x09 => [bits d 0 16]
  | _ => [0]

/-- Key under which values are saved: each temperature limit has its own. -/
def savedKey (f d : Nat) : Nat := if f = 0x04 then (if (tmpKey d).2 = 0 then 0x400 else 0x410) + (tmpKey d).1 else f

/-- Values in force on a controller. -/
def currentVals (s : State) (k f d nsid : Nat) : List Nat :=
  let c := s.ctl k
  match f with
  | 0x01 => [c.ab, c.lpw, c.mpw, c.hpw]
  | 0x02 => [c.powerState, c.workload]
  | 0x04 => [Table.get (s.tmpDefault d) (if (tmpKey d).2 = 0 then c.overThresh else c.underThresh) (tmpKey d).1]
  | 0x06 => [bit (c.wce && s.cachePresent)]
  | 0x07 => [255 + 255 * 65536]
  | 0x08 => [c.coalThr, c.coalTime]
  | 0x09 => [bits d 0 16 + 65536 * bit (Table.get ({} : Coalesce) (s.port k).coal (bits d 0 16)).disabled]
  | 0x0A => [bit c.dn]
  | 0x0B => [c.aec]
  | 0x0C => bit c.apstEnable :: c.apst.flatMap fun e => [e.1, e.2]
  | 0x11 => [bit c.noppme]
  | 0x1D => [bit s.adm.fdp]
  | 0x1E => [if s.adm.fdpMasked.contains (bits d 0 16) then 0 else 1]
  | 0x81 => [Table.get 0 c.resMask (slotOf nsid)]
  | 0x82 => [match s.nsOf nsid with | some n => bit n.ptpl | none => 0]
  | 0xC0 => [c.vendorEvents]
  | _ => [0]

/-- The Station clock as Get Features Timestamp returns it (R323): 48 bits of ms, then Synch and Origin; without a valid clock the milliseconds since the last full reset, Origin 0, Synch 1. -/
def timestampBytes (s : State) : List Nat :=
  if s.flag Reg.SC_STAT_VALID then leBytes 6 s.sec.clockMs ++ [2, 0] else leBytes 6 (s.flash.tick * 8192 / 1000000) ++ [1, 0]

/-- Data a Get Features returns beside dword 0. -/
def featureData (s : State) (f : Nat) (v : List Nat) (d : Nat) : List Nat :=
  match f with
  | 0x0C => apstBytes (pairs (v.drop 1))
  | 0x0E => s.timestampBytes
  | 0x1E => if bits d 16 8 = 0 then [] else [0x80, v.getD 0 0]
  | _ => []

/-- A Set Features of one of two kinds: the row's feature, or one that no row has. -/
def setRun (s : State) (n f : Nat) : Option Ctx :=
  match s.adminRun n 0x09 with
  | some c => if c.a 0 = f || !s.featureOk (c.a 0) then some c else none
  | none => none

/-- The end of a Set Features (R305): a feature outside the table, SV on one that cannot be saved, a value refused, or the change, with its values saved where SV asks. -/
def setFeature (s : State) (n f : Nat) (bad : Ctx → Option Status) (vals : Ctx → List Nat) (change : Ctx → State → State) : State :=
  match s.setRun n f with
  | none => s
  | some c =>
    if c.a 0 != f || !s.featureOk f then s.finish n stField
    else if c.a 1 = 1 && !saveable f then s.finish n (stCmd 0x0D)
    else match bad c with
      | some st => s.finish n st
      | none =>
        let s := if c.a 1 = 1 then s.modCtl c.ctl fun x => { x with saved := Table.ins x.saved (savedKey f (c.a 2)) (vals c) } else s
        (change c s).finish n stOk (if f = 0x07 then 255 + 255 * 65536 else 0)

/-- A power state for a controller, with the last operational one (R485, R486). -/
def setPower (s : State) (k ps wh : Nat) : State :=
  (s.modCtl k fun c => { c with powerState := ps, workload := wh, lastOp := if ps < 3 then ps else if c.powerState < 3 then c.powerState else c.lastOp }).setBudget

/-- The host clears WCE (R306): later writes are write-through; the command waits for the parcels that are dirty. -/
def clearCache (s : State) (n k : Nat) : State :=
  let s := s.modCtl k fun c => { c with wce := false }
  let ps := s.media.parcels.filter fun q => q.2.state != .free && q.2.state != .clean
  let toks := (ps.filter fun q => q.2.first == q.1).map fun q => iuTokOf q.2
  let s := ps.foldl (fun s q => s.modParcel q.1 fun x => { x with urgent := true }) s
  (s.modCtxN n fun x => { x with waitIus := toks }).commitPage

/-- Values of APST entries. -/
def apstVals (l : List ApstEntry) : List (Nat × Nat) := (l.take 32).map fun e => (e.ps, e.ms)

/-- Namespaces a feature of NSID names: one, or all. -/
def nsNamed (s : State) (nsid : Nat) : List Nat := if nsid = 0xFFFFFFFF then s.media.nand.ns.map (·.1) else match s.nsOf nsid with | some n => [slotOf n.nsid] | none => []

end State

/-- GET_FEATURES (R305, R323): SEL 0 current, 1 default, 2 saved, 3 capabilities. -/
def execGetFeatures (n : Nat) (s : State) : Result :=
  match s.adminRun n 0x0A with
  | none => .next s
  | some c =>
    let f := c.a 0
    let d := c.a 2
    if !s.featureOk f || decide (3 < c.a 1) || (f == 0x04 && !State.tmpOk d) then .next (s.finish n stField)
    else if c.a 1 = 3 then .next (s.finish n stOk (bit (State.saveable f) + 2 * bit (f == 0x81 || f == 0x82) + 4))
    else
      let v := match c.a 1 with
        | 0 => s.currentVals c.ctl f d c.sqe.nsid
        | 1 => s.defaultVals f d
        | _ => State.savedOr (s.ctl c.ctl) (State.savedKey f d) (s.defaultVals f d)
      .next (s.finishData n (s.featureData f v d) (State.packed f v))

/-- ARBITRATION (R279, R305). -/
def execArbitration (n : Nat) (s : State) : Result :=
  .next (s.setFeature n 0x01 (fun _ => none) (fun c => [bits (c.a 2) 0 3, bits (c.a 2) 8 8, bits (c.a 2) 16 8, bits (c.a 2) 24 8]) fun c s =>
    s.modCtl c.ctl fun x => { x with ab := bits (c.a 2) 0 3, lpw := bits (c.a 2) 8 8, mpw := bits (c.a 2) 16 8, hpw := bits (c.a 2) 24 8 })

/-- POWER_MANAGEMENT (R305, R484, R485): the workload hint is accepted and has no effect. -/
def execPowerManagement (n : Nat) (s : State) : Result :=
  .next (s.setFeature n 0x02 (fun c => State.failIf (decide (4 < bits (c.a 2) 0 5)) stField) (fun c => [bits (c.a 2) 0 5, bits (c.a 2) 5 3]) fun c s =>
    s.setPower c.ctl (bits (c.a 2) 0 5) (bits (c.a 2) 5 3))

/-- TEMPERATURE_THRESHOLD (R305, R309). [DESIGN CHOICE, log 49] -/
def execTemperatureThreshold (n : Nat) (s : State) : Result :=
  .next (s.setFeature n 0x04 (fun c => State.failIf (!State.tmpOk (c.a 2)) stField) (fun c => [bits (c.a 2) 0 16]) fun c s =>
    let k := State.tmpKey (c.a 2)
    (s.modCtl c.ctl fun x => if k.2 = 0 then { x with overThresh := Table.ins x.overThresh k.1 (bits (c.a 2) 0 16) }
      else { x with underThresh := Table.ins x.underThresh k.1 (bits (c.a 2) 0 16) }).watchLimits)

/-- VOLATILE_WRITE_CACHE (R306): setting WCE without a cache fails; clearing it completes once the dirty parcels have reached step 9; set, it holds for writes fetched after the completion. [DEDUCED, log 55] -/
def execVolatileWriteCache (n : Nat) (s : State) : Result :=
  .next (s.setFeature n 0x06 (fun c => State.failIf (c.a 2 % 2 == 1 && !s.cachePresent) stField) (fun c => [c.a 2 % 2]) fun c s =>
    if c.a 2 % 2 = 1 then s else s.clearCache n c.ctl)

/-- NUMBER_OF_QUEUES (R276, R305): 255 in both halves. -/
def execNumberOfQueues (n : Nat) (s : State) : Result :=
  .next (s.setFeature n 0x07 (fun _ => none) (fun _ => []) fun _ s => s)

/-- INTERRUPT_COALESCING (R278, R305). -/
def execInterruptCoalescing (n : Nat) (s : State) : Result :=
  .next (s.setFeature n 0x08 (fun _ => none) (fun c => [bits (c.a 2) 0 8, bits (c.a 2) 8 8]) fun c s =>
    s.modCtl c.ctl fun x => { x with coalThr := bits (c.a 2) 0 8, coalTime := bits (c.a 2) 8 8 })

/-- INTERRUPT_VECTOR_CONFIGURATION (R305): vectors 1 to 256. -/
def execInterruptVectorConfiguration (n : Nat) (s : State) : Result :=
  .next (s.setFeature n 0x09 (fun c => State.failIf (bits (c.a 2) 0 16 == 0 || decide (256 < bits (c.a 2) 0 16)) stField) (fun _ => []) fun c s =>
    s.modCoal c.ctl (bits (c.a 2) 0 16) fun x => { x with disabled := bits (c.a 2) 16 1 == 1 })

/-- WRITE_ATOMICITY_NORMAL (R305): accepted, without effect. -/
def execWriteAtomicityNormal (n : Nat) (s : State) : Result :=
  .next (s.setFeature n 0x0A (fun _ => none) (fun _ => []) fun c s => s.modCtl c.ctl fun x => { x with dn := c.a 2 % 2 == 1 })

/-- ASYNC_EVENT_CONFIGURATION (R305): bits [7:0], 8 and 9. -/
def execAsyncEventConfiguration (n : Nat) (s : State) : Result :=
  .next (s.setFeature n 0x0B (fun _ => none) (fun c => [bits (c.a 2) 0 10]) fun c s => s.modCtl c.ctl fun x => { x with aec := bits (c.a 2) 0 10 })

/-- AUTONOMOUS_POWER_STATE_TRANSITION (R305, R485). -/
def execAutonomousPowerStateTransition (n : Nat) (table : List ApstEntry) (s : State) : Result :=
  .next (s.setFeature n 0x0C (fun _ => State.failIf ((State.apstVals table).any fun e => e.2 != 0 && (decide (e.1 < 3) || decide (4 < e.1))) stField)
    (fun c => (c.a 2 % 2) :: (State.apstVals table).flatMap fun e => [e.1, e.2]) fun c s =>
    s.modCtl c.ctl fun x => { x with apstEnable := c.a 2 % 2 == 1, apst := State.apstVals table })

/-- TIMESTAMP (R323, R453): writes the Station clock. [DEDUCED, log 55] -/
def execTimestamp (n ms : Nat) (s : State) : Result :=
  .next (s.setFeature n 0x0E (fun _ => none) (fun _ => []) fun _ s => s.setClock ms)

/-- NON_OPERATIONAL_POWER_STATE_CONFIG (R305). -/
def execNonOperationalPowerStateConfig (n : Nat) (s : State) : Result :=
  .next (s.setFeature n 0x11 (fun _ => none) (fun c => [c.a 2 % 2]) fun c s => s.modCtl c.ctl fun x => { x with noppme := c.a 2 % 2 == 1 })

/-- FLEXIBLE_DATA_PLACEMENT (R307): only while no namespace exists, and enabled only where the Rulebook allows it. -/
def execFlexibleDataPlacement (n : Nat) (s : State) : Result :=
  .next (s.setFeature n 0x1D (fun c => State.firstSome [State.failIf (!s.media.nand.ns.isEmpty) (stGen 0x0C),
    State.failIf (c.a 2 % 65536 != 1 || (c.a 3 % 2 == 1 && (s.paramN .translationFdpEnable != 1 || bits (c.a 3) 8 8 != 0))) stField])
    (fun _ => []) fun c s => { s with adm := { s.adm with fdp := c.a 3 % 2 == 1 } })

/-- FDP_EVENTS (R305): the event of a reclaim unit handle is enabled or disabled. -/
def execFdpEvents (n : Nat) (s : State) : Result :=
  .next (s.setFeature n 0x1E (fun c => State.failIf (decide (s.paramN .translationFdpHandles ≤ bits (c.a 2) 0 16)) stField) (fun _ => []) fun c s =>
    let h := bits (c.a 2) 0 16
    let rest := s.adm.fdpMasked.filter (· != h)
    { s with adm := { s.adm with fdpMasked := if c.a 3 % 2 = 1 then rest else rest ++ [h] } })

/-- RESERVATION_NOTIFICATION_MASK (R305): two ports only. -/
def execReservationNotificationMask (n : Nat) (s : State) : Result :=
  .next (s.setFeature n 0x81 (fun c => State.failIf (c.sqe.nsid != 0xFFFFFFFF && (s.nsOf c.sqe.nsid).isNone) (stGen 0x0B)) (fun _ => []) fun c s =>
    (s.nsNamed c.sqe.nsid).foldl (fun s x => s.modCtl c.ctl fun y => { y with resMask := Table.put 0 y.resMask x (bits (c.a 2) 1 3 * 2) }) s)

/-- RESERVATION_PERSISTENCE (R305): two ports only. -/
def execReservationPersistence (n : Nat) (s : State) : Result :=
  .next (s.setFeature n 0x82 (fun c => State.failIf (c.sqe.nsid != 0xFFFFFFFF && (s.nsOf c.sqe.nsid).isNone) (stGen 0x0B)) (fun _ => []) fun c s =>
    (s.nsNamed c.sqe.nsid).foldl (fun s x => s.modNs x fun y => { y with ptpl := c.a 2 % 2 == 1 }) s)

/-- VENDOR_EVENT_ENABLE (R305, R310). -/
def execVendorEventEnable (n : Nat) (s : State) : Result :=
  .next (s.setFeature n 0xC0 (fun _ => none) (fun c => [bits (c.a 2) 0 5]) fun c s => s.modCtl c.ctl fun x => { x with vendorEvents := bits (c.a 2) 0 5 })

end Sys2Proof.Machine
end

