-- ==== Sys2Proof/Machine/AdminMedia.lean ====
section
/-! DEFINITION. Namespace management, Format NVM, the device self-test and Sanitize (R133 to R136, R313 to R319, R357, R358). A command that members of an array must answer runs again once they have (`fetched` marks it); status codes the rules do not number are PRESUMED from the base specification. -/

namespace Sys2Proof.Machine

namespace State

/-! ## Member commands of an admin command -/

/-- Sends a command to every worker that holds a position in service; the context waits for the answers. -/
def toMembers (s : State) (n op slot : Nat) (extra : List Nat) : State :=
  match s.hdr? with
  | none => s
  | some h => h.positions.foldl (fun s p =>
      if p.member = 0 || !(p.state == .online || p.state == .rebuilding) then s
      else match s.memberPort p.member with
        | some q => (s.modCtxN n fun x => { x with members := x.members + 1 }).memberCmd q { owner := .admin n, opcode := op, volume := slot, extra := extra }
        | none => s.modCtxN n fun x => { x with status := some (x.status.getD (stGen 0x06)) }) s

/-- Marks a context as having sent its member commands. -/
def markSent (s : State) (n : Nat) : State := s.modCtxN n fun x => { x with fetched := true }
/-- Answers a context still waits for. -/
def waitingMembers (s : State) (n : Nat) : Bool := match s.ctx n with | some c => decide (0 < c.members) | none => false
/-- A member refused. -/
def memberFailed (s : State) (n : Nat) : Bool := match s.ctx n with | some c => c.status.isSome | none => false

/-- Namespaces changed: the Changed Namespace List, and the notice where it is enabled (R308, R313). -/
def nsChanged (s : State) (ids : List Nat) : State :=
  let s := s.ctlList.foldl (fun s k => s.modCtl k fun c => { c with changedNs := (c.changedNs ++ ids.filter fun i => !c.changedNs.contains i).take 1024 }) s
  s.postNotice 0 0x04

/-! ## Create, delete, attach (R313) -/

/-- IU shift of byte 3,072 (R133). -/
def iuOf (s : State) (b : Nat) : Nat := if b = 0 then (if s.paramN .translationDefaultIuKib = 16 then 14 else 12) else b
/-- Bytes of a logical block of a format. -/
def lbaOf (f : Nat) : Nat := if f = 0 then 512 else 4096

/-- The namespace a create would make; its map granules are those of what this device's flash holds of it. -/
def newNs (s : State) (d : NsData) : Namespace :=
  let id := ((List.range 128).map (· + 1)).find? fun i => (Table.find s.media.nand.ns (slotOf i)).isNone
  let n : Namespace := { nsid := id.getD 0, iuShift := s.iuOf d.iuByte, lbaf := d.flbas, nsze := d.nsze, creation := 0, granules := 0, attached := 0
                         array := s.mode == .manager, handles := if s.adm.fdp && !d.handles.isEmpty then d.handles else [0], shared := d.nmic % 2 == 1 }
  { n with granules := granulesFor n.iuShift (s.localBytes n) }

/-- The checks of R313 in their order. -/
def createStatus (s : State) (d : NsData) : Option Status :=
  let n := s.newNs d
  let room := decide (n.size ≤ s.unvmcap) && decide (n.granules ≤ s.freeGranules) && (s.mode != .manager || s.hdr?.isSome)
  firstSome [
    failIf (d.nsze != d.ncap || d.nsze == 0 || d.nsze % (2 ^ s.iuOf d.iuByte / lbaOf d.flbas) != 0) stField,
    failIf (decide (1 < d.flbas)) stField,
    failIf (!([0, 12, 14].contains d.iuByte)) stField,
    failIf (d.nmic % 2 == 1 && !s.bifur) stField,
    failIf (s.adm.fdp && d.handles.any fun h => decide (s.paramN .translationFdpHandles ≤ h)) stField,
    failIf (decide (128 ≤ s.media.nand.ns.length)) (stCmd 0x16),
    failIf (!room) (stCmd 0x15)]

/-- Creates the namespace, or, where a member answered otherwise, deletes the volumes already made (R357). -/
def endCreate (s : State) (n : Nat) (x : Namespace) : State :=
  if s.memberFailed n then
    let s := match s.hdr? with
      | none => s
      | some h => h.positions.foldl (fun s (p : Position) => match (if p.member = 0 then none else s.memberPort p.member) with
          | some q => s.memberCmd q { owner := .none, opcode := 9, volume := slotOf x.nsid }
          | none => s) s
    s.finish n stOk
  else
    let s := s.addNs x
    let s := if x.array then s.modHdr id else s
    (s.finish n stOk x.nsid).nsChanged [x.nsid]

/-- Namespaces a Delete or Format names. -/
def namedNs (s : State) (nsid : Nat) : List (Nat × Namespace) :=
  if nsid = 0xFFFFFFFF then s.media.nand.ns else s.media.nand.ns.filter fun q => q.2.nsid == nsid

/-- Status of an attach (`on`) or detach of controller identifiers. -/
def attachStatus (s : State) (n : Namespace) (on : Bool) (cs : List Nat) : Option Status :=
  let bad := cs.isEmpty || cs.any (fun c => c == 0 || !s.ctlList.contains (c - 1)) || cs.eraseDups.length != cs.length
  let mask := (cs.map fun c => 2 ^ (c - 1)).sum
  firstSome [failIf bad (stCmd 0x1C), failIf (on && cs.any fun c => attachedTo (c - 1) n) (stCmd 0x18),
    failIf (on && !n.shared && (n.attached != 0 || decide (1 < cs.length))) (stCmd 0x19),
    failIf (!on && cs.any fun c => !attachedTo (c - 1) n) (stCmd 0x1A), failIf (mask == 0) (stCmd 0x1C)]

/-! ## Format (R314) -/

/-- A namespace in another logical block size: its size in bytes is kept. -/
def reformat (f : Nat) (n : Namespace) : Namespace := { n with lbaf := f, nsze := n.size / lbaOf f }

/-- Status of a Format NVM: PI, LBAF, SES, NSID, the Buffer stop (R193, R314). -/
def formatStatus (s : State) (c : Ctx) : Option Status :=
  firstSome [failIf (c.a 2 != 0) (stCmd 0x0A), failIf (decide (1 < c.a 0)) (stCmd 0x0A), failIf (decide (2 < c.a 1)) stField,
    failIf (c.sqe.nsid != 0xFFFFFFFF && (s.nsOf c.sqe.nsid).isNone) (stGen 0x0B),
    failIf (s.bufferStop && c.a 1 == 0 && c.sqe.nsid != 0xFFFFFFFF) stWriteProtected]

/-- Namespaces a Format applies to: with SES 1 and 2 all of them. -/
def formatted (s : State) (c : Ctx) : List (Nat × Namespace) := s.namedNs (if c.a 1 = 0 then c.sqe.nsid else 0xFFFFFFFF)

/-- A Format begins: a self-test ends, the namespaces accept no further I/O, the members are told: their volumes made anew with SES 0, sanitized with SES 1 and 2. -/
def beginFormat (s : State) (n : Nat) (c : Ctx) : State :=
  let s := s.endSelfTest 4 0
  let l := s.formatted c
  let s := l.foldl (fun s q => s.modNs q.1 fun x => { x with formatting := true }) s
  let s := if s.mode != .manager then s
    else if c.a 1 = 0 then match s.hdr? with
      | none => s
      | some h => l.foldl (fun s q => if q.2.array then
          (s.toMembers n 9 q.1 []).toMembers n 8 q.1 (leBytes 8 (volumeBlocks h q.2.blocks4k) ++ [q.2.iuShift]) else s) s
    else s.toMembers n 0x0A 0 [if c.a 1 = 1 then 2 else 4, 0, 0, 0]
  s.markSent n

/-- A Format ends (R314): every IU DEALLOC, with SES 1 the blocks erased, with SES 2 a new media key; the block size as asked; after all namespaces the Buffer stop may end (R194). A key the Guard refuses, or a member's refusal, changes nothing. -/
def endFormatOk (s : State) (n : Nat) (c : Ctx) (guardOk : Bool) : State :=
  let l := s.formatted c
  let s := l.foldl (fun s q => s.modNs q.1 fun x => { x with formatting := false }) s
  if s.memberFailed n then s.finish n stOk
  else if c.a 1 = 2 && !guardOk then s.finish n (stGen 0x06)
  else
    let s := l.foldl (fun s q => (s.wipeSlot q.1).wipeArray q.1) s
    let s := if c.a 1 = 1 then s.blockErase 1 else if c.a 1 = 2 then s.cryptoErase else s
    let s := l.foldl (fun s q => s.modNs q.1 (reformat (c.a 0))) s
    let s := if l.any fun q => q.2.array then s.modHdr id else s
    let s := if c.sqe.nsid = 0xFFFFFFFF || c.a 1 != 0 then s.endBufferStop else s
    let moved := l.filter fun q => q.2.lbaf != c.a 0
    let s := s.finish n stOk
    if moved.isEmpty then s else s.nsChanged (moved.map fun q => q.2.nsid)

/-! ## Self-test (R315 to R317) -/

/-- An I/O command is in flight on either controller (R316). -/
def ioInFlight (s : State) : Bool := s.adm.ctxs.any fun p => p.2.sqid != 0 && decide (p.2.ctl < 2) && !p.2.posted

/-- Starts a self-test, or answers why not; its hold-up segment asks for a repeat measurement at once (R315). [DESIGN CHOICE, log 53] -/
def startTest (s : State) (n stc : Nat) : State :=
  match s.adminRun n 0x14 with
  | none => s
  | some c =>
    if !([1, 2, 15].contains (c.a 0)) then s.finish n stField
    else if c.a 0 != stc then s
    else if c.sqe.nsid != 0 && c.sqe.nsid != 0xFFFFFFFF && (s.nsOf c.sqe.nsid).isNone then s.finish n (stGen 0x0B)
    else if s.adm.selfTest.isSome then s.finish n (stCmd 0x1D)
    else
      let t : SelfTest := { extended := stc == 2, nsid := c.sqe.nsid, ctl := c.ctl, suspended := stc == 2 && s.ioInFlight }
      ({ s with adm := { s.adm with selfTest := some t } }.startRepeat).finish n stOk

/-! ## Sanitize (R318, R319, R358) -/

/-- Starts a sanitize with an action, or answers why not: OWPASS counts for an Overwrite. -/
def sanitizeRow (s : State) (n action : Nat) : State :=
  match s.adminRun n 0x84 with
  | none => s
  | some c =>
    if !([1, 2, 3, 4].contains (c.a 0)) then s.finish n stField
    else if c.a 0 != action then s
    else if (match s.adm.sanitize with | some z => z.running | none => false) then s.finish n (stGen 0x1D)
    else if action = 3 && (c.a 2 == 0 || decide (16 < c.a 2)) then s.finish n stField
    else
      let z : Sanitize := ⟨action, c.a 1 == 1, c.a 2, BitVec.ofNat 32 (c.a 4), c.a 3 == 1, true, false, false, false⟩
      ((s.finish n stOk).startSanitize z).sendSanitize

/-- Contexts of a worker's SANITIZE: answered with its end. -/
def answerSanitize (s : State) (st : Status) : State :=
  ((s.adm.ctxs.filter fun p => p.2.ctl == 2 && p.2.sqe.opcode == 0x10A && !p.2.posted).map (·.1)).foldl
    (fun s n => s.modCtxN n fun x => { x with word := .done, status := some st }) s

end State

/-- NS_CREATE (R133, R134, R136, R313, R357): the lowest free NSID, its slot, its granules; in manager mode a volume on every member that holds a position. -/
def execNsCreate (n : Nat) (d : NsData) (s : State) : Result :=
  match s.adminRun n 0x0D with
  | none => .next s
  | some c =>
    if 1 < c.a 0 then .next (s.finish n stField)
    else if c.a 0 != 0 then .next s
    else match (if c.fetched then none else s.createStatus d) with
      | some st => .next (s.finish n st)
      | none =>
        let x := s.newNs d
        let s := if c.fetched then s
          else match s.hdr? with
            | some h => if x.array then (s.toMembers n 8 (State.slotOf x.nsid) (leBytes 8 (State.volumeBlocks h x.blocks4k) ++ [x.iuShift])).markSent n else s
            | none => s
        if s.waitingMembers n then .next s else .next (s.endCreate n x)

/-- NS_DELETE (R134, R313, R357): the namespaces are detached; once no command is outstanding on them, and the members have deleted the volumes, they are gone. [DEDUCED, log 51] -/
def execNsDelete (n : Nat) (s : State) : Result :=
  match s.adminRun n 0x0D with
  | none => .next s
  | some c =>
    if 1 < c.a 0 then .next (s.finish n stField)
    else if c.a 0 != 1 then .next s
    else
      let l := s.namedNs c.sqe.nsid
      if c.sqe.nsid != 0xFFFFFFFF && l.isEmpty then .next (s.finish n (stGen 0x0B))
      else
        let s := l.foldl (fun s q => s.modNs q.1 fun x => { x with attached := 0 }) s
        let s := if c.fetched then s else (l.foldl (fun s q => if q.2.array then s.toMembers n 9 q.1 [] else s) s).markSent n
        if s.waitingMembers n || !s.nsQuiet (fun x => l.any fun q => q.1 == x) then .next s
        else if s.memberFailed n then .next (s.finish n stOk)
        else .next (((l.foldl (fun s q => s.deleteNs q.1) s).finish n stOk).nsChanged (l.map fun q => q.2.nsid))

/-- NAMESPACE_ATTACHMENT (R313): SEL 0 attach, 1 detach, of controller identifiers 1 and 2. [PRESUMED, log 47] -/
def execNamespaceAttachment (n : Nat) (ctrls : List Nat) (s : State) : Result :=
  match s.adminRun n 0x15 with
  | none => .next s
  | some c =>
    if 1 < c.a 0 then .next (s.finish n stField)
    else match s.nsOf c.sqe.nsid with
      | none => .next (s.finish n (stGen 0x0B))
      | some x =>
        match s.attachStatus x (c.a 0 == 0) ctrls with
        | some st => .next (s.finish n st)
        | none =>
          let m := (ctrls.map fun k => 2 ^ (k - 1)).sum
          let s := s.modNs (State.slotOf x.nsid) fun y => { y with attached := if c.a 0 = 0 then y.attached + m else y.attached - m }
          .next ((s.finish n stOk).nsChanged [x.nsid])

/-- FORMAT_NVM (R193, R194, R314, R357): ends once no command is outstanding on the namespaces and the members have answered; `guardOk`: the Guard accepts a key advance. [PRESUMED, log 47; DEDUCED, log 51] -/
def execFormatNvm (n : Nat) (guardOk : Bool) (s : State) : Result :=
  match s.adminRun n 0x80 with
  | none => .next s
  | some c =>
    match (if c.fetched then none else s.formatStatus c) with
    | some st => .next (s.finish n st)
    | none =>
      let s := if c.fetched then s else s.beginFormat n c
      let l := s.formatted c
      if s.waitingMembers n || !s.nsQuiet (fun x => l.any fun q => q.1 == x) then .next s
      else .next (s.endFormatOk n c guardOk)

/-- SELF_TEST_SHORT (R315). -/
def execSelfTestShort (n : Nat) (s : State) : Result := .next (s.startTest n 1)
/-- SELF_TEST_EXTENDED (R315, R316). -/
def execSelfTestExtended (n : Nat) (s : State) : Result := .next (s.startTest n 2)

/-- SELF_TEST_ABORT (R317): a running test ends with result 0x1; with none there is no effect. -/
def execSelfTestAbort (n : Nat) (s : State) : Result :=
  match s.adminRun n 0x14 with
  | none => .next s
  | some c =>
    if !([1, 2, 15].contains (c.a 0)) then .next (s.finish n stField)
    else if c.a 0 != 15 then .next s
    else .next ((s.endSelfTest 1 0).finish n stOk)

/-- SELF_TEST_COMPLETE (R315, R317): the test's completion point; `failSeg` is the first segment that failed by what the device met (1, 3 to 6); segment 2 is the critical warning; segment 3, whose measurement must have ended, fails too below min_parcels, where C 0 of a failed measurement puts the limit. [DEDUCED, log 53] -/
def execSelfTestComplete (failSeg : Option Nat) (s : State) : Result :=
  match s.adm.selfTest with
  | none => .next s
  | some t =>
    if t.extended && t.suspended || s.plat.hold != .none || s.media.measure != .idle then .next s
    else
      let two := if s.critWarn t.ctl != 0 then [2] else []
      let three := if s.paramN .holdupEnable = 1 && decide (s.rget Reg.FT_DIRTY_MAX_TENDER_MAX < s.paramN .holdupMinParcels) then [3] else []
      let env := (failSeg.toList).filter fun g => decide (1 ≤ g ∧ g ≤ (if t.extended then 6 else 5))
      match (env ++ two ++ three).mergeSort with
      | [] => .next (s.endSelfTest 0 0)
      | g :: _ => .next (s.endSelfTest 7 g)

/-- MEDIA_PASS_RESUME (R316): 10 ms after the last I/O command. -/
def execMediaPassResume (s : State) : Result :=
  if s.ioInFlight then .next s
  else .next { s with adm := { s.adm with selfTest := s.adm.selfTest.map fun t => { t with suspended := false } } }

/-- EXIT_FAILURE_MODE (R318, R319): allowed where the failed sanitize had AUSE 1. [DEDUCED, log 51] -/
def execExitFailureMode (n : Nat) (s : State) : Result :=
  match s.adminRun n 0x84 with
  | none => .next s
  | some c =>
    if !([1, 2, 3, 4].contains (c.a 0)) then .next (s.finish n stField)
    else if c.a 0 != 1 then .next s
    else match s.adm.sanitize with
      | none => .next (s.finish n stOk)
      | some z =>
        if z.running then .next (s.finish n stOk)
        else if z.ause then .next ({ s with adm := { s.adm with sanitize := none } }.finish n stOk)
        else .next (s.finish n (stGen 0x1C))

/-- BLOCK_ERASE (R318, R319). -/
def execBlockErase (n : Nat) (s : State) : Result := .next (s.sanitizeRow n 2)
/-- OVERWRITE (R318, R319). [DEDUCED, log 51] -/
def execOverwrite (n : Nat) (s : State) : Result := .next (s.sanitizeRow n 3)
/-- SANITIZE_CRYPTO_ERASE (R318, R319, R425). -/
def execSanitizeCryptoErase (n : Nat) (s : State) : Result := .next (s.sanitizeRow n 4)

/-- SANITIZE_COMPLETE (R194, R318, R319, R358): once every member has answered, the action is applied and the map cleared; where it did not finish, or a member did not, the device is in sanitize failure mode. -/
def execSanitizeComplete (ok : Bool) (s : State) : Result :=
  match s.adm.sanitize with
  | none => .next s
  | some z =>
    if !z.running || s.sanitizeOut || s.plat.hold != .none then .next s
    else if !ok || z.dieLost then .next ((s.sanitizeFailed).answerSanitize (stGen 0x06))
    else
      let s := s.sanitized z
      let s := if s.mode == .manager && s.hdr?.isSome then s.modHdr id else s
      if z.memberBad then .next { s with adm := { s.adm with sanitize := some { z with running := false, failed := true }, sanStatus := 3, globalErased := false } }
      else .next (s.answerSanitize stOk)

end Sys2Proof.Machine
end

