-- ==== Sys2Proof/Machine/ArrayRows.lean ====
section
/-! DEFINITION. Meanings of the array rows (chapter 14): destage, member failure, rebuild, inspection, regions, resync. -/

namespace Sys2Proof.Machine

namespace State

/-- The array engine serves namespaces: manager, assembled, not OFFLINE. -/
def arrayUp (s : State) : Bool := s.mode == .manager && s.link.assembled && s.rget Reg.AY_STAT_STATE != 4 && s.hdr?.isSome && s.plat.hold == .none && !s.flushing

/-- The array namespace of a slot. -/
def arrayAt (s : State) (slot : Nat) : Option Namespace :=
  match Table.find s.media.nand.ns slot with
  | some n => if n.array then some n else none
  | none => none

/-- A committed parcel may be destaged into a row (R362): FILLED, the first of its IU, no older one and no destage of the IU in flight; one that a recovery restored waits for the resync (R380). -/
def destagable (s : State) (h : ArrayHeader) (slot row : Nat) (ns : Namespace) (p : Nat) : Bool :=
  let x := s.parcel p
  let same := fun (q : Nat × Parcel) => q.2.slot == x.slot && q.2.iu == x.iu && q.2.state == .filled
  x.state == .filled && x.committed && x.first == p && x.slot == slot + 128 && !(x.restored && s.flag Reg.AY_STAT_RESYNC) && (h.locate (x.iu * ns.parts)).1 == row &&
  !(s.media.parcels.any fun q => same q && decide (q.2.seq < x.seq)) &&
  !(s.link.jobs.any fun j => j.2.slot == slot && j.2.parcels.any fun q => (s.parcel q).iu == x.iu)

/-- New blocks of a destage by data index * 16 + offset, as the link carries them. -/
def destageNews (s : State) (h : ArrayHeader) (ns : Namespace) (ps : List Nat) : Table (List Byte) :=
  (ps.flatMap s.iuParcels).foldl (fun t q =>
    let x := s.parcel q
    let (_, i, o) := h.locate (x.iu * ns.parts + x.part)
    Table.ins t (i * 16 + o) (x.blocks.flatMap cipherBytes)) []

/-- Rows of a region of a namespace (R378). -/
def rowsOfRegion (h : ArrayHeader) (ns : Namespace) (g : Nat) : List Nat :=
  let w := 16 * h.copies
  let lo := g * 256 / w
  let hi := (g * 256 + 255) / w
  ((List.range (hi + 1 - lo)).map (lo + ·)).filter fun r => decide (r < h.rows ns.blocks4k)

/-- Clears a region's bit in every copy of the journal (R379, R380). -/
def clearRegion (s : State) (h : ArrayHeader) (slot : Nat) (ns : Namespace) (g : Nat) : State :=
  let left := (Table.get [] s.arr.dirty slot).filter (· != g)
  let s := ({ s with arr := { s.arr with dirty := Table.put [] s.arr.dirty slot left } }).stampJournal slot [g / 32704]
  match s.journalHolder with
  | some m => s.metaWrite m h slot ns true [(1 + g / 32704, journalBlock (s.journalGen slot (g / 32704)) (g / 32704) left)]
  | none => s

/-- AY_INSPECT after a row of the pass (R377). -/
def inspected (s : State) (h : ArrayHeader) (slot row : Nat) : State :=
  let total := (s.arrayNs.map fun q => h.rows q.2.blocks4k).sum
  let done := ((s.arrayNs.filter fun q => decide (q.1 < slot)).map fun q => h.rows q.2.blocks4k).sum + row + 1
  if total ≤ done then (s.rset Reg.AY_INSPECT_PASS (s.rget Reg.AY_INSPECT_PASS + 1)).rset Reg.AY_INSPECT_DONE_PCT 0
  else s.rset Reg.AY_INSPECT_DONE_PCT (100 * done / max 1 total)

/-- Starts a new Inspection train pass (R377). -/
def inspectNow (s : State) : State :=
  if s.arrayUp then (s.rset Reg.AY_INSPECT_PASS (s.rget Reg.AY_INSPECT_PASS + 1)).rset Reg.AY_INSPECT_DONE_PCT 0 else s

/-- A member is a target for a position (R372): the position's own, once its link has come up again, or its replacement, or the lowest-numbered accepted spare with room. -/
def rebuildTarget (s : State) (h : ArrayHeader) (q : Position) (target : Nat) : Bool :=
  let need := (s.arrayNs.map fun v => volumeBlocks h v.2.blocks4k).sum
  let fits := fun m => match s.memberPort m with | some p => decide (need ≤ (s.bl p).free) | none => false
  if s.present q.member && !s.link.keptUp.contains q.member then target == q.member
  else match ((h.spares.filter fits).mergeSort).head? with
    | some m => m == target
    | none => false

/-- The volumes of the array are made anew on a target (R356, R372). -/
def freshVolumes (s : State) (h : ArrayHeader) (target : Nat) : State :=
  s.arrayNs.foldl (fun s (v : Nat × Namespace) =>
    if target = 0 then
      let keep := s.media.parcels.filter fun p => p.2.slot == v.1 + 128
      let s := s.wipeSlot v.1
      keep.foldl (fun s p => if s.parcel p.1 = p.2 then s else s.setParcel p.1 p.2) s
    else match s.memberPort target with
      | none => s
      | some p =>
        (s.memberCmd p { owner := .none, opcode := 9, volume := v.1 }).memberCmd p
          { owner := .none, opcode := 8, volume := v.1, extra := leBytes 8 (volumeBlocks h v.2.blocks4k) ++ [v.2.iuShift] }) s

end State

/-- DESTAGE (R362, R363, R365, R366): committed parcels of one row go to the members. -/
def execDestage (slot row : Nat) (parcels : List Nat) (s : State) : Result :=
  match s.arrayAt slot, s.hdr? with
  | some ns, some h =>
    if !s.arrayUp || parcels.isEmpty || !(parcels.all fun p => s.destagable h slot row ns p) then .next s
    else .next (s.startAJob { kind := .destage, slot := slot, row := row, parcels := parcels, news := s.destageNews h ns parcels })
  | _, _ => .next s

/-- SLOW_MEMBER (R371): before ready, in resync or during a self-test, a member that does not answer is FAILED. -/
def execSlowMember (m : Nat) (s : State) : Result :=
  let watched := !s.plat.ready || s.flag Reg.AY_STAT_RESYNC || s.adm.selfTest.isSome
  if s.mode != .manager || !watched || m = 0 then .next s
  else match s.posOf m with
    | some pos => .next (s.declareFailed pos 3)
    | none => .next s

/-- A spare that is to take a position is sanitized first (R358); true once it has been. [DESIGN CHOICE, log 52] -/
def State.spareReady (s : State) (h : ArrayHeader) (target : Nat) : State × Bool :=
  if !h.spares.contains target then (s, true)
  else if s.link.spareClean.contains target then ({ s with link := { s.link with spareClean := s.link.spareClean.filter (· != target) } }, true)
  else match s.memberPort target with
    | none => (s, false)
    | some p =>
      let out := (s.bl p).queue.any (fun c => c.owner == .spare target) || (s.bl p).tags.any fun t => t.2.owner == .spare target
      if out then (s, false) else (s.memberCmd p { owner := .spare target, opcode := 0x0A, extra := [4, 0, 0, 0] }, false)

/-- REBUILD_START (R358, R372): a FAILED position becomes REBUILDING on its target, its volumes created anew; a spare is sanitized first. -/
def execRebuildStart (pos target : Nat) (s : State) : Result :=
  match s.hdr? with
  | none => .next s
  | some h =>
    match h.positions[pos]? with
    | none => .next s
    | some q =>
      let busy := h.positions.any fun (x : Position) => x.state == PosState.rebuilding
      if !s.arrayUp || q.state != .failed || busy || !s.rebuildTarget h q target then .next s
      else
        let (s, clean) := s.spareReady h target
        if !clean then .next s
        else
          let s := s.freshVolumes h target
          let st := if s.arrayNs.isEmpty then PosState.online else PosState.rebuilding
          let s := s.modHdr fun h => { h with
            positions := h.positions.set pos ⟨target, s.memberSerial target, st, 0⟩, ckpt := (0, 0), spares := h.spares.filter (· != target) }
          let first := ((s.arrayNs.map (·.1)).head?).getD 0
          let s := ((s.rset Reg.AY_REBUILD_NS first).rset Reg.AY_REBUILD_POSITION pos).rset Reg.AY_REBUILD_TARGET target
          .next ((s.rset Reg.AY_RB_ROW_LO_ROW_LO 0).arrayStat)

/-- REBUILD_ROW (R373, R374): the next row of the rebuild, unless it is paused, its rate is reached or the media error map is full. -/
def execRebuildRow (s : State) : Result :=
  match s.hdr? with
  | none => .next s
  | some h =>
    match (List.range h.n).find? fun j => (h.positions[j]?).any fun (x : Position) => x.state == PosState.rebuilding with
    | none => .next s
    | some pos =>
      let running := s.link.jobs.any fun j => match j.2.kind with | .rebuild _ => true | _ => false
      if !s.arrayUp || s.flag Reg.AY_CTRL_REBUILD_PAUSE || s.flag Reg.AY_STAT_EMAP_FULL || running || decide (s.rebuildLimit h ≤ s.rebuildRate) then .next s
      else match (s.arrayNs.map (·.1)).find? fun v => decide (h.ckpt.1 ≤ v) with
        | none => .next s
        | some slot => .next (s.startAJob { kind := .rebuild pos, slot := slot, row := if slot = h.ckpt.1 then h.ckpt.2 else 0, offs := List.range 16 })

/-- INSPECTION_ROW (R377): one row is checked and repaired; rows with a position that is not ONLINE, and dirty rows not yet resynchronised, are skipped. -/
def execInspectionRow (slot row : Nat) (s : State) : Result :=
  match s.arrayAt slot, s.hdr? with
  | some ns, some h =>
    if !s.arrayUp || h.rows ns.blocks4k ≤ row then .next s
    else
      let dirty := s.flag Reg.AY_STAT_RESYNC && ((Table.get [] s.arr.dirty slot).any fun g => (State.rowsOfRegion h ns g).contains row)
      let s1 := s.inspected h slot row
      if 0 < h.down || dirty then .next s1
      else .next (s1.startAJob { kind := .inspect, slot := slot, row := row, offs := List.range 16 })
  | _, _ => .next s

/-- INSPECT_NOW (R377, R382). -/
def execInspectNow (s : State) : Result := .next s.inspectNow

/-- REGION_CLEAR (R379): a region no command of a destage, rebuild or resync is outstanding on. -/
def execRegionClear (slot g : Nat) (s : State) : Result :=
  match s.arrayAt slot, s.hdr? with
  | some ns, some h =>
    let busy := s.link.jobs.any fun j => j.2.slot == slot && (State.regionsOf j.2 h).contains g
    if !s.arrayUp || busy || s.flag Reg.AY_STAT_RESYNC || !(Table.get [] s.arr.dirty slot).contains g then .next s
    else .next (s.clearRegion h slot ns g)
  | _, _ => .next s

/-- RESYNC (R380): the rows of a dirty region are made consistent; when they are done the region's bit is cleared, and with the last region the resync ends. -/
def execResync (slot g : Nat) (s : State) : Result :=
  match s.arrayAt slot, s.hdr? with
  | some ns, some h =>
    if !s.arrayUp || !s.flag Reg.AY_STAT_RESYNC || !(Table.get [] s.arr.dirty slot).contains g then .next s
    else
      let rows := State.rowsOfRegion h ns g
      let s := match s.link.resyncing with
        | some _ => s
        | none =>
          let s := { s with link := { s.link with resyncing := some (slot, g) } }
          rows.foldl (fun s r =>
            let s := if h.mirror then s else (List.range h.n).foldl (fun s j => if h.online slot r j then s else s.emapAdd slot ⟨r, 1, 2, j, 3⟩) s
            s.startAJob { kind := .recompute, slot := slot, row := r, offs := List.range 16 }) s
      let running := s.link.jobs.any fun j => j.2.slot == slot && rows.contains j.2.row && (match j.2.kind with | .recompute => true | _ => false)
      if running || s.link.resyncing != some (slot, g) then .next s
      else
        let s := ({ s with link := { s.link with resyncing := none } }).clearRegion h slot ns g
        .next (if s.arr.dirty.any fun q => !q.2.isEmpty then s else s.rset Reg.AY_STAT_RESYNC 0)
  | _, _ => .next s

end Sys2Proof.Machine
end

