-- ==== Sys2Proof/Machine/ConfigSpace.lean ====
section
/-! DEFINITION. The configuration space of a port as a read shows it (R247 to R249, R261, R262, R271). Register layouts are those of the PCI Express base specification. [PRESUMED, log 45] -/

namespace Sys2Proof.Machine

namespace State

/-- The bits `lo` to `lo + width - 1` of a dword replaced by a value. -/
def putBits (w : Nat) (f : Nat × Nat × Nat) : Nat := w - bits w f.1 f.2.1 * 2 ^ f.1 + f.2.2 % 2 ^ f.2.1 * 2 ^ f.1

/-- A dword of which the spec gives some fields (lowest bit, width, value); the others are the base specification's, free here. [DESIGN CHOICE, log 45] -/
def cfgOpen (off : Nat) (fs : List (Nat × Nat × Nat)) : Nat := fs.foldl putBits (Config.configBits off).toNat

/-- Place of an error in its AER register. [PRESUMED, log 45] -/
def aerBit : AerError → Nat
  | .receiverError => 0
  | .badTlp => 6
  | .badDllp => 7
  | .replayRollover => 8
  | .replayTimeout => 12
  | .advisoryNonFatal => 13
  | .correctedInternal => 14
  | .headerOverflow => 15
  | .dllProtocol => 4
  | .poisonedTlp => 12
  | .fcProtocol => 13
  | .completionTimeout => 14
  | .completerAbort => 15
  | .unexpectedCompletion => 16
  | .receiverOverflow => 17
  | .malformedTlp => 18
  | .unsupportedRequest => 20
  | .uncorrectableInternal => 22

/-- The errors of one class of a list as the bits of an AER register. -/
def aerWord (l : List AerError) (correctable : Bool) : Nat :=
  (l.filter fun e => AerError.correctable e == correctable).foldl (fun a e => a ||| 2 ^ aerBit e) 0

/-- Speed code of a link in GT/s. -/
def speedCode (g : Nat) : Nat :=
  match g with
  | 2 => 1
  | 5 => 2
  | 8 => 3
  | 16 => 4
  | 32 => 5
  | _ => 6

/-- The Type 0 header of a port (R247, R249). -/
def headerWord (s : State) (p off : Nat) : Nat :=
  let x := s.port p
  match off with
  | 0x00 => 0x1D9A + (if s.xd6408 then 0x6408 else 0x6416) * 2 ^ 16
  | 0x04 => cfgOpen 0x04 [(1, 1, bit x.mse), (2, 1, bit x.bme), (10, 1, bit x.intxDisable), (19, 1, bit (s.ctl p).inta), (20, 1, 1)]
  | 0x08 => 0xA1 + 0x010802 * 2 ^ 8
  | 0x0C => cfgOpen 0x0C [(16, 8, 0)]
  | 0x10 => x.bar0 % 2 ^ 32 + 4
  | 0x14 => x.bar0 / 2 ^ 32
  | 0x18 => if s.paramN .pcieCmbMib = 0 then 0 else x.bar2 % 2 ^ 32 + 0xC
  | 0x1C => if s.paramN .pcieCmbMib = 0 then 0 else x.bar2 / 2 ^ 32
  | 0x20 => if s.rget Reg.GD_STAT_LEVEL = 0 || s.paramN .pcieDiagBarEnable = 1 then x.bar4 % 2 ^ 32 + 4 else 0
  | 0x24 => if s.rget Reg.GD_STAT_LEVEL = 0 || s.paramN .pcieDiagBarEnable = 1 then x.bar4 / 2 ^ 32 else 0
  | 0x2C => s.paramN .pcieSubsysVendorId + s.paramN .pcieSubsysId * 2 ^ 16
  | 0x34 => 0x40
  | 0x3C => cfgOpen 0x3C [(8, 8, 1)]
  | _ => cfgOpen off []

/-- The capabilities below 0x100: Power Management, MSI-X, PCI Express (R246 to R248, R256, R264). -/
def capWord (s : State) (p off : Nat) : Nat :=
  let x := s.port p
  match off with
  | 0x40 => cfgOpen 0x40 [(0, 8, 0x01), (8, 8, 0x50), (16, 3, 3), (25, 2, 0), (27, 5, 0)]
  | 0x44 => cfgOpen 0x44 [(0, 2, if x.d3 then 3 else 0), (3, 1, 1), (8, 1, 0), (15, 1, 0)]
  | 0x50 => 0x11 + 0x70 * 2 ^ 8 + 256 * 2 ^ 16 + bit x.funcMask * 2 ^ 30 + bit x.msixEnable * 2 ^ 31
  | 0x54 => 0x4000
  | 0x58 => 0x6000
  | 0x70 => cfgOpen 0x70 [(0, 8, 0x10), (8, 8, 0), (16, 4, 2), (20, 4, 0)]
  | 0x74 => cfgOpen 0x74 [(0, 3, 2), (28, 1, 1)]
  | 0x78 => cfgOpen 0x78 [(4, 1, bit x.relaxed), (5, 3, x.mps), (12, 3, x.mrrs), (15, 1, 0)]
  | 0x7C => cfgOpen 0x7C [(0, 4, speedCode (s.paramN .pcieMaxSpeedGts)), (4, 6, if s.bifur then 2 else 4), (10, 2, if s.paramN .pcieAspmL1Enable = 1 then 2 else 0), (15, 3, 3)]
  | 0x80 => cfgOpen 0x80 [(0, 2, if x.aspmL1 then 2 else 0), (16, 4, if x.linkUp then speedCode x.speedGts else 0), (20, 6, x.width)]
  | 0x94 => cfgOpen 0x94 [(0, 4, 15), (4, 1, 1), (16, 1, 1), (17, 1, 1)]
  | 0x98 => cfgOpen 0x98 [(0, 4, x.cto), (4, 1, bit x.ctoDisable), (12, 1, bit x.tag10)]
  | _ => cfgOpen off []

/-- The extended capabilities in their chain: offset, identifier, next (R248); IDE, ATS and the others R248 calls absent stand in no place of it. [PRESUMED, log 45] -/
def extCaps : List (Nat × Nat × Nat) :=
  [(0x100, 0x0001, 0x148), (0x148, 0x0003, 0x158), (0x158, 0x0019, 0x178), (0x178, 0x0025, 0x184), (0x184, 0x0026, 0x1B0), (0x1B0, 0x002A, 0x1D8),
    (0x1D8, 0x0031, 0x1E8), (0x1E8, 0x0027, 0x200), (0x200, 0x0018, 0x208), (0x208, 0x001E, 0x218), (0x218, 0x002E, 0x300)]

/-- The extended capabilities below the vendor-specific one (R246, R248, R261, R262). -/
def extWord (s : State) (p off : Nat) : Nat :=
  let x := s.port p
  match off with
  | 0x104 => aerWord x.aerStatus false
  | 0x108 => aerWord x.aerMask false
  | 0x10C => aerWord x.aerFatal false
  | 0x110 => aerWord x.aerStatus true
  | 0x114 => aerWord x.aerMask true
  | 0x118 => cfgOpen 0x118 [(0, 5, match x.headers.head? with | some e => aerBit e | none => 0), (5, 4, 0), (9, 1, 1)]
  | 0x14C => s.sec.serial % 2 ^ 32
  | 0x150 => s.sec.serial / 2 ^ 32
  | 0x210 => cfgOpen 0x210 [(2, 1, bit x.l12), (3, 1, bit x.l11)]
  | _ =>
    match extCaps.find? fun q => q.1 == off with
    | some q => cfgOpen off [(0, 16, q.2.1), (20, 12, q.2.2)]
    | none => cfgOpen off []

/-- VSEC registers of a port at their offsets from 0x300 (R271). [PRESUMED, log 45] -/
def vsecWord (s : State) (p off : Nat) : Nat :=
  let x := s.port p
  match off with
  | 0x00 => 0x0001000B
  | 0x04 => 0x01C10001
  | 0x08 => x.quarantine.length % 1024 + x.timeouts * 2 ^ 16
  | 0x0C => x.late + x.afterReset * 2 ^ 16
  | 0x10 => x.misses + x.poisonDrop * 2 ^ 16
  | 0x14 => x.flrDuration + x.flrSilence * 2 ^ 16
  | 0x18 =>
    let g := s.paramN .pcieMaxSpeedGts
    (if g = 8 then 2 else if g = 16 then 3 else if g = 32 then 4 else 5) + bit x.flit * 2 ^ 3 + x.retrains * 2 ^ 8 + x.replays * 2 ^ 16
  | _ => 0

/-- A read of a VSEC register clears its RC fields. -/
def vsecCleared (s : State) (p off : Nat) : State :=
  match off with
  | 0x08 => s.modPort p fun x => { x with timeouts := 0 }
  | 0x0C => s.modPort p fun x => { x with late := 0, afterReset := 0 }
  | 0x10 => s.modPort p fun x => { x with misses := 0, poisonDrop := 0 }
  | 0x18 => s.modPort p fun x => { x with retrains := 0, replays := 0 }
  | _ => s

/-- A dword of a port's configuration space (R247, R248, R271). -/
def configWord (s : State) (p off : Nat) : Nat :=
  if off < 0x40 then s.headerWord p off else if off < 0x100 then s.capWord p off else if off < 0x300 then s.extWord p off else s.vsecWord p (off - 0x300)

end State

end Sys2Proof.Machine
end

