-- ==== Sys2Proof/Machine/Registers.lean ====
section
/-! DEFINITION. Reading and writing the vendor registers as software does: access codes and locks (R10), the actions of writes, the values shown on reads, and the window layout (R506). -/

namespace Sys2Proof.Machine

/-- The state a row leaves. -/
def leaves (r : Result) (s : State) : State := match r with | .next t => t | _ => s

/-- The field that locks the RWL fields of the register at an offset (R56, R80, R110, R131, R167, R242, R351, R382, R407, R426, R489). [DEDUCED, log 18] -/
def lockOf (off : Nat) : Field :=
  if off < 0x1000 then Reg.TT_CTRL_LOCK
  else if off < 0x2000 then Reg.LD_CTRL_LOCK
  else if off < 0x3000 then Reg.FT_CTRL_LOCK
  else if off < 0x4000 then Reg.AE_CTRL_LOCK
  else if off < 0x5000 then Reg.BL_CTRL_LOCK
  else if off < 0x6000 then Reg.AY_CTRL_LOCK
  else if off < 0x8000 then Reg.MC_CTRL_LOCK
  else if off < 0x9000 then Reg.CE_CTRL_LOCK
  else if off < 0x10000 then Reg.TH_CTRL_LOCK
  else if off < 0x19000 then Reg.SB_GLOBAL_LOCK
  else Reg.SB_CS_CTRL_LOAD_LOCK

namespace State

/-- Registers that are absent: those of channels 8 to 15 and Branch ports 1 to 5 of the XD6408, and the AY_ registers outside manager mode (R80, R351, R382). [DEDUCED, log 18] -/
def absentReg (s : State) (off : Nat) : Bool :=
  (s.xd6408 && (decide (0x180 ≤ off ∧ off < 0x200) || decide (0x18200 ≤ off ∧ off < 0x18400) || decide (0x19200 ≤ off ∧ off < 0x19400) || decide (0x4140 ≤ off ∧ off < 0x4280))) ||
  (decide (0x5000 ≤ off ∧ off < 0x6000) && s.mode != .manager)

/-- What a write of a register stores in one field (R10): `v` is the value written to the register. [DEDUCED, log 18] -/
def writeField (s : State) (locked : Bool) (v : Nat) (f : Field) : State :=
  let x := bits v f.lo f.width
  match f.access with
  | .rw => s.rset f (f.clip.apply x)
  | .rwl => if locked then s else s.rset f (f.clip.apply x)
  | .w1c => s.rset f (s.rget f &&& (2 ^ f.width - 1 - x))
  | .ro | .wo | .rc | .gd => s

/-- Stores a written value in the fields of a register, by their access codes. [DEDUCED, log 18] -/
def writeFields (s : State) (off v : Nat) : State :=
  let locked := s.flag (lockOf off)
  (Reg.all.filter fun f => f.off == off).foldl (fun s f => s.writeField locked v f) s

/-- A write of TT_CTRL (R32, R56): ENABLE starts planning when every channel's layout fits; 0 stops it. -/
def writeTtCtrl (s : State) (v : Nat) : State :=
  if s.flag Reg.TT_CTRL_LOCK then s
  else
    let on := s.rget Reg.TT_CTRL_ENABLE
    let s := if v % 2 = 1 then leaves (execTtEnable s) s else (s.rset Reg.TT_CTRL_ENABLE 0).rset Reg.TT_STATUS_RUNNING 0
    let on := if v % 2 = 1 then max on (s.rget Reg.TT_CTRL_ENABLE) else 0
    (s.writeFields 0 v).rset Reg.TT_CTRL_ENABLE on

/-- A write of SB_CS_CTRL (R109): BCAST, BOX and LOAD_LOCK are stored, then WRITE or READ acts. [DEDUCED, log 18] -/
def writeCsCtrl (s : State) (off v : Nat) : State :=
  let locked := s.flag Reg.SB_CS_CTRL_LOAD_LOCK
  let t := (s.writeFields off v).rset Reg.SB_CS_CTRL_LOAD_LOCK (bit locked)
  let t := if bits v 0 1 = 1 && !locked then leaves (execCsWrite (t.flag Reg.SB_CS_CTRL_BCAST) (t.rget Reg.SB_CS_CTRL_BOX) t) t else t
  let t := if bits v 1 1 = 1 then leaves (execCsRead (t.rget Reg.SB_CS_CTRL_BOX) t) t else t
  if bits v 8 1 = 1 then leaves (execLoadLock t) t else t

/-- A write of DP_CMD (R464, R471): the register write names no bank of the writing core's program counter; DEPOT_PROGRAM and DEPOT_ERASE do. [DEDUCED, log 20] -/
def writeDpCmd (s : State) (v : Nat) : State :=
  if v % 4 = 1 then s.depotCommand (s.coreOp false) none else if v % 4 = 2 then s.depotCommand (s.coreOp true) none else s

/-- A write of FG_LANE_CTRL (R509): RUN starts or stops the lane test. -/
def writeLaneCtrl (s : State) (v : Nat) : State :=
  let run := s.flag Reg.FG_LANE_CTRL_RUN
  if bits v 8 1 = 1 && !run then s.laneStart (bits v 0 2) (bits v 2 3)
  else if bits v 8 1 = 0 && run then ((s.laneStop.rset Reg.FG_LANE_CTRL_LOOP (Reg.FG_LANE_CTRL_LOOP.clip.apply (bits v 0 2))).rset Reg.FG_LANE_CTRL_PATTERN (bits v 2 3))
  else (s.rset Reg.FG_LANE_CTRL_LOOP (Reg.FG_LANE_CTRL_LOOP.clip.apply (bits v 0 2))).rset Reg.FG_LANE_CTRL_PATTERN (bits v 2 3)

/-- A 32-bit write of a register in the diagnostic window (R10, R506), with the action the register's rule states. -/
def writeReg (s : State) (off v : Nat) : State :=
  let v := v % 2 ^ 32
  if s.absentReg off then s
  else if off = 0x0 then s.writeTtCtrl v
  else if off = 0x18 then leaves (execTtBudgetEffWrite (bits v 0 9) (bits v 16 8) s) s
  else if off = 0x2008 then s.rset Reg.FT_DIRTY_LIMIT (min (bits v 0 17) (s.rget Reg.FT_DIRTY_MAX_TENDER_MAX))
  else if off = 0x2060 then (if v % 2 = 1 then s.startRepeat else s)
  else if off = 0x5000 then (let t := s.writeFields off v; if bits v 2 1 = 1 then t.inspectNow else t)
  else if off = 0x7008 then leaves (execSegInval (bits v 0 15) s) s
  else if 0x7040 ≤ off && off < 0x7048 then leaves (execFlipMaskArm ((off - 0x7040) / 4) (BitVec.ofNat 32 v) s) s
  else if 0x7050 ≤ off && off < 0x7070 then leaves (execFlipMaskArm (2 + (off - 0x7050) / 4) (BitVec.ofNat 32 v) s) s
  else if off = 0xA010 then s.writeDpCmd v
  else if off = 0xA01C then s.protectSector (bits v 0 12)
  else if off = 0xD004 then s.armPcie (bits v 0 1) (bits v 1 2) (bits v 8 8) (bits v 16 16)
  else if off = 0xD008 then s.armBl (bits v 0 3) (bits v 3 3) (bits v 8 8) (bits v 16 16)
  else if off = 0xD010 then s.armNand (bits v 0 2) (bits v 2 2) (bits v 8 8) (bits v 16 16)
  else if off = 0xD024 then s.writeLaneCtrl v
  else if 0x19000 ≤ off && off < 0x19400 && off % 64 == 0 then
    (let t := s.writeFields off v; if v % 2 = 1 then leaves (execSbRestart ((off - 0x19000) / 64) t) t else t)
  else if off = 0x1941C then s.writeCsCtrl off v
  else if off = 0x19420 then
    (let t := s.writeFields off v; if bits v 10 1 = 1 then leaves (execTableWrite (bits v 0 10) t) t else t)
  else s.writeFields off v

/-! Values shown on a read. -/

/-- TT_DIE_STATE of a die (R56). -/
def dieStateWord (s : State) (d : Nat) : Nat :=
  let x := s.die d
  x.state.code + min 255 x.suspCount * 2 ^ 4 + min 255 x.span * 2 ^ 12 + bit (decide (s.flash.tick < x.protectedTo)) * 2 ^ 20 +
  bit x.draining * 2 ^ 21 + bit x.exhausted * 2 ^ 22 + bit x.nonExpress * 2 ^ 23 + min 7 x.expInflight * 2 ^ 24

/-- The descriptor or dispatch entry that TABLE_SEL.INDEX names, as TABLE_LO and TABLE_HI show it; of the Gwynon ones zero at levels 1 and 2 (R109). -/
def tableEntry (s : State) : Nat :=
  let i := s.rget Reg.SB_TABLE_SEL_INDEX
  if s.rget Reg.GD_STAT_LEVEL != 0 && decide (i % 512 < 384) then 0
  else if i < 512 then (Table.get (0#64) s.flash.descs i).toNat else (Table.get (0#16) s.flash.dispatch (i - 512)).toNat

/-- LD_TBL_DATA: the selected offset group or SLC offset (R118, R119); a table's threshold count is that of its record, which has 36 rows. -/
def tableData (s : State) : Nat :=
  let k := s.rget Reg.LD_TBL_SEL_PROFILE
  let band := s.rget Reg.LD_TBL_SEL_BAND
  let row := s.rget Reg.LD_TBL_SEL_ROW
  let t := match s.rb.getBytes (.offsets k) with | some bs => bs.length / 36 | none => 0
  if 8 < row then 0
  else if s.flag Reg.LD_TBL_SEL_SLC then unsigned (s.slcOffsetOf k band row) 8
  else (s.offsetGroup k t band row (s.rget Reg.LD_TBL_SEL_GROUP) 0).toNat

/-- FT_GRP_STAT of a die group (R147, R164). -/
def groupStat (s : State) (g : Nat) : Nat :=
  if s.groupCount ≤ g then 0
  else
    let mine := (s.media.nand.sbs.map (·.2)).filter fun b => b.group == g
    min 63 (s.groupDies g).length + min 63 (mine.filter fun b => b.state == .open_).length * 2 ^ 6 +
    min 63 (mine.filter fun b => b.state == .closed).length * 2 ^ 12 + min 4095 (s.freeMin g) * 2 ^ 18 +
    bit (decide (s.freeMin g < s.paramN .translationSidingsLow)) * 2 ^ 30 + bit (s.closedToNew g) * 2 ^ 31

/-- FT_GC_STAT of a die group (R169 to R176). -/
def gcStat (s : State) (g : Nat) : Nat :=
  if s.groupCount ≤ g then 0
  else
    let x := s.grp g
    (if x.victim.isSome then x.source % 8 else 0) + bit (decide (s.freeMin g < s.paramN .shuntingStartFree)) * 2 ^ 3 +
    bit (decide (s.freeMin g < s.paramN .shuntingUrgentFree)) * 2 ^ 4 + bit (x.hostWait || s.waitsMeta g || (x.openWait && !s.mayOpen g (.host 0))) * 2 ^ 5 +
    min 255 (x.debt / 1000000) * 2 ^ 8 + min 4095 (x.queue.filter (·.1 != 1)).length * 2 ^ 20

/-- FT_SPARE_STAT of a die group (R186). -/
def spareStat (s : State) (g : Nat) : Nat :=
  if s.groupCount ≤ g then 0 else min 8191 (s.goodMin g) + min 8191 (s.reqBlocks g) * 2 ^ 16

/-- The engine entry that holds the unit AE_DIAG_SEL names, with the unit's place in it. -/
def diagEntry (s : State) : Option (AeEntry × Nat) :=
  let b := s.rget Reg.AE_DIAG_SEL_BANK
  let w := max 1 (s.bankWidth b)
  let u := s.rget Reg.AE_DIAG_SEL_UNIT
  if 24 ≤ b then none else (Table.find s.ae.entries (b * 4096 + u / w * w)).map fun e => (e, u % w)

/-- The selected unit's value or care mask. -/
def diagUnit (s : State) : Nat :=
  match s.diagEntry with
  | some (e, i) => ((if s.flag Reg.AE_DIAG_SEL_CARE then e.care else e.value).getD i 0).toNat
  | none => 0

/-- AE_DIAG_INFO (R222, R238). -/
def diagInfo (s : State) : Nat :=
  match s.diagEntry with
  | some (e, _) => bit e.valid + (if s.rget Reg.AE_DIAG_SEL_BANK < 8 then 0 else e.pin % 65536 * 2 ^ 16)
  | none => 0

/-- BL_ELOG_DATA (R347, R351). -/
def elogWord (s : State) : Nat :=
  match s.link.errors[s.rget Reg.BL_ELOG_SEL_ENTRY]? with
  | some e => fromLe (((blErrorBytes e).drop (4 * s.rget Reg.BL_ELOG_SEL_WORD)).take 4)
  | none => 0

/-- DP_SECT_INFO (R463). -/
def sectorInfo (s : State) : Nat :=
  let n := Table.get 0 s.sec.erases (s.rget Reg.DP_SECT_SEL_SECTOR)
  min 65535 n + bit (decide (10000 < n)) * 2 ^ 16

/-- TH_SENS (R472, R473). -/
def sensWord (s : State) : Nat :=
  let i := s.rget Reg.TH_SENS_SEL_INPUT
  if 18 ≤ i then 0
  else
    let x := s.tempIn i
    unsigned x.reading 8 + bit (s.tempEnabled i) * 2 ^ 8 + bit (x.broken != .none) * 2 ^ 9 + BrokenCause.num x.broken * 2 ^ 10 + unsigned x.top 8 * 2 ^ 16

/-- SB_TRACE_DATA of a box. -/
def traceWord (s : State) (ch : Nat) : Nat :=
  match Table.find (s.box ch).trace (s.rget (Reg.SB_TRACE_CTRL_RD_IDX ch)) with
  | some (pc, st, t) => pc % 2 ^ 13 + st % 256 * 2 ^ 13 + t % 2048 * 2 ^ 21
  | none => 0

/-- SB_CH_TRIM of a channel (R69). -/
def trimWord (s : State) (ch : Nat) : Nat :=
  match Table.find (s.ceCal ch (s.rget (Reg.SB_CH_TRIM_SEL_CE ch))).trims (s.rget (Reg.SB_CH_TRIM_SEL_ITEM ch)) with
  | some (v, m) => v % 256 + m % 256 * 2 ^ 8
  | none => 0

/-- SB_DIE_ISOL_MAP of a channel. -/
def isolMap (s : State) (ch : Nat) : Nat := ((List.range 32).map fun i => if (s.die (32 * ch + i)).isol = 0 then 0 else 2 ^ i).sum

/-- Rebuild checkpoint row (R373). -/
def ckptRow (s : State) : Nat := match s.hdr? with | some h => h.ckpt.2 | none => 0

/-- A word of the die table (R65). -/
def dieTableWord (s : State) (off : Nat) : Nat := bits (s.die ((off - 0x1C000) / 32)).entry.toNat (off % 32 / 4 * 32) 32

/-- A byte the Depot aperture shows (R470, R506). -/
def apertureWord (s : State) (off : Nat) : Nat :=
  let a := s.rget Reg.FG_DEPOT_PAGE_PAGE * 0x40000 + (off - 0x20000)
  fromLe ((List.range 4).map fun i => s.apertureByte (a + i))

/-- The stored fields of a register as a read returns them: a WO field reads zero (R10). -/
def storedWord (s : State) (off : Nat) : Nat :=
  ((Reg.all.filter fun f => f.off == off && f.access != .wo).map fun f => s.rget f * 2 ^ f.lo).sum

/-- Registers whose value is that of other state; none for a stored register. -/
def viewWord (s : State) (off : Nat) : Option Nat :=
  if off = 0x8 then some s.flash.tick
  else if off = 0x30 then some (s.dieStateWord (s.rget Reg.TT_DIE_SEL_DIE))
  else if off = 0x1034 then some s.tableData
  else if off = 0x2014 then some (s.media.durable - 1)
  else if off = 0x2034 then some (s.groupStat (s.rget Reg.FT_GRP_SEL_GROUP))
  else if off = 0x2040 then some (s.gcStat (s.rget Reg.FT_GRP_SEL_GROUP))
  else if off = 0x205C then some (s.spareStat (s.rget Reg.FT_GRP_SEL_GROUP))
  else if off = 0x3038 then some s.diagUnit
  else if off = 0x303C then some (s.diagUnit / 2 ^ 32)
  else if off = 0x3040 then some s.diagInfo
  else if off = 0x4004 then some (s.storedWord off + (if !s.flag Reg.BL_CTRL_ENABLE then 0 else match s.mode with | .manager => 1 | .worker => 2 | _ => 0))
  else if off = 0x400C then some s.elogWord
  else if off = 0x500C then some s.ckptRow
  else if off = 0x5018 then some (min 65535 s.rebuildRate)
  else if off = 0x8010 then some s.sec.nonce
  else if off = 0x9040 then some s.sec.clockMs
  else if off = 0xA024 then some (((List.range 32).map fun i => if s.sec.wp.contains (32 * s.rget Reg.DP_WP_SEL_GROUP + i) then 2 ^ i else 0).sum)
  else if off = 0xA02C then some s.sectorInfo
  else if off = 0xB00C then some s.sensWord
  else if off = 0xD000 then some (bit s.gateAny + s.rget Reg.FG_STAT_DENIED * 2 + s.rget Reg.FG_STAT_DISARMED * 4)
  else if off = 0xE004 then some s.domainStat
  else if 0x18000 ≤ off && off < 0x18400 && off % 64 == 0x18 then some (s.trimWord ((off - 0x18000) / 64))
  else if 0x18000 ≤ off && off < 0x18400 && off % 64 == 0x1C then some (s.isolMap ((off - 0x18000) / 64))
  else if 0x19000 ≤ off && off < 0x19400 && off % 64 == 0x18 then some (s.traceWord ((off - 0x19000) / 64))
  else if off = 0x19424 then some s.tableEntry
  else if off = 0x19428 then some (s.tableEntry / 2 ^ 32)
  else if 0x1C000 ≤ off && off < 0x20000 then some (s.dieTableWord off)
  else if 0x20000 ≤ off && off < 0x60000 then some (s.apertureWord off)
  else none

/-- The value a read returns. -/
def readValue (s : State) (off : Nat) : Nat :=
  if s.absentReg off then 0 else ((s.viewWord off).getD (s.storedWord off)) % 2 ^ 32

/-- What a read does beside returning the value: RC fields clear, the low word of a pair latches the high one (R10, R56, R167, R382, R426, R454). [DEDUCED, log 18] -/
def afterRead (s : State) (off : Nat) : State :=
  if s.absentReg off then s
  else if off = 0x8 then s.rset Reg.TT_TICK_HI_COUNT_HI (s.flash.tick / 2 ^ 32)
  else if off = 0x2014 then s.rset Reg.FT_JRNL_HI_DURABLE_HI ((s.media.durable - 1) / 2 ^ 32)
  else if off = 0x500C then s.rset Reg.AY_RB_ROW_HI_ROW_HI (s.ckptRow / 2 ^ 32)
  else if off = 0x8010 then s.rset Reg.CE_NONCE_HI_COUNT_HI (s.sec.nonce / 2 ^ 32)
  else if off = 0x9040 then s.rset Reg.SC_TIME_HI_MS_HI (s.sec.clockMs / 2 ^ 32)
  else (Reg.all.filter fun f => f.off == off && f.access == .rc).foldl (fun s f => s.rset f 0) s

/-- A software read of the register at an offset: 0x0 to 0xFFFFF the diagnostic window, from 0x100000 and 0x101000 on the configuration space of port A and port B. -/
def readReg (s : State) (off : Nat) : State × Nat :=
  if off < 0x100000 then (s.afterRead off, s.readValue off)
  else
    let p := (off - 0x100000) / 0x1000
    let o := off % 0x1000
    if !s.ctlList.contains p || (s.port p).inReset then (s, 0)
    else (if o < 0x300 then s else s.vsecCleared p (o - 0x300), s.configWord p o)

/-- Reads a register and reports the value; a configuration request during a function reset completes with Request Retry Status (R267). -/
def readOut (s : State) (off : Nat) : State :=
  if !s.alive then s
  else if 0x100000 ≤ off && (s.port ((off - 0x100000) / 0x1000)).flr then s.emit (.cpl ((off - 0x100000) / 0x1000) 2 [])
  else
    let (t, v) := s.readReg off
    t.emit (.readData off (BitVec.ofNat 32 v))

end State

/-- REGISTER_WRITE (R10, R506): an application core's 32-bit write. [DEDUCED, log 7] -/
def execRegisterWrite (off : Nat) (v : Word) (s : State) : Result :=
  if s.alive then .next (s.writeReg off v.toNat) else .next s

/-- READ_CLEAR (R10): a read returns the value and clears the RC fields. [DEDUCED, log 7] -/
def execReadClear (off : Nat) (s : State) : Result := .next (s.readOut off)

/-- JRNL_LO_READ (R167): the low half of the durable sequence; the high half is latched. -/
def execJrnlLoRead (s : State) : Result := .next (s.readOut 0x2014)

/-- NONCE_LO_READ (R426): the low half of the nonce counter; the high half is latched. -/
def execNonceLoRead (s : State) : Result := .next (s.readOut 0x8010)

/-- RB_ROW_LO_READ (R382): the low half of the rebuild checkpoint row; the high half is latched. -/
def execRbRowLoRead (s : State) : Result := .next (s.readOut 0x500C)

end Sys2Proof.Machine
end

