-- ==== Sys2Proof/Machine/Pcie.lean ====
section
/-! DEFINITION. Meanings of the PCI Express rows (chapter 10): links, configuration writes, inbound memory requests, completions of the device's reads. -/

namespace Sys2Proof.Machine

/-- The errors of R261 by number, as the rows name them. -/
def aerErrors : List AerError :=
  [.receiverError, .badTlp, .badDllp, .replayRollover, .replayTimeout, .advisoryNonFatal, .correctedInternal, .headerOverflow, .dllProtocol, .fcProtocol,
   .receiverOverflow, .malformedTlp, .poisonedTlp, .completionTimeout, .unexpectedCompletion, .unsupportedRequest, .completerAbort, .uncorrectableInternal]

/-- Adds or removes an element of a list of errors. -/
def setErr (l : List AerError) (e : AerError) (on : Bool) : List AerError := if on then (if l.contains e then l else l ++ [e]) else l.filter (· != e)

/-- The little-endian 32-bit words of a run of bytes at a dword-aligned offset; a last part shorter than a dword is none. -/
def dwords : Nat → List Byte → List (Nat × Nat)
  | o, a :: b :: c :: d :: t => (o, a.toNat + b.toNat * 2 ^ 8 + c.toNat * 2 ^ 16 + d.toNat * 2 ^ 24) :: dwords (o + 4) t
  | _, _ => []

namespace State

/-- The port exists and takes TLPs: out of reset, link up and in L0. -/
def rxOk (s : State) (p : Nat) : Bool :=
  let x := s.port p
  s.ctlList.contains p && !x.inReset && x.linkUp && x.l1 == 0 && s.alive

/-- Widths a port offers (R244). -/
def portWidths (s : State) : List Nat := if s.bifur then [1, 2] else [1, 2, 4]

/-- BAR4/5 is implemented (R250). -/
def bar4Present (s : State) : Bool := s.rget Reg.GD_STAT_LEVEL == 0 || s.paramN .pcieDiagBarEnable == 1

/-- Size of the Controller Memory Buffer in bytes (R249). -/
def cmbSize (s : State) : Nat := s.paramN .pcieCmbMib * 2 ^ 20

/-- Writes one 32-bit half of a base address register: only the bits above its size are stored (R249). -/
def writeBar (old size : Nat) (high : Bool) (v : Nat) : Nat :=
  if high then old % 2 ^ 32 + v % 2 ^ 32 * 2 ^ 32 else (old / 2 ^ 32 * 2 ^ 32 + v % 2 ^ 32) / size * size

/-- A function reset begins (R267, R268): TLPs and fetching stop, configuration space returns to its reset values. -/
def startFlr (s : State) (p : Nat) : State :=
  if (s.port p).flr then s else (s.resetFunction p).modPort p fun x => { x with flr := true }

/-- The link retrains, counted in VSEC_LINK.RETRAINS (R261, R271). -/
def retrainPcie (s : State) (p : Nat) : State := s.modPort p fun x => { x with retrains := min 255 (x.retrains + 1) }

/-- The link replays, counted in VSEC_LINK.REPLAYS. -/
def replayPcie (s : State) (p : Nat) : State := s.modPort p fun x => { x with replays := min 65535 (x.replays + 1) }

/-- A memory TLP that hits no window (R253). -/
def windowMiss (s : State) (p : Nat) : State :=
  (s.aer p .unsupportedRequest).modPort p fun x => { x with misses := min 65535 (x.misses + 1) }

/-- The window a memory TLP hits and its offset there (R251): 0 BAR0, 2 the buffer, 4 the diagnostic window; all bytes lie in the window of the first. -/
def window (s : State) (p addr len : Nat) : Option (Nat × Nat) :=
  let x := s.port p
  let fits := fun base size => decide (base ≤ addr ∧ addr + len ≤ base + size)
  if !x.mse || x.d3 || x.flr then none
  else if fits x.bar0 0x8000 then some (0, addr - x.bar0)
  else if 0 < s.cmbSize && x.cre && fits x.bar2 s.cmbSize then some (2, addr - x.bar2)
  else if s.bar4Present && fits x.bar4 0x100000 then some (4, addr - x.bar4)
  else none

/-- The address of a doorbell: queue, and whether it is the completion head (R249). -/
def doorbell (off : Nat) : Option (Nat × Bool) :=
  if 0x1000 ≤ off && off < 0x1808 && off % 4 == 0 then some ((off - 0x1000) / 8, (off - 0x1000) % 8 == 4) else none

/-- A write of CC (R274, R275, R298). -/
def writeCc (s : State) (k v : Nat) : State :=
  let css := bits v 4 3
  let mps := bits v 7 4
  let ams := bits v 11 3
  let shn := bits v 14 2
  let c := s.ctl k
  let s := if bits v 0 1 = 1 then leaves (execCcEnable k css mps ams s) s
    else if c.en then leaves (execControllerReset k s) s
    else s.modCtl k fun c => { c with css := css, mps := mps, ams := ams }
  if shn = 1 then leaves (execNormalShutdown k s) s else if shn = 2 then leaves (execAbruptShutdown k s) s else s

/-- A dword of an MSI-X table entry is written (R256, R258); a vector no longer masked sends its pending message (R257). -/
def writeMsix (s : State) (p vector dword v : Nat) : State :=
  let w := BitVec.ofNat 32 v
  if 257 ≤ vector then s
  else
    (s.modMsix p vector fun e =>
      match dword with
      | 0 => { e with addrLo := w }
      | 1 => { e with addrHi := w }
      | 2 => { e with data := w }
      | _ => { e with control := w &&& 1#32 }).sendPending p

/-- A 32-bit write to BAR0 (R249, R273). -/
def writeBar0 (s : State) (k off v : Nat) : State :=
  match doorbell off with
  | some (q, head) => if head then leaves (execCqHeadDoorbell k q (v % 2 ^ 16) s) s else leaves (execSqTailDoorbell k q (v % 2 ^ 16) s) s
  | none =>
    if 0x4000 ≤ off && off < 0x5010 then s.writeMsix k ((off - 0x4000) / 16) (off % 16 / 4) v
    else match off with
    | 0x0C => leaves (execIntmsWrite k (BitVec.ofNat 32 v) s) s
    | 0x10 => leaves (execIntmcWrite k (BitVec.ofNat 32 v) s) s
    | 0x14 => s.writeCc k v
    | 0x24 => s.modCtl k fun c => { c with asqs := bits v 0 12, acqs := bits v 16 12 }
    | 0x28 => s.modCtl k fun c => { c with asq := c.asq / 2 ^ 32 * 2 ^ 32 + v / 4096 * 4096 }
    | 0x2C => s.modCtl k fun c => { c with asq := c.asq % 2 ^ 32 + v * 2 ^ 32 }
    | 0x30 => s.modCtl k fun c => { c with acq := c.acq / 2 ^ 32 * 2 ^ 32 + v / 4096 * 4096 }
    | 0x34 => s.modCtl k fun c => { c with acq := c.acq % 2 ^ 32 + v * 2 ^ 32 }
    | 0x50 => s.modPort k fun x => { x with cre := bits v 0 1 == 1, cmse := bits v 1 1 == 1, cba := x.cba / 2 ^ 32 * 2 ^ 32 + v / 4096 * 4096 }
    | 0x54 => s.modPort k fun x => { x with cba := x.cba % 2 ^ 32 + v * 2 ^ 32 }
    | _ => s

/-- A 32-bit read of BAR0 (R249, R256, R273). [DEDUCED, log 44] -/
def readBar0 (s : State) (k off : Nat) : Nat :=
  let c := s.ctl k
  let x := s.port k
  if (doorbell off).isSome then fromLe ((List.range 4).map fun i => (Config.openByte 0x1000 (off + i) s.free).toNat)
  else if 0x4000 ≤ off && off < 0x5010 then
    let e := s.msixEntry k ((off - 0x4000) / 16)
    (match off % 16 / 4 with | 0 => e.addrLo | 1 => e.addrHi | 2 => e.data | _ => e.control).toNat
  else if 0x6000 ≤ off && off < 0x6028 then
    ((List.range 32).map fun i => if (s.msixEntry k ((off - 0x6000) * 8 + i)).pending then 2 ^ i else 0).sum
  else match off with
  | 0x00 => 0x3C03FFFF
  | 0x04 => 0x02400020
  | 0x08 => 0x00020000
  | 0x0C | 0x10 => bit c.intMask
  | 0x14 => bit c.en + c.css * 2 ^ 4 + c.mps * 2 ^ 7 + c.ams * 2 ^ 11 + c.shn * 2 ^ 14 + 6 * 2 ^ 16 + 4 * 2 ^ 20
  | 0x1C => bit c.rdy + bit c.cfs * 2 + c.shst * 2 ^ 2 + bit c.pp * 2 ^ 5
  | 0x24 => c.asqs + c.acqs * 2 ^ 16
  | 0x28 => c.asq % 2 ^ 32
  | 0x2C => c.asq / 2 ^ 32
  | 0x30 => c.acq % 2 ^ 32
  | 0x34 => c.acq / 2 ^ 32
  | 0x38 => if s.cmbSize = 0 then 0 else 2
  | 0x3C => if s.cmbSize = 0 then 0 else 0x21F + s.paramN .pcieCmbMib * 2 ^ 12
  | 0x50 => bit x.cre + bit x.cmse * 2 + x.cba % 2 ^ 32
  | 0x54 => x.cba / 2 ^ 32
  | 0x68 => 60 + 60 * 2 ^ 16
  | _ => 0

/-- The bytes of a register read that covers `len` bytes from an offset, taken from its dwords. -/
def wordsBytes (rd : Nat → Nat) (off len : Nat) : List Nat := (List.range len).map fun i => bits (rd ((off + i) / 4 * 4)) ((off + i) % 4 * 8) 8

/-- The dwords a request of `len` bytes from an offset touches. -/
def dwordsOf (off len : Nat) : List Nat := (List.range ((off % 4 + len + 3) / 4)).map fun i => off / 4 * 4 + 4 * i

/-- Contexts of a port that still want host data ask again when a tag is free (R266). -/
def moreReads (s : State) (p : Nat) : State :=
  (s.ctxsOf p).foldl (fun s n => match s.ctx n with | some c => if 0 < c.hostWant then issueReads p n 4096 s else s | none => s) s

/-- A completion on a tag with no request (R266); the controller's Error Information gets an entry (R308), here with submission queue 65536, which no command has. -/
def unexpected (s : State) (p : Nat) : State :=
  let s := (s.aer p .unexpectedCompletion).modPort p fun x => { x with late := min 65535 (x.late + 1) }
  s.modCtl p fun x => { x with errCount := x.errCount + 1, errLog := ((x.errCount + 1, 65536, 0, stOk) :: x.errLog).take 256 }

/-- A completion's data reaches the command that owns the request (R260, R263, R300). -/
def takeCompletion (s : State) (p tag len : Nat) (poisoned : Bool) (list : PtrCheck) : State :=
  match Table.find (s.port p).reads tag with
  | none => s
  | some r =>
    let all := decide (r.want ≤ r.got + len)
    let s := s.modPort p fun x => { x with
      reads := if all then Table.del x.reads tag else Table.ins x.reads tag { r with got := r.got + len, held := false, kept := 0, poison := false } }
    let s := if poisoned then (s.aer p .poisonedTlp).modPort p fun x => { x with poisonDrop := min 65535 (x.poisonDrop + 1) } else s
    let s := match r.ctx with
      | none => s
      | some n =>
        if poisoned then s.failCtx n ⟨0, 0x04, false⟩
        else match ptrStatus list with
        | some st => s.failCtx n st
        | none => s
    s.moreReads p

/-- PERST_N on a port (R255, R262, R270, R271): everything of the port but the tags in quarantine and the stale reads. -/
def perstPort (s : State) (p : Nat) : State :=
  (s.resetFunction p).modPort p fun x => { quarantine := x.quarantine, stale := x.stale, inReset := true }

/-- Ports that are released let their links train (R496). -/
def releaseLinks (s : State) : State :=
  if s.plat.perst || !s.plat.linksReleased || !(s.mode == .standalone || s.mode == .manager) then s
  else s.ctlList.foldl (fun s p => s.modPort p fun x => { x with inReset := false }) s

end State

/-- PERST_N_ASSERT (R244, R270, R421, R496): both ports are reset, the Locking rows that name a hardware reset lock; no effect on a worker's endpoint or in the strap-fault state beyond the ball's level. -/
def execPerstNAssert (s : State) : Result :=
  let t : State := ({ s with plat := { s.plat with perst := true } }).lockOnReset [1]
  if s.plat.perst || !(s.mode == .standalone || s.mode == .manager) then .next t
  else .next (t.ctlList.foldl (fun s p => if (s.port p).inReset then s else s.perstPort p) t)

/-- PERST_N_DEASSERT (R496). -/
def execPerstNDeassert (s : State) : Result := .next ({ s with plat := { s.plat with perst := false } }).releaseLinks

/-- LINK_TRAINING_START (R496): a released port begins to train. -/
def execLinkTrainingStart (p : Nat) (s : State) : Result :=
  if !s.ctlList.contains p || (s.port p).inReset || (s.port p).linkUp || !s.alive || s.laneTested false p then .next s
  else .next (s.modPort p fun x => { x with training := true })

/-- PCIE_LINK_UP (R244, R245): training ends at a speed up to the Rulebook's limit and a width of the port; 64 GT/s is FLIT mode only. -/
def execPcieLinkUp (p gts width : Nat) (flit : Bool) (s : State) : Result :=
  let speedOk := [2, 5, 8, 16, 32, 64].contains gts && decide (gts ≤ s.paramN .pcieMaxSpeedGts)
  if !(s.port p).training || !speedOk || !s.portWidths.contains width then .next s
  else .next (s.modPort p fun x => { x with training := false, linkUp := true, speedGts := gts, width := width, flit := flit || gts == 64, l1 := 0 })

/-- HOT_RESET (R270): the actions of a function reset, the buffer cleared. [DEDUCED, log 44] -/
def execHotReset (p : Nat) (s : State) : Result :=
  if !s.ctlList.contains p || (s.port p).inReset || !(s.port p).linkUp || (s.port p).l1 != 0 then .next s
  else .next (((s.resetFunction p).clearCmb p).modPort p fun x => { x with flr := false })

/-- PCIE_LINK_DOWN (R270). -/
def execPcieLinkDown (p : Nat) (s : State) : Result := .next (s.pcieDown p)

/-- L1_ENTRY (R246): 0 L1, 1 L1.1, 2 L1.2, each where the host has enabled it and the Rulebook offers it. -/
def execL1Entry (p sub : Nat) (s : State) : Result :=
  let x := s.port p
  let allowed := x.aspmL1 && s.paramN .pcieAspmL1Enable == 1 && (sub == 0 || (sub == 1 && x.l11) || (sub == 2 && x.l12))
  if s.rxOk p && allowed then .next (s.modPort p fun x => { x with l1 := sub + 1 }) else .next s

/-- L1_EXIT (R246, R487): the lanes' SerDes wakes ask for tokens ahead of every other request; the port is in L0 once every lane has its token. -/
def execL1Exit (p : Nat) (s : State) : Result :=
  let x := s.port p
  if !s.ctlList.contains p || x.l1 = 0 then .next s
  else .next (s.askTokens ((List.range x.width).map (Wake.lane p)))

/-- FLR (R267 to R269). -/
def execFlr (p : Nat) (s : State) : Result := if s.rxOk p then .next (s.startFlr p) else .next s

/-- FLR_FINISH (R255, R267, R271): the buffer is cleared; VSEC_FLR records the times. [DESIGN CHOICE, log 5] -/
def execFlrFinish (p lastTlpNs durNs : Nat) (s : State) : Result :=
  if !(s.port p).flr then .next s
  else .next ((s.clearCmb p).modPort p fun x => { x with flr := false, flrDuration := min 65535 (durNs / 10000), flrSilence := min 255 (lastTlpNs / 10) })

/-- CONFIG_WRITE (R246 to R252, R257, R262, R264, R267): a configuration write; while a function reset runs it completes with Request Retry Status. [DEDUCED, log 44] -/
def execConfigWrite (p : Nat) (w : CfgWrite) (s : State) : Result :=
  if !s.rxOk p then .next s
  else if (s.port p).flr then .next (s.emit (.cpl p 2 []))
  else match w with
  | .command mse bme intx => .next ((s.modPort p fun x => { x with mse := mse, bme := bme, intxDisable := intx }).updateInta p)
  | .bar n v =>
    match n with
    | 0 | 1 => .next (s.modPort p fun x => { x with bar0 := State.writeBar x.bar0 0x8000 (n == 1) v })
    | 2 | 3 => if s.cmbSize = 0 then .next s else .next (s.modPort p fun x => { x with bar2 := State.writeBar x.bar2 s.cmbSize (n == 3) v })
    | 4 | 5 => if s.bar4Present then .next (s.modPort p fun x => { x with bar4 := State.writeBar x.bar4 0x100000 (n == 5) v }) else .next s
    | _ => .next s
  | .deviceControl relaxed tag10 mrrs mps => .next (s.modPort p fun x => { x with relaxed := relaxed, tag10 := tag10, mrrs := mrrs % 8, mps := mps % 8 })
  | .initiateFlr => .next (s.startFlr p)
  | .deviceControl2 cto disable => .next (s.modPort p fun x => { x with cto := cto % 16, ctoDisable := disable })
  | .linkControl l1 => .next (s.modPort p fun x => { x with aspmL1 := l1 })
  | .l1Substates l11 l12 => .next (s.modPort p fun x => { x with l11 := l11, l12 := l12 })
  | .powerState d3 => .next (s.modPort p fun x => { x with d3 := d3 })
  | .msixControl enable mask =>
    let s := s.modPort p fun x => { x with
      msixEnable := enable, funcMask := mask
      msix := if enable then x.msix else (x.msix.map fun (e : Nat × MsixEntry) => (e.1, { e.2 with pending := false })).filter fun e => e.2 != {} }
    .next ((s.sendPending p).updateInta p)
  | .aerStatusClear n =>
    match aerErrors[n]? with
    | some e => .next (s.modPort p fun x => { x with
        aerStatus := x.aerStatus.filter (· != e), headers := if x.headers.head? = some e then x.headers.tail else x.headers })
    | none => .next s
  | .aerMask n on => match aerErrors[n]? with | some e => .next (s.modPort p fun x => { x with aerMask := setErr x.aerMask e on }) | none => .next s
  | .aerSeverity n fatal =>
    match aerErrors[n]? with
    | some e => if State.AerError.correctable e then .next s else .next (s.modPort p fun x => { x with aerFatal := setErr x.aerFatal e fatal })
    | none => .next s

/-- MEM_WRITE_TLP (R250 to R253, R263, R506): a posted write lands in BAR0, the buffer or the diagnostic window, or is dropped as a miss; a poisoned one is dropped. [DEDUCED, log 44] -/
def execMemWriteTlp (p addr : Nat) (bytes : List Byte) (poisoned : Bool) (s : State) : Result :=
  if !s.rxOk p then .next s
  else match s.window p addr bytes.length with
  | none => .next (s.windowMiss p)
  | some (w, off) =>
    if w = 4 && !s.gateOpen 1 then .next (s.windowMiss p)
    else if poisoned then .next ((s.aer p .poisonedTlp).modPort p fun x => { x with poisonDrop := min 65535 (x.poisonDrop + 1) })
    else if w = 2 then .next (s.modPort p fun x => { x with cmb := bytes.zipIdx.foldl (fun t q => Table.put 0#8 t (off + q.2) q.1) x.cmb })
    else
      let ds := dwords ((off + 3) / 4 * 4) (bytes.drop ((4 - off % 4) % 4))
      if w = 0 then .next (ds.foldl (fun s q => s.writeBar0 p q.1 q.2) s) else .next (ds.foldl (fun s q => s.writeReg q.1 q.2) s)

/-- MEM_READ_TLP (R250 to R255, R263, R506): answered from BAR0, the buffer or the diagnostic window, or completed with Unsupported Request; a read of the buffer that meets an uncorrectable DRAM error completes with Completer Abort and is logged. -/
def execMemReadTlp (p addr len : Nat) (ue : Bool) (s : State) : Result :=
  if !s.rxOk p then .next s
  else match s.window p addr len with
  | none => .next ((s.windowMiss p).emit (.cpl p 1 []))
  | some (w, off) =>
    if w = 4 && !s.gateOpen 0 then .next ((s.windowMiss p).emit (.cpl p 1 []))
    else if w = 2 then
      if ue then .next (((s.aer p .completerAbort).logIncident 0x01 1 0 0xFF []).emit (.cpl p 4 []))
      else .next (s.emit (.cpl p 0 ((List.range len).map fun i => (Table.get 0#8 (s.port p).cmb (off + i)).toNat)))
    else if w = 0 then .next (s.nextFree.emit (.cpl p 0 (State.wordsBytes (s.readBar0 p) off len)))
    else
      let data := State.wordsBytes s.readValue off len
      .next (((State.dwordsOf off len).foldl (fun s o => s.afterRead o) s).emit (.cpl p 0 data))

/-- HOST_READ_COMPLETION (R260, R263, R266, R269, R507): a completion of one of the device's reads delivers `len` bytes; `list`: what the entries of a PRP list or SGL segment in it give (R281). -/
def execHostReadCompletion (p tag len : Nat) (poisoned : Bool) (list : PtrCheck) (s : State) : Result :=
  if !s.rxOk p then .next s
  else match Table.find (s.port p).reads tag with
  | some r =>
    if r.held then .next (s.modPort p fun x => { x with reads := Table.ins x.reads tag { r with kept := r.kept + len, poison := r.poison || poisoned } })
    else .next (s.takeCompletion p tag len poisoned list)
  | none =>
    match (s.port p).stale.find? (·.1 == tag) with
    | some q =>
      .next (s.modPort p fun x => { x with
        stale := (x.stale.map fun (r : Nat × Nat) => if r.1 = tag then (r.1, r.2 - len) else r).filter fun r => r.1 != tag || decide (len < q.2)
        afterReset := min 65535 (x.afterReset + 1) })
    | none => .next (s.unexpected p)

/-- COMPLETION_TIMEOUT (R264 to R266, R300): the tag is quarantined, the command that owns the request ends with Data Transfer Error. -/
def execCompletionTimeout (p tag : Nat) (s : State) : Result :=
  match Table.find (s.port p).reads tag with
  | none => .next s
  | some r =>
    if (s.port p).ctoDisable then .next s
    else
      let s := (s.aer p .completionTimeout).modPort p fun x => { x with
        timeouts := min 65535 (x.timeouts + 1), reads := Table.del x.reads tag, quarantine := x.quarantine ++ [(tag, 2 * r.limitNs)]
        heldLate := if r.held then x.heldLate ++ [tag] else x.heldLate }
      match r.ctx with
      | some n => .next ((s.failCtx n ⟨0, 0x04, false⟩).moreReads p)
      | none => .next s

/-- TAG_QUARANTINE_END (R266): twice the timeout value has passed. -/
def execTagQuarantineEnd (p tag : Nat) (s : State) : Result :=
  .next ((s.modPort p fun x => { x with quarantine := x.quarantine.filter (·.1 != tag) }).moreReads p)

/-- MSIX_TABLE_WRITE (R256 to R258). -/
def execMsixTableWrite (p vector dword : Nat) (v : Word) (s : State) : Result :=
  if s.rxOk p && (s.port p).mse && !(s.port p).flr then .next (s.writeMsix p vector (dword % 4) v.toNat) else .next s

/-- PCIE_REPLAY_TIMER_TIMEOUT (R261): a correctable error and a link retrain. [DEDUCED, log 44] -/
def execPcieReplayTimerTimeout (p : Nat) (rollover : Bool) (s : State) : Result :=
  if s.rxOk p then .next ((s.aer p (if rollover then .replayRollover else .replayTimeout)).retrainPcie p) else .next s

/-- DLLP_RECEIVED (R261): an Ack or credit update changes nothing the model keeps; a Nak and a bad DLLP bring a replay; protocol errors a retrain. [DEDUCED, log 44] -/
def execDllpReceived (p : Nat) (d : Dllp) (s : State) : Result :=
  if !s.rxOk p then .next s
  else match d with
  | .ack => .next s
  | .nak => .next (s.replayPcie p)
  | .bad => .next ((s.aer p .badDllp).replayPcie p)
  | .protocolError => .next ((s.aer p .dllProtocol).retrainPcie p)
  | .fcError => .next ((s.aer p .fcProtocol).retrainPcie p)

/-- INJECTION_HOLD_EXPIRE (R265, R266, R507): held completions arrive, those of a tag that has timed out as Unexpected Completions; a held Branch packet is sent. -/
def execInjectionHoldExpire (branch : Bool) (p : Nat) (s : State) : Result :=
  if branch then
    match (s.bl p).delayed with
    | some k => .next ((s.modBl p fun b => { b with delayed := none }).emit (.packet p k false false))
    | none => .next s
  else
    let held := (s.port p).reads.filter fun q => q.2.held
    let late := (s.port p).heldLate
    let s := s.modPort p fun x => { x with heldLate := [] }
    let s := late.foldl (fun s _ => s.unexpected p) s
    .next (held.foldl (fun s q =>
      if q.2.kept = 0 then s.modPort p fun x => { x with reads := Table.ins x.reads q.1 { q.2 with held := false } }
      else s.takeCompletion p q.1 q.2.kept q.2.poison .ok) s)

end Sys2Proof.Machine
end

