-- ==== Sys2Proof/Machine/Areas.lean ====
section
/-! DEFINITION. The Rulebook and customer microcode areas of the Depot, word by word (chapters 18 and 23; R325, R457, R458, R524, R530). -/

namespace Sys2Proof.Machine

namespace State

/-- Erases whole sectors of the Depot outside any running operation: their words erased, their counts up (R462, R463). -/
def wipeSectors (s : State) (xs : List Nat) : State :=
  s.modSec fun y => { y with
    depot := y.depot.filter fun (q : Nat × Nat) => !xs.contains (sectorOf q.1)
    spoilt := y.spoilt.filter fun w => !xs.contains (sectorOf w)
    erases := xs.foldl (fun t x => Table.ins t x (Table.get 0 t x + 1)) y.erases }

/-- The bytes of the Depot from a word on, lowest first. -/
def depotBytes (s : State) (w n : Nat) : List Byte :=
  (List.range n).map fun i => BitVec.ofNat 8 (bits (s.depotWord (w + i / 8)) (8 * (i % 8)) 8)

/-- The word that the next eight bytes make; past their end it stays erased. -/
def wordOf (bs : List Byte) : Nat := (List.range 8).foldr (fun i a => (bs.getD i 0xFF#8).toNat + 256 * a) 0

/-- Programs bytes from a word on. -/
def putBytes (s : State) (w : Nat) (bs : List Byte) : State :=
  (List.range ((bs.length + 7) / 8)).foldl (fun s k => s.putDepot (w + k) (wordOf (bs.drop (8 * k)))) s

/-- First sector of an area of R457: 1 Rulebook, 2 customer microcode; area 0 or 1. -/
def areaSector (typ k : Nat) : Nat :=
  if typ = 1 then (if k = 0 then 1664 else 3456) else (if k = 0 then 1728 else 3520)
/-- Sectors of an area. -/
def areaSectors (typ k : Nat) : List Nat := (List.range (if typ = 1 then 64 else 8)).map (areaSector typ k + ·)
/-- First word of an area. -/
def areaWord (typ k : Nat) : Nat := 512 * areaSector typ k

/-- The customer microcode area record with its SEQ word still erased (R458). -/
def areaRecord (bs : List Byte) : List Byte :=
  toBytes (leBytes 4 0x524D4355 ++ leBytes 4 bs.length ++ List.replicate 8 0xFF ++ Sha384.digest (bs.map (·.toNat)))

/-- What an area holds: its sequence and its image. A Rulebook area holds a blob where the blob's MAGIC stands; a microcode area is valid by R458; an invalid one holds nothing. -/
def areaImage (s : State) (typ k : Nat) : Option (Nat × List Byte) :=
  let w := areaWord typ k
  let h := s.depotBytes w 64
  if typ = 1 then
    if leField h 0 4 = 0x4B424C52 then some (leField h 8 8, s.depotBytes w (min 262144 (leField h 0x10 4))) else none
  else
    let n := leField h 4 4
    let q := leField h 8 8
    let bs := s.depotBytes (w + 8) n
    if leField h 0 4 = 0x524D4355 ∧ 0x70 ≤ n ∧ n ≤ 32704 ∧ q ≠ 0 ∧ q ≠ 2 ^ 64 - 1 ∧ h.drop 16 = toBytes (Sha384.digest (bs.map (·.toNat))) then some (q, bs) else none

/-- The area in force, its sequence and its image: the one with the higher sequence (R457). -/
def areaInForce (s : State) (typ : Nat) : Option (Nat × Nat × List Byte) :=
  match s.areaImage typ 0, s.areaImage typ 1 with
  | some a, some b => if a.1 < b.1 then some (1, b) else some (0, a)
  | some a, none => some (0, a)
  | none, some b => some (1, b)
  | none, none => none

/-- The signature of an image in an area verifies: one that a commit has verified does; of other bytes it is free. -/
def areaSigned (s : State) (typ : Nat) (bs : List Byte) : Bool := s.sec.signed.contains (typ, bs) || Config.imageSigned typ bs

/-- The Rulebook image that the next boot checks (R457, R530). -/
def rulebookImage (s : State) : Option RulebookImage := (s.areaInForce 1).map fun a => ⟨a.2.2, s.areaSigned 1 a.2.2⟩
/-- The customer microcode image that the next boot checks (R457, R458). -/
def microImage (s : State) : Option MicroImage := (s.areaInForce 2).map fun a => ⟨a.2.2, s.areaSigned 2 a.2.2⟩

/-- Programs an image into an area: a Rulebook as it stands; a microcode image behind its record, the SEQ word last (R325, R458). -/
def programArea (s : State) (typ k seq : Nat) (bs : List Byte) : State :=
  let w := areaWord typ k
  if typ = 1 then s.putBytes w bs else ((s.putBytes (w + 8) bs).putBytes w (areaRecord bs)).putDepot (w + 1) seq

/-- Writes a checked image into the area that does not hold the one in force, area 0 where none is; then the older area is erased: that with the lower sequence (R325, R457, R458, R530). [DESIGN CHOICE, log 54] -/
def writeArea (s : State) (typ : Nat) (bs : List Byte) : State :=
  let s := s.modSec fun x => { x with signed := if x.signed.contains (typ, bs) then x.signed else x.signed ++ [(typ, bs)] }
  match s.areaInForce typ with
  | none => (s.wipeSectors (areaSectors typ 0)).programArea typ 0 1 bs
  | some (k, q, _) =>
    let s := (s.wipeSectors (areaSectors typ (1 - k))).programArea typ (1 - k) (q + 1) bs
    if typ = 1 && decide (leField bs 8 8 < q) then s.wipeSectors (areaSectors typ (1 - k)) else s.wipeSectors (areaSectors typ k)

end State

end Sys2Proof.Machine
end

