-- ==== Sys2Proof/Machine/Startup.lean ====
section
/-! DEFINITION. Meanings of the start-up rows: straps, boot chain, DRAM training, controller ready, recovery load, status block (chapters 17, 18, 20, 23). -/

namespace Sys2Proof.Machine

namespace State

/-! ## Straps (R2 to R5, R384, R493, R511) -/

/-- Strap levels that put the device in the strap-fault state. [PRESUMED, log 37] -/
def strapsBad (s : State) (x : Straps) : Bool :=
  x.test != 0 || x.mode == 3 || x.geom == 3 || (x.mode == 1 && s.xd6408) || (x.mode == 2 && (x.member == 0 || x.member == 7))

/-- The mode of a MODE value (R3). -/
def modeOf : Nat → Mode
  | 0 => .standalone
  | 1 => .manager
  | 2 => .worker
  | _ => .strapFault

/-- The straps as the CONFIG entry holds them: MODE, MEMBER_ID, PCIE_BIFUR, BOOTSRC, DRAM_GEOM, TEST from bit 0 up. [PRESUMED, log 37] -/
def strapBits (x : Straps) : Nat := x.mode + x.member * 4 + bit x.bifur * 32 + bit x.bootsrc * 64 + x.geom * 128 + x.test * 512

/-! ## Boot chain (R438) -/

/-- An entry of a stage has been made in this boot. -/
def staged (s : State) (n : Nat) : Bool := s.sec.journey.any (·.stage == n)

/-- The chain runs: no reset held, straps sampled without fault, no recovery load, DRAM not failed. -/
def booting (s : State) : Bool :=
  s.plat.hold == .none && s.mode != .unsampled && s.mode != .strapFault && !s.sec.straps.bootsrc && !s.flag Reg.GD_STAT_RECOVERY &&
  s.plat.progress != 9 && s.plat.progress != 10

/-- The last entry made: stage and RESULT. -/
def lastEntry (s : State) : Nat × Nat := (s.sec.journey.getLast?.map fun e => (e.stage, e.result)).getD (0, 0)

/-- Start-up progress code (R502). -/
def setProgress (s : State) (n : Nat) : State := { s with plat := { s.plat with progress := n } }

/-! ### The Turntable (R468, R469) -/

/-- Words of a Turntable sector: T0 is sector 1736, T1 sector 3528 (R457). -/
def turnWords (t : Nat) : List Nat := sectorWords (if t = 0 then 1736 else 3528)

/-- A valid Turntable record of a word: SEQ and FIRST. -/
def turnRecord (v : Nat) : Option (Nat × Nat) :=
  if bits v 56 8 = 0x54 && bits v 32 24 + bits v 0 24 == 2 ^ 24 - 1 && bits v 25 7 = 0 then some (bits v 0 24, bits v 24 1) else none

/-- A record as its word (R468). -/
def turnWord (seq first : Nat) : Nat := seq % 2 ^ 24 + first % 2 * 2 ^ 24 + (2 ^ 24 - 1 - seq % 2 ^ 24) * 2 ^ 32 + 0x54 * 2 ^ 56

/-- The valid record with the highest SEQ: sector, SEQ, FIRST; a word that a failed or cut program left undefined is skipped (R468, R469). -/
def turnBest (s : State) : Option (Nat × Nat × Nat) :=
  let all := [0, 1].flatMap fun t => (turnWords t).filterMap fun w => if s.sec.spoilt.contains w then none else (turnRecord (s.depotWord w)).map fun r => (t, r.1, r.2)
  all.foldl (fun (best : Option (Nat × Nat × Nat)) r => match best with | some b => if b.2.1 < r.2.1 then some r else best | none => some r) none

/-- Boot image tried first: FIRST of that record, A without one. -/
def bootFirst (s : State) : Nat := (s.turnBest.map fun r => r.2.2).getD 0

/-- Programs a Turntable record naming an image: the next erased word of the current sector; from a full sector, word 0 of the other, and the full one is erased. -/
def turnTo (s : State) (first : Nat) : State :=
  let (t, seq) := match s.turnBest with | some r => (r.1, r.2.1 + 1) | none => (0, 0)
  let ws := turnWords t
  let used := ws.filter fun w => s.depotWord w != erasedWord || s.sec.spoilt.contains w
  let free := match used.getLast? with | some l => ws.filter (l < ·) | none => ws
  match free with
  | w :: _ => s.putDepot w (turnWord seq first)
  | [] => (s.putDepot ((turnWords (1 - t)).headD 0) (turnWord seq first)).wipeSectors [if t = 0 then 1736 else 3528]

/-- Sectors of a boot image. -/
def imageSectors (i : Nat) : List Nat := (List.range 128).map (2048 * i + ·)
/-- Sectors of a firmware slot (R457). -/
def slotSectors (k : Nat) : List Nat := (List.range 768).map ((match k with | 1 => 128 | 2 => 2176 | _ => 896) + ·)

/-- The boot stage swaps the boot images after an activation (R321, R469): the inactive one is rewritten from the slot's package, verified, and named by a new record. -/
def swapImages (s : State) : State :=
  match s.sec.swapPending, Table.find s.adm.fwSlots s.adm.activeSlot with
  | true, some i =>
    let s := s.modSec fun x => { x with swapPending := false }
    if s.verifyStatus i != 0 then s
    else
      let other := 1 - s.sec.bootImage
      let s := s.wipeSectors (imageSectors other)
      (s.modSec fun x => { x with verified := if x.verified.contains i.digest then x.verified else x.verified ++ [i.digest] }).turnTo other
  | _, _ => s

/-! ### Lowering to level 0 (R451) -/

/-- The erasures of R451: every Depot sector but the counter and identity sectors and their copies; level 0; nothing pending. [DEDUCED, log 38] -/
def lowerLevel (s : State) : State :=
  if s.sec.pendingLevel != some 0 then s
  else
    let s := s.wipeSectors ((List.range 4096).filter fun x => !([2016, 2017, 4064, 4065].contains x))
    let s := { s with adm := { s.adm with fwSlots := [], activeSlot := 1, pendingSlot := none } }
    let s := s.modSec fun x => { x with
      level := 0, pendingLevel := none, rbKey := 0, archive := [], secrets := [], swapPending := false }
    ((s.cryptoErase.rset Reg.GD_STAT_LEVEL 0).rset Reg.GD_STAT_PENDING 3).rset Reg.FG_STAT_GATE_OPEN 1

/-! ### Stages -/

/-- CONFIG: the root key is loaded, the boot counter grows by one, the entry holds straps, level and whether the previous record stayed unsigned (R409, R438, R439, R442). -/
def bootConfig (s : State) : State :=
  let prev := (Table.find s.sec.archive (s.sec.boot % 256)).map (·.boot)
  let unsignedPrev := bit (decide (0 < s.sec.boot) && prev != some s.sec.boot)
  let s := s.modSec fun x => { x with boot := x.boot + 1 }
  let s := (((s.rset Reg.GD_BOOT_CNT_COUNT s.sec.boot).rset Reg.GD_STAT_ROOT_OK 1).rset Reg.CE_STAT_ROOT_LOADED 1).rset Reg.CE_STAT_ERASED 0
  let info := strapBits s.sec.straps + s.rget Reg.GD_STAT_LEVEL * 2 ^ 16 + unsignedPrev * 2 ^ 24
  s.append { stage := 1, result := 0, index := 0, info := info }

/-- GUARD: the images not yet tried, the Turntable's choice first; each has its entry, the first that passes is taken (R438). -/
def bootGuard (s : State) (a b : ImageCheck) : State :=
  let tried := fun (i : Nat) => s.sec.journey.any fun e => e.stage == 2 && e.slot == i
  let s := s.lowerLevel
  let order := [s.bootFirst, 1 - s.bootFirst].filter fun i => !tried i
  (order.foldl (fun (p : State × Bool) i =>
    if p.2 then p
    else
      let img := if i = 0 then a else b
      let e := p.1.imageEntry 2 i img
      let s := p.1.append e
      if e.result = 0 then (s.modSec fun x => { x with bootImage := i, guardDigest := img.compDigest 1 }, true) else (s, false)) (s, false)).1

/-- BOOT: the boot stage of the image whose Guard image passed; accepted, the attestation certificate is issued (R444, once both digests are measured), and it swaps the boot images where an activation asks for it (R438, R469). [DEDUCED, log 38] -/
def bootStage (s : State) (a b : ImageCheck) : State :=
  let i := s.sec.bootImage
  let img := if i = 0 then a else b
  let e := s.imageEntry 3 i img
  let s := s.append e
  if e.result = 0 then ((s.modSec fun x => { x with bootDigest := img.compDigest 2 }).issueCert.swapImages).setProgress 2 else s

/-- Every boot image was tried and rejected (R438). -/
def imagesExhausted (s : State) : Bool :=
  let l := s.lastEntry
  (l.1 == 2 || l.1 == 3) && l.2 != 0 && [0, 1].all fun i => s.sec.journey.any fun e => e.stage == 2 && e.slot == i

/-- The slots in the order tried: the active one, then the others ascending, as far as they hold a package (R438). -/
def slotOrder (s : State) (slots : List (Nat × ImageCheck)) : List (Nat × ImageCheck) :=
  let known := [1, 2, 3].filterMap fun k => match Table.find s.adm.fwSlots k with | some i => some (k, i) | none => slots.find? fun q => q.1 == k
  (known.filter fun q => q.1 == s.adm.activeSlot) ++ known.filter fun q => q.1 != s.adm.activeSlot

/-- Tries the slots at a stage, one entry each; the first that passes becomes the active one. None passing, the boot fails (R438, R502). -/
def trySlots (s : State) (stage : Nat) (l : List (Nat × ImageCheck)) : State × Option (Nat × ImageCheck) :=
  let r := l.foldl (fun (p : State × Option (Nat × ImageCheck)) q =>
    if p.2.isSome then p
    else
      let e := p.1.imageEntry stage q.1 q.2
      (p.1.append e, if e.result = 0 then some q else none)) (s, none)
  match r.2 with
  | some q => ({ r.1 with adm := { r.1.adm with activeSlot := q.1, pendingSlot := none } }, some q)
  | none =>
    let s := if l.isEmpty then r.1.append { stage := stage, result := 4, index := 0, slot := s.adm.activeSlot } else r.1
    (({ s with plat := { s.plat with detail := s.lastEntry.2 } }).setProgress 10, none)

/-- MICROCODE: the Gwynon image is loaded into every box, its descriptors and sets with it (R84, R93, R94, R105, R438). [DEDUCED, log 38] -/
def bootMicrocode (s : State) (slots : List (Nat × ImageCheck)) (words : List (Nat × BitVec 176)) (descs : List (Nat × BitVec 64)) (dispatch : List (Nat × BitVec 16)) : State :=
  let r := s.trySlots 4 (s.slotOrder slots)
  match r.2 with
  | none => r.1
  | some _ =>
    let m : Verify.Image := ⟨false, words.filter fun q => decide (q.1 < 0x1C00), descs.filter fun q => decide (q.1 < 384), dispatch.filter fun q => decide (q.1 < 384)⟩
    (((r.1).loadMicro m).rset Reg.SB_MC_STAT_GWY_LOADED 1).setProgress 3

/-- The Gwynon image as it stands in box 0. -/
def gwynonImage (s : State) : Verify.Image where
  cust := false
  words := s.flash.store.filter fun q => decide (q.1 < 0x1C00)
  descs := s.flash.descs.filter fun q => decide (q.1 < 384)
  dispatch := s.flash.dispatch.filter fun q => decide (q.1 < 384)

/-- Firmware runs the verifier on the Gwynon image too, with the Rulebook in force; an image it does not accept is unloaded (R111). [DESIGN CHOICE, log 40] -/
def verifyGwynon (s : State) : State :=
  if Verify.accepts (s.bench []) s.gwynonImage then s
  else ({ s with flash := { s.flash with store := [], csErrs := [], descs := [], dispatch := [] } }).rset Reg.SB_MC_STAT_GWY_LOADED 0

/-- FIRMWARE: the running slot, its SVN, and the write protection of the images in use (R438, R467). [DEDUCED, log 38] -/
def bootFirmware (s : State) (slots : List (Nat × ImageCheck)) : State :=
  let order := s.slotOrder slots
  let r := s.trySlots 5 order
  match r.2 with
  | none => r.1
  | some (k, i) =>
    let s := { r.1 with adm := { r.1.adm with fwSlots := order.foldl (fun t (q : Nat × ImageCheck) => Table.ins t q.1 q.2) r.1.adm.fwSlots } }
    let s := s.modSec fun x => { x with running := i.svn, wp := (imageSectors 0 ++ imageSectors 1 ++ [1736, 3528] ++ slotSectors k) }
    s.rset Reg.GD_MIN_SVN_RUNNING i.svn

/-- NAND_ODT code of a termination in ohm. -/
def odtCode : Nat → Nat
  | 0 => 0
  | 50 => 1
  | 75 => 2
  | 100 => 3
  | _ => 4
/-- DRV code of a driver strength in ohm. -/
def driveCode : Nat → Nat
  | 25 => 0
  | 35 => 1
  | _ => 2

/-- Ports that train: none in standalone mode, the mask of the Rulebook for a manager, B0 for a worker (R327, R352). -/
def portEnable (s : State) : Nat :=
  match s.mode with
  | .manager => s.paramN .branchPortMask
  | .worker => 1
  | _ => 0

/-- The registers that the parameters set (R57, R81, R112, R132, R243, R352, R408, R427, R490, R532). -/
def applyParams (s : State) : State :=
  let p := fun (s : State) (f : Field) (q : Param) => s.rset f (s.paramN q)
  let l : List (Field × Param) := [
    (Reg.TT_EXPRESS_CFG_E_LIMIT, .timetableExpressPerTick), (Reg.TT_EXPRESS_CFG_PROGRESS, .timetableMinProgressTicks),
    (Reg.TT_EXPRESS_CFG_MAX_SPAN, .timetableMaxSuspendSpanTicks), (Reg.TT_EXPRESS_CFG_ADMIT_TICKS, .timetableExpressAdmitTicks),
    (Reg.TT_BUDGET_CFG_MAX_PROG, .timetableMaxPrograms), (Reg.TT_BUDGET_CFG_MAX_ERASE, .timetableMaxErases),
    (Reg.TT_BUDGET_EFF_PROG, .timetableMaxPrograms), (Reg.TT_BUDGET_EFF_ERASE, .timetableMaxErases),
    (Reg.TT_TOKEN_WT_PROG, .timetableProgramTokens), (Reg.TT_TOKEN_WT_ERASE, .timetableEraseTokens),
    (Reg.TT_MAINT_CFG_PER_PERIOD, .timetableMaintTicksPerPeriod), (Reg.TT_GOODS_CFG_FLOOR, .timetableGoodsFloorPct),
    (Reg.TT_GOODS_CFG_URGENT_FLOOR, .timetableGoodsUrgentFloorPct), (Reg.TT_CTRL_CEIL_MON, .timetableCeilingMonitor),
    (Reg.LD_HARD_CFG_ITER_MAX, .readHardIterMax), (Reg.LD_SOFT_CFG_ITER_MAX, .readSoftIterMax), (Reg.LD_SOFT_CFG_SOFT3_EN, .readSoft3Enable),
    (Reg.LD_EW_CFG_THRESH, .readEwThreshold), (Reg.AE_PWR_CFG_BANK_RATE, .assocBankRate), (Reg.AE_IL_CFG_FW_MAX, .assocFwEntriesMax),
    (Reg.ME_CTRL_UNINIT_CNT, .dramUninitCount), (Reg.ME_CTRL_SCRUB_EN, .platelayerEnable), (Reg.TK_RATE_RATE, .tokenRatePerUs),
    (Reg.TK_RATE_POOL_MAX, .tokenPoolMax), (Reg.TK_WT_CHANNEL, .tokenWeightChannel), (Reg.TK_WT_DRAM, .tokenWeightDram),
    (Reg.TK_WT_SOFT_DEC, .tokenWeightSoftDec), (Reg.TK_WT_CORE, .tokenWeightCore), (Reg.TK_WT_SERDES, .tokenWeightSerdes),
    (Reg.TK_WT_AE_BANK, .tokenWeightAeBank), (Reg.TK_WT_LEAF, .tokenWeightLeaf), (Reg.FT_PATROL_STAT_SCHEME, .patrolDisturbScheme)]
  let s := l.foldl (fun s q => p s q.1 q.2) s
  let edges : List (Field × Param) := [(Reg.LD_BAND_CFG_EDGE1, .readBandEdge1C), (Reg.LD_BAND_CFG_EDGE2, .readBandEdge2C), (Reg.LD_BAND_CFG_EDGE3, .readBandEdge3C)]
  let s := edges.foldl (fun s q => s.rset q.1 (unsigned (s.param q.2) 8)) s
  let hashes : List (Nat × Param) := [(0, .dramHashCh), (1, .dramHashBg0), (2, .dramHashBg1), (3, .dramHashBg2), (4, .dramHashBa0), (5, .dramHashBa1)]
  let s := hashes.foldl (fun s q => (s.rset (Reg.MC_HASH_LO_MASK_LO q.1) (s.paramN q.2)).rset (Reg.MC_HASH_HI_MASK_HI q.1) (s.paramN q.2 / 2 ^ 32)) s
  let s := (List.range 10).foldl (fun s k => s.rset (Reg.MC_PORT_CFG_TARGET_NS k) (s.paramN (.dramPortTargetNs k))) s
  let s := (List.range s.channels).foldl (fun s ch =>
    let s := (s.rset (Reg.SB_CH_CFG_IFACE ch) (s.paramN .flashInterface)).rset (Reg.SB_CH_CFG_RATE ch) (rateCode (s.paramN .flashRateMts))
    let s := (s.rset (Reg.SB_CH_CFG_DRV ch) (driveCode (s.paramN .flashDriveOhm))).rset (Reg.SB_CH_CFG_NAND_ODT ch) (odtCode (s.paramN .flashNandOdtOhm))
    s.rset (Reg.SB_SEQ_CTRL_TRACE_EN ch) (bit (s.paramN .microcodeTraceMode != 0))) s
  let s := s.rset Reg.DP_WS_WS (if s.paramN .boardVddCoreHigh = 1 then 4 else 5)
  s.rset Reg.BL_CTRL_PORT_EN s.portEnable

/-- The blocks whose parameters are applied are enabled (R57, R132, R168, R243, R352, R383, R408, R427, R490). -/
def enableBlocks (s : State) : State :=
  let s := [Reg.LD_CTRL_ENABLE, Reg.FT_CTRL_ENABLE, Reg.AE_CTRL_ENABLE, Reg.MC_CTRL_ENABLE, Reg.CE_CTRL_ENABLE, Reg.TH_CTRL_ENABLE].foldl (fun s f => s.rset f 1) s
  let s := if s.mode == .standalone then s else s.rset Reg.BL_CTRL_ENABLE 1
  let s := if s.mode == .manager then s.rset Reg.AY_CTRL_ENABLE 1 else s
  s.rset Reg.LD_STAT_READY 1

/-- RULEBOOK: the blob is checked, the Rulebook in force applied, the links released, the Tender's measurement started (R27, R28, R438, R439, R496, R529, R530). [DEDUCED, log 38] -/
def bootRulebook (s : State) : State :=
  let v := s.rulebookImage.map fun r => (r, r.check (s.rget Reg.GD_STAT_LEVEL) s.sec.rbKey s.sec.rbMinSvn s.bifur)
  let (e, st, first) : JEntry × Nat × Nat := match v with
    | none => ({ stage := 6, result := 4, index := 0 }, 4, 0)
    | some (r, v) => ({ stage := 6, result := v.result, index := 0, svn := r.svn, digest := r.digest }, v.status, v.first)
  let good := match v with | some (r, v) => if v.result = 0 then some r else none | none => none
  let s := s.append e
  let s := { s with rb := (good.map fun (r : RulebookImage) => r.rulebook).getD {}, adm := { s.adm with rbStatus := st, rbFirstBad := first } }
  let s := s.modSec fun x => { x with inForce := good }
  let s := s.applyParams.enableBlocks
  let s := ({ s with plat := { s.plat with linksReleased := true } }).releaseLinks
  s.startBootMeasure

/-- RESULT of the CUST_MICROCODE entry for a cause of R108: a disabled image counts as absent, a wrong key digest as a signature fault. [DEDUCED, log 40] -/
def custResult : Nat → Nat
  | 0 => 0
  | 1 => 4
  | 2 => 1
  | 3 => 1
  | 4 => 3
  | 5 => 6
  | _ => 2

/-- CUST_MICROCODE: the verifier runs on both images; the customer image is loaded into every box, or rejected with its cause (R107, R108, R111, R438, R458). [DEDUCED, log 40] -/
def bootCustomer (s : State) : State :=
  let s := s.verifyGwynon
  match s.microImage with
  | none =>
    let c := if s.paramN .microcodeCustomerEnable = 0 then 1 else 6
    ((s.append { stage := 7, result := 4, index := 0 }).rset Reg.SB_MC_STAT_CUST_REJECT c).setProgress 4
  | some m =>
    let c := s.microCause m
    let svn := CustomerImage.svn m.bytes
    let s := s.append { stage := 7, result := custResult c, index := 0, svn := svn, digest := sha384Of m.bytes }
    let s := s.rset Reg.SB_MC_STAT_CUST_REJECT c
    if c != 0 then s.setProgress 4
    else (((s.loadMicro (CustomerImage.image m.bytes)).rset Reg.SB_MC_STAT_CUST_LOADED 1).rset Reg.SB_MC_STAT_CUST_SVN svn).setProgress 4

/-- CLOCK, and the first signing where no alarm cause is held (R438, R441). -/
def bootClock (s : State) : State :=
  let s := s.append { stage := 8, result := 0, index := 0 }
  if s.sec.lastAlarm = 0 then s.sign else s

/-- ALARM: the causes held from an earlier boot, which are then cleared; then the first signing (R438, R441). -/
def bootAlarm (s : State) : State :=
  let s := s.append { stage := 9, result := 0, index := 0, info := s.sec.lastAlarm }
  (s.modSec fun x => { x with lastAlarm := 0 }).sign

end State

/-- STRAP_SAMPLE (R2 to R5, R244, R384, R493, R511): once in a boot; the mode, or the strap-fault state. [DESIGN CHOICE, log 4] -/
def execStrapSample (x : Straps) (s : State) : Result :=
  let x : Straps := ⟨x.mode % 4, x.member % 8, x.bifur, x.bootsrc, x.geom % 4, x.test % 4⟩
  if s.plat.hold != .none || s.mode != .unsampled then .next s
  else
    let bad := s.strapsBad x
    let s := s.modSec fun y => { y with straps := x, strapMode := x.mode, member := if x.mode = 2 then x.member else 0 }
    let s := { s with mode := if bad then .strapFault else State.modeOf x.mode, bifur := x.bifur && x.mode != 2 }
    .next ((s.rset Reg.MC_CTRL_GEOM x.geom).setProgress (if bad then 1 else 0))

/-- BOOT_CHAIN_STAGE (R27, R28, R438 to R442, R451, R467 to R469): each stage in its place in the chain; out of its place nothing happens. [DEDUCED, log 38] -/
def execBootChainStage (g : BootStage) (s : State) : Result :=
  let l := s.lastEntry
  match g with
  | .config => if s.plat.hold == .none && s.mode != .unsampled && s.sec.journey.isEmpty then .next s.bootConfig else .next s
  | .guard a b => if s.booting && (l.1 == 1 || l.1 == 3 && l.2 != 0) && !s.imagesExhausted then .next (s.bootGuard a b) else .next s
  | .boot a b => if s.booting && l == (2, 0) then .next (s.bootStage a b) else .next s
  | .microcode slots words descs dispatch =>
    if s.booting && l == (3, 0) && s.flag Reg.MC_STAT_TRAINED then .next (s.bootMicrocode slots words descs dispatch) else .next s
  | .firmware slots => if s.booting && l == (4, 0) then .next (s.bootFirmware slots) else .next s
  | .rulebook => if s.booting && l == (5, 0) then .next s.bootRulebook else .next s
  | .custMicrocode => if s.booting && l.1 == 6 then .next s.bootCustomer else .next s
  | .clock => if s.booting && l.1 == 7 then .next s.bootClock else .next s
  | .alarm => if s.booting && l.1 == 8 && s.sec.lastAlarm != 0 then .next s.bootAlarm else .next s

/-- DRAM_TRAINING (R395, R497): up to three attempts of a channel; both channels trained start the sweeper; a failure stops the boot. -/
def execDramTraining (ch : Nat) (attempts : List Bool) (densityOk : Bool) (s : State) : Result :=
  if !s.booting || s.lastEntry != (3, 0) || 2 ≤ ch || s.plat.dramOk.contains ch then .next s
  else if (attempts.take 3).contains true && densityOk then
    let s := { s with plat := { s.plat with dramOk := ch :: s.plat.dramOk } }
    if s.plat.dramOk.length = 2 then .next ((s.rset Reg.MC_STAT_TRAINED 1).modMem fun m => { m with sweeping := true }) else .next s
  else .next (({ s with plat := { s.plat with detail := ch } }).setProgress 9)

namespace State

/-! ## Controller ready (R494) -/

/-- The start is a recovery: the media were formatted and no clean-shutdown mark stands (R215, R498). [DEDUCED, log 35] -/
def needsRecovery (s : State) : Bool := s.media.nand.par.isSome && s.media.nand.cleanMark.isNone

/-- Every channel is identified, and trained or isolated or without a populated chip enable (R494). -/
def channelsUp (s : State) : Bool :=
  (List.range s.channels).all fun ch => s.flash.identified.contains ch &&
    (s.flag (Reg.SB_CH_STAT_TRAINED ch) || s.flag (Reg.SB_CH_STAT_ISOLATED ch) || s.rget (Reg.SB_CH_CFG_CE_MASK ch) == 0)

/-- The conditions of R494. -/
def readyNow (s : State) : Bool :=
  s.booting && !s.plat.ready && s.flag Reg.GD_STAT_SIGNED && s.channelsUp && s.media.bootMeasured && (!s.needsRecovery || s.plat.recovered)

/-- Whole days since the last clean shutdown or checkpoint age the trackers and, from one on, start a patrol pass; without a valid clock, the patrol period counts (R180). [DEDUCED, log 32] -/
def ageByClock (s : State) : State :=
  let since := match s.media.nand.cleanMark with | some m => some m | none => s.media.nand.ckptMs
  let days := match since with
    | some m => if s.flag Reg.SC_STAT_VALID then (s.sec.clockMs - m) / 86400000 else s.paramN .patrolPeriodDays
    | none => s.paramN .patrolPeriodDays
  let s := s.ageTrackers days
  if 1 ≤ days then s.newPass else s

/-- A device before its first format is formatted (R114, R165, R186). [DEDUCED, log 38] -/
def firstFormat (s : State) : State :=
  match s.media.nand.par with
  | some _ => s
  | none => (s.modNand fun x => { x with par := some (s.rget Reg.LD_CODE_CFG_PAR) }).fixCapacity

/-- Groups that lack one get an erased hold-up superblock (R204, R215 step 7). -/
def freshHoldup (s : State) : State :=
  s.flushGroups.foldl (fun s g => if (s.openSb g .holdup).isSome then s else s.openNew g .holdup) s

/-- The write cache is present (R202). -/
def cacheComes (s : State) : Bool :=
  s.paramN .holdupEnable != 0 && s.flag Reg.FT_HU_STAT_MEASURED && decide (s.paramN .holdupMinParcels ≤ s.rget Reg.FT_DIRTY_MAX_TENDER_MAX) &&
  s.flushGroups.all fun g => (s.openSb g .holdup).isSome

/-- The load order of the map segments at boot, ascending (R162). -/
def segmentOrder (s : State) : List Nat := s.media.nand.ns.flatMap fun q => (List.range q.2.granules).map fun i => q.1 * 2 ^ 20 + i

/-- Every block lock (R494). -/
def lockBlocks (s : State) : State :=
  [Reg.TT_CTRL_LOCK, Reg.SB_GLOBAL_LOCK, Reg.SB_CS_CTRL_LOAD_LOCK, Reg.LD_CTRL_LOCK, Reg.FT_CTRL_LOCK, Reg.AE_CTRL_LOCK, Reg.BL_CTRL_LOCK,
    Reg.AY_CTRL_LOCK, Reg.MC_CTRL_LOCK, Reg.CE_CTRL_LOCK, Reg.TH_CTRL_LOCK].foldl (fun s f => s.rset f 1) s

/-- The SVN minima rise to those of the package and the Rulebook that reached ready (R437, R528). -/
def raiseMinima (s : State) : State :=
  let p := ((Table.find s.adm.fwSlots s.adm.activeSlot).map (·.minSvn)).getD 0
  let r := (s.sec.inForce.map (·.minSvn)).getD 0
  let s := s.modSec fun x => { x with minSvn := max x.minSvn p, rbMinSvn := max x.rbMinSvn r }
  s.rset Reg.GD_MIN_SVN_MIN s.sec.minSvn

/-- What becoming ready does. [DEDUCED, log 38] -/
def becomeReady (s : State) : State :=
  let s := if s.plat.recovered then s else s.ageByClock
  let s := s.firstFormat.freshHoldup.wearStat
  let cache := s.cacheComes
  let s := (s.rset Reg.FT_HU_STAT_CACHE_PRESENT (bit cache)).rset Reg.FT_STAT_VWC (bit cache)
  let segs := s.segmentOrder
  let s := (s.modMedia fun m => { m with toLoad := segs }).rset Reg.FT_CKPT_STAT_SEG_UNLOADED (min 65535 segs.length)
  let s := s.rset Reg.FT_STAT_MAP_READY (bit segs.isEmpty)
  let s := s.modNand fun x => { x with cleanMark := none }
  let s := if s.flag Reg.TT_CTRL_ENABLE then s else leaves (execTtEnable s) s
  let s := s.raiseMinima.lockBlocks
  let s := { s with plat := { s.plat with ready := true } }
  let s := s.ctlList.foldl (fun s k => s.modCtl k fun c => { c with rdy := c.en && !c.cfs, wce := cache && (savedOr c 0x06 [1]).getD 0 1 == 1 }) s
  s.setProgress (if s.mode == .manager && s.link.assembled then 7 else 6)

/-! ## Start-up status block (R502) -/

/-- Progress code shown: the holds and the shutdown steps cover the boot's own code. -/
def shownProgress (s : State) : Nat :=
  if s.plat.hold != .none || s.media.flush == .done then 0x0B
  else if s.media.flush != .none || s.plat.rst != 0 || s.ctlList.any (fun k => (s.ctl k).shst == 1) then 0x0C
  else if s.plat.progress = 4 && s.channelsUp then 5
  else if s.plat.progress = 6 && s.mode == .manager && s.link.assembled then 7
  else s.plat.progress

/-- The 16 bytes. -/
def statusBlock (s : State) (ms : Nat) : List Nat :=
  let arrayUp := s.link.assembled && s.hdr?.isSome && s.rget Reg.AY_STAT_STATE != 4
  let flags := bit s.needsRecovery + 2 * bit s.cachePresent + 4 * s.rget Reg.FT_STAT_MAP_READY + 8 * s.rget Reg.ME_STAT_SWEEP_DONE +
    16 * bit arrayUp + 32 * s.rget Reg.AY_STAT_RESYNC
  let flags := if s.plat.recovered then flags - flags % 2 + 1 else if s.plat.ready then flags - flags % 2 else flags
  [s.shownProgress, s.sec.strapMode, s.sec.member, s.rget Reg.GD_STAT_LEVEL] ++ leBytes 4 s.sec.boot ++ leBytes 4 (min ms (2 ^ 32 - 1)) ++ [flags, s.plat.detail, 0, 0]

/-! ## Recovery load (R501) -/

/-- The recovery load answers on the management interface. -/
def loading (s : State) : Bool := s.plat.hold == .none && s.flag Reg.GD_STAT_RECOVERY

end State

/-- CONTROLLER_READY (R202, R204, R437, R494, R528): with its conditions met, the device is ready. -/
def execControllerReady (s : State) : Result := if s.readyNow then .next s.becomeReady else .next s

/-- RECOVERY_LOAD (R501): BOOTSRC 1, or no boot image or firmware slot passed. -/
def execRecoveryLoad (s : State) : Result :=
  let forced := s.sec.straps.bootsrc && s.staged 1
  let failed := s.imagesExhausted || s.plat.progress == 10
  if s.plat.hold != .none || s.mode == .unsampled || s.mode == .strapFault || s.flag Reg.GD_STAT_RECOVERY || !(forced || failed) then .next s
  else .next (((s.modSec fun x => { x with rlBytes := 0, rlResult := 0 }).rset Reg.GD_STAT_RECOVERY 1).setProgress 8)

/-- RL_STATUS (R501): progress code, bytes received, last result. -/
def execRlStatus (s : State) : Result :=
  if s.loading then .next (s.emit (.mctp ([s.shownProgress] ++ leBytes 4 s.sec.rlBytes ++ [s.sec.rlResult]))) else .next s

/-- RL_WRITE (R501): up to 1,024 bytes go into firmware slot 1; offset 0 first erases the slot and the boot images. -/
def execRlWrite (offset : Nat) (bytes : List Byte) (s : State) : Result :=
  if !s.loading || 1024 < bytes.length || 768 * 4096 < offset + bytes.length then .next s
  else
    let s := if offset = 0 then
        ({ s with adm := { s.adm with fwSlots := Table.del s.adm.fwSlots 1 } }).wipeSectors (State.imageSectors 0 ++ State.imageSectors 1 ++ State.slotSectors 1)
      else s
    let n := if offset = 0 then bytes.length else s.sec.rlBytes + bytes.length
    .next ((s.modSec fun x => { x with rlBytes := n, rlResult := 0 }).emit (.mctp [0]))

/-- STARTUP_STATUS_READ (R5, R502): served in every state in which VDD_GUARD is up. -/
def execStartupStatusRead (ms : Nat) (s : State) : Result :=
  if s.plat.hold == .off || ms < 2 then .next s else .next (s.emit (.mctp (s.statusBlock ms)))

end Sys2Proof.Machine
end

