-- ==== Sys2Proof/Machine/Restart.lean ====
section
/-! DEFINITION. Full resets, power, alarms, RST_N, and the restart after a flush (chapters 08, 17, 19, 20). -/

namespace Sys2Proof.Machine

namespace State

/-! ## What a reset keeps (R10, R429, R430, R491) -/

/-- The registers of the Guard partition: GD_ and SC_. [DEDUCED, log 60] -/
def guardRegs (r : RegFile) : RegFile := r.filter fun (q : Nat × Nat) => decide (0x9000 * 32 ≤ q.1 ∧ q.1 < 0xA000 * 32)

/-- Registers a boot loads from flash (R220, R454, R477). -/
def loadRegs (s : State) : State :=
  let n := s.media.nand
  let s := (s.rset Reg.FT_HU_STAT_LAST_UNCLEAN 0).rset Reg.FT_HU_STAT_LAST_FLUSH_OK (bit n.flushOk)
  let s := (s.rset Reg.FT_HU_STAT_LAST_CAUSE n.flushCause).rset Reg.FT_HU_FLUSH_PARCELS n.flushParcels
  let s := (s.rset Reg.FT_HU_FLUSH_DURATION n.flushTime).rset Reg.FT_HU_CNT_UNCLEAN (min 255 n.unclean)
  let s := (s.rset Reg.TH_TIME_WARN_MIN n.warnMin).rset Reg.TH_TIME_CRIT_MIN n.critMin
  let s := (s.rset Reg.CE_GEN_GEN s.sec.mediaGen).rset Reg.CE_STAT_OPAL_ACTIVE (bit s.sec.opalActive)
  s.showMark

/-- Flash, translation and hold-up state after a reset: what lies on flash, and what a start finds again from it: the journal head, the write sequence, the next serial, the segments changed since their checkpoint, the collection queues and the values fixed at the last format. -/
def blankMedia (m : Media) : Media where
  nand := { m.nand with ns := m.nand.ns.map fun (q : Nat × Namespace) => (q.1, { q.2 with formatting := false }) }
  nextSeq := m.durable
  durable := m.durable
  wseq := m.wseq
  nextSerial := m.nextSerial
  dirtySegs := m.dirtySegs
  groupsSt := m.groupsSt.map fun (q : Nat × Group) => (q.1, { q.2 with victim := none, source := 0, debt := 0, hostWait := false, openWait := false, metaWait := false })
  pass := m.pass

/-- A running self-test ends with result 0x8 (R317). [DEDUCED, log 36] -/
def testCut (a : Admin) : List (Nat × Nat × Nat × Nat) :=
  match a.selfTest with
  | some t => ((if t.extended then 2 else 1, 8, t.nsid, 0) :: a.testLog).take 20
  | none => a.testLog

/-- Registrants and reservations that do not persist through a power loss are gone (R289). -/
def forgetReservations (s : State) : State :=
  s.modNand fun x => { x with ns := x.ns.map fun (q : Nat × Namespace) =>
    (q.1, if q.2.ptpl then q.2 else { q.2 with registrants := [], holder := none, rtype := 0, resGen := 0 }) }

/-- Administration state after a reset: what the Depot and the metadata stream hold. -/
def blankAdmin (a : Admin) : Admin where
  testLog := testCut a
  sanitize := a.sanitize
  sanStatus := a.sanStatus
  globalErased := a.globalErased
  fwSlots := a.fwSlots
  activeSlot := a.activeSlot
  pendingSlot := a.pendingSlot
  fdp := a.fdp
  fdpMasked := a.fdpMasked
  leftClassTotal := a.leftClassTotal
  mediaErrors := a.mediaErrors

/-- Cipher engine and Depot after a reset; the Guard's own state stays (R413, R429, R467). -/
def blankSec (x : Sec) : Sec := { x with
  keys := [], gcmOn := false, wp := [], op0 := none, op1 := none, coreCmd := none, guardCmd := none, inForce := none, rlBytes := 0, rlResult := 0 }

/-- Words whose program or erase failed hold what the Depot makes of them, and are undefined until an erase (R462). [DESIGN CHOICE, log 14] -/
def spoilWords (s : State) (ws : List Nat) : State :=
  s.modSec fun x => { x with
    depot := ws.foldl (fun t w => Table.put erasedWord t w (Config.failedWord w s.free).toNat) x.depot
    spoilt := x.spoilt ++ ws }

/-- A Depot operation that a reset cuts has ended as meant, or leaves what it acts on undefined until an erase (R462, R468, R469). [DESIGN CHOICE, log 14] -/
def cutDepot (s : State) (b : Nat) : State :=
  match s.bankOp b with
  | none => s
  | some o =>
    let x := sectorOf o.word
    let s := if o.erase then s.wipeSectors [x] else s
    let s := if Config.depotOpEnds s.free then (if o.erase then s else s.putDepot o.word o.value)
      else s.spoilWords (if o.erase then sectorWords x else [o.word])
    s.nextFree

/-- Everything outside the Guard partition at its reset state, with a hold (R434, R491): what lies on NAND, in the Depot and in the fuses stays. [DEDUCED, log 36; DESIGN CHOICE, log 59] -/
def blank (s : State) (h : Hold) : State :=
  let s := (s.cutDepot 0).cutDepot 1
  let flash : Flash := { eraseCounts := s.flash.eraseCounts, trackers := s.flash.trackers, trackAge := s.flash.trackAge }
  loadRegs { s with
    mode := .unsampled
    regs := guardRegs s.regs
    flash := flash
    media := blankMedia s.media
    ae := {}
    ports := []
    ctls := s.ctls.map fun (q : Nat × Controller) => (q.1, freshCtl q.2 false)
    adm := blankAdmin s.adm
    bifur := false
    mem := { incidents := s.media.nand.incidents, nextIncident := s.media.nand.nextIncident }
    link := {}
    arr := { s.arr with header := s.arr.header.map fun h => { h with ckpt := (h.ckpt.1, h.ckpt.2 / 4096 * 4096) } }
    sec := blankSec s.sec
    plat := { hold := h, perst := s.plat.perst, tamper := s.plat.tamper }
    rb := {} }

/-- The level of the next boot: 2 with the fuse blown, else the lifecycle record after a pending request to level 1 (R449, R450). -/
def nextLevel (x : Sec) : Nat := if x.fuse then 2 else if x.pendingLevel = some 1 then 1 else x.level

/-- The lifecycle record takes a pending request to level 1; a lowering stays pending until it has run (R450, R451). -/
def nextPending (x : Sec) : Option Nat := if x.fuse || x.pendingLevel = some 1 then none else x.pendingLevel

/-- The Guard's part of a full reset (R418, R449, R454): per-boot state cleared, level, pending request, boot counter, last cause and minimum reloaded, the nonce counter at the stored mark; an activation takes effect (R321). -/
def guardReset (s : State) : State :=
  let level := nextLevel s.sec
  let pend := nextPending s.sec
  let s := s.modSec fun x => { x with
    level := level, pendingLevel := pend, journey := [], challenge := none, verified := [], spdm := [], running := 0, guardDigest := 0, bootDigest := 0, issued := none
    nonce := x.mark, gcmOn := false, hwmFails := 0, bootImage := 0 }
  let s := { s with adm := { s.adm with activeSlot := s.adm.pendingSlot.getD s.adm.activeSlot, pendingSlot := none } }
  let s := [Reg.GD_STAT_SIGNED, Reg.GD_STAT_RECOVERY, Reg.GD_STAT_ENTRIES, Reg.GD_ALARM_VOLT, Reg.GD_ALARM_CLOCK, Reg.GD_ALARM_THERMAL, Reg.GD_ALARM_TAMPER,
    Reg.GD_ALARM_RAIL, Reg.GD_MIN_SVN_RUNNING, Reg.GD_TICKET_ACTIVE, Reg.GD_TJ_TJ_MAX, Reg.SC_STAT_SETS, Reg.SC_STAT_ON_VBAT].foldl (fun s f => s.rset f 0) s
  let s := ((s.rset Reg.GD_STAT_LEVEL level).rset Reg.GD_STAT_PENDING (pend.getD 3)).rset Reg.GD_BOOT_CNT_COUNT s.sec.boot
  let s := (s.rset Reg.GD_ALARM_LAST_CAUSE s.sec.lastAlarm).rset Reg.GD_MIN_SVN_MIN s.sec.minSvn
  s.rset Reg.FG_STAT_GATE_OPEN (bit (level == 0))

/-- A full reset that the Guard performs or RST_N asks for (R10, R491); rows that name a hardware reset lock (R421). -/
def fullReset (s : State) : State := ((s.blank .none).lockOnReset [1]).guardReset

/-- A stop that finds no shutdown and no flush done: every group's flush counts as incomplete where its hold-up superblock has no summary (R211, R434). [DEDUCED, log 35] -/
def crash (s : State) : State :=
  if !s.plat.ready || s.media.nand.cleanMark.isSome || s.media.flush != .none then s
  else
    let sums := (s.flushGroups.filterMap fun g => s.openSb g .holdup).map fun n => ({ serial := n } : HoldSum)
    s.modNand fun x => { x with flushed := sums, flushCause := 0, flushOk := sums.isEmpty, flushParcels := 0, flushTime := 0 }

/-- Sets the alarm causes held in the counter sector. -/
def latchAlarm (s : State) (bits_ : Nat) : State := s.modSec fun x => { x with lastAlarm := x.lastAlarm ||| bits_ }

/-- The bit of a cause in GD_ALARM (R454). -/
def alarmBit : AlarmCause → Nat
  | .voltage => 1
  | .sysclk => 2
  | .pll => 2
  | .thermal => 4
  | .tamper => 8

/-- The GD_ALARM field of a cause. -/
def alarmField : AlarmCause → Field
  | .voltage => Reg.GD_ALARM_VOLT
  | .sysclk => Reg.GD_ALARM_CLOCK
  | .pll => Reg.GD_ALARM_CLOCK
  | .thermal => Reg.GD_ALARM_THERMAL
  | .tamper => Reg.GD_ALARM_TAMPER

/-- An alarm's hold (R420, R434): keys erased, no TLP, WP_N low, everything outside the partition in reset; no flush runs, and recovery treats every group's flush as incomplete. [DEDUCED, log 36] -/
def alarmHold (s : State) : State :=
  let sums := (s.flushGroups.filterMap fun g => s.openSb g .holdup).map fun n => ({ serial := n } : HoldSum)
  let s := if s.media.nand.cleanMark.isSome then s else s.modNand fun x => { x with flushed := sums, flushOk := false }
  let s := ((s.blank .alarm).emit .wpLow)
  ((s.rset Reg.CE_STAT_ROOT_LOADED 0).rset Reg.CE_STAT_ERASED 1).rset Reg.GD_TICKET_ACTIVE 0

end State

/-- POWER_ON_RESET (R429, R452, R454, R491): everything, the Guard core included; the Station clock has counted on. -/
def execPowerOnReset (offMs : Nat) (s : State) : Result :=
  let was := s.plat.hold == .off
  let valid := s.rget Reg.SC_STAT_VALID
  let lost := s.rget Reg.SC_STAT_LOST
  let s := (s.crash.modSec fun x => { x with clockMs := (x.clockMs + offMs) % 2 ^ 48 }).forgetReservations.blank .none
  let s := { s with regs := s.regs.filter fun (q : Nat × Nat) => !decide (0x9000 * 32 ≤ q.1 ∧ q.1 < 0xA000 * 32) }
  let s := ((s.rset Reg.SC_STAT_VALID valid).rset Reg.SC_STAT_LOST lost).lockOnReset [0, 1]
  let s := if s.plat.tamper then { s with plat := { s.plat with hold := .alarm } } else s
  .next (s.guardReset.rset Reg.SC_STAT_ON_VBAT (bit was))

/-- RST_N_ASSERT (R429, R435, R492, R520): a pulse under 1 us is ignored, one of 1 to 10 us is taken or ignored; before ready every block outside the Guard is held at once, after it the steps of an abrupt shutdown run first. A flush that runs is not disturbed. [DESIGN CHOICE, log 15; DEDUCED, log 36] -/
def execRstNAssert (lowNs : Nat) (s : State) : Result :=
  let mid := decide (1000 ≤ lowNs ∧ lowNs < 10000)
  let taken := decide (10000 ≤ lowNs) || (mid && Config.shortPulse s.free)
  let s := if mid then s.nextFree else s
  if !taken || s.plat.hold == .off || s.plat.hold == .rstN || s.flushing then .next s
  else if s.plat.ready && s.plat.rst = 0 then
    let s := s.ctlList.foldl (fun s k => if (s.ctl k).en then (s.endAll k).modCtl k fun c => { c with shst := 1, aers := [] } else s) s
    let s := (s.ctxsOf 2).foldl (fun s n => s.endCtx n) s
    .next { s with plat := { s.plat with rst := 1 } }
  else if s.plat.ready then .next s
  else .next (s.blank .rstN)

/-- RST_N_RELEASE (R491, R492): the full reset takes effect, at the end of the shutdown steps where they still run. -/
def execRstNRelease (s : State) : Result :=
  if s.plat.hold == .rstN then .next (if s.plat.tamper then { s with plat := { s.plat with hold := .alarm } } else s.fullReset)
  else if s.plat.rst = 1 then .next { s with plat := { s.plat with rst := 2 } }
  else .next s

/-- SHUTDOWN_COMPLETE (R275, R404, R492): nothing but Asynchronous Event Requests outstanding, nothing dirty, the journal committed: SHST 0b10; on every port, the clean-shutdown mark is written and background work stops. The steps of RST_N end in its hold, or in the full reset. -/
def execShutdownComplete (k : Nat) (s : State) : Result :=
  let idleOf := fun (j : Nat) => (s.ctxsOf j).all fun n => match s.ctx n with | some c => c.sqid == 0 && c.sqe.opcode == 0x0C | none => true
  let drained := s.dirtyCount == 0 && s.media.openPage.isEmpty && s.media.pages.isEmpty && !s.flushing
  if s.plat.rst != 0 then
    if !drained || !s.ctlList.all idleOf then .next s
    else
      let s := s.saveIncidents.modNand fun x => { x with cleanMark := some s.sec.clockMs }
      .next (if s.plat.rst = 2 then s.fullReset else s.blank .rstN)
  else if !s.ctlList.contains k || (s.ctl k).shst != 1 || !idleOf k || !drained then .next s
  else
    let s := (s.modCtl k fun c => { c with shst := 2 }).saveIncidents
    if s.ctlList.all fun j => (s.ctl j).shst == 2 then
      .next ((s.modMedia fun m => { m with quiesced := true }).modNand fun x => { x with cleanMark := some s.sec.clockMs })
    else .next s

/-- GUARD_FULL_RESET (R491): everything outside the Guard core. -/
def execGuardFullReset (s : State) : Result := if s.plat.hold == .off then .next s else .next s.crash.fullReset

/-- POWER_LOSS (R211, R491): the supplies, VDD_GUARD included, are gone. [DEDUCED, log 35] -/
def execPowerLoss (s : State) : Result := if s.plat.hold == .off then .next s else .next (s.crash.blank .off)

/-- ALARM_RAISE (R433 to R435): the cause is latched, in GD_ALARM and in the counter sector; the first alarm holds the device. Tamper is watched where the Rulebook in force enables it (R455). -/
def execAlarmRaise (cause : AlarmCause) (rails : Nat) (s : State) : Result :=
  if s.plat.hold == .off || (cause == .tamper && s.paramN .guardTamperEnable = 0) then .next s
  else
    let s := if s.plat.hold == .alarm then s else s.alarmHold
    let s := (s.latchAlarm (State.alarmBit cause)).rset (State.alarmField cause) 1
    let s := if cause == .tamper then { s with plat := { s.plat with tamper := true } } else s
    .next (if cause == .voltage then s.rset Reg.GD_ALARM_RAIL (s.rget Reg.GD_ALARM_RAIL ||| rails) else s)

/-- ALARM_RELEASE (R435): every alarm condition has been absent long enough; a tamper alarm is released only by RST_N or power-on, once TAMPER is inactive. [DEDUCED, log 36] -/
def execAlarmRelease (s : State) : Result :=
  let held := s.flag Reg.GD_ALARM_TAMPER
  let s := { s with plat := { s.plat with tamper := false } }
  if s.plat.hold == .alarm && !held then .next s.fullReset else .next s

/-- INPUT_RECOVERED (R206): after the flush of a power fail the input has been high for 100 ms. -/
def execInputRecovered (s : State) : Result :=
  if s.media.flush == .done && s.media.nand.flushCause == 1 && decide (100000 ≤ s.media.vinHigh) then .next s.forgetReservations.fullReset else .next s

/-- THERMAL_RESTART (R482): after a thermal flush the highest on-die reading has stayed below warn_c - hysteresis_c for 10 s; where power fail was declared too, the input has been high for 100 ms. -/
def execThermalRestart (highestC : Int) (s : State) : Result :=
  if s.media.flush == .done && s.media.nand.flushCause == 2 && decide (highestC < s.param .thermalWarnC - s.param .thermalHysteresisC) &&
      (!s.media.alsoFailed || decide (100000 ≤ s.media.vinHigh)) then
    .next (if s.media.alsoFailed then s.forgetReservations else s).fullReset
  else .next s

/-- RL_COMMIT (R437, R501): the package is checked; accepted, it fills both boot images and slot 1, a Turntable record names A, and a full reset follows. -/
def execRlCommit (len : Nat) (i : ImageCheck) (depotOk : Bool) (s : State) : Result :=
  if !s.loading then .next s
  else
    let i := { i with cls := 0 }
    let st := s.verifyStatus i
    let r := if len != s.sec.rlBytes then 3 else if st != 0 then st else if depotOk then 0 else 5
    let s := (s.modSec fun x => { x with rlResult := r }).emit (.mctp [r])
    if r != 0 then .next s
    else
      let s := { s with adm := { s.adm with fwSlots := Table.ins s.adm.fwSlots 1 i, activeSlot := 1, pendingSlot := none } }
      .next (s.turnTo 0).fullReset

end Sys2Proof.Machine
end

