-- ==== Sys2Proof/Machine/Recover.lean ====
section
/-! DEFINITION. RECOVERY after an unclean stop (R180, R181, R215, R216). -/

namespace Sys2Proof.Machine

namespace State

/-- A codeword that does not decode can be rebuilt from its stripe's close parity: that was programmed, and every other position's codeword of the plane page and slot decodes (R153, R215). -/
def rebuilds (s : State) (env : RecoveryEnv) (l : Nat) : Bool :=
  match (s.sbOfLoc l).bind s.sb with
  | none => false
  | some b =>
    let others := (b.dies.zip b.blocks).filter fun q => q.1 != locDie l
    b.parity.contains (bits l 2 12 / max 1 (s.wlPages b.slc)) &&
      others.all fun q => !env.badLocs.contains (mkLoc q.1 (bits l 26 2) (q.2.getD (bits l 26 2) 0) (bits l 2 12) (bits l 0 2))

/-- Codewords of the hold-up superblocks of the last flush that decode or can be rebuilt: location and content. -/
def holdupWords (s : State) (env : RecoveryEnv) : List (Nat × Stored) :=
  s.media.nand.content.filter fun (q : Nat × Stored) => (!env.badLocs.contains q.1 || s.rebuilds env q.1) &&
    (match s.sbOfLoc q.1 with | some n => s.media.nand.flushed.any fun f => f.serial == n | none => false)

/-- Of each IU, the codeword with the highest write sequence; the first found on a tie. -/
def newestWords (l : List (Nat × Stored)) : Table (Nat × Stored) :=
  l.foldl (fun (t : Table (Nat × Stored)) q =>
    let k := mapKey q.2.slot q.2.iu
    match Table.find t k with
    | some o => if o.2.wseq < q.2.wseq then Table.ins t k q else t
    | none => Table.ins t k q) []

/-- An array IU of the flush goes back into the write buffer, FILLED: its place on the members was never written. -/
def refill (s : State) (x : Stored) : State :=
  match Table.find s.media.nand.ns (x.slot % 128) with
  | none => s
  | some ns =>
    let ps := s.freeParcels ns.parts
    if ps.length < ns.parts then s
    else
      let s := ps.zipIdx.foldl (fun (s : State) q => s.setParcel q.1 ({
        state := .filled, slot := x.slot, iu := x.iu, part := q.2, first := ps.headD 0, committed := true, restored := true
        blocks := (x.blocks.drop (q.2 * ns.bpp)).take ns.bpp } : Parcel)) s
      let s := ps.zipIdx.foldl (fun (s : State) q => s.pcInsert q.1 x.slot x.iu q.2 none) s
      s.mapSet x.slot x.iu (entInbuf (ps.headD 0))

/-- Step 3 for one IU: its map entry becomes the location, with a record of type 0x01. -/
def takeWord (s : State) (q : Nat × Stored) : State :=
  if 128 ≤ q.2.slot then s.refill q.2 else (s.mapSet q.2.slot q.2.iu q.1).journal1 q.1 q.2.iu q.2.slot 1

/-- Valid counts from the entries that the checkpoints and the journal give (step 6). -/
def recount (s : State) : State :=
  let keys := (s.media.nand.ckpt.flatMap fun q => (Table.keys q.2.entries).map fun i => (q.1 / 2 ^ 20, i)) ++
    (s.media.nand.journal.filter fun r => decide (1 ≤ r.type ∧ r.type ≤ 4)).map fun r => (r.nsx, r.index)
  let locs := (keys.eraseDups.map fun k => s.rebuiltEntry k.1 k.2).filter isLoc
  let s := s.modNand fun x => { x with sbs := x.sbs.map fun (b : Nat × Superblock) => (b.1, { b.2 with valid := 0 }) }
  locs.foldl (fun s l => s.validateLoc l) s

/-- Step 5: open superblocks close; unverified ones are victims of source 2, written hold-up superblocks of source 4. -/
def closeLost (s : State) : State :=
  s.media.nand.sbs.foldl (fun (s : State) q =>
    let n := q.1
    let b := q.2
    let open_ := b.state == .open_
    match b.stream with
    | .holdup => if s.media.nand.flushed.any fun f => f.serial == n then (s.closeSb n).queueVictim n 4 else s
    | .metadata => if open_ then s.closeSb n else s
    | _ =>
      if open_ || b.state == .closed || b.state == .failedVerify then
        (s.modSb n fun b => { b with state := .failedVerify, verifyFailed := true }).queueVictim n 2
      else s) s

/-- Every Milepost counter comes back as saved plus a quarter of the limit (R181). -/
def reloadMileposts (s : State) : State :=
  let q := s.paramN .patrolMilepostLimit / 4
  s.modNand fun x => { x with blocks := x.blocks.map fun (b : Nat × BlockInfo) => (b.1, { b.2 with milepost := min (2 ^ 32 - 1) (b.2.savedMilepost + q), check := false, checkPage := none }) }

/-- The journal as far as its pages decode (step 2). -/
def cutJournal (s : State) (env : RecoveryEnv) : State :=
  match env.journalEnd with
  | none => s
  | some e => s.modNand fun x => { x with journal := x.journal.filter fun r => decide (r.seq < e), jpages := x.jpages.filter fun p => decide (p.1 < e) }

/-- An incomplete flush (R216): critical warning bit 4, an incident, LAST_FLUSH_OK 0. -/
def reportFlush (s : State) (env : RecoveryEnv) : State :=
  let short := !s.media.nand.flushOk || s.media.nand.flushed.any fun q => !q.written || env.badSummaries.contains q.serial
  if !short then s
  else
    let s := { s with adm := { s.adm with backupFailed := true } }
    ((s.modNand fun x => { x with flushOk := false }).rset Reg.FT_HU_STAT_LAST_FLUSH_OK 0).logIncident 0x20 0xFF 0 0xFF []

/-- The steps of R215. [DEDUCED, log 35] -/
def recover (s : State) (env : RecoveryEnv) : State :=
  let s := s.cutJournal env
  let s := (newestWords (s.holdupWords env)).foldl (fun s q => s.takeWord q.2) s
  let s := s.journalAll
  let s := s.closeLost
  let s := s.recount.ageByClock.reloadMileposts
  let s := s.reportFlush env
  let s := s.modNand fun x => { x with unclean := x.unclean + 1 }
  let s := s.freshHoldup.modNand fun x => { x with flushed := [] }
  let s := (s.rset Reg.FT_HU_CNT_UNCLEAN (min 255 s.media.nand.unclean)).rset Reg.FT_HU_STAT_LAST_UNCLEAN 1
  { s with plat := { s.plat with recovered := true } }

end State

/-- RECOVERY (R180, R181, R215, R216, R498): a start without a clean-shutdown mark, once every channel is trained. -/
def execRecovery (env : RecoveryEnv) (s : State) : Result :=
  if s.booting && !s.plat.ready && !s.plat.recovered && s.needsRecovery && s.flag Reg.GD_STAT_SIGNED && s.channelsUp then .next (s.recover env) else .next s

end Sys2Proof.Machine
end

