-- ==== Sys2Proof/Machine/Scrub.lean ====
section
/-! DEFINITION. On-chip SRAM and the Platelayer's walk (chapter 15; R393, R394, R400 to R403). -/

namespace Sys2Proof.Machine

namespace State

/-- A valid SRAM word; none where its valid bit is clear (R394). -/
def sramWord (s : State) (g w : Nat) : Option SramWord := Table.find s.mem.sram (g * 2 ^ 32 + w)

/-- Stores an SRAM word; its valid bit is set. -/
def putSram (s : State) (g w : Nat) (x : SramWord) : State := s.modMem fun m => { m with sram := Table.ins m.sram (g * 2 ^ 32 + w) x }

/-- Bytes of a word replaced where a byte enable is set. -/
def mergeBytes (old new : BitVec 64) (en : BitVec 8) : BitVec 64 :=
  let mask := (List.range 8).foldl (fun (m : BitVec 64) i => if en.getLsbD i then m ||| (0xFF#64 <<< (8 * i)) else m) 0
  (old &&& ~~~mask) ||| (new &&& mask)

/-- A block writes an SRAM word (R393, R394, R400): bytes not written keep the word's data, zeros where the word was invalid; the read-modify-write corrects a single wrong bit and keeps more of them; an armed flip mask of the group inverts its bits in this word and is used up. -/
def sramWrite (s : State) (g w : Nat) (x : SramWrite) : State :=
  let old := s.sramWord g w
  let data := mergeBytes ((old.map (·.data)).getD 0) x.data x.bytes
  let kept := if x.bytes = 0xFF#8 then [] else match old with | some o => if 2 ≤ o.flips.length then o.flips else [] | none => []
  if s.flag (Reg.ME_FLIP_S_ARM g) then
    let a := s.rget (Reg.ME_FLIP_S_BIT_A g)
    let bits := if s.flag (Reg.ME_FLIP_S_TWO g) then csMerge [a] [s.rget (Reg.ME_FLIP_S_BIT_B g)] else [a]
    (((s.putSram g w ⟨data, csMerge kept (bits.filter fun b => decide (b < 72))⟩).rset (Reg.ME_FLIP_S_ARM g) 0).rset Reg.ME_FLIP_HIT_WORD w).rset Reg.ME_FLIP_HIT_GRP_GROUP (2 + g)
  else s.putSram g w ⟨data, kept⟩

/-- What the code finds in a valid word (R393): the data, and whether it corrected a bit; none when uncorrectable. -/
def sramCheck (k : Nat) (x : SramWord) : Option (Bool × BitVec 64) :=
  match x.flips with
  | [] => some (false, x.data)
  | [_] => some (true, x.data)
  | [_, _] => none
  | l => Config.sramBeyond k l x.data

/-- A corrected word: counted where its group keeps a count of its own (R228, R261). Group 5's word names the port in bit 20. [DESIGN CHOICE, log 59] -/
def sramCorrected (s : State) (g w : Nat) : State :=
  match g with
  | 1 => (s.rset Reg.AE_ERR_CORR 1).rsat Reg.AE_ERR_CNT_CORR
  | 5 => s.aer (w / 2 ^ 20 % 2) .correctedInternal
  | _ => s

/-- The owner of a word meets its uncorrectable error (the table of SRAM groups, R403): group 0 reloads it, 1 stops the Associative Engine's port, 2 halts the box, 3 falls back to the base rows or reads the codeword again, 4 ends the command, 5 stops the port, 6 is a packet-buffer error, 7 flushes before a full reset. The word names bank, channel, decoder, context or port. [DESIGN CHOICE, log 59] -/
def sramOwner (s : State) (g w : Nat) : State :=
  match g with
  | 0 => s.putSram 0 w ⟨((s.sramWord 0 w).map (·.data)).getD 0, []⟩
  | 1 => s.stopAePort (w / 4096)
  | 2 => s.haltBox (w / 4096 % 16) 2
  | 3 =>
    if w < 8192 then s.rset Reg.LD_STAT_TBL_ERR 1
    else match (Table.get ([] : List Nat) s.flash.decoders ((w - 8192) / 4096)).head? with
      | some n => match Table.find s.flash.jobs n with
        | some j => (s.dequeue n).setJob n { j with state := .sensing } |>.allDecStat
        | none => s
      | none => s
  | 4 => if (s.ctx (w / 64)).isSome then s.failCtx (w / 64) (stGen 0x06) else s
  | 5 => (s.aer (w / 2 ^ 20 % 2) .uncorrectableInternal).modPort (w / 2 ^ 20 % 2) fun x => { x with tlpStop := true }
  | 6 => s.blError (w / 2 ^ 16 % 8) 0x0B 0 none true
  | _ => if s.flushing then s else s.beginFlush 3

/-- The Platelayer reads an SRAM word: an invalid one answers zero with no check and no event; a corrected one is written back (R393, R394, R402). -/
def scrubSram (s : State) (g w : Nat) (upset : List Nat) : State :=
  match s.sramWord g w with
  | none => s
  | some x =>
    let x := { x with flips := csMerge x.flips (upset.filter fun b => decide (b < 72)) }
    match sramCheck (g * 2 ^ 32 + w) x with
    | some (false, d) => s.putSram g w ⟨d, []⟩
    | some (true, d) => ((((s.putSram g w ⟨d, []⟩).rsat Reg.ME_CNT_SRAM_CE).errInfo w 8 4 0).rset Reg.ME_ERR_INFO_GROUP g).sramCorrected g w
    | none => (((((s.putSram g w x).rsat Reg.ME_CNT_SRAM_UE).errInfo w 8 5 0).rset Reg.ME_ERR_INFO_GROUP g).logIncident 0x03 (0x10 + g) w 0xFF []).sramOwner g w

end State

/-- PLATELAYER_READ (R85, R228, R393, R394, R401 to R403): the Platelayer reads a word and writes a corrected one back; its SRAM pass is done when it comes back to word 0 of group 0. In PS4 it stands still. [DESIGN CHOICE, log 59] -/
def execPlatelayerRead (t : ScrubTarget) (s : State) : Result :=
  if !s.flag Reg.ME_CTRL_SCRUB_EN || s.plat.nonOp == some 4 then .next s
  else match t with
  | .dram w upset =>
    if s.dramBytes / 128 ≤ w || !s.segValid (w / 2 ^ 14) || s.flag Reg.MC_STAT_SELF_REFRESH then .next s
    else
      let e := addErrs (s.errsOf w) upset
      let o := decodeErrs w e
      let s := ((s.setErrs w e).miscorrect w e o).dramOutcome 8 w o (o != .poisoned)
      let total := s.dramBytes / 128
      let s := s.rset Reg.ME_SCRUB_STAT_DRAM_PCT ((w + 1) * 100 / total)
      .next (if w + 1 = total then (s.rwrap Reg.ME_SCRUB_STAT_DRAM_PASS).rset Reg.ME_SCRUB_STAT_DRAM_PCT 0 else s)
  | .sram g w writes upset =>
    if 8 ≤ g then .next s
    else
      let first := g = 0 && w = 0
      let s := if first && s.mem.sramPart then s.rwrap Reg.ME_SCRUB_STAT_SRAM_PASS else s
      let s := s.modMem fun m => { m with sramPart := !first }
      .next ((writes.foldl (fun s x => s.sramWrite g w x) s).scrubSram g w upset)
  | .store ch addr upset =>
    if s.channels ≤ ch || 8192 ≤ addr then .next s
    else
      let (s, r) := s.fetchCs ch addr upset
      .next (if r.isNone then s.logIncident 0x03 0x12 (8192 * ch + addr) 0xFF [] else s)

end Sys2Proof.Machine
end

