-- ==== Sys2Proof/Machine/Ticks.lean ====
section
/-! DEFINITION. The Timetable's clock, and what firmware does once an isolated die has left service (R29, R30, R157, R186, R347). -/

namespace Sys2Proof.Machine

namespace State

/-- A superblock that contains an isolated die closes at its current stripe; parcels of the die's units that have not passed go back to FILLED for the stream's next superblock; it becomes a victim of source 1 (R157). -/
def leaveSb (s : State) (d n : Nat) : State :=
  match s.sb n with
  | none => s
  | some b =>
    let pos := (b.dies.findIdx? (· == d)).getD 0
    let s := s.closeSb n
    let bad := b.units.filter fun u => u.1 % 64 == pos && !b.passed.contains (u.1 / 64) && (u.2.parcels.any fun p => (s.parcel p).state == .placed)
    let s := bad.foldl (fun s u =>
      let s := s.modUnit n u.1 fun x => { x with failed := true }
      u.2.parcels.foldl (fun s p => (s.iuParcels p).foldl (fun s q => s.modParcel q fun x => { x with state := .filled, unit := none, urgent := true }) s) s) s
    s.condemn n 1

/-- A worker without parity writes the IUs of an isolated die as UNREC (R157). -/
def unrecDie (s : State) (d : Nat) : State :=
  if s.wantsParity (.host 0) then s
  else
    let es := s.media.map.filter fun e => isLoc e.2 && locDie e.2 == d
    ((es.map fun e => e.1 / 2 ^ 40).eraseDups).foldl (fun s slot =>
      s.mapRecords slot ((es.filter fun e => e.1 / 2 ^ 40 == slot).map fun e => (e.1 % 2 ^ 40, entUnrec, 4))) s

/-- The share of a group that has closed to new superblocks passes to the open ones, in proportion to their user bytes (R186): `num / den` bytes of TNVMCAP. [DEDUCED, log 32] -/
def passShare (s : State) (num den : Nat) : State :=
  let total := (s.openGroups.map s.groupUser).sum
  s.openGroups.foldl (fun s h =>
    let d := max 1 (den * total * s.sbBytes h)
    s.modGrp h fun x => { x with qNum := x.qNum * d + num * s.groupUser h * x.qDen, qDen := x.qDen * d }) s

/-- The data requirement of a group after one of its dies was isolated (R186). [DEDUCED, log 32] -/
def settleShare (s : State) (g : Nat) : State :=
  let x := s.grp g
  let d := s.groupData g
  if x.qNum = 0 then s
  else if s.closedToNew g then
    (s.modGrp g fun x => { x with qNum := 0, qDen := 1 }).passShare (x.qNum * ((d + 1) * s.planesPer * s.blockBytes)) x.qDen
  else s.modGrp g fun x => { x with qNum := x.qNum * (d + 1), qDen := x.qDen * d }

/-- An isolated die leaves service (R157, R186); a sanitize that runs fails (R319). [DEDUCED, log 32] -/
def leaveService (s : State) (d : Nat) : State :=
  if (s.die d).isol = 0 || s.media.nand.lostDies.contains d then s
  else
    let s := s.modNand fun x => { x with lostDies := x.lostDies ++ [d] }
    let s := ((s.media.nand.sbs.filter fun b => b.2.dies.contains d).map (·.1)).foldl (fun s n => s.leaveSb d n) s
    let s := { s with adm := { s.adm with sanitize := s.adm.sanitize.map fun (z : Sanitize) => if z.running then { z with dieLost := true } else z } }
    let s := (s.flash.jobs.filter fun p => p.2.die == d && p.2.cls != .express).foldl (fun s p => s.sendToRecon p.1) s
    ((s.unrecDie d).settleShare (s.groupOf d)).spareCheck

/-- The device-wide maintenance of a tick (R51): the DRAM's at positions 0 and 64, the Branch Link lanes' at 2 and 66, in no other tick. -/
def deviceMaint (s : State) (k : Nat) : State :=
  if k % 64 = 0 then s.emit (.maintenance true) else if k % 64 = 2 then s.emit (.maintenance false) else s

end State

/-- TICK_CUTOFF (R30, R35, R207, R37 to R45, R49, R78, R157, R186, R484): the plan of the next tick, once per tick, while TT_CTRL.ENABLE is 1; dies isolated by then leave service. `work` is the work pending per channel; Goods is paused in PS3 and PS4. [DESIGN CHOICE, log 5; DEDUCED, log 21] -/
def execTickCutoff (work : List ChWork) (s : State) : Result :=
  if !s.flag Reg.TT_CTRL_ENABLE || !s.flash.ticking || s.flash.planned then .next s
  else
    let w := if s.plat.nonOp.isSome then work.map fun (x : ChWork) => { x with goodsCmds := 0, goodsSlots := 0 } else work
    let s := if s.flushing then s else s.planTick (s.flash.tick + 1) w
    let s := if s.flushing then s else (List.range (32 * s.channels)).foldl (fun s d => s.leaveService d) s
    .next { s with flash := { s.flash with planned := true } }

/-- TICK_BOUNDARY (R29, R30, R44, R51, R74, R347): the count advances from the first boundary on, the plan takes effect, spans grow; device-wide maintenance runs at its positions; a worker reports changes of its health. [DESIGN CHOICE, log 5] -/
def execTickBoundary (s : State) : Result :=
  if s.plat.hold != .none then .next s
  else if !s.flash.ticking then .next { s with flash := { s.flash with ticking := true, tick := 0, planned := false } }
  else
    let k := s.flash.tick + 1
    let s := (List.range s.channels).foldl (fun s ch => s.boundaryChannel k ch) s
    .next ((({ s with flash := { s.flash with
      tick := k
      planned := false
      dies := s.flash.dies.map fun (p : Nat × Die) => (p.1, State.growSpan p.2)
      cal := s.flash.cal.map fun (p : Nat × CeCal) => (p.1, State.applyTrims p.2) } } : State).deviceMaint k).healthEvents)

/-- LEG_START (R82, R83, R96, R100, R104): the parked routine of an owner on a die starts its leg in its place, unless a request is posted for the die, which is taken first; the first leg latches the band; the wear figures follow an erase that passes (R190). [DEDUCED, log 24] -/
def execLegStart (d owner : Nat) (env : LegEnv) (s : State) : Result :=
  let old := s
  let s := s.selectCtx d owner
  let x := s.die d
  let ch := chOf d
  if s.boxRuns ch && !s.flag (Reg.SB_SEQ_STAT_IN_LEG ch) && x.ctx.active && x.ctx.parked && x.request.isNone && x.isol == 0 && s.legReady d then
    let s := s.takeLegPlace d
    let band := s.rget (Reg.SB_SEQ_STAT_BAND ch)
    let k := s.flash.tick
    let s := s.modCtx d fun c => { c with parked := false, band := if c.legs = 0 then band else c.band, startTick := if c.legs = 0 then k else c.startTick }
    .next (((s.startLeg ch d x.ctx.resume false false 0 x.ctx.desc []).runWords ch env).wearSince old)
  else .next s

/-- HOLD_RELEASE (R92): a leg in progress goes on with what the bus returns; the wear figures follow (R190). [DEDUCED, log 24] -/
def execHoldRelease (ch : Nat) (env : LegEnv) (s : State) : Result :=
  if s.boxRuns ch && s.flag (Reg.SB_SEQ_STAT_IN_LEG ch) then .next ((s.runWords ch env).wearSince s) else .next s

end Sys2Proof.Machine
end

