-- ==== Sys2Proof/Machine/Vendor.lean ====
section
/-! DEFINITION. Firmware download, commit and activation, Security Send and Receive, and the vendor admin commands (R320 to R326, R421 to R427, R442, R450). -/

namespace Sys2Proof.Machine

namespace State

/-! ## Staging buffers -/

/-- Bytes written over a buffer at an offset; a gap reads as zero. -/
def overlay (buf : List Byte) (off : Nat) (new : List Byte) : List Byte :=
  (buf ++ List.replicate (off - buf.length) 0#8).take off ++ new ++ buf.drop (off + new.length)

/-- Two parts overlap. -/
def overlaps (a b : Nat × Nat) : Bool := decide (a.1 < b.1 + b.2) && decide (b.1 < a.1 + a.2)

/-! ## Firmware (R320 to R322, R437) -/

/-- The slot a commit names, or the one the device chooses: neither active nor pending (R321). -/
def commitSlot (s : State) (fs : Nat) : Nat :=
  if fs != 0 then fs else (([1, 2, 3] : List Nat).find? fun i => i != s.adm.activeSlot && s.adm.pendingSlot != some i).getD 1

/-- The staged package with the verdicts of its checks (R320, R436). -/
def stagedPackage (s : State) (i : ImageCheck) : ImageCheck := { i with cls := 0, bytes := s.adm.fwBytes, length := s.adm.fwBytes.length }

/-- The package of a slot with the verdicts of its checks. -/
def slotPackage (s : State) (slot : Nat) (i : ImageCheck) : ImageCheck :=
  match Table.find s.adm.fwSlots slot with
  | some x => { i with cls := 0, bytes := x.bytes, length := x.length }
  | none => { i with cls := 0 }

/-- The checks of a package at a commit (R321, R437). -/
def packageStatus (s : State) (i : ImageCheck) : Option Status :=
  match s.verifyStatus { i with cls := 0 } with
  | 0 => none
  | 4 => some (stCmd 0x13)
  | _ => some (stCmd 0x07)

/-- Stores the staged package in a slot; the staging buffer is empty again. -/
def storePackage (s : State) (slot : Nat) (i : ImageCheck) : State :=
  { s with adm := { s.adm with fwSlots := Table.ins s.adm.fwSlots slot { i with cls := 0 }, fwParts := [], fwBytes := [] } }

/-- A slot activates at the next conventional reset; the boot images are swapped then (R321). -/
def activateLater (s : State) (slot : Nat) : State :=
  { s with adm := { s.adm with pendingSlot := some slot } }.modSec fun x => { x with swapPending := true }

/-- Fetching pauses on both controllers (R322). -/
def pauseFetch (s : State) (on : Bool) : State := s.ctlList.foldl (fun s k => s.modCtl k fun c => { c with pp := on }) s

/-- A Firmware Commit of the checked package (R321). [DEDUCED, log 54] -/
def commit (s : State) (n ca slot : Nat) (img : ImageCheck) : State :=
  match ca with
  | 0 => (s.storePackage slot img).finish n stOk
  | 1 => ((s.storePackage slot img).activateLater slot).finish n stOk
  | _ =>
    let old := Table.find s.adm.fwSlots s.adm.activeSlot
    let s := s.storePackage slot img
    if !img.hotOk || (match old with | some x => img.changesBoot x | none => true) then (s.activateLater slot).finish n (stCmd 0x0B)
    else { s with adm := { s.adm with activation := some (n, slot) } }.pauseFetch true

/-- Every command but the commit and the event requests has its completion entry (R322). -/
def drained (s : State) (n : Nat) : Bool :=
  s.adm.ctxs.all fun p => p.1 == n || decide (2 ≤ p.2.ctl) || p.2.posted || (p.2.sqid == 0 && p.2.sqe.opcode == 0x0C && p.2.status.isNone)

/-! ## Opal (R421 to R425) -/

/-- The effect of an Opal method, and whether it succeeds; none while it waits for commands on the namespaces it governs. -/
def opalMethod (s : State) (m : OpalPayload) : Option (State × Bool) :=
  match m with
  | .activate => some ((s.modSec fun x => { x with opalActive := true }).rset Reg.CE_STAT_OPAL_ACTIVE 1, true)
  | .set slot readEn writeEn readLocked writeLocked namesRange lor =>
    if !s.sec.opalActive || namesRange then some (s, false)
    else if !s.nsQuiet (s.governs slot) then none
    else some (s.modRow slot fun _ => ⟨readEn, writeEn, readLocked, writeLocked, lor % 4⟩, true)
  | .genKey slot =>
    if !s.sec.opalActive then some (s, false)
    else match slot with
      | some y => if s.nsQuiet (· == y) then some (s.genKey y, true) else none
      | none => if s.nsQuiet (fun _ => true) then some (s.opalErase, true) else none
  | .revert => if s.nsQuiet (fun _ => true) then some (s.opalErase.opalRevert, true) else none
  | .discovery => some (s, true)
  | .notAuthorized => some (s, false)

/-- Bytes a Security Receive returns: the protocol list of protocol 0; an Opal response has its layout from the TCG specifications. [DEDUCED, log 55] -/
def securityBytes (s : State) (proto spsp len : Nat) : List Nat :=
  if proto = 0 && spsp = 0 then padTo len [0, 0, 0, 0, 0, 0, 0, 3, 0, 1, 2] else openBytes 0x182 0 s.free len

/-! ## Vendor commands (R324 to R326) -/

/-- The answer of a Depot Image Commit on the staged bytes: 0 when the image is written, else the cause (R325, R326, R529, R530). [DEDUCED, log 54] -/
def imageCause (s : State) (typ : Nat) (sigOk : Bool) : Nat :=
  if s.adm.depotType != typ then (if typ = 1 then 2 else 6)
  else if typ = 1 then
    let r : RulebookImage := ⟨s.adm.depotBytes, sigOk⟩
    let v := r.check (s.rget Reg.GD_STAT_LEVEL) s.sec.rbKey s.sec.rbMinSvn s.bifur
    if v.result != 0 then v.status
    else match s.sec.inForce with
      | some f => if r.seq ≤ f.seq then 2 else 0
      | none => 0
  else s.microCause ⟨s.adm.depotBytes, sigOk⟩

/-- Writes the staged image to its Depot area; the staging buffer is empty again (R325). [DEDUCED, log 54] -/
def writeImage (s : State) (typ : Nat) : State :=
  { s with adm := { s.adm with depotBytes := [] } }.writeArea typ s.adm.depotBytes

/-- An entry of Die Table Read (R65, R324): 32 bytes, the isolation cause, three reserved bytes. -/
def dieEntry (s : State) (d : Nat) : List Nat := leBytes 32 (s.die d).entry.toNat ++ [(s.die d).isol, 0, 0, 0]

end State

/-- FIRMWARE_IMAGE_DOWNLOAD (R320): multiples of 4 KiB, at most 3 MiB; offset 0 starts a new sequence; an overlap fails. -/
def execFirmwareImageDownload (n : Nat) (bytes : List Byte) (s : State) : Result :=
  match s.adminRun n 0x11 with
  | none => .next s
  | some c =>
    let len := c.a 0
    let off := c.a 1
    let new := bytes.take len ++ List.replicate (len - bytes.length) 0#8
    if len % 4096 != 0 || len == 0 || off % 4096 != 0 || decide (3 * 2 ^ 20 < off + len) then .next (s.finish n stField)
    else if off = 0 then .next ({ s with adm := { s.adm with fwParts := [(0, len)], fwBytes := new } }.finish n stOk)
    else if s.adm.fwParts.any (State.overlaps (off, len)) then .next (s.finish n (stCmd 0x14))
    else .next ({ s with adm := { s.adm with fwParts := s.adm.fwParts ++ [(off, len)], fwBytes := State.overlay s.adm.fwBytes off new } }.finish n stOk)

/-- FIRMWARE_COMMIT (R321, R437): CA 0 stores, 1 stores and activates at the next conventional reset, 2 activates a stored slot so, 3 activates at once where the package allows it. The package is the staged bytes, `img` gives the verdicts on key, signature and digests. [DEDUCED, log 54] -/
def execFirmwareCommit (n : Nat) (img : ImageCheck) (s : State) : Result :=
  match s.adminRun n 0x10 with
  | none => .next s
  | some c =>
    let ca := c.a 0
    if s.adm.activation.isSome then .next s
    else if 3 < ca then .next (s.finish n stField)
    else if 3 < c.a 1 || (ca == 2 && c.a 1 == 0) then .next (s.finish n (stCmd 0x06))
    else
      let slot := s.commitSlot (c.a 1)
      if ca = 2 then match Table.find s.adm.fwSlots slot with
        | none => .next (s.finish n (stCmd 0x07))
        | some i => match s.packageStatus i with
          | some st => .next (s.finish n st)
          | none => .next ((s.activateLater slot).finish n stOk)
      else if s.adm.fwParts.isEmpty then .next (s.finish n (stCmd 0x07))
      else match s.packageStatus (s.stagedPackage img) with
        | some st => .next (s.finish n st)
        | none => .next (s.commit n ca slot (s.stagedPackage img))

/-- ACTIVATION_DRAIN_DONE (R317, R322, R441): with every command drained the new firmware is verified and measured, AFI follows, fetching resumes, the event is posted; a full record leaves the activation to a conventional reset. [DEDUCED, log 54] -/
def execActivationDrainDone (img : ImageCheck) (s : State) : Result :=
  match s.adm.activation with
  | none => .next s
  | some (n, slot) =>
    if !s.drained n || s.plat.hold != .none || s.flushing then .next s
    else
      let img := s.slotPackage slot img
      let s := ({ s with adm := { s.adm with activation := none } }).pauseFetch false
      match s.packageStatus img with
      | some st => .next (s.finish n st)
      | none =>
        if 64 ≤ s.sec.journey.length then .next ((s.activateLater slot).finish n (stCmd 0x0B))
        else
          let s := s.endSelfTest 8 0
          let s := s.append (s.imageEntry 10 slot img)
          let s := ({ s with adm := { s.adm with activeSlot := slot, pendingSlot := if s.adm.pendingSlot = some slot then none else s.adm.pendingSlot } }).modSec fun x =>
            { x with running := img.svn, verified := if x.verified.contains img.digest then x.verified else x.verified ++ [img.digest] }
          .next (((s.rset Reg.GD_MIN_SVN_RUNNING img.svn).finish n stOk).postNotice 1 0x03)

/-- SECURITY_SEND (R301, R421 to R425, R427): an Opal method; its status goes to the method's response. -/
def execSecuritySend (n : Nat) (payload : OpalPayload) (s : State) : Result :=
  match s.adminRun n 0x81 with
  | none => .next s
  | some _ =>
    match s.opalMethod payload with
    | none => .next s
    | some (s, ok) => .next ((s.finish n stOk).emit (.opal ok))

/-- SECURITY_RECEIVE (R301, R421, R427). -/
def execSecurityReceive (n : Nat) (s : State) : Result :=
  match s.adminRun n 0x82 with
  | none => .next s
  | some c => .next (s.nextFree.finishData n (s.securityBytes (c.a 0) (c.a 1) c.sqe.bytes))

/-- DEPOT_IMAGE_DOWNLOAD (R324): into the 1 MiB staging buffer; offset 0 starts a new image. -/
def execDepotImageDownload (n : Nat) (bytes : List Byte) (s : State) : Result :=
  match s.adminRun n 0xC0 with
  | none => .next s
  | some c =>
    let len := c.a 0
    let off := c.a 1
    let new := bytes.take len ++ List.replicate (len - bytes.length) 0#8
    if !([1, 2].contains (c.a 2)) || decide (2 ^ 20 < off + len) || (off != 0 && s.adm.depotType != c.a 2) then .next (s.finish n stField)
    else .next ({ s with adm := { s.adm with depotType := c.a 2, depotBytes := State.overlay (if off = 0 then [] else s.adm.depotBytes) off new } }.finish n stOk)

/-- DEPOT_IMAGE_COMMIT (R107, R325, R326, R529, R530): the staged bytes are the image; `sigOk`: its signature verifies. -/
def execDepotImageCommit (n : Nat) (sigOk : Bool) (s : State) : Result :=
  match s.adminRun n 0xC1 with
  | none => .next s
  | some c =>
    if !([1, 2].contains (c.a 2)) then .next (s.finish n stField)
    else
      let cause := s.imageCause (c.a 2) sigOk
      if cause = 0 then .next ((s.writeImage (c.a 2)).finish n stOk) else .next (s.finish n (stCmd 0xC0) cause)

/-- GUARD_CHALLENGE (R324, R326): 64 bytes: nonce, serial, level, boot counter. -/
def execGuardChallenge (n : Nat) (s : State) : Result :=
  match s.adminRun n 0xC2 with
  | none => .next s
  | some _ =>
    let s := s.newChallenge
    .next (s.finishData n (leBytes 32 (s.sec.challenge.getD 0) ++ leBytes 8 s.sec.serial ++ [s.rget Reg.GD_STAT_LEVEL, 0, 0, 0] ++ leBytes 4 s.sec.boot ++ List.replicate 16 0))

/-- DIAGNOSTIC_TICKET (R324, R326, R504, R505). -/
def execDiagnosticTicket (n : Nat) (ticket : Ticket) (s : State) : Result :=
  match s.adminRun n 0xC3 with
  | none => .next s
  | some c =>
    if 4096 < c.a 0 then .next (s.finish n stField)
    else if s.rget Reg.GD_STAT_LEVEL = 0 then .next (s.finish n (stCmd 0xC1))
    else
      let (s, ok) := s.takeTicket ticket
      .next (s.finish n (if ok then stOk else stCmd 0xC3))

/-- LIFECYCLE_REQUEST (R324, R326, R450). -/
def execLifecycleRequest (n : Nat) (s : State) : Result :=
  match s.adminRun n 0xC4 with
  | none => .next s
  | some c =>
    let (s, ok) := s.lifecycle (c.a 0) (c.a 1)
    .next (s.finish n (if ok then stOk else stCmd 0xC4))

/-- HOLD_UP_MEASURE (R199, R324, R326): a repeat measurement; the command completes when it has ended. -/
def execHoldUpMeasure (n : Nat) (s : State) : Result :=
  match s.adminRun n 0xC5 with
  | none => .next s
  | some _ =>
    if s.paramN .holdupEnable = 0 then .next (s.finish n (stCmd 0xC1)) else .next (s.startRepeat.markSent n)

/-- JOURNEY_LOG_ARCHIVE_READ (R324, R326, R442). -/
def execJourneyLogArchiveRead (n : Nat) (s : State) : Result :=
  match s.adminRun n 0xC6 with
  | none => .next s
  | some c =>
    match s.archived (c.a 2) with
    | none => .next (s.finish n (stCmd 0xC2))
    | some l => .next (s.finishData n (State.pageBytes l (c.a 1) (c.a 0)))

/-- DIE_TABLE_READ (R65, R324): entries from a die number. -/
def execDieTableRead (n : Nat) (s : State) : Result :=
  match s.adminRun n 0xC7 with
  | none => .next s
  | some c =>
    let ds := (List.range (32 * s.channels)).drop (c.a 1)
    .next (s.finishData n (State.pageBytes (ds.flatMap s.dieEntry) 0 (c.a 0)))

end Sys2Proof.Machine
end

