-- ==== Sys2Proof/Machine/Dispatch.lean ====
section
/-! DEFINITION. What each command does: one arm per constructor of Instr. -/

namespace Sys2Proof.Machine

/-- The effect of a command on everything but the queue. -/
def exec (i : Instr) (s : State) : Host.Outcome State Fault Refusal :=
  match i with
  | .powerOnReset offMs => Sys2Proof.Machine.execPowerOnReset offMs s
  | .rstNAssert lowNs => Sys2Proof.Machine.execRstNAssert lowNs s
  | .rstNRelease => Sys2Proof.Machine.execRstNRelease s
  | .guardFullReset => Sys2Proof.Machine.execGuardFullReset s
  | .strapSample x => Sys2Proof.Machine.execStrapSample x s
  | .perstNAssert => Sys2Proof.Machine.execPerstNAssert s
  | .perstNDeassert => Sys2Proof.Machine.execPerstNDeassert s
  | .linkTrainingStart p => Sys2Proof.Machine.execLinkTrainingStart p s
  | .hotReset p => Sys2Proof.Machine.execHotReset p s
  | .pcieLinkDown p => Sys2Proof.Machine.execPcieLinkDown p s
  | .l1Entry p sub => Sys2Proof.Machine.execL1Entry p sub s
  | .l1Exit p => Sys2Proof.Machine.execL1Exit p s
  | .flr p => Sys2Proof.Machine.execFlr p s
  | .flrFinish p lastTlpNs durNs => Sys2Proof.Machine.execFlrFinish p lastTlpNs durNs s
  | .configWrite p w => Sys2Proof.Machine.execConfigWrite p w s
  | .memWriteTlp p addr bytes poisoned => Sys2Proof.Machine.execMemWriteTlp p addr bytes poisoned s
  | .memReadTlp p addr len ue => Sys2Proof.Machine.execMemReadTlp p addr len ue s
  | .hostReadCompletion p tag len poisoned list => Sys2Proof.Machine.execHostReadCompletion p tag len poisoned list s
  | .completionTimeout p tag => Sys2Proof.Machine.execCompletionTimeout p tag s
  | .tagQuarantineEnd p tag => Sys2Proof.Machine.execTagQuarantineEnd p tag s
  | .msixTableWrite p vector dword v => Sys2Proof.Machine.execMsixTableWrite p vector dword v s
  | .ccEnable k css mps ams => Sys2Proof.Machine.execCcEnable k css mps ams s
  | .controllerReset k => Sys2Proof.Machine.execControllerReset k s
  | .normalShutdown k => Sys2Proof.Machine.execNormalShutdown k s
  | .abruptShutdown k => Sys2Proof.Machine.execAbruptShutdown k s
  | .shutdownComplete k => Sys2Proof.Machine.execShutdownComplete k s
  | .sqTailDoorbell k q tail => Sys2Proof.Machine.execSqTailDoorbell k q tail s
  | .cqHeadDoorbell k q head => Sys2Proof.Machine.execCqHeadDoorbell k q head s
  | .intmsWrite k v => Sys2Proof.Machine.execIntmsWrite k v s
  | .intmcWrite k v => Sys2Proof.Machine.execIntmcWrite k v s
  | .commandFetch k e ue => Sys2Proof.Machine.execCommandFetch k e ue s
  | .serialisedStart n => Sys2Proof.Machine.execSerialisedStart n s
  | .ilInsert n fw => Sys2Proof.Machine.execIlInsert n fw s
  | .ilRemove n => Sys2Proof.Machine.execIlRemove n s
  | .completionPoint n => Sys2Proof.Machine.execCompletionPoint n s
  | .abortIlCas n => Sys2Proof.Machine.execAbortIlCas n s
  | .completionPost n admitNs arrayNs xferNs => Sys2Proof.Machine.execCompletionPost n admitNs arrayNs xferNs s
  | .coalesceTimeout p v => Sys2Proof.Machine.execCoalesceTimeout p v s
  | .pcSearchPin n iu part ue => Sys2Proof.Machine.execPcSearchPin n iu part ue s
  | .pcPinAddr n iu part p ue => Sys2Proof.Machine.execPcPinAddr n iu part p ue s
  | .pcUnpin p => Sys2Proof.Machine.execPcUnpin p s
  | .pcInsert p nsx iu part superseded => Sys2Proof.Machine.execPcInsert p nsx iu part superseded s
  | .pcRelease p => Sys2Proof.Machine.execPcRelease p s
  | .pcClear p => Sys2Proof.Machine.execPcClear p s
  | .aeSearch port w key mask banks startBank startIndex => Sys2Proof.Machine.execAeSearch port w key mask banks startBank startIndex s
  | .aeSearchWindow => Sys2Proof.Machine.execAeSearchWindow s
  | .aePortRestart port => Sys2Proof.Machine.execAePortRestart port s
  | .mapLineRead n iu ue => Sys2Proof.Machine.execMapLineRead n iu ue s
  | .mapWrite slot iu entry => Sys2Proof.Machine.execMapWrite slot iu entry s
  | .mapCas slot iu expected entry => Sys2Proof.Machine.execMapCas slot iu expected entry s
  | .mapLineRebuild slot line readable => Sys2Proof.Machine.execMapLineRebuild slot line readable s
  | .tickCutoff work => Sys2Proof.Machine.execTickCutoff work s
  | .tickBoundary => Sys2Proof.Machine.execTickBoundary s
  | .ttEnable => Sys2Proof.Machine.execTtEnable s
  | .ttBudgetEffWrite prog erase => Sys2Proof.Machine.execTtBudgetEffWrite prog erase s
  | .tickLoRead => Sys2Proof.Machine.execTickLoRead s
  | .legStart d owner env => Sys2Proof.Machine.execLegStart d owner env s
  | .holdRelease ch env => Sys2Proof.Machine.execHoldRelease ch env s
  | .requestTaken d env unwind => Sys2Proof.Machine.execRequestTaken d env unwind s
  | .stationWatchdog ch => Sys2Proof.Machine.execStationWatchdog ch s
  | .sbRestart ch => Sys2Proof.Machine.execSbRestart ch s
  | .opTimeout d inv => Sys2Proof.Machine.execOpTimeout d inv s
  | .rbStuck ch => Sys2Proof.Machine.execRbStuck ch s
  | .opRead d a => Sys2Proof.Machine.execOpRead d a s
  | .opReadSlc d a => Sys2Proof.Machine.execOpReadSlc d a s
  | .opReadRetry d a => Sys2Proof.Machine.execOpReadRetry d a s
  | .opReadSoft d a => Sys2Proof.Machine.execOpReadSoft d a s
  | .opProg d a => Sys2Proof.Machine.execOpProg d a s
  | .opProgSlc d a => Sys2Proof.Machine.execOpProgSlc d a s
  | .opErase d a => Sys2Proof.Machine.execOpErase d a s
  | .opSuspendProg d env unwind => Sys2Proof.Machine.execOpSuspendProg d env unwind s
  | .opSuspendErase d env unwind => Sys2Proof.Machine.execOpSuspendErase d env unwind s
  | .opResumeProg d env reapply => Sys2Proof.Machine.execOpResumeProg d env reapply s
  | .opResumeErase d env reapply => Sys2Proof.Machine.execOpResumeErase d env reapply s
  | .opAbort d env unwind => Sys2Proof.Machine.execOpAbort d env unwind s
  | .opStatus d status => Sys2Proof.Machine.execOpStatus d status s
  | .opResetCe ch ce => Sys2Proof.Machine.execOpResetCe ch ce s
  | .opSetFeature d feat v => Sys2Proof.Machine.execOpSetFeature d feat v s
  | .opGetFeature d feat => Sys2Proof.Machine.execOpGetFeature d feat s
  | .opIdentify ch ce answer => Sys2Proof.Machine.execOpIdentify ch ce answer s
  | .opZqLong ch ce => Sys2Proof.Machine.execOpZqLong ch ce s
  | .opZqShort ch ce => Sys2Proof.Machine.execOpZqShort ch ce s
  | .opDcc ch ce => Sys2Proof.Machine.execOpDcc ch ce s
  | .opReadTrain ch ce ts => Sys2Proof.Machine.execOpReadTrain ch ce ts s
  | .opWriteTrain ch ce ts => Sys2Proof.Machine.execOpWriteTrain ch ce ts s
  | .opTrainVerify ch ce ok => Sys2Proof.Machine.execOpTrainVerify ch ce ok s
  | .opDrift ch ce ms => Sys2Proof.Machine.execOpDrift ch ce ms s
  | .opWdrift ch ce ms => Sys2Proof.Machine.execOpWdrift ch ce ms s
  | .opVendor d n => Sys2Proof.Machine.execOpVendor d n s
  | .csWrite bcast box => Sys2Proof.Machine.execCsWrite bcast box s
  | .csRead box => Sys2Proof.Machine.execCsRead box s
  | .tableWrite index => Sys2Proof.Machine.execTableWrite index s
  | .loadLock => Sys2Proof.Machine.execLoadLock s
  | .channelIdentify ch ces => Sys2Proof.Machine.execChannelIdentify ch ces s
  | .channelTrain ch ts temp => Sys2Proof.Machine.execChannelTrain ch ts temp s
  | .calForceHold ch ce => Sys2Proof.Machine.execCalForceHold ch ce s
  | .hardDecodeDone n r => Sys2Proof.Machine.execHardDecodeDone n r s
  | .softDecodeDone n r => Sys2Proof.Machine.execSoftDecodeDone n r s
  | .reconstruction n ok lba nsid => Sys2Proof.Machine.execReconstruction n ok lba nsid s
  | .parcelReserve n => Sys2Proof.Machine.execParcelReserve n s
  | .parcelPlace g st ps copies lost => Sys2Proof.Machine.execParcelPlace g st ps copies lost s
  | .padTimeout n j => Sys2Proof.Machine.execPadTimeout n j s
  | .stripePass n j => Sys2Proof.Machine.execStripePass n j s
  | .programFail n j pos => Sys2Proof.Machine.execProgramFail n j pos s
  | .eraseFail d plane block => Sys2Proof.Machine.execEraseFail d plane block s
  | .bufferStopFlushDone => Sys2Proof.Machine.execBufferStopFlushDone s
  | .journalCommit => Sys2Proof.Machine.execJournalCommit s
  | .journalCommitTimeout => Sys2Proof.Machine.execJournalCommitTimeout s
  | .journalPageDurable => Sys2Proof.Machine.execJournalPageDurable s
  | .checkpointWrite seg => Sys2Proof.Machine.execCheckpointWrite seg s
  | .segmentLoad seg => Sys2Proof.Machine.execSegmentLoad seg s
  | .patrolPeriod periodsLeft => Sys2Proof.Machine.execPatrolPeriod periodsLeft s
  | .trackerAge => Sys2Proof.Machine.execTrackerAge s
  | .blockCheck ch die plane block => Sys2Proof.Machine.execBlockCheck ch die plane block s
  | .staticRelocationScan => Sys2Proof.Machine.execStaticRelocationScan s
  | .indicatorUpdate => Sys2Proof.Machine.execIndicatorUpdate s
  | .tenderSample bank vin => Sys2Proof.Machine.execTenderSample bank vin s
  | .tenderLimitUpdate => Sys2Proof.Machine.execTenderLimitUpdate s
  | .repeatMeasurement => Sys2Proof.Machine.execRepeatMeasurement s
  | .remeasureTimer => Sys2Proof.Machine.execRemeasureTimer s
  | .measureDischargeStart => Sys2Proof.Machine.execMeasureDischargeStart s
  | .bankSettled => Sys2Proof.Machine.execBankSettled s
  | .bankFallTimed us => Sys2Proof.Machine.execBankFallTimed us s
  | .measureTimeout => Sys2Proof.Machine.execMeasureTimeout s
  | .sagTimeout => Sys2Proof.Machine.execSagTimeout s
  | .powerFailDeclare => Sys2Proof.Machine.execPowerFailDeclare s
  | .flushProgramLoad => Sys2Proof.Machine.execFlushProgramLoad s
  | .flushProgramDone idx ok => Sys2Proof.Machine.execFlushProgramDone idx ok s
  | .bankDepleted => Sys2Proof.Machine.execBankDepleted s
  | .inputRecovered => Sys2Proof.Machine.execInputRecovered s
  | .recovery env => Sys2Proof.Machine.execRecovery env s
  | .blLinkTrain p => Sys2Proof.Machine.execBlLinkTrain p s
  | .branchLinkDown p => Sys2Proof.Machine.execBranchLinkDown p s
  | .hello h => Sys2Proof.Machine.execHello h s
  | .helloAck p h => Sys2Proof.Machine.execHelloAck p h s
  | .helloRepeat p => Sys2Proof.Machine.execHelloRepeat p s
  | .blRead c => Sys2Proof.Machine.execBlRead c s
  | .blWrite c => Sys2Proof.Machine.execBlWrite c s
  | .writeDelta c => Sys2Proof.Machine.execWriteDelta c s
  | .parityApply c => Sys2Proof.Machine.execParityApply c s
  | .deallocate c => Sys2Proof.Machine.execDeallocate c s
  | .blFlush c => Sys2Proof.Machine.execBlFlush c s
  | .blIdentify c => Sys2Proof.Machine.execBlIdentify c s
  | .volumeCreate c capacity iuShift => Sys2Proof.Machine.execVolumeCreate c capacity iuShift s
  | .volumeDelete c => Sys2Proof.Machine.execVolumeDelete c s
  | .blSanitize c sanact owpass ovrpat => Sys2Proof.Machine.execBlSanitize c sanact owpass ovrpat s
  | .blSetTime c ms => Sys2Proof.Machine.execBlSetTime c ms s
  | .xferRdy p h tag first count => Sys2Proof.Machine.execXferRdy p h tag first count s
  | .data p h tag index bytes => Sys2Proof.Machine.execData p h tag index bytes s
  | .grantOpen tag => Sys2Proof.Machine.execGrantOpen tag s
  | .resp p h tag status detail count unrec zeros => Sys2Proof.Machine.execResp p h tag status detail count unrec zeros s
  | .blAbort h tag => Sys2Proof.Machine.execBlAbort h tag s
  | .abortAck p h tag noSuchTag => Sys2Proof.Machine.execAbortAck p h tag noSuchTag s
  | .logRead h tag logId numd offset bootCounter => Sys2Proof.Machine.execLogRead h tag logId numd offset bootCounter s
  | .resume h lastEntry => Sys2Proof.Machine.execResume h lastEntry s
  | .resumeAck p h stale newest => Sys2Proof.Machine.execResumeAck p h stale newest s
  | .event p h code entry => Sys2Proof.Machine.execEvent p h code entry s
  | .ack p lseq => Sys2Proof.Machine.execAck p lseq s
  | .nak p lseq => Sys2Proof.Machine.execNak p lseq s
  | .credit p hdr data => Sys2Proof.Machine.execCredit p hdr data s
  | .replayTimeout p => Sys2Proof.Machine.execReplayTimeout p s
  | .cmdTimeout p tag => Sys2Proof.Machine.execCmdTimeout p tag s
  | .blTagQuarantineEnd p tag => Sys2Proof.Machine.execBlTagQuarantineEnd p tag s
  | .discoveryWindowEnd => Sys2Proof.Machine.execDiscoveryWindowEnd s
  | .destage slot row parcels => Sys2Proof.Machine.execDestage slot row parcels s
  | .slowMember m => Sys2Proof.Machine.execSlowMember m s
  | .rebuildStart pos target => Sys2Proof.Machine.execRebuildStart pos target s
  | .rebuildRow => Sys2Proof.Machine.execRebuildRow s
  | .inspectionRow slot row => Sys2Proof.Machine.execInspectionRow slot row s
  | .inspectNow => Sys2Proof.Machine.execInspectNow s
  | .regionClear slot g => Sys2Proof.Machine.execRegionClear slot g s
  | .resync slot g => Sys2Proof.Machine.execResync slot g s
  | .dramRead port addr upset => Sys2Proof.Machine.execDramRead port addr upset s
  | .dramWrite port addr bytes => Sys2Proof.Machine.execDramWrite port addr bytes s
  | .flipMaskArm group v => Sys2Proof.Machine.execFlipMaskArm group v s
  | .mergeRetire ch w => Sys2Proof.Machine.execMergeRetire ch w s
  | .urgencyEscalate port level latNs => Sys2Proof.Machine.execUrgencyEscalate port level latNs s
  | .sweepSegmentDone => Sys2Proof.Machine.execSweepSegmentDone s
  | .segInval seg => Sys2Proof.Machine.execSegInval seg s
  | .platelayerRead t => Sys2Proof.Machine.execPlatelayerRead t s
  | .mr4Poll ch temps => Sys2Proof.Machine.execMr4Poll ch temps s
  | .keyDerive byGuard r => Sys2Proof.Machine.execKeyDerive byGuard r s
  | .keyCacheInvalidate label slot => Sys2Proof.Machine.execKeyCacheInvalidate label slot s
  | .xtsJob j => Sys2Proof.Machine.execXtsJob j s
  | .gcmEncrypt j => Sys2Proof.Machine.execGcmEncrypt j s
  | .gcmDecrypt j nonce tagOk => Sys2Proof.Machine.execGcmDecrypt j nonce tagOk s
  | .hwmAdvance ok => Sys2Proof.Machine.execHwmAdvance ok s
  | .opalSet slot readLocked writeLocked namesRange => Sys2Proof.Machine.execOpalSet slot readLocked writeLocked namesRange s
  | .opalGenkey slot => Sys2Proof.Machine.execOpalGenkey slot s
  | .opalRevert ok => Sys2Proof.Machine.execOpalRevert ok s
  | .alarmRaise cause rails => Sys2Proof.Machine.execAlarmRaise cause rails s
  | .alarmRelease => Sys2Proof.Machine.execAlarmRelease s
  | .bootChainStage g => Sys2Proof.Machine.execBootChainStage g s
  | .status slot => Sys2Proof.Machine.execStatus slot s
  | .verifyImage slot idx => Sys2Proof.Machine.execVerifyImage slot idx s
  | .measure slot idx => Sys2Proof.Machine.execMeasure slot idx s
  | .challenge slot => Sys2Proof.Machine.execChallenge slot s
  | .ticket slot t => Sys2Proof.Machine.execTicket slot t s
  | .lifecycle slot target confirm => Sys2Proof.Machine.execLifecycle slot target confirm s
  | .mediaKeyAdvance slot ok => Sys2Proof.Machine.execMediaKeyAdvance slot ok s
  | .setTime slot ms => Sys2Proof.Machine.execSetTime slot ms s
  | .spdm slot t r => Sys2Proof.Machine.execSpdm slot t r s
  | .helloBuild slot p => Sys2Proof.Machine.execHelloBuild slot p s
  | .helloCheck slot p h => Sys2Proof.Machine.execHelloCheck slot p h s
  | .seal slot secretId bytes ok => Sys2Proof.Machine.execSeal slot secretId bytes ok s
  | .unseal slot secretId => Sys2Proof.Machine.execUnseal slot secretId s
  | .stamp slot => Sys2Proof.Machine.execStamp slot s
  | .getVersion t => Sys2Proof.Machine.execGetVersion t s
  | .getCapabilities t => Sys2Proof.Machine.execGetCapabilities t s
  | .negotiateAlgorithms t p384 sha384 => Sys2Proof.Machine.execNegotiateAlgorithms t p384 sha384 s
  | .getDigests t => Sys2Proof.Machine.execGetDigests t s
  | .getCertificate t slot off len => Sys2Proof.Machine.execGetCertificate t slot off len s
  | .spdmChallenge t slot nonce => Sys2Proof.Machine.execSpdmChallenge t slot nonce s
  | .getMeasurements t idx sg => Sys2Proof.Machine.execGetMeasurements t idx sg s
  | .clockOscStop us => Sys2Proof.Machine.execClockOscStop us s
  | .vbatLow mv => Sys2Proof.Machine.execVbatLow mv s
  | .scTimeLoRead => Sys2Proof.Machine.execScTimeLoRead s
  | .depotProgram guard word value pcBank => Sys2Proof.Machine.execDepotProgram guard word value pcBank s
  | .depotErase guard word pcBank => Sys2Proof.Machine.execDepotErase guard word pcBank s
  | .depotProgramDone b ok => Sys2Proof.Machine.execDepotProgramDone b ok s
  | .depotEraseDone b ok => Sys2Proof.Machine.execDepotEraseDone b ok s
  | .depotRead guard addr upset => Sys2Proof.Machine.execDepotRead guard addr upset s
  | .depotSuspend b => Sys2Proof.Machine.execDepotSuspend b s
  | .depotResume b => Sys2Proof.Machine.execDepotResume b s
  | .dpWpSet x => Sys2Proof.Machine.execDpWpSet x s
  | .tempSample inputs => Sys2Proof.Machine.execTempSample inputs s
  | .thresholdCrossed t => Sys2Proof.Machine.execThresholdCrossed t s
  | .thresholdCleared t => Sys2Proof.Machine.execThresholdCleared t s
  | .throttleStepUp => Sys2Proof.Machine.execThrottleStepUp s
  | .throttleStepDown => Sys2Proof.Machine.execThrottleStepDown s
  | .thermalRestart highestC => Sys2Proof.Machine.execThermalRestart highestC s
  | .nonOperationalEnter ps => Sys2Proof.Machine.execNonOperationalEnter ps s
  | .apstTimeout k => Sys2Proof.Machine.execApstTimeout k s
  | .tokenRefill us => Sys2Proof.Machine.execTokenRefill us s
  | .tokenAge id waitedUs => Sys2Proof.Machine.execTokenAge id waitedUs s
  | .dramTraining ch attempts densityOk => Sys2Proof.Machine.execDramTraining ch attempts densityOk s
  | .controllerReady => Sys2Proof.Machine.execControllerReady s
  | .recoveryLoad => Sys2Proof.Machine.execRecoveryLoad s
  | .rlStatus => Sys2Proof.Machine.execRlStatus s
  | .rlWrite offset bytes => Sys2Proof.Machine.execRlWrite offset bytes s
  | .rlCommit len idx depotOk => Sys2Proof.Machine.execRlCommit len idx depotOk s
  | .startupStatusRead ms => Sys2Proof.Machine.execStartupStatusRead ms s
  | .flush n => Sys2Proof.Machine.execFlush n s
  | .write n data => Sys2Proof.Machine.execWrite n data s
  | .read n => Sys2Proof.Machine.execRead n s
  | .writeUncorrectable n => Sys2Proof.Machine.execWriteUncorrectable n s
  | .compare n data => Sys2Proof.Machine.execCompare n data s
  | .writeZeroes n => Sys2Proof.Machine.execWriteZeroes n s
  | .datasetManagement n => Sys2Proof.Machine.execDatasetManagement n s
  | .verify n => Sys2Proof.Machine.execVerify n s
  | .reservationRegister n rrega crkey nrkey iekey cptpl => Sys2Proof.Machine.execReservationRegister n rrega crkey nrkey iekey cptpl s
  | .reservationReport n => Sys2Proof.Machine.execReservationReport n s
  | .reservationAcquire n racqa rtype crkey prkey iekey => Sys2Proof.Machine.execReservationAcquire n racqa rtype crkey prkey iekey s
  | .reservationRelease n rrela rtype crkey iekey => Sys2Proof.Machine.execReservationRelease n rrela rtype crkey iekey s
  | .ioManagementReceive n => Sys2Proof.Machine.execIoManagementReceive n s
  | .ioManagementSend n pids => Sys2Proof.Machine.execIoManagementSend n pids s
  | .copy n => Sys2Proof.Machine.execCopy n s
  | .createIoSq n => Sys2Proof.Machine.execCreateIoSq n s
  | .createIoCq n => Sys2Proof.Machine.execCreateIoCq n s
  | .deleteIoSq n => Sys2Proof.Machine.execDeleteIoSq n s
  | .deleteIoCq n => Sys2Proof.Machine.execDeleteIoCq n s
  | .getLogPage n => Sys2Proof.Machine.execGetLogPage n s
  | .identify n => Sys2Proof.Machine.execIdentify n s
  | .abort n => Sys2Proof.Machine.execAbort n s
  | .getFeatures n => Sys2Proof.Machine.execGetFeatures n s
  | .arbitration n => Sys2Proof.Machine.execArbitration n s
  | .powerManagement n => Sys2Proof.Machine.execPowerManagement n s
  | .temperatureThreshold n => Sys2Proof.Machine.execTemperatureThreshold n s
  | .volatileWriteCache n => Sys2Proof.Machine.execVolatileWriteCache n s
  | .numberOfQueues n => Sys2Proof.Machine.execNumberOfQueues n s
  | .interruptCoalescing n => Sys2Proof.Machine.execInterruptCoalescing n s
  | .interruptVectorConfiguration n => Sys2Proof.Machine.execInterruptVectorConfiguration n s
  | .writeAtomicityNormal n => Sys2Proof.Machine.execWriteAtomicityNormal n s
  | .asyncEventConfiguration n => Sys2Proof.Machine.execAsyncEventConfiguration n s
  | .autonomousPowerStateTransition n table => Sys2Proof.Machine.execAutonomousPowerStateTransition n table s
  | .timestamp n ms => Sys2Proof.Machine.execTimestamp n ms s
  | .nonOperationalPowerStateConfig n => Sys2Proof.Machine.execNonOperationalPowerStateConfig n s
  | .flexibleDataPlacement n => Sys2Proof.Machine.execFlexibleDataPlacement n s
  | .fdpEvents n => Sys2Proof.Machine.execFdpEvents n s
  | .reservationNotificationMask n => Sys2Proof.Machine.execReservationNotificationMask n s
  | .reservationPersistence n => Sys2Proof.Machine.execReservationPersistence n s
  | .vendorEventEnable n => Sys2Proof.Machine.execVendorEventEnable n s
  | .asyncEventRequest n => Sys2Proof.Machine.execAsyncEventRequest n s
  | .nsCreate n d => Sys2Proof.Machine.execNsCreate n d s
  | .nsDelete n => Sys2Proof.Machine.execNsDelete n s
  | .namespaceAttachment n ctrls => Sys2Proof.Machine.execNamespaceAttachment n ctrls s
  | .firmwareImageDownload n bytes => Sys2Proof.Machine.execFirmwareImageDownload n bytes s
  | .firmwareCommit n img => Sys2Proof.Machine.execFirmwareCommit n img s
  | .activationDrainDone img => Sys2Proof.Machine.execActivationDrainDone img s
  | .selfTestShort n => Sys2Proof.Machine.execSelfTestShort n s
  | .selfTestExtended n => Sys2Proof.Machine.execSelfTestExtended n s
  | .selfTestAbort n => Sys2Proof.Machine.execSelfTestAbort n s
  | .selfTestComplete failSeg => Sys2Proof.Machine.execSelfTestComplete failSeg s
  | .mediaPassResume => Sys2Proof.Machine.execMediaPassResume s
  | .directiveSend n => Sys2Proof.Machine.execDirectiveSend n s
  | .directiveReceive n => Sys2Proof.Machine.execDirectiveReceive n s
  | .formatNvm n guardOk => Sys2Proof.Machine.execFormatNvm n guardOk s
  | .securitySend n payload => Sys2Proof.Machine.execSecuritySend n payload s
  | .securityReceive n => Sys2Proof.Machine.execSecurityReceive n s
  | .exitFailureMode n => Sys2Proof.Machine.execExitFailureMode n s
  | .blockErase n => Sys2Proof.Machine.execBlockErase n s
  | .overwrite n => Sys2Proof.Machine.execOverwrite n s
  | .sanitizeCryptoErase n => Sys2Proof.Machine.execSanitizeCryptoErase n s
  | .sanitizeComplete ok => Sys2Proof.Machine.execSanitizeComplete ok s
  | .depotImageDownload n bytes => Sys2Proof.Machine.execDepotImageDownload n bytes s
  | .depotImageCommit n sigOk => Sys2Proof.Machine.execDepotImageCommit n sigOk s
  | .guardChallenge n => Sys2Proof.Machine.execGuardChallenge n s
  | .diagnosticTicket n ticket => Sys2Proof.Machine.execDiagnosticTicket n ticket s
  | .lifecycleRequest n => Sys2Proof.Machine.execLifecycleRequest n s
  | .holdUpMeasure n => Sys2Proof.Machine.execHoldUpMeasure n s
  | .journeyLogArchiveRead n => Sys2Proof.Machine.execJourneyLogArchiveRead n s
  | .dieTableRead n => Sys2Proof.Machine.execDieTableRead n s
  | .ticketExpire => Sys2Proof.Machine.execTicketExpire s
  | .lcrc p count => Sys2Proof.Machine.execLcrc p count s
  | .poison p count => Sys2Proof.Machine.execPoison p count s
  | .cplDelay p count us => Sys2Proof.Machine.execCplDelay p count us s
  | .drop p count => Sys2Proof.Machine.execDrop p count s
  | .corruptCrc p count => Sys2Proof.Machine.execCorruptCrc p count s
  | .corruptAuth p count => Sys2Proof.Machine.execCorruptAuth p count s
  | .reorder p count => Sys2Proof.Machine.execReorder p count s
  | .delay p count us => Sys2Proof.Machine.execDelay p count us s
  | .readFail count levels => Sys2Proof.Machine.execReadFail count levels s
  | .progFail count => Sys2Proof.Machine.execProgFail count s
  | .slow extraUs => Sys2Proof.Machine.execSlow extraUs s
  | .laneTestStart loop pattern => Sys2Proof.Machine.execLaneTestStart loop pattern s
  | .laneTestStop => Sys2Proof.Machine.execLaneTestStop s
  | .jrnlLoRead => Sys2Proof.Machine.execJrnlLoRead s
  | .nonceLoRead => Sys2Proof.Machine.execNonceLoRead s
  | .rbRowLoRead => Sys2Proof.Machine.execRbRowLoRead s
  | .readClear off => Sys2Proof.Machine.execReadClear off s
  | .registerWrite off v => Sys2Proof.Machine.execRegisterWrite off v s
  | .branchLinkUp p lanes => Sys2Proof.Machine.execBranchLinkUp p lanes s
  | .pcieLinkUp p gts width flit => Sys2Proof.Machine.execPcieLinkUp p gts width flit s
  | .powerLoss => Sys2Proof.Machine.execPowerLoss s
  | .lanePatternLock errors => Sys2Proof.Machine.execLanePatternLock errors s
  | .pcieReplayTimerTimeout p rollover => Sys2Proof.Machine.execPcieReplayTimerTimeout p rollover s
  | .dllpReceived p d => Sys2Proof.Machine.execDllpReceived p d s
  | .injectionHoldExpire branch p => Sys2Proof.Machine.execInjectionHoldExpire branch p s

end Sys2Proof.Machine
end

