-- ==== Sys2Proof/Laws/State.lean ====
section
/-! SUPPORT. What each named update of the state leaves alone: one lemma per update and part of the state. -/

namespace Sys2Proof.Machine.State

@[simp] theorem rset_xd6408 (s : State) (f : Field) (v : Nat) : (s.rset f v).xd6408 = s.xd6408 := rfl
@[simp] theorem rset_mode (s : State) (f : Field) (v : Nat) : (s.rset f v).mode = s.mode := rfl
@[simp] theorem rset_flash (s : State) (f : Field) (v : Nat) : (s.rset f v).flash = s.flash := rfl
@[simp] theorem rset_media (s : State) (f : Field) (v : Nat) : (s.rset f v).media = s.media := rfl
@[simp] theorem rset_ae (s : State) (f : Field) (v : Nat) : (s.rset f v).ae = s.ae := rfl
@[simp] theorem rset_ports (s : State) (f : Field) (v : Nat) : (s.rset f v).ports = s.ports := rfl
@[simp] theorem rset_ctls (s : State) (f : Field) (v : Nat) : (s.rset f v).ctls = s.ctls := rfl
@[simp] theorem rset_adm (s : State) (f : Field) (v : Nat) : (s.rset f v).adm = s.adm := rfl
@[simp] theorem rset_bifur (s : State) (f : Field) (v : Nat) : (s.rset f v).bifur = s.bifur := rfl
@[simp] theorem rset_mem (s : State) (f : Field) (v : Nat) : (s.rset f v).mem = s.mem := rfl
@[simp] theorem rset_link (s : State) (f : Field) (v : Nat) : (s.rset f v).link = s.link := rfl
@[simp] theorem rset_arr (s : State) (f : Field) (v : Nat) : (s.rset f v).arr = s.arr := rfl
@[simp] theorem rset_sec (s : State) (f : Field) (v : Nat) : (s.rset f v).sec = s.sec := rfl
@[simp] theorem rset_plat (s : State) (f : Field) (v : Nat) : (s.rset f v).plat = s.plat := rfl
@[simp] theorem rset_rb (s : State) (f : Field) (v : Nat) : (s.rset f v).rb = s.rb := rfl
@[simp] theorem rset_out (s : State) (f : Field) (v : Nat) : (s.rset f v).out = s.out := rfl
@[simp] theorem rset_free (s : State) (f : Field) (v : Nat) : (s.rset f v).free = s.free := rfl
@[simp] theorem rset_pending (s : State) (f : Field) (v : Nat) : (s.rset f v).pending = s.pending := rfl
@[simp] theorem rset_regs (s : State) (f : Field) (v : Nat) : (s.rset f v).regs = s.regs.set f v := rfl

@[simp] theorem rsat_xd6408 (s : State) (f : Field) (n : Nat) : (s.rsat f n).xd6408 = s.xd6408 := rfl
@[simp] theorem rsat_mode (s : State) (f : Field) (n : Nat) : (s.rsat f n).mode = s.mode := rfl
@[simp] theorem rsat_flash (s : State) (f : Field) (n : Nat) : (s.rsat f n).flash = s.flash := rfl
@[simp] theorem rsat_media (s : State) (f : Field) (n : Nat) : (s.rsat f n).media = s.media := rfl
@[simp] theorem rsat_ae (s : State) (f : Field) (n : Nat) : (s.rsat f n).ae = s.ae := rfl
@[simp] theorem rsat_ports (s : State) (f : Field) (n : Nat) : (s.rsat f n).ports = s.ports := rfl
@[simp] theorem rsat_ctls (s : State) (f : Field) (n : Nat) : (s.rsat f n).ctls = s.ctls := rfl
@[simp] theorem rsat_adm (s : State) (f : Field) (n : Nat) : (s.rsat f n).adm = s.adm := rfl
@[simp] theorem rsat_bifur (s : State) (f : Field) (n : Nat) : (s.rsat f n).bifur = s.bifur := rfl
@[simp] theorem rsat_mem (s : State) (f : Field) (n : Nat) : (s.rsat f n).mem = s.mem := rfl
@[simp] theorem rsat_link (s : State) (f : Field) (n : Nat) : (s.rsat f n).link = s.link := rfl
@[simp] theorem rsat_arr (s : State) (f : Field) (n : Nat) : (s.rsat f n).arr = s.arr := rfl
@[simp] theorem rsat_sec (s : State) (f : Field) (n : Nat) : (s.rsat f n).sec = s.sec := rfl
@[simp] theorem rsat_plat (s : State) (f : Field) (n : Nat) : (s.rsat f n).plat = s.plat := rfl
@[simp] theorem rsat_rb (s : State) (f : Field) (n : Nat) : (s.rsat f n).rb = s.rb := rfl
@[simp] theorem rsat_out (s : State) (f : Field) (n : Nat) : (s.rsat f n).out = s.out := rfl
@[simp] theorem rsat_free (s : State) (f : Field) (n : Nat) : (s.rsat f n).free = s.free := rfl
@[simp] theorem rsat_pending (s : State) (f : Field) (n : Nat) : (s.rsat f n).pending = s.pending := rfl
@[simp] theorem rsat_regs (s : State) (f : Field) (n : Nat) : (s.rsat f n).regs = s.regs.sat f n := rfl

@[simp] theorem rwrap_xd6408 (s : State) (f : Field) (n : Nat) : (s.rwrap f n).xd6408 = s.xd6408 := rfl
@[simp] theorem rwrap_mode (s : State) (f : Field) (n : Nat) : (s.rwrap f n).mode = s.mode := rfl
@[simp] theorem rwrap_flash (s : State) (f : Field) (n : Nat) : (s.rwrap f n).flash = s.flash := rfl
@[simp] theorem rwrap_media (s : State) (f : Field) (n : Nat) : (s.rwrap f n).media = s.media := rfl
@[simp] theorem rwrap_ae (s : State) (f : Field) (n : Nat) : (s.rwrap f n).ae = s.ae := rfl
@[simp] theorem rwrap_ports (s : State) (f : Field) (n : Nat) : (s.rwrap f n).ports = s.ports := rfl
@[simp] theorem rwrap_ctls (s : State) (f : Field) (n : Nat) : (s.rwrap f n).ctls = s.ctls := rfl
@[simp] theorem rwrap_adm (s : State) (f : Field) (n : Nat) : (s.rwrap f n).adm = s.adm := rfl
@[simp] theorem rwrap_bifur (s : State) (f : Field) (n : Nat) : (s.rwrap f n).bifur = s.bifur := rfl
@[simp] theorem rwrap_mem (s : State) (f : Field) (n : Nat) : (s.rwrap f n).mem = s.mem := rfl
@[simp] theorem rwrap_link (s : State) (f : Field) (n : Nat) : (s.rwrap f n).link = s.link := rfl
@[simp] theorem rwrap_arr (s : State) (f : Field) (n : Nat) : (s.rwrap f n).arr = s.arr := rfl
@[simp] theorem rwrap_sec (s : State) (f : Field) (n : Nat) : (s.rwrap f n).sec = s.sec := rfl
@[simp] theorem rwrap_plat (s : State) (f : Field) (n : Nat) : (s.rwrap f n).plat = s.plat := rfl
@[simp] theorem rwrap_rb (s : State) (f : Field) (n : Nat) : (s.rwrap f n).rb = s.rb := rfl
@[simp] theorem rwrap_out (s : State) (f : Field) (n : Nat) : (s.rwrap f n).out = s.out := rfl
@[simp] theorem rwrap_free (s : State) (f : Field) (n : Nat) : (s.rwrap f n).free = s.free := rfl
@[simp] theorem rwrap_pending (s : State) (f : Field) (n : Nat) : (s.rwrap f n).pending = s.pending := rfl
@[simp] theorem rwrap_regs (s : State) (f : Field) (n : Nat) : (s.rwrap f n).regs = s.regs.wrap f n := rfl

@[simp] theorem emit_xd6408 (s : State) (o : Out) : (s.emit o).xd6408 = s.xd6408 := rfl
@[simp] theorem emit_mode (s : State) (o : Out) : (s.emit o).mode = s.mode := rfl
@[simp] theorem emit_regs (s : State) (o : Out) : (s.emit o).regs = s.regs := rfl
@[simp] theorem emit_flash (s : State) (o : Out) : (s.emit o).flash = s.flash := rfl
@[simp] theorem emit_media (s : State) (o : Out) : (s.emit o).media = s.media := rfl
@[simp] theorem emit_ae (s : State) (o : Out) : (s.emit o).ae = s.ae := rfl
@[simp] theorem emit_ports (s : State) (o : Out) : (s.emit o).ports = s.ports := rfl
@[simp] theorem emit_ctls (s : State) (o : Out) : (s.emit o).ctls = s.ctls := rfl
@[simp] theorem emit_adm (s : State) (o : Out) : (s.emit o).adm = s.adm := rfl
@[simp] theorem emit_bifur (s : State) (o : Out) : (s.emit o).bifur = s.bifur := rfl
@[simp] theorem emit_mem (s : State) (o : Out) : (s.emit o).mem = s.mem := rfl
@[simp] theorem emit_link (s : State) (o : Out) : (s.emit o).link = s.link := rfl
@[simp] theorem emit_arr (s : State) (o : Out) : (s.emit o).arr = s.arr := rfl
@[simp] theorem emit_sec (s : State) (o : Out) : (s.emit o).sec = s.sec := rfl
@[simp] theorem emit_plat (s : State) (o : Out) : (s.emit o).plat = s.plat := rfl
@[simp] theorem emit_rb (s : State) (o : Out) : (s.emit o).rb = s.rb := rfl
@[simp] theorem emit_free (s : State) (o : Out) : (s.emit o).free = s.free := rfl
@[simp] theorem emit_pending (s : State) (o : Out) : (s.emit o).pending = s.pending := rfl
@[simp] theorem emit_rget (s : State) (o : Out) (fld : Field) : (s.emit o).rget fld = s.rget fld := rfl
@[simp] theorem emit_flag (s : State) (o : Out) (fld : Field) : (s.emit o).flag fld = s.flag fld := rfl
@[simp] theorem emit_out (s : State) (o : Out) : (s.emit o).out = s.out ++ [o] := rfl

@[simp] theorem nextFree_xd6408 (s : State) : (s.nextFree).xd6408 = s.xd6408 := rfl
@[simp] theorem nextFree_mode (s : State) : (s.nextFree).mode = s.mode := rfl
@[simp] theorem nextFree_regs (s : State) : (s.nextFree).regs = s.regs := rfl
@[simp] theorem nextFree_flash (s : State) : (s.nextFree).flash = s.flash := rfl
@[simp] theorem nextFree_media (s : State) : (s.nextFree).media = s.media := rfl
@[simp] theorem nextFree_ae (s : State) : (s.nextFree).ae = s.ae := rfl
@[simp] theorem nextFree_ports (s : State) : (s.nextFree).ports = s.ports := rfl
@[simp] theorem nextFree_ctls (s : State) : (s.nextFree).ctls = s.ctls := rfl
@[simp] theorem nextFree_adm (s : State) : (s.nextFree).adm = s.adm := rfl
@[simp] theorem nextFree_bifur (s : State) : (s.nextFree).bifur = s.bifur := rfl
@[simp] theorem nextFree_mem (s : State) : (s.nextFree).mem = s.mem := rfl
@[simp] theorem nextFree_link (s : State) : (s.nextFree).link = s.link := rfl
@[simp] theorem nextFree_arr (s : State) : (s.nextFree).arr = s.arr := rfl
@[simp] theorem nextFree_sec (s : State) : (s.nextFree).sec = s.sec := rfl
@[simp] theorem nextFree_plat (s : State) : (s.nextFree).plat = s.plat := rfl
@[simp] theorem nextFree_rb (s : State) : (s.nextFree).rb = s.rb := rfl
@[simp] theorem nextFree_out (s : State) : (s.nextFree).out = s.out := rfl
@[simp] theorem nextFree_pending (s : State) : (s.nextFree).pending = s.pending := rfl
@[simp] theorem nextFree_rget (s : State) (fld : Field) : (s.nextFree).rget fld = s.rget fld := rfl
@[simp] theorem nextFree_flag (s : State) (fld : Field) : (s.nextFree).flag fld = s.flag fld := rfl

@[simp] theorem modMedia_xd6408 (s : State) (f : Media → Media) : (s.modMedia f).xd6408 = s.xd6408 := rfl
@[simp] theorem modMedia_mode (s : State) (f : Media → Media) : (s.modMedia f).mode = s.mode := rfl
@[simp] theorem modMedia_regs (s : State) (f : Media → Media) : (s.modMedia f).regs = s.regs := rfl
@[simp] theorem modMedia_flash (s : State) (f : Media → Media) : (s.modMedia f).flash = s.flash := rfl
@[simp] theorem modMedia_ae (s : State) (f : Media → Media) : (s.modMedia f).ae = s.ae := rfl
@[simp] theorem modMedia_ports (s : State) (f : Media → Media) : (s.modMedia f).ports = s.ports := rfl
@[simp] theorem modMedia_ctls (s : State) (f : Media → Media) : (s.modMedia f).ctls = s.ctls := rfl
@[simp] theorem modMedia_adm (s : State) (f : Media → Media) : (s.modMedia f).adm = s.adm := rfl
@[simp] theorem modMedia_bifur (s : State) (f : Media → Media) : (s.modMedia f).bifur = s.bifur := rfl
@[simp] theorem modMedia_mem (s : State) (f : Media → Media) : (s.modMedia f).mem = s.mem := rfl
@[simp] theorem modMedia_link (s : State) (f : Media → Media) : (s.modMedia f).link = s.link := rfl
@[simp] theorem modMedia_arr (s : State) (f : Media → Media) : (s.modMedia f).arr = s.arr := rfl
@[simp] theorem modMedia_sec (s : State) (f : Media → Media) : (s.modMedia f).sec = s.sec := rfl
@[simp] theorem modMedia_plat (s : State) (f : Media → Media) : (s.modMedia f).plat = s.plat := rfl
@[simp] theorem modMedia_rb (s : State) (f : Media → Media) : (s.modMedia f).rb = s.rb := rfl
@[simp] theorem modMedia_out (s : State) (f : Media → Media) : (s.modMedia f).out = s.out := rfl
@[simp] theorem modMedia_free (s : State) (f : Media → Media) : (s.modMedia f).free = s.free := rfl
@[simp] theorem modMedia_pending (s : State) (f : Media → Media) : (s.modMedia f).pending = s.pending := rfl
@[simp] theorem modMedia_rget (s : State) (f : Media → Media) (fld : Field) : (s.modMedia f).rget fld = s.rget fld := rfl
@[simp] theorem modMedia_flag (s : State) (f : Media → Media) (fld : Field) : (s.modMedia f).flag fld = s.flag fld := rfl
@[simp] theorem modMedia_media (s : State) (f : Media → Media) : (s.modMedia f).media = f s.media := rfl

@[simp] theorem modNand_xd6408 (s : State) (f : Nand → Nand) : (s.modNand f).xd6408 = s.xd6408 := rfl
@[simp] theorem modNand_mode (s : State) (f : Nand → Nand) : (s.modNand f).mode = s.mode := rfl
@[simp] theorem modNand_regs (s : State) (f : Nand → Nand) : (s.modNand f).regs = s.regs := rfl
@[simp] theorem modNand_flash (s : State) (f : Nand → Nand) : (s.modNand f).flash = s.flash := rfl
@[simp] theorem modNand_ae (s : State) (f : Nand → Nand) : (s.modNand f).ae = s.ae := rfl
@[simp] theorem modNand_ports (s : State) (f : Nand → Nand) : (s.modNand f).ports = s.ports := rfl
@[simp] theorem modNand_ctls (s : State) (f : Nand → Nand) : (s.modNand f).ctls = s.ctls := rfl
@[simp] theorem modNand_adm (s : State) (f : Nand → Nand) : (s.modNand f).adm = s.adm := rfl
@[simp] theorem modNand_bifur (s : State) (f : Nand → Nand) : (s.modNand f).bifur = s.bifur := rfl
@[simp] theorem modNand_mem (s : State) (f : Nand → Nand) : (s.modNand f).mem = s.mem := rfl
@[simp] theorem modNand_link (s : State) (f : Nand → Nand) : (s.modNand f).link = s.link := rfl
@[simp] theorem modNand_arr (s : State) (f : Nand → Nand) : (s.modNand f).arr = s.arr := rfl
@[simp] theorem modNand_sec (s : State) (f : Nand → Nand) : (s.modNand f).sec = s.sec := rfl
@[simp] theorem modNand_plat (s : State) (f : Nand → Nand) : (s.modNand f).plat = s.plat := rfl
@[simp] theorem modNand_rb (s : State) (f : Nand → Nand) : (s.modNand f).rb = s.rb := rfl
@[simp] theorem modNand_out (s : State) (f : Nand → Nand) : (s.modNand f).out = s.out := rfl
@[simp] theorem modNand_free (s : State) (f : Nand → Nand) : (s.modNand f).free = s.free := rfl
@[simp] theorem modNand_pending (s : State) (f : Nand → Nand) : (s.modNand f).pending = s.pending := rfl
@[simp] theorem modNand_rget (s : State) (f : Nand → Nand) (fld : Field) : (s.modNand f).rget fld = s.rget fld := rfl
@[simp] theorem modNand_flag (s : State) (f : Nand → Nand) (fld : Field) : (s.modNand f).flag fld = s.flag fld := rfl
@[simp] theorem modNand_nand (s : State) (f : Nand → Nand) : (s.modNand f).media.nand = f s.media.nand := rfl

@[simp] theorem modSec_xd6408 (s : State) (f : Sec → Sec) : (s.modSec f).xd6408 = s.xd6408 := rfl
@[simp] theorem modSec_mode (s : State) (f : Sec → Sec) : (s.modSec f).mode = s.mode := rfl
@[simp] theorem modSec_regs (s : State) (f : Sec → Sec) : (s.modSec f).regs = s.regs := rfl
@[simp] theorem modSec_flash (s : State) (f : Sec → Sec) : (s.modSec f).flash = s.flash := rfl
@[simp] theorem modSec_media (s : State) (f : Sec → Sec) : (s.modSec f).media = s.media := rfl
@[simp] theorem modSec_ae (s : State) (f : Sec → Sec) : (s.modSec f).ae = s.ae := rfl
@[simp] theorem modSec_ports (s : State) (f : Sec → Sec) : (s.modSec f).ports = s.ports := rfl
@[simp] theorem modSec_ctls (s : State) (f : Sec → Sec) : (s.modSec f).ctls = s.ctls := rfl
@[simp] theorem modSec_adm (s : State) (f : Sec → Sec) : (s.modSec f).adm = s.adm := rfl
@[simp] theorem modSec_bifur (s : State) (f : Sec → Sec) : (s.modSec f).bifur = s.bifur := rfl
@[simp] theorem modSec_mem (s : State) (f : Sec → Sec) : (s.modSec f).mem = s.mem := rfl
@[simp] theorem modSec_link (s : State) (f : Sec → Sec) : (s.modSec f).link = s.link := rfl
@[simp] theorem modSec_arr (s : State) (f : Sec → Sec) : (s.modSec f).arr = s.arr := rfl
@[simp] theorem modSec_plat (s : State) (f : Sec → Sec) : (s.modSec f).plat = s.plat := rfl
@[simp] theorem modSec_rb (s : State) (f : Sec → Sec) : (s.modSec f).rb = s.rb := rfl
@[simp] theorem modSec_out (s : State) (f : Sec → Sec) : (s.modSec f).out = s.out := rfl
@[simp] theorem modSec_free (s : State) (f : Sec → Sec) : (s.modSec f).free = s.free := rfl
@[simp] theorem modSec_pending (s : State) (f : Sec → Sec) : (s.modSec f).pending = s.pending := rfl
@[simp] theorem modSec_rget (s : State) (f : Sec → Sec) (fld : Field) : (s.modSec f).rget fld = s.rget fld := rfl
@[simp] theorem modSec_flag (s : State) (f : Sec → Sec) (fld : Field) : (s.modSec f).flag fld = s.flag fld := rfl
@[simp] theorem modSec_sec (s : State) (f : Sec → Sec) : (s.modSec f).sec = f s.sec := rfl

@[simp] theorem modMem_xd6408 (s : State) (f : Mem → Mem) : (s.modMem f).xd6408 = s.xd6408 := rfl
@[simp] theorem modMem_mode (s : State) (f : Mem → Mem) : (s.modMem f).mode = s.mode := rfl
@[simp] theorem modMem_regs (s : State) (f : Mem → Mem) : (s.modMem f).regs = s.regs := rfl
@[simp] theorem modMem_flash (s : State) (f : Mem → Mem) : (s.modMem f).flash = s.flash := rfl
@[simp] theorem modMem_media (s : State) (f : Mem → Mem) : (s.modMem f).media = s.media := rfl
@[simp] theorem modMem_ae (s : State) (f : Mem → Mem) : (s.modMem f).ae = s.ae := rfl
@[simp] theorem modMem_ports (s : State) (f : Mem → Mem) : (s.modMem f).ports = s.ports := rfl
@[simp] theorem modMem_ctls (s : State) (f : Mem → Mem) : (s.modMem f).ctls = s.ctls := rfl
@[simp] theorem modMem_adm (s : State) (f : Mem → Mem) : (s.modMem f).adm = s.adm := rfl
@[simp] theorem modMem_bifur (s : State) (f : Mem → Mem) : (s.modMem f).bifur = s.bifur := rfl
@[simp] theorem modMem_link (s : State) (f : Mem → Mem) : (s.modMem f).link = s.link := rfl
@[simp] theorem modMem_arr (s : State) (f : Mem → Mem) : (s.modMem f).arr = s.arr := rfl
@[simp] theorem modMem_sec (s : State) (f : Mem → Mem) : (s.modMem f).sec = s.sec := rfl
@[simp] theorem modMem_plat (s : State) (f : Mem → Mem) : (s.modMem f).plat = s.plat := rfl
@[simp] theorem modMem_rb (s : State) (f : Mem → Mem) : (s.modMem f).rb = s.rb := rfl
@[simp] theorem modMem_out (s : State) (f : Mem → Mem) : (s.modMem f).out = s.out := rfl
@[simp] theorem modMem_free (s : State) (f : Mem → Mem) : (s.modMem f).free = s.free := rfl
@[simp] theorem modMem_pending (s : State) (f : Mem → Mem) : (s.modMem f).pending = s.pending := rfl
@[simp] theorem modMem_rget (s : State) (f : Mem → Mem) (fld : Field) : (s.modMem f).rget fld = s.rget fld := rfl
@[simp] theorem modMem_flag (s : State) (f : Mem → Mem) (fld : Field) : (s.modMem f).flag fld = s.flag fld := rfl
@[simp] theorem modMem_mem (s : State) (f : Mem → Mem) : (s.modMem f).mem = f s.mem := rfl

@[simp] theorem modPort_xd6408 (s : State) (p : Nat) (f : Port → Port) : (s.modPort p f).xd6408 = s.xd6408 := rfl
@[simp] theorem modPort_mode (s : State) (p : Nat) (f : Port → Port) : (s.modPort p f).mode = s.mode := rfl
@[simp] theorem modPort_regs (s : State) (p : Nat) (f : Port → Port) : (s.modPort p f).regs = s.regs := rfl
@[simp] theorem modPort_flash (s : State) (p : Nat) (f : Port → Port) : (s.modPort p f).flash = s.flash := rfl
@[simp] theorem modPort_media (s : State) (p : Nat) (f : Port → Port) : (s.modPort p f).media = s.media := rfl
@[simp] theorem modPort_ae (s : State) (p : Nat) (f : Port → Port) : (s.modPort p f).ae = s.ae := rfl
@[simp] theorem modPort_ctls (s : State) (p : Nat) (f : Port → Port) : (s.modPort p f).ctls = s.ctls := rfl
@[simp] theorem modPort_adm (s : State) (p : Nat) (f : Port → Port) : (s.modPort p f).adm = s.adm := rfl
@[simp] theorem modPort_bifur (s : State) (p : Nat) (f : Port → Port) : (s.modPort p f).bifur = s.bifur := rfl
@[simp] theorem modPort_mem (s : State) (p : Nat) (f : Port → Port) : (s.modPort p f).mem = s.mem := rfl
@[simp] theorem modPort_link (s : State) (p : Nat) (f : Port → Port) : (s.modPort p f).link = s.link := rfl
@[simp] theorem modPort_arr (s : State) (p : Nat) (f : Port → Port) : (s.modPort p f).arr = s.arr := rfl
@[simp] theorem modPort_sec (s : State) (p : Nat) (f : Port → Port) : (s.modPort p f).sec = s.sec := rfl
@[simp] theorem modPort_plat (s : State) (p : Nat) (f : Port → Port) : (s.modPort p f).plat = s.plat := rfl
@[simp] theorem modPort_rb (s : State) (p : Nat) (f : Port → Port) : (s.modPort p f).rb = s.rb := rfl
@[simp] theorem modPort_out (s : State) (p : Nat) (f : Port → Port) : (s.modPort p f).out = s.out := rfl
@[simp] theorem modPort_free (s : State) (p : Nat) (f : Port → Port) : (s.modPort p f).free = s.free := rfl
@[simp] theorem modPort_pending (s : State) (p : Nat) (f : Port → Port) : (s.modPort p f).pending = s.pending := rfl
@[simp] theorem modPort_rget (s : State) (p : Nat) (f : Port → Port) (fld : Field) : (s.modPort p f).rget fld = s.rget fld := rfl
@[simp] theorem modPort_flag (s : State) (p : Nat) (f : Port → Port) (fld : Field) : (s.modPort p f).flag fld = s.flag fld := rfl

@[simp] theorem modCtl_xd6408 (s : State) (k : Nat) (f : Controller → Controller) : (s.modCtl k f).xd6408 = s.xd6408 := rfl
@[simp] theorem modCtl_mode (s : State) (k : Nat) (f : Controller → Controller) : (s.modCtl k f).mode = s.mode := rfl
@[simp] theorem modCtl_regs (s : State) (k : Nat) (f : Controller → Controller) : (s.modCtl k f).regs = s.regs := rfl
@[simp] theorem modCtl_flash (s : State) (k : Nat) (f : Controller → Controller) : (s.modCtl k f).flash = s.flash := rfl
@[simp] theorem modCtl_media (s : State) (k : Nat) (f : Controller → Controller) : (s.modCtl k f).media = s.media := rfl
@[simp] theorem modCtl_ae (s : State) (k : Nat) (f : Controller → Controller) : (s.modCtl k f).ae = s.ae := rfl
@[simp] theorem modCtl_ports (s : State) (k : Nat) (f : Controller → Controller) : (s.modCtl k f).ports = s.ports := rfl
@[simp] theorem modCtl_adm (s : State) (k : Nat) (f : Controller → Controller) : (s.modCtl k f).adm = s.adm := rfl
@[simp] theorem modCtl_bifur (s : State) (k : Nat) (f : Controller → Controller) : (s.modCtl k f).bifur = s.bifur := rfl
@[simp] theorem modCtl_mem (s : State) (k : Nat) (f : Controller → Controller) : (s.modCtl k f).mem = s.mem := rfl
@[simp] theorem modCtl_link (s : State) (k : Nat) (f : Controller → Controller) : (s.modCtl k f).link = s.link := rfl
@[simp] theorem modCtl_arr (s : State) (k : Nat) (f : Controller → Controller) : (s.modCtl k f).arr = s.arr := rfl
@[simp] theorem modCtl_sec (s : State) (k : Nat) (f : Controller → Controller) : (s.modCtl k f).sec = s.sec := rfl
@[simp] theorem modCtl_plat (s : State) (k : Nat) (f : Controller → Controller) : (s.modCtl k f).plat = s.plat := rfl
@[simp] theorem modCtl_rb (s : State) (k : Nat) (f : Controller → Controller) : (s.modCtl k f).rb = s.rb := rfl
@[simp] theorem modCtl_out (s : State) (k : Nat) (f : Controller → Controller) : (s.modCtl k f).out = s.out := rfl
@[simp] theorem modCtl_free (s : State) (k : Nat) (f : Controller → Controller) : (s.modCtl k f).free = s.free := rfl
@[simp] theorem modCtl_pending (s : State) (k : Nat) (f : Controller → Controller) : (s.modCtl k f).pending = s.pending := rfl
@[simp] theorem modCtl_rget (s : State) (k : Nat) (f : Controller → Controller) (fld : Field) : (s.modCtl k f).rget fld = s.rget fld := rfl
@[simp] theorem modCtl_flag (s : State) (k : Nat) (f : Controller → Controller) (fld : Field) : (s.modCtl k f).flag fld = s.flag fld := rfl

@[simp] theorem modCtxN_xd6408 (s : State) (n : Nat) (f : Ctx → Ctx) : (s.modCtxN n f).xd6408 = s.xd6408 := rfl
@[simp] theorem modCtxN_mode (s : State) (n : Nat) (f : Ctx → Ctx) : (s.modCtxN n f).mode = s.mode := rfl
@[simp] theorem modCtxN_regs (s : State) (n : Nat) (f : Ctx → Ctx) : (s.modCtxN n f).regs = s.regs := rfl
@[simp] theorem modCtxN_flash (s : State) (n : Nat) (f : Ctx → Ctx) : (s.modCtxN n f).flash = s.flash := rfl
@[simp] theorem modCtxN_media (s : State) (n : Nat) (f : Ctx → Ctx) : (s.modCtxN n f).media = s.media := rfl
@[simp] theorem modCtxN_ae (s : State) (n : Nat) (f : Ctx → Ctx) : (s.modCtxN n f).ae = s.ae := rfl
@[simp] theorem modCtxN_ports (s : State) (n : Nat) (f : Ctx → Ctx) : (s.modCtxN n f).ports = s.ports := rfl
@[simp] theorem modCtxN_ctls (s : State) (n : Nat) (f : Ctx → Ctx) : (s.modCtxN n f).ctls = s.ctls := rfl
@[simp] theorem modCtxN_bifur (s : State) (n : Nat) (f : Ctx → Ctx) : (s.modCtxN n f).bifur = s.bifur := rfl
@[simp] theorem modCtxN_mem (s : State) (n : Nat) (f : Ctx → Ctx) : (s.modCtxN n f).mem = s.mem := rfl
@[simp] theorem modCtxN_link (s : State) (n : Nat) (f : Ctx → Ctx) : (s.modCtxN n f).link = s.link := rfl
@[simp] theorem modCtxN_arr (s : State) (n : Nat) (f : Ctx → Ctx) : (s.modCtxN n f).arr = s.arr := rfl
@[simp] theorem modCtxN_sec (s : State) (n : Nat) (f : Ctx → Ctx) : (s.modCtxN n f).sec = s.sec := rfl
@[simp] theorem modCtxN_plat (s : State) (n : Nat) (f : Ctx → Ctx) : (s.modCtxN n f).plat = s.plat := rfl
@[simp] theorem modCtxN_rb (s : State) (n : Nat) (f : Ctx → Ctx) : (s.modCtxN n f).rb = s.rb := rfl
@[simp] theorem modCtxN_out (s : State) (n : Nat) (f : Ctx → Ctx) : (s.modCtxN n f).out = s.out := rfl
@[simp] theorem modCtxN_free (s : State) (n : Nat) (f : Ctx → Ctx) : (s.modCtxN n f).free = s.free := rfl
@[simp] theorem modCtxN_pending (s : State) (n : Nat) (f : Ctx → Ctx) : (s.modCtxN n f).pending = s.pending := rfl
@[simp] theorem modCtxN_rget (s : State) (n : Nat) (f : Ctx → Ctx) (fld : Field) : (s.modCtxN n f).rget fld = s.rget fld := rfl
@[simp] theorem modCtxN_flag (s : State) (n : Nat) (f : Ctx → Ctx) (fld : Field) : (s.modCtxN n f).flag fld = s.flag fld := rfl

@[simp] theorem setCtx_xd6408 (s : State) (n : Nat) (c : Ctx) : (s.setCtx n c).xd6408 = s.xd6408 := rfl
@[simp] theorem setCtx_mode (s : State) (n : Nat) (c : Ctx) : (s.setCtx n c).mode = s.mode := rfl
@[simp] theorem setCtx_regs (s : State) (n : Nat) (c : Ctx) : (s.setCtx n c).regs = s.regs := rfl
@[simp] theorem setCtx_flash (s : State) (n : Nat) (c : Ctx) : (s.setCtx n c).flash = s.flash := rfl
@[simp] theorem setCtx_media (s : State) (n : Nat) (c : Ctx) : (s.setCtx n c).media = s.media := rfl
@[simp] theorem setCtx_ae (s : State) (n : Nat) (c : Ctx) : (s.setCtx n c).ae = s.ae := rfl
@[simp] theorem setCtx_ports (s : State) (n : Nat) (c : Ctx) : (s.setCtx n c).ports = s.ports := rfl
@[simp] theorem setCtx_ctls (s : State) (n : Nat) (c : Ctx) : (s.setCtx n c).ctls = s.ctls := rfl
@[simp] theorem setCtx_bifur (s : State) (n : Nat) (c : Ctx) : (s.setCtx n c).bifur = s.bifur := rfl
@[simp] theorem setCtx_mem (s : State) (n : Nat) (c : Ctx) : (s.setCtx n c).mem = s.mem := rfl
@[simp] theorem setCtx_link (s : State) (n : Nat) (c : Ctx) : (s.setCtx n c).link = s.link := rfl
@[simp] theorem setCtx_arr (s : State) (n : Nat) (c : Ctx) : (s.setCtx n c).arr = s.arr := rfl
@[simp] theorem setCtx_sec (s : State) (n : Nat) (c : Ctx) : (s.setCtx n c).sec = s.sec := rfl
@[simp] theorem setCtx_plat (s : State) (n : Nat) (c : Ctx) : (s.setCtx n c).plat = s.plat := rfl
@[simp] theorem setCtx_rb (s : State) (n : Nat) (c : Ctx) : (s.setCtx n c).rb = s.rb := rfl
@[simp] theorem setCtx_out (s : State) (n : Nat) (c : Ctx) : (s.setCtx n c).out = s.out := rfl
@[simp] theorem setCtx_free (s : State) (n : Nat) (c : Ctx) : (s.setCtx n c).free = s.free := rfl
@[simp] theorem setCtx_pending (s : State) (n : Nat) (c : Ctx) : (s.setCtx n c).pending = s.pending := rfl
@[simp] theorem setCtx_rget (s : State) (n : Nat) (c : Ctx) (fld : Field) : (s.setCtx n c).rget fld = s.rget fld := rfl
@[simp] theorem setCtx_flag (s : State) (n : Nat) (c : Ctx) (fld : Field) : (s.setCtx n c).flag fld = s.flag fld := rfl

@[simp] theorem dropCtx_xd6408 (s : State) (n : Nat) : (s.dropCtx n).xd6408 = s.xd6408 := rfl
@[simp] theorem dropCtx_mode (s : State) (n : Nat) : (s.dropCtx n).mode = s.mode := rfl
@[simp] theorem dropCtx_regs (s : State) (n : Nat) : (s.dropCtx n).regs = s.regs := rfl
@[simp] theorem dropCtx_flash (s : State) (n : Nat) : (s.dropCtx n).flash = s.flash := rfl
@[simp] theorem dropCtx_media (s : State) (n : Nat) : (s.dropCtx n).media = s.media := rfl
@[simp] theorem dropCtx_ae (s : State) (n : Nat) : (s.dropCtx n).ae = s.ae := rfl
@[simp] theorem dropCtx_ports (s : State) (n : Nat) : (s.dropCtx n).ports = s.ports := rfl
@[simp] theorem dropCtx_ctls (s : State) (n : Nat) : (s.dropCtx n).ctls = s.ctls := rfl
@[simp] theorem dropCtx_bifur (s : State) (n : Nat) : (s.dropCtx n).bifur = s.bifur := rfl
@[simp] theorem dropCtx_mem (s : State) (n : Nat) : (s.dropCtx n).mem = s.mem := rfl
@[simp] theorem dropCtx_link (s : State) (n : Nat) : (s.dropCtx n).link = s.link := rfl
@[simp] theorem dropCtx_arr (s : State) (n : Nat) : (s.dropCtx n).arr = s.arr := rfl
@[simp] theorem dropCtx_sec (s : State) (n : Nat) : (s.dropCtx n).sec = s.sec := rfl
@[simp] theorem dropCtx_plat (s : State) (n : Nat) : (s.dropCtx n).plat = s.plat := rfl
@[simp] theorem dropCtx_rb (s : State) (n : Nat) : (s.dropCtx n).rb = s.rb := rfl
@[simp] theorem dropCtx_out (s : State) (n : Nat) : (s.dropCtx n).out = s.out := rfl
@[simp] theorem dropCtx_free (s : State) (n : Nat) : (s.dropCtx n).free = s.free := rfl
@[simp] theorem dropCtx_pending (s : State) (n : Nat) : (s.dropCtx n).pending = s.pending := rfl
@[simp] theorem dropCtx_rget (s : State) (n : Nat) (fld : Field) : (s.dropCtx n).rget fld = s.rget fld := rfl
@[simp] theorem dropCtx_flag (s : State) (n : Nat) (fld : Field) : (s.dropCtx n).flag fld = s.flag fld := rfl

@[simp] theorem modBl_xd6408 (s : State) (p : Nat) (f : BlPort → BlPort) : (s.modBl p f).xd6408 = s.xd6408 := rfl
@[simp] theorem modBl_mode (s : State) (p : Nat) (f : BlPort → BlPort) : (s.modBl p f).mode = s.mode := rfl
@[simp] theorem modBl_regs (s : State) (p : Nat) (f : BlPort → BlPort) : (s.modBl p f).regs = s.regs := rfl
@[simp] theorem modBl_flash (s : State) (p : Nat) (f : BlPort → BlPort) : (s.modBl p f).flash = s.flash := rfl
@[simp] theorem modBl_media (s : State) (p : Nat) (f : BlPort → BlPort) : (s.modBl p f).media = s.media := rfl
@[simp] theorem modBl_ae (s : State) (p : Nat) (f : BlPort → BlPort) : (s.modBl p f).ae = s.ae := rfl
@[simp] theorem modBl_ports (s : State) (p : Nat) (f : BlPort → BlPort) : (s.modBl p f).ports = s.ports := rfl
@[simp] theorem modBl_ctls (s : State) (p : Nat) (f : BlPort → BlPort) : (s.modBl p f).ctls = s.ctls := rfl
@[simp] theorem modBl_adm (s : State) (p : Nat) (f : BlPort → BlPort) : (s.modBl p f).adm = s.adm := rfl
@[simp] theorem modBl_bifur (s : State) (p : Nat) (f : BlPort → BlPort) : (s.modBl p f).bifur = s.bifur := rfl
@[simp] theorem modBl_mem (s : State) (p : Nat) (f : BlPort → BlPort) : (s.modBl p f).mem = s.mem := rfl
@[simp] theorem modBl_arr (s : State) (p : Nat) (f : BlPort → BlPort) : (s.modBl p f).arr = s.arr := rfl
@[simp] theorem modBl_sec (s : State) (p : Nat) (f : BlPort → BlPort) : (s.modBl p f).sec = s.sec := rfl
@[simp] theorem modBl_plat (s : State) (p : Nat) (f : BlPort → BlPort) : (s.modBl p f).plat = s.plat := rfl
@[simp] theorem modBl_rb (s : State) (p : Nat) (f : BlPort → BlPort) : (s.modBl p f).rb = s.rb := rfl
@[simp] theorem modBl_out (s : State) (p : Nat) (f : BlPort → BlPort) : (s.modBl p f).out = s.out := rfl
@[simp] theorem modBl_free (s : State) (p : Nat) (f : BlPort → BlPort) : (s.modBl p f).free = s.free := rfl
@[simp] theorem modBl_pending (s : State) (p : Nat) (f : BlPort → BlPort) : (s.modBl p f).pending = s.pending := rfl
@[simp] theorem modBl_rget (s : State) (p : Nat) (f : BlPort → BlPort) (fld : Field) : (s.modBl p f).rget fld = s.rget fld := rfl
@[simp] theorem modBl_flag (s : State) (p : Nat) (f : BlPort → BlPort) (fld : Field) : (s.modBl p f).flag fld = s.flag fld := rfl

@[simp] theorem modBox_xd6408 (s : State) (ch : Nat) (f : Box → Box) : (s.modBox ch f).xd6408 = s.xd6408 := rfl
@[simp] theorem modBox_mode (s : State) (ch : Nat) (f : Box → Box) : (s.modBox ch f).mode = s.mode := rfl
@[simp] theorem modBox_regs (s : State) (ch : Nat) (f : Box → Box) : (s.modBox ch f).regs = s.regs := rfl
@[simp] theorem modBox_media (s : State) (ch : Nat) (f : Box → Box) : (s.modBox ch f).media = s.media := rfl
@[simp] theorem modBox_ae (s : State) (ch : Nat) (f : Box → Box) : (s.modBox ch f).ae = s.ae := rfl
@[simp] theorem modBox_ports (s : State) (ch : Nat) (f : Box → Box) : (s.modBox ch f).ports = s.ports := rfl
@[simp] theorem modBox_ctls (s : State) (ch : Nat) (f : Box → Box) : (s.modBox ch f).ctls = s.ctls := rfl
@[simp] theorem modBox_adm (s : State) (ch : Nat) (f : Box → Box) : (s.modBox ch f).adm = s.adm := rfl
@[simp] theorem modBox_bifur (s : State) (ch : Nat) (f : Box → Box) : (s.modBox ch f).bifur = s.bifur := rfl
@[simp] theorem modBox_mem (s : State) (ch : Nat) (f : Box → Box) : (s.modBox ch f).mem = s.mem := rfl
@[simp] theorem modBox_link (s : State) (ch : Nat) (f : Box → Box) : (s.modBox ch f).link = s.link := rfl
@[simp] theorem modBox_arr (s : State) (ch : Nat) (f : Box → Box) : (s.modBox ch f).arr = s.arr := rfl
@[simp] theorem modBox_sec (s : State) (ch : Nat) (f : Box → Box) : (s.modBox ch f).sec = s.sec := rfl
@[simp] theorem modBox_plat (s : State) (ch : Nat) (f : Box → Box) : (s.modBox ch f).plat = s.plat := rfl
@[simp] theorem modBox_rb (s : State) (ch : Nat) (f : Box → Box) : (s.modBox ch f).rb = s.rb := rfl
@[simp] theorem modBox_out (s : State) (ch : Nat) (f : Box → Box) : (s.modBox ch f).out = s.out := rfl
@[simp] theorem modBox_free (s : State) (ch : Nat) (f : Box → Box) : (s.modBox ch f).free = s.free := rfl
@[simp] theorem modBox_pending (s : State) (ch : Nat) (f : Box → Box) : (s.modBox ch f).pending = s.pending := rfl
@[simp] theorem modBox_rget (s : State) (ch : Nat) (f : Box → Box) (fld : Field) : (s.modBox ch f).rget fld = s.rget fld := rfl
@[simp] theorem modBox_flag (s : State) (ch : Nat) (f : Box → Box) (fld : Field) : (s.modBox ch f).flag fld = s.flag fld := rfl

@[simp] theorem setDie_xd6408 (s : State) (d : Nat) (x : Die) : (s.setDie d x).xd6408 = s.xd6408 := rfl
@[simp] theorem setDie_mode (s : State) (d : Nat) (x : Die) : (s.setDie d x).mode = s.mode := rfl
@[simp] theorem setDie_regs (s : State) (d : Nat) (x : Die) : (s.setDie d x).regs = s.regs := rfl
@[simp] theorem setDie_media (s : State) (d : Nat) (x : Die) : (s.setDie d x).media = s.media := rfl
@[simp] theorem setDie_ae (s : State) (d : Nat) (x : Die) : (s.setDie d x).ae = s.ae := rfl
@[simp] theorem setDie_ports (s : State) (d : Nat) (x : Die) : (s.setDie d x).ports = s.ports := rfl
@[simp] theorem setDie_ctls (s : State) (d : Nat) (x : Die) : (s.setDie d x).ctls = s.ctls := rfl
@[simp] theorem setDie_adm (s : State) (d : Nat) (x : Die) : (s.setDie d x).adm = s.adm := rfl
@[simp] theorem setDie_bifur (s : State) (d : Nat) (x : Die) : (s.setDie d x).bifur = s.bifur := rfl
@[simp] theorem setDie_mem (s : State) (d : Nat) (x : Die) : (s.setDie d x).mem = s.mem := rfl
@[simp] theorem setDie_link (s : State) (d : Nat) (x : Die) : (s.setDie d x).link = s.link := rfl
@[simp] theorem setDie_arr (s : State) (d : Nat) (x : Die) : (s.setDie d x).arr = s.arr := rfl
@[simp] theorem setDie_sec (s : State) (d : Nat) (x : Die) : (s.setDie d x).sec = s.sec := rfl
@[simp] theorem setDie_plat (s : State) (d : Nat) (x : Die) : (s.setDie d x).plat = s.plat := rfl
@[simp] theorem setDie_rb (s : State) (d : Nat) (x : Die) : (s.setDie d x).rb = s.rb := rfl
@[simp] theorem setDie_out (s : State) (d : Nat) (x : Die) : (s.setDie d x).out = s.out := rfl
@[simp] theorem setDie_free (s : State) (d : Nat) (x : Die) : (s.setDie d x).free = s.free := rfl
@[simp] theorem setDie_pending (s : State) (d : Nat) (x : Die) : (s.setDie d x).pending = s.pending := rfl
@[simp] theorem setDie_rget (s : State) (d : Nat) (x : Die) (fld : Field) : (s.setDie d x).rget fld = s.rget fld := rfl
@[simp] theorem setDie_flag (s : State) (d : Nat) (x : Die) (fld : Field) : (s.setDie d x).flag fld = s.flag fld := rfl

@[simp] theorem modCal_xd6408 (s : State) (ch ce : Nat) (f : CeCal → CeCal) : (s.modCal ch ce f).xd6408 = s.xd6408 := rfl
@[simp] theorem modCal_mode (s : State) (ch ce : Nat) (f : CeCal → CeCal) : (s.modCal ch ce f).mode = s.mode := rfl
@[simp] theorem modCal_regs (s : State) (ch ce : Nat) (f : CeCal → CeCal) : (s.modCal ch ce f).regs = s.regs := rfl
@[simp] theorem modCal_media (s : State) (ch ce : Nat) (f : CeCal → CeCal) : (s.modCal ch ce f).media = s.media := rfl
@[simp] theorem modCal_ae (s : State) (ch ce : Nat) (f : CeCal → CeCal) : (s.modCal ch ce f).ae = s.ae := rfl
@[simp] theorem modCal_ports (s : State) (ch ce : Nat) (f : CeCal → CeCal) : (s.modCal ch ce f).ports = s.ports := rfl
@[simp] theorem modCal_ctls (s : State) (ch ce : Nat) (f : CeCal → CeCal) : (s.modCal ch ce f).ctls = s.ctls := rfl
@[simp] theorem modCal_adm (s : State) (ch ce : Nat) (f : CeCal → CeCal) : (s.modCal ch ce f).adm = s.adm := rfl
@[simp] theorem modCal_bifur (s : State) (ch ce : Nat) (f : CeCal → CeCal) : (s.modCal ch ce f).bifur = s.bifur := rfl
@[simp] theorem modCal_mem (s : State) (ch ce : Nat) (f : CeCal → CeCal) : (s.modCal ch ce f).mem = s.mem := rfl
@[simp] theorem modCal_link (s : State) (ch ce : Nat) (f : CeCal → CeCal) : (s.modCal ch ce f).link = s.link := rfl
@[simp] theorem modCal_arr (s : State) (ch ce : Nat) (f : CeCal → CeCal) : (s.modCal ch ce f).arr = s.arr := rfl
@[simp] theorem modCal_sec (s : State) (ch ce : Nat) (f : CeCal → CeCal) : (s.modCal ch ce f).sec = s.sec := rfl
@[simp] theorem modCal_plat (s : State) (ch ce : Nat) (f : CeCal → CeCal) : (s.modCal ch ce f).plat = s.plat := rfl
@[simp] theorem modCal_rb (s : State) (ch ce : Nat) (f : CeCal → CeCal) : (s.modCal ch ce f).rb = s.rb := rfl
@[simp] theorem modCal_out (s : State) (ch ce : Nat) (f : CeCal → CeCal) : (s.modCal ch ce f).out = s.out := rfl
@[simp] theorem modCal_free (s : State) (ch ce : Nat) (f : CeCal → CeCal) : (s.modCal ch ce f).free = s.free := rfl
@[simp] theorem modCal_pending (s : State) (ch ce : Nat) (f : CeCal → CeCal) : (s.modCal ch ce f).pending = s.pending := rfl
@[simp] theorem modCal_rget (s : State) (ch ce : Nat) (f : CeCal → CeCal) (fld : Field) : (s.modCal ch ce f).rget fld = s.rget fld := rfl
@[simp] theorem modCal_flag (s : State) (ch ce : Nat) (f : CeCal → CeCal) (fld : Field) : (s.modCal ch ce f).flag fld = s.flag fld := rfl

@[simp] theorem setJob_xd6408 (s : State) (n : Nat) (j : Job) : (s.setJob n j).xd6408 = s.xd6408 := rfl
@[simp] theorem setJob_mode (s : State) (n : Nat) (j : Job) : (s.setJob n j).mode = s.mode := rfl
@[simp] theorem setJob_regs (s : State) (n : Nat) (j : Job) : (s.setJob n j).regs = s.regs := rfl
@[simp] theorem setJob_media (s : State) (n : Nat) (j : Job) : (s.setJob n j).media = s.media := rfl
@[simp] theorem setJob_ae (s : State) (n : Nat) (j : Job) : (s.setJob n j).ae = s.ae := rfl
@[simp] theorem setJob_ports (s : State) (n : Nat) (j : Job) : (s.setJob n j).ports = s.ports := rfl
@[simp] theorem setJob_ctls (s : State) (n : Nat) (j : Job) : (s.setJob n j).ctls = s.ctls := rfl
@[simp] theorem setJob_adm (s : State) (n : Nat) (j : Job) : (s.setJob n j).adm = s.adm := rfl
@[simp] theorem setJob_bifur (s : State) (n : Nat) (j : Job) : (s.setJob n j).bifur = s.bifur := rfl
@[simp] theorem setJob_mem (s : State) (n : Nat) (j : Job) : (s.setJob n j).mem = s.mem := rfl
@[simp] theorem setJob_link (s : State) (n : Nat) (j : Job) : (s.setJob n j).link = s.link := rfl
@[simp] theorem setJob_arr (s : State) (n : Nat) (j : Job) : (s.setJob n j).arr = s.arr := rfl
@[simp] theorem setJob_sec (s : State) (n : Nat) (j : Job) : (s.setJob n j).sec = s.sec := rfl
@[simp] theorem setJob_plat (s : State) (n : Nat) (j : Job) : (s.setJob n j).plat = s.plat := rfl
@[simp] theorem setJob_rb (s : State) (n : Nat) (j : Job) : (s.setJob n j).rb = s.rb := rfl
@[simp] theorem setJob_out (s : State) (n : Nat) (j : Job) : (s.setJob n j).out = s.out := rfl
@[simp] theorem setJob_free (s : State) (n : Nat) (j : Job) : (s.setJob n j).free = s.free := rfl
@[simp] theorem setJob_pending (s : State) (n : Nat) (j : Job) : (s.setJob n j).pending = s.pending := rfl
@[simp] theorem setJob_rget (s : State) (n : Nat) (j : Job) (fld : Field) : (s.setJob n j).rget fld = s.rget fld := rfl
@[simp] theorem setJob_flag (s : State) (n : Nat) (j : Job) (fld : Field) : (s.setJob n j).flag fld = s.flag fld := rfl

@[simp] theorem setTracker_xd6408 (s : State) (b v : Nat) : (s.setTracker b v).xd6408 = s.xd6408 := rfl
@[simp] theorem setTracker_mode (s : State) (b v : Nat) : (s.setTracker b v).mode = s.mode := rfl
@[simp] theorem setTracker_regs (s : State) (b v : Nat) : (s.setTracker b v).regs = s.regs := rfl
@[simp] theorem setTracker_media (s : State) (b v : Nat) : (s.setTracker b v).media = s.media := rfl
@[simp] theorem setTracker_ae (s : State) (b v : Nat) : (s.setTracker b v).ae = s.ae := rfl
@[simp] theorem setTracker_ports (s : State) (b v : Nat) : (s.setTracker b v).ports = s.ports := rfl
@[simp] theorem setTracker_ctls (s : State) (b v : Nat) : (s.setTracker b v).ctls = s.ctls := rfl
@[simp] theorem setTracker_adm (s : State) (b v : Nat) : (s.setTracker b v).adm = s.adm := rfl
@[simp] theorem setTracker_bifur (s : State) (b v : Nat) : (s.setTracker b v).bifur = s.bifur := rfl
@[simp] theorem setTracker_mem (s : State) (b v : Nat) : (s.setTracker b v).mem = s.mem := rfl
@[simp] theorem setTracker_link (s : State) (b v : Nat) : (s.setTracker b v).link = s.link := rfl
@[simp] theorem setTracker_arr (s : State) (b v : Nat) : (s.setTracker b v).arr = s.arr := rfl
@[simp] theorem setTracker_sec (s : State) (b v : Nat) : (s.setTracker b v).sec = s.sec := rfl
@[simp] theorem setTracker_plat (s : State) (b v : Nat) : (s.setTracker b v).plat = s.plat := rfl
@[simp] theorem setTracker_rb (s : State) (b v : Nat) : (s.setTracker b v).rb = s.rb := rfl
@[simp] theorem setTracker_out (s : State) (b v : Nat) : (s.setTracker b v).out = s.out := rfl
@[simp] theorem setTracker_free (s : State) (b v : Nat) : (s.setTracker b v).free = s.free := rfl
@[simp] theorem setTracker_pending (s : State) (b v : Nat) : (s.setTracker b v).pending = s.pending := rfl
@[simp] theorem setTracker_rget (s : State) (b v : Nat) (fld : Field) : (s.setTracker b v).rget fld = s.rget fld := rfl
@[simp] theorem setTracker_flag (s : State) (b v : Nat) (fld : Field) : (s.setTracker b v).flag fld = s.flag fld := rfl

@[simp] theorem putStore_xd6408 (s : State) (ch addr : Nat) (w : BitVec 176) : (s.putStore ch addr w).xd6408 = s.xd6408 := rfl
@[simp] theorem putStore_mode (s : State) (ch addr : Nat) (w : BitVec 176) : (s.putStore ch addr w).mode = s.mode := rfl
@[simp] theorem putStore_regs (s : State) (ch addr : Nat) (w : BitVec 176) : (s.putStore ch addr w).regs = s.regs := rfl
@[simp] theorem putStore_media (s : State) (ch addr : Nat) (w : BitVec 176) : (s.putStore ch addr w).media = s.media := rfl
@[simp] theorem putStore_ae (s : State) (ch addr : Nat) (w : BitVec 176) : (s.putStore ch addr w).ae = s.ae := rfl
@[simp] theorem putStore_ports (s : State) (ch addr : Nat) (w : BitVec 176) : (s.putStore ch addr w).ports = s.ports := rfl
@[simp] theorem putStore_ctls (s : State) (ch addr : Nat) (w : BitVec 176) : (s.putStore ch addr w).ctls = s.ctls := rfl
@[simp] theorem putStore_adm (s : State) (ch addr : Nat) (w : BitVec 176) : (s.putStore ch addr w).adm = s.adm := rfl
@[simp] theorem putStore_bifur (s : State) (ch addr : Nat) (w : BitVec 176) : (s.putStore ch addr w).bifur = s.bifur := rfl
@[simp] theorem putStore_mem (s : State) (ch addr : Nat) (w : BitVec 176) : (s.putStore ch addr w).mem = s.mem := rfl
@[simp] theorem putStore_link (s : State) (ch addr : Nat) (w : BitVec 176) : (s.putStore ch addr w).link = s.link := rfl
@[simp] theorem putStore_arr (s : State) (ch addr : Nat) (w : BitVec 176) : (s.putStore ch addr w).arr = s.arr := rfl
@[simp] theorem putStore_sec (s : State) (ch addr : Nat) (w : BitVec 176) : (s.putStore ch addr w).sec = s.sec := rfl
@[simp] theorem putStore_plat (s : State) (ch addr : Nat) (w : BitVec 176) : (s.putStore ch addr w).plat = s.plat := rfl
@[simp] theorem putStore_rb (s : State) (ch addr : Nat) (w : BitVec 176) : (s.putStore ch addr w).rb = s.rb := rfl
@[simp] theorem putStore_out (s : State) (ch addr : Nat) (w : BitVec 176) : (s.putStore ch addr w).out = s.out := rfl
@[simp] theorem putStore_free (s : State) (ch addr : Nat) (w : BitVec 176) : (s.putStore ch addr w).free = s.free := rfl
@[simp] theorem putStore_pending (s : State) (ch addr : Nat) (w : BitVec 176) : (s.putStore ch addr w).pending = s.pending := rfl
@[simp] theorem putStore_rget (s : State) (ch addr : Nat) (w : BitVec 176) (fld : Field) : (s.putStore ch addr w).rget fld = s.rget fld := rfl
@[simp] theorem putStore_flag (s : State) (ch addr : Nat) (w : BitVec 176) (fld : Field) : (s.putStore ch addr w).flag fld = s.flag fld := rfl

@[simp] theorem putEntry_xd6408 (s : State) (pos : Nat) (e : AeEntry) : (s.putEntry pos e).xd6408 = s.xd6408 := rfl
@[simp] theorem putEntry_mode (s : State) (pos : Nat) (e : AeEntry) : (s.putEntry pos e).mode = s.mode := rfl
@[simp] theorem putEntry_regs (s : State) (pos : Nat) (e : AeEntry) : (s.putEntry pos e).regs = s.regs := rfl
@[simp] theorem putEntry_flash (s : State) (pos : Nat) (e : AeEntry) : (s.putEntry pos e).flash = s.flash := rfl
@[simp] theorem putEntry_media (s : State) (pos : Nat) (e : AeEntry) : (s.putEntry pos e).media = s.media := rfl
@[simp] theorem putEntry_ports (s : State) (pos : Nat) (e : AeEntry) : (s.putEntry pos e).ports = s.ports := rfl
@[simp] theorem putEntry_ctls (s : State) (pos : Nat) (e : AeEntry) : (s.putEntry pos e).ctls = s.ctls := rfl
@[simp] theorem putEntry_adm (s : State) (pos : Nat) (e : AeEntry) : (s.putEntry pos e).adm = s.adm := rfl
@[simp] theorem putEntry_bifur (s : State) (pos : Nat) (e : AeEntry) : (s.putEntry pos e).bifur = s.bifur := rfl
@[simp] theorem putEntry_mem (s : State) (pos : Nat) (e : AeEntry) : (s.putEntry pos e).mem = s.mem := rfl
@[simp] theorem putEntry_link (s : State) (pos : Nat) (e : AeEntry) : (s.putEntry pos e).link = s.link := rfl
@[simp] theorem putEntry_arr (s : State) (pos : Nat) (e : AeEntry) : (s.putEntry pos e).arr = s.arr := rfl
@[simp] theorem putEntry_sec (s : State) (pos : Nat) (e : AeEntry) : (s.putEntry pos e).sec = s.sec := rfl
@[simp] theorem putEntry_plat (s : State) (pos : Nat) (e : AeEntry) : (s.putEntry pos e).plat = s.plat := rfl
@[simp] theorem putEntry_rb (s : State) (pos : Nat) (e : AeEntry) : (s.putEntry pos e).rb = s.rb := rfl
@[simp] theorem putEntry_out (s : State) (pos : Nat) (e : AeEntry) : (s.putEntry pos e).out = s.out := rfl
@[simp] theorem putEntry_free (s : State) (pos : Nat) (e : AeEntry) : (s.putEntry pos e).free = s.free := rfl
@[simp] theorem putEntry_pending (s : State) (pos : Nat) (e : AeEntry) : (s.putEntry pos e).pending = s.pending := rfl
@[simp] theorem putEntry_rget (s : State) (pos : Nat) (e : AeEntry) (fld : Field) : (s.putEntry pos e).rget fld = s.rget fld := rfl
@[simp] theorem putEntry_flag (s : State) (pos : Nat) (e : AeEntry) (fld : Field) : (s.putEntry pos e).flag fld = s.flag fld := rfl

@[simp] theorem modParcelEntry_xd6408 (s : State) (p : Nat) (f : AeEntry → AeEntry) : (s.modParcelEntry p f).xd6408 = s.xd6408 := rfl
@[simp] theorem modParcelEntry_mode (s : State) (p : Nat) (f : AeEntry → AeEntry) : (s.modParcelEntry p f).mode = s.mode := rfl
@[simp] theorem modParcelEntry_regs (s : State) (p : Nat) (f : AeEntry → AeEntry) : (s.modParcelEntry p f).regs = s.regs := rfl
@[simp] theorem modParcelEntry_flash (s : State) (p : Nat) (f : AeEntry → AeEntry) : (s.modParcelEntry p f).flash = s.flash := rfl
@[simp] theorem modParcelEntry_media (s : State) (p : Nat) (f : AeEntry → AeEntry) : (s.modParcelEntry p f).media = s.media := rfl
@[simp] theorem modParcelEntry_ports (s : State) (p : Nat) (f : AeEntry → AeEntry) : (s.modParcelEntry p f).ports = s.ports := rfl
@[simp] theorem modParcelEntry_ctls (s : State) (p : Nat) (f : AeEntry → AeEntry) : (s.modParcelEntry p f).ctls = s.ctls := rfl
@[simp] theorem modParcelEntry_adm (s : State) (p : Nat) (f : AeEntry → AeEntry) : (s.modParcelEntry p f).adm = s.adm := rfl
@[simp] theorem modParcelEntry_bifur (s : State) (p : Nat) (f : AeEntry → AeEntry) : (s.modParcelEntry p f).bifur = s.bifur := rfl
@[simp] theorem modParcelEntry_mem (s : State) (p : Nat) (f : AeEntry → AeEntry) : (s.modParcelEntry p f).mem = s.mem := rfl
@[simp] theorem modParcelEntry_link (s : State) (p : Nat) (f : AeEntry → AeEntry) : (s.modParcelEntry p f).link = s.link := rfl
@[simp] theorem modParcelEntry_arr (s : State) (p : Nat) (f : AeEntry → AeEntry) : (s.modParcelEntry p f).arr = s.arr := rfl
@[simp] theorem modParcelEntry_sec (s : State) (p : Nat) (f : AeEntry → AeEntry) : (s.modParcelEntry p f).sec = s.sec := rfl
@[simp] theorem modParcelEntry_plat (s : State) (p : Nat) (f : AeEntry → AeEntry) : (s.modParcelEntry p f).plat = s.plat := rfl
@[simp] theorem modParcelEntry_rb (s : State) (p : Nat) (f : AeEntry → AeEntry) : (s.modParcelEntry p f).rb = s.rb := rfl
@[simp] theorem modParcelEntry_out (s : State) (p : Nat) (f : AeEntry → AeEntry) : (s.modParcelEntry p f).out = s.out := rfl
@[simp] theorem modParcelEntry_free (s : State) (p : Nat) (f : AeEntry → AeEntry) : (s.modParcelEntry p f).free = s.free := rfl
@[simp] theorem modParcelEntry_pending (s : State) (p : Nat) (f : AeEntry → AeEntry) : (s.modParcelEntry p f).pending = s.pending := rfl
@[simp] theorem modParcelEntry_rget (s : State) (p : Nat) (f : AeEntry → AeEntry) (fld : Field) : (s.modParcelEntry p f).rget fld = s.rget fld := rfl
@[simp] theorem modParcelEntry_flag (s : State) (p : Nat) (f : AeEntry → AeEntry) (fld : Field) : (s.modParcelEntry p f).flag fld = s.flag fld := rfl

@[simp] theorem setAJob_xd6408 (s : State) (j : Nat) (x : AJob) : (s.setAJob j x).xd6408 = s.xd6408 := rfl
@[simp] theorem setAJob_mode (s : State) (j : Nat) (x : AJob) : (s.setAJob j x).mode = s.mode := rfl
@[simp] theorem setAJob_regs (s : State) (j : Nat) (x : AJob) : (s.setAJob j x).regs = s.regs := rfl
@[simp] theorem setAJob_flash (s : State) (j : Nat) (x : AJob) : (s.setAJob j x).flash = s.flash := rfl
@[simp] theorem setAJob_media (s : State) (j : Nat) (x : AJob) : (s.setAJob j x).media = s.media := rfl
@[simp] theorem setAJob_ae (s : State) (j : Nat) (x : AJob) : (s.setAJob j x).ae = s.ae := rfl
@[simp] theorem setAJob_ports (s : State) (j : Nat) (x : AJob) : (s.setAJob j x).ports = s.ports := rfl
@[simp] theorem setAJob_ctls (s : State) (j : Nat) (x : AJob) : (s.setAJob j x).ctls = s.ctls := rfl
@[simp] theorem setAJob_adm (s : State) (j : Nat) (x : AJob) : (s.setAJob j x).adm = s.adm := rfl
@[simp] theorem setAJob_bifur (s : State) (j : Nat) (x : AJob) : (s.setAJob j x).bifur = s.bifur := rfl
@[simp] theorem setAJob_mem (s : State) (j : Nat) (x : AJob) : (s.setAJob j x).mem = s.mem := rfl
@[simp] theorem setAJob_arr (s : State) (j : Nat) (x : AJob) : (s.setAJob j x).arr = s.arr := rfl
@[simp] theorem setAJob_sec (s : State) (j : Nat) (x : AJob) : (s.setAJob j x).sec = s.sec := rfl
@[simp] theorem setAJob_plat (s : State) (j : Nat) (x : AJob) : (s.setAJob j x).plat = s.plat := rfl
@[simp] theorem setAJob_rb (s : State) (j : Nat) (x : AJob) : (s.setAJob j x).rb = s.rb := rfl
@[simp] theorem setAJob_out (s : State) (j : Nat) (x : AJob) : (s.setAJob j x).out = s.out := rfl
@[simp] theorem setAJob_free (s : State) (j : Nat) (x : AJob) : (s.setAJob j x).free = s.free := rfl
@[simp] theorem setAJob_pending (s : State) (j : Nat) (x : AJob) : (s.setAJob j x).pending = s.pending := rfl
@[simp] theorem setAJob_rget (s : State) (j : Nat) (x : AJob) (fld : Field) : (s.setAJob j x).rget fld = s.rget fld := rfl
@[simp] theorem setAJob_flag (s : State) (j : Nat) (x : AJob) (fld : Field) : (s.setAJob j x).flag fld = s.flag fld := rfl

@[simp] theorem modAJob_xd6408 (s : State) (j : Nat) (f : AJob → AJob) : (s.modAJob j f).xd6408 = s.xd6408 := rfl
@[simp] theorem modAJob_mode (s : State) (j : Nat) (f : AJob → AJob) : (s.modAJob j f).mode = s.mode := rfl
@[simp] theorem modAJob_regs (s : State) (j : Nat) (f : AJob → AJob) : (s.modAJob j f).regs = s.regs := rfl
@[simp] theorem modAJob_flash (s : State) (j : Nat) (f : AJob → AJob) : (s.modAJob j f).flash = s.flash := rfl
@[simp] theorem modAJob_media (s : State) (j : Nat) (f : AJob → AJob) : (s.modAJob j f).media = s.media := rfl
@[simp] theorem modAJob_ae (s : State) (j : Nat) (f : AJob → AJob) : (s.modAJob j f).ae = s.ae := rfl
@[simp] theorem modAJob_ports (s : State) (j : Nat) (f : AJob → AJob) : (s.modAJob j f).ports = s.ports := rfl
@[simp] theorem modAJob_ctls (s : State) (j : Nat) (f : AJob → AJob) : (s.modAJob j f).ctls = s.ctls := rfl
@[simp] theorem modAJob_adm (s : State) (j : Nat) (f : AJob → AJob) : (s.modAJob j f).adm = s.adm := rfl
@[simp] theorem modAJob_bifur (s : State) (j : Nat) (f : AJob → AJob) : (s.modAJob j f).bifur = s.bifur := rfl
@[simp] theorem modAJob_mem (s : State) (j : Nat) (f : AJob → AJob) : (s.modAJob j f).mem = s.mem := rfl
@[simp] theorem modAJob_arr (s : State) (j : Nat) (f : AJob → AJob) : (s.modAJob j f).arr = s.arr := rfl
@[simp] theorem modAJob_sec (s : State) (j : Nat) (f : AJob → AJob) : (s.modAJob j f).sec = s.sec := rfl
@[simp] theorem modAJob_plat (s : State) (j : Nat) (f : AJob → AJob) : (s.modAJob j f).plat = s.plat := rfl
@[simp] theorem modAJob_rb (s : State) (j : Nat) (f : AJob → AJob) : (s.modAJob j f).rb = s.rb := rfl
@[simp] theorem modAJob_out (s : State) (j : Nat) (f : AJob → AJob) : (s.modAJob j f).out = s.out := rfl
@[simp] theorem modAJob_free (s : State) (j : Nat) (f : AJob → AJob) : (s.modAJob j f).free = s.free := rfl
@[simp] theorem modAJob_pending (s : State) (j : Nat) (f : AJob → AJob) : (s.modAJob j f).pending = s.pending := rfl
@[simp] theorem modAJob_rget (s : State) (j : Nat) (f : AJob → AJob) (fld : Field) : (s.modAJob j f).rget fld = s.rget fld := rfl
@[simp] theorem modAJob_flag (s : State) (j : Nat) (f : AJob → AJob) (fld : Field) : (s.modAJob j f).flag fld = s.flag fld := rfl

@[simp] theorem modTemp_xd6408 (s : State) (i : Nat) (f : TempInput → TempInput) : (s.modTemp i f).xd6408 = s.xd6408 := rfl
@[simp] theorem modTemp_mode (s : State) (i : Nat) (f : TempInput → TempInput) : (s.modTemp i f).mode = s.mode := rfl
@[simp] theorem modTemp_regs (s : State) (i : Nat) (f : TempInput → TempInput) : (s.modTemp i f).regs = s.regs := rfl
@[simp] theorem modTemp_flash (s : State) (i : Nat) (f : TempInput → TempInput) : (s.modTemp i f).flash = s.flash := rfl
@[simp] theorem modTemp_media (s : State) (i : Nat) (f : TempInput → TempInput) : (s.modTemp i f).media = s.media := rfl
@[simp] theorem modTemp_ae (s : State) (i : Nat) (f : TempInput → TempInput) : (s.modTemp i f).ae = s.ae := rfl
@[simp] theorem modTemp_ports (s : State) (i : Nat) (f : TempInput → TempInput) : (s.modTemp i f).ports = s.ports := rfl
@[simp] theorem modTemp_ctls (s : State) (i : Nat) (f : TempInput → TempInput) : (s.modTemp i f).ctls = s.ctls := rfl
@[simp] theorem modTemp_adm (s : State) (i : Nat) (f : TempInput → TempInput) : (s.modTemp i f).adm = s.adm := rfl
@[simp] theorem modTemp_bifur (s : State) (i : Nat) (f : TempInput → TempInput) : (s.modTemp i f).bifur = s.bifur := rfl
@[simp] theorem modTemp_mem (s : State) (i : Nat) (f : TempInput → TempInput) : (s.modTemp i f).mem = s.mem := rfl
@[simp] theorem modTemp_link (s : State) (i : Nat) (f : TempInput → TempInput) : (s.modTemp i f).link = s.link := rfl
@[simp] theorem modTemp_arr (s : State) (i : Nat) (f : TempInput → TempInput) : (s.modTemp i f).arr = s.arr := rfl
@[simp] theorem modTemp_sec (s : State) (i : Nat) (f : TempInput → TempInput) : (s.modTemp i f).sec = s.sec := rfl
@[simp] theorem modTemp_rb (s : State) (i : Nat) (f : TempInput → TempInput) : (s.modTemp i f).rb = s.rb := rfl
@[simp] theorem modTemp_out (s : State) (i : Nat) (f : TempInput → TempInput) : (s.modTemp i f).out = s.out := rfl
@[simp] theorem modTemp_free (s : State) (i : Nat) (f : TempInput → TempInput) : (s.modTemp i f).free = s.free := rfl
@[simp] theorem modTemp_pending (s : State) (i : Nat) (f : TempInput → TempInput) : (s.modTemp i f).pending = s.pending := rfl
@[simp] theorem modTemp_rget (s : State) (i : Nat) (f : TempInput → TempInput) (fld : Field) : (s.modTemp i f).rget fld = s.rget fld := rfl
@[simp] theorem modTemp_flag (s : State) (i : Nat) (f : TempInput → TempInput) (fld : Field) : (s.modTemp i f).flag fld = s.flag fld := rfl

@[simp] theorem logIncident_xd6408 (s : State) (cls port addr dev : Nat) (info : List Nat) : (s.logIncident cls port addr dev info).xd6408 = s.xd6408 := rfl
@[simp] theorem logIncident_mode (s : State) (cls port addr dev : Nat) (info : List Nat) : (s.logIncident cls port addr dev info).mode = s.mode := rfl
@[simp] theorem logIncident_regs (s : State) (cls port addr dev : Nat) (info : List Nat) : (s.logIncident cls port addr dev info).regs = s.regs := rfl
@[simp] theorem logIncident_flash (s : State) (cls port addr dev : Nat) (info : List Nat) : (s.logIncident cls port addr dev info).flash = s.flash := rfl
@[simp] theorem logIncident_media (s : State) (cls port addr dev : Nat) (info : List Nat) : (s.logIncident cls port addr dev info).media = s.media := rfl
@[simp] theorem logIncident_ae (s : State) (cls port addr dev : Nat) (info : List Nat) : (s.logIncident cls port addr dev info).ae = s.ae := rfl
@[simp] theorem logIncident_ports (s : State) (cls port addr dev : Nat) (info : List Nat) : (s.logIncident cls port addr dev info).ports = s.ports := rfl
@[simp] theorem logIncident_ctls (s : State) (cls port addr dev : Nat) (info : List Nat) : (s.logIncident cls port addr dev info).ctls = s.ctls := rfl
@[simp] theorem logIncident_adm (s : State) (cls port addr dev : Nat) (info : List Nat) : (s.logIncident cls port addr dev info).adm = s.adm := rfl
@[simp] theorem logIncident_bifur (s : State) (cls port addr dev : Nat) (info : List Nat) : (s.logIncident cls port addr dev info).bifur = s.bifur := rfl
@[simp] theorem logIncident_link (s : State) (cls port addr dev : Nat) (info : List Nat) : (s.logIncident cls port addr dev info).link = s.link := rfl
@[simp] theorem logIncident_arr (s : State) (cls port addr dev : Nat) (info : List Nat) : (s.logIncident cls port addr dev info).arr = s.arr := rfl
@[simp] theorem logIncident_sec (s : State) (cls port addr dev : Nat) (info : List Nat) : (s.logIncident cls port addr dev info).sec = s.sec := rfl
@[simp] theorem logIncident_plat (s : State) (cls port addr dev : Nat) (info : List Nat) : (s.logIncident cls port addr dev info).plat = s.plat := rfl
@[simp] theorem logIncident_rb (s : State) (cls port addr dev : Nat) (info : List Nat) : (s.logIncident cls port addr dev info).rb = s.rb := rfl
@[simp] theorem logIncident_out (s : State) (cls port addr dev : Nat) (info : List Nat) : (s.logIncident cls port addr dev info).out = s.out := rfl
@[simp] theorem logIncident_free (s : State) (cls port addr dev : Nat) (info : List Nat) : (s.logIncident cls port addr dev info).free = s.free := rfl
@[simp] theorem logIncident_pending (s : State) (cls port addr dev : Nat) (info : List Nat) : (s.logIncident cls port addr dev info).pending = s.pending := rfl
@[simp] theorem logIncident_rget (s : State) (cls port addr dev : Nat) (info : List Nat) (fld : Field) : (s.logIncident cls port addr dev info).rget fld = s.rget fld := rfl
@[simp] theorem logIncident_flag (s : State) (cls port addr dev : Nat) (info : List Nat) (fld : Field) : (s.logIncident cls port addr dev info).flag fld = s.flag fld := rfl

@[simp] theorem setProgress_xd6408 (s : State) (n : Nat) : (s.setProgress n).xd6408 = s.xd6408 := rfl
@[simp] theorem setProgress_mode (s : State) (n : Nat) : (s.setProgress n).mode = s.mode := rfl
@[simp] theorem setProgress_regs (s : State) (n : Nat) : (s.setProgress n).regs = s.regs := rfl
@[simp] theorem setProgress_flash (s : State) (n : Nat) : (s.setProgress n).flash = s.flash := rfl
@[simp] theorem setProgress_media (s : State) (n : Nat) : (s.setProgress n).media = s.media := rfl
@[simp] theorem setProgress_ae (s : State) (n : Nat) : (s.setProgress n).ae = s.ae := rfl
@[simp] theorem setProgress_ports (s : State) (n : Nat) : (s.setProgress n).ports = s.ports := rfl
@[simp] theorem setProgress_ctls (s : State) (n : Nat) : (s.setProgress n).ctls = s.ctls := rfl
@[simp] theorem setProgress_adm (s : State) (n : Nat) : (s.setProgress n).adm = s.adm := rfl
@[simp] theorem setProgress_bifur (s : State) (n : Nat) : (s.setProgress n).bifur = s.bifur := rfl
@[simp] theorem setProgress_mem (s : State) (n : Nat) : (s.setProgress n).mem = s.mem := rfl
@[simp] theorem setProgress_link (s : State) (n : Nat) : (s.setProgress n).link = s.link := rfl
@[simp] theorem setProgress_arr (s : State) (n : Nat) : (s.setProgress n).arr = s.arr := rfl
@[simp] theorem setProgress_sec (s : State) (n : Nat) : (s.setProgress n).sec = s.sec := rfl
@[simp] theorem setProgress_rb (s : State) (n : Nat) : (s.setProgress n).rb = s.rb := rfl
@[simp] theorem setProgress_out (s : State) (n : Nat) : (s.setProgress n).out = s.out := rfl
@[simp] theorem setProgress_free (s : State) (n : Nat) : (s.setProgress n).free = s.free := rfl
@[simp] theorem setProgress_pending (s : State) (n : Nat) : (s.setProgress n).pending = s.pending := rfl
@[simp] theorem setProgress_rget (s : State) (n : Nat) (fld : Field) : (s.setProgress n).rget fld = s.rget fld := rfl
@[simp] theorem setProgress_flag (s : State) (n : Nat) (fld : Field) : (s.setProgress n).flag fld = s.flag fld := rfl
@[simp] theorem setProgress_progress (s : State) (n : Nat) : (s.setProgress n).plat.progress = n := rfl

end Sys2Proof.Machine.State
end

