-- ==== Sys2Proof/Laws/Table.lean ====
section
/-! SUPPORT. Reading back what was written to a sparse table, and what a write leaves alone. -/

namespace Sys2Proof.Table

variable {α : Type}

@[simp] theorem find_nil (j : Nat) : find ([] : Table α) j = none := rfl

theorem find_ins_same (t : Table α) (j : Nat) (v : α) : find (ins t j v) j = some v := by
  induction t with
  | nil => simp [ins, find]
  | cons p t ih =>
    obtain ⟨k, w⟩ := p
    unfold ins
    by_cases h : j < k
    · simp [h, find]
    · by_cases e : j = k
      · simp [e, find]
      · simp [h, e, find, ih]

theorem find_ins_other (t : Table α) {j k : Nat} (v : α) (h : k ≠ j) : find (ins t j v) k = find t k := by
  induction t with
  | nil => simp [ins, find, h]
  | cons p t ih =>
    obtain ⟨i, w⟩ := p
    unfold ins
    by_cases l : j < i
    · simp [l, find, h]
    · by_cases e : j = i
      · subst e; simp [find, h]
      · simp only [l, e, if_false, find, ih]

theorem find_del_same (t : Table α) (j : Nat) : find (del t j) j = none := by
  induction t with
  | nil => rfl
  | cons p t ih =>
    obtain ⟨i, w⟩ := p
    unfold del
    by_cases e : j = i
    · simp [e] at ih ⊢; exact ih
    · simp [e, find, ih]

theorem find_del_other (t : Table α) {j k : Nat} (h : k ≠ j) : find (del t j) k = find t k := by
  induction t with
  | nil => rfl
  | cons p t ih =>
    obtain ⟨i, w⟩ := p
    unfold del
    by_cases e : j = i
    · subst e; simp [find, h, ih]
    · simp only [e, if_false, find, ih]

section
variable [DecidableEq α]

/-- A value written is the value read. -/
@[simp] theorem get_put_same (d : α) (t : Table α) (k : Nat) (v : α) : get d (put d t k v) k = v := by
  unfold put
  split
  · simp [get, find_del_same, *]
  · simp [get, find_ins_same]

/-- A write leaves every other key alone. -/
theorem get_put_other (d : α) (t : Table α) {j k : Nat} (v : α) (h : k ≠ j) : get d (put d t j v) k = get d t k := by
  unfold put
  split
  · simp [get, find_del_other t h]
  · simp [get, find_ins_other t v h]

/-- What is read under another default is not disturbed either. -/
theorem find_put_other (d : α) (t : Table α) {j k : Nat} (v : α) (h : k ≠ j) : find (put d t j v) k = find t k := by
  unfold put
  split
  · exact find_del_other t h
  · exact find_ins_other t v h

end

/-- Changing the value of one key leaves the others alone. -/
theorem find_modify_other (f : α → α) (t : Table α) {j k : Nat} (h : k ≠ j) : find (modify f t j) k = find t k := by
  unfold modify
  split
  · exact find_ins_other t _ h
  · rfl

/-- The changed value of a key that was listed. -/
theorem find_modify_same (f : α → α) (t : Table α) (j : Nat) : find (modify f t j) j = (find t j).map f := by
  unfold modify
  cases h : find t j with
  | none => simp [h]
  | some v => simp [find_ins_same]

/-- A table without the keys that fail a test reads as before at the others. -/
theorem find_filter (p : Nat → Bool) (t : Table α) (k : Nat) : find (t.filter fun q => p q.1) k = if p k then find t k else none := by
  induction t with
  | nil => simp
  | cons q t ih =>
    obtain ⟨i, v⟩ := q
    by_cases c : p i = true
    · rw [List.filter_cons_of_pos (by exact c)]
      by_cases e : k = i
      · subst e; simp [find, c]
      · simp only [find, e, if_false, ih]
    · rw [List.filter_cons_of_neg (by exact c), ih]
      by_cases e : k = i
      · subst e; simp [c]
      · simp only [find, e, if_false]

end Sys2Proof.Table
end

