-- ==== Sys2Proof/Laws/Access.lean ====
section
/-! SUPPORT. What each named read gives after each named write: registers, dies, boxes, contexts, controllers, ports, parcels. -/

namespace Sys2Proof.Machine.State

/-- A register field holds what was last written to it, cut to its width. -/
@[simp] theorem rget_rset_same (s : State) (f : Field) (v : Nat) : (s.rset f v).rget f = v % 2 ^ f.width := by
  simp [rget, rset, RegFile.get, RegFile.set]

/-- A write of one field leaves every field of another place alone. -/
theorem rget_rset_other (s : State) (f g : Field) (v : Nat) (h : g.key ≠ f.key) : (s.rset f v).rget g = s.rget g := by
  simp [rget, rset, RegFile.get, RegFile.set, Table.get, Table.find_put_other _ _ _ h]

theorem rget_rsat_other (s : State) (f g : Field) (n : Nat) (h : g.key ≠ f.key) : (s.rsat f n).rget g = s.rget g :=
  rget_rset_other s f g _ h

theorem rget_rwrap_other (s : State) (f g : Field) (n : Nat) (h : g.key ≠ f.key) : (s.rwrap f n).rget g = s.rget g :=
  rget_rset_other s f g _ h

/-- A saturating counter grows by `n` up to its largest value. -/
theorem rget_rsat_same (s : State) (f : Field) (n : Nat) : (s.rsat f n).rget f = min (s.rget f + n) (2 ^ f.width - 1) := by
  have h : (s.rsat f n).rget f = min (s.rget f + n) (2 ^ f.width - 1) % 2 ^ f.width := rget_rset_same s f _
  rw [h]
  apply Nat.mod_eq_of_lt
  have := Nat.two_pow_pos f.width
  omega

/-- A wrapping counter grows by `n` modulo its width. -/
@[simp] theorem rget_rwrap_same (s : State) (f : Field) (n : Nat) : (s.rwrap f n).rget f = (s.rget f + n) % 2 ^ f.width :=
  rget_rset_same s f _

theorem flag_eq (s : State) (f : Field) : s.flag f = (s.rget f != 0) := rfl

@[simp] theorem die_setDie_same (s : State) (d : Nat) (x : Die) : (s.setDie d x).die d = x := by simp [die, setDie]
theorem die_setDie_other (s : State) (d e : Nat) (x : Die) (h : e ≠ d) : (s.setDie d x).die e = s.die e := by
  simp [die, setDie, Table.get_put_other _ _ _ h]
@[simp] theorem die_modDie_same (s : State) (d : Nat) (f : Die → Die) : (s.modDie d f).die d = f (s.die d) := by simp [modDie]

@[simp] theorem box_modBox_same (s : State) (c : Nat) (f : Box → Box) : (s.modBox c f).box c = f (s.box c) := by simp [box, modBox]
@[simp] theorem ceCal_modCal_same (s : State) (c e : Nat) (f : CeCal → CeCal) : (s.modCal c e f).ceCal c e = f (s.ceCal c e) := by simp [ceCal, modCal]
@[simp] theorem die_modBox (s : State) (c d : Nat) (f : Box → Box) : (s.modBox c f).die d = s.die d := rfl
@[simp] theorem die_modCal (s : State) (c e d : Nat) (f : CeCal → CeCal) : (s.modCal c e f).die d = s.die d := rfl
@[simp] theorem die_rset (s : State) (f : Field) (v d : Nat) : (s.rset f v).die d = s.die d := rfl

@[simp] theorem ctl_modCtl_same (s : State) (k : Nat) (f : Controller → Controller) : (s.modCtl k f).ctl k = f (s.ctl k) := by simp [ctl, modCtl]
theorem ctl_modCtl_other (s : State) (k j : Nat) (f : Controller → Controller) (h : j ≠ k) : (s.modCtl k f).ctl j = s.ctl j := by
  simp [ctl, modCtl, Table.get_put_other _ _ _ h]
@[simp] theorem port_modPort_same (s : State) (p : Nat) (f : Port → Port) : (s.modPort p f).port p = f (s.port p) := by simp [port, modPort]
theorem port_modPort_other (s : State) (p q : Nat) (f : Port → Port) (h : q ≠ p) : (s.modPort p f).port q = s.port q := by
  simp [port, modPort, Table.get_put_other _ _ _ h]
@[simp] theorem bl_modBl_same (s : State) (p : Nat) (f : BlPort → BlPort) : (s.modBl p f).bl p = f (s.bl p) := by simp [bl, modBl]
theorem bl_modBl_other (s : State) (p q : Nat) (f : BlPort → BlPort) (h : q ≠ p) : (s.modBl p f).bl q = s.bl q := by
  simp [bl, modBl, Table.get_put_other _ _ _ h]

@[simp] theorem ctx_setCtx_same (s : State) (n : Nat) (c : Ctx) : (s.setCtx n c).ctx n = some c := by simp [ctx, setCtx, Table.find_ins_same]
theorem ctx_setCtx_other (s : State) (n m : Nat) (c : Ctx) (h : m ≠ n) : (s.setCtx n c).ctx m = s.ctx m := by
  simp [ctx, setCtx, Table.find_ins_other _ _ h]
@[simp] theorem ctx_modCtxN_same (s : State) (n : Nat) (f : Ctx → Ctx) : (s.modCtxN n f).ctx n = (s.ctx n).map f := by
  simp [ctx, modCtxN, Table.find_modify_same]
theorem ctx_modCtxN_other (s : State) (n m : Nat) (f : Ctx → Ctx) (h : m ≠ n) : (s.modCtxN n f).ctx m = s.ctx m := by
  simp [ctx, modCtxN, Table.find_modify_other _ _ h]
@[simp] theorem ctx_dropCtx_same (s : State) (n : Nat) : (s.dropCtx n).ctx n = none := by simp [ctx, dropCtx, Table.find_del_same]
@[simp] theorem ctx_rset (s : State) (f : Field) (v n : Nat) : (s.rset f v).ctx n = s.ctx n := rfl

@[simp] theorem parcel_setParcel_same (s : State) (p : Nat) (x : Parcel) : (s.setParcel p x).parcel p = x := by
  simp [parcel, setParcel]
theorem parcel_setParcel_other (s : State) (p q : Nat) (x : Parcel) (h : q ≠ p) : (s.setParcel p x).parcel q = s.parcel q := by
  simp [parcel, setParcel, Table.get_put_other _ _ _ h]

@[simp] theorem tempIn_modTemp_same (s : State) (i : Nat) (f : TempInput → TempInput) : (s.modTemp i f).tempIn i = f (s.tempIn i) := by
  simp [tempIn, modTemp]

end Sys2Proof.Machine.State
end

