-- ==== Sys2Proof/Laws/Areas.lean ====
section
/-! SUPPORT. What a Depot area reads as after an image has been programmed into it or its sectors erased. -/

namespace Sys2Proof.Machine.State

open Sys2Proof

/-! ## Words and bytes -/

@[simp] theorem depotWord_put_same (s : State) (w v : Nat) : (s.putDepot w v).depotWord w = v := by
  simp [depotWord, putDepot, modSec]

theorem depotWord_put_other (s : State) {w x : Nat} (v : Nat) (h : x ≠ w) : (s.putDepot w v).depotWord x = s.depotWord x := by
  simp [depotWord, putDepot, modSec, Table.get_put_other _ _ v h]

/-- Words programmed one after the other hold what was programmed, the others what they held. -/
theorem depotWord_putWords (s : State) (w n : Nat) (f : Nat → Nat) (x : Nat) :
    ((List.range n).foldl (fun s k => s.putDepot (w + k) (f k)) s).depotWord x = if w ≤ x ∧ x < w + n then f (x - w) else s.depotWord x := by
  induction n with
  | zero => rw [if_neg (by omega)]; rfl
  | succ n ih =>
    rw [List.range_succ, List.foldl_append]
    simp only [List.foldl_cons, List.foldl_nil]
    by_cases h : x = w + n
    · subst h; simp
    · rw [depotWord_put_other _ _ h, ih]
      by_cases c : w ≤ x ∧ x < w + n
      · rw [if_pos c, if_pos ⟨c.1, by omega⟩]
      · rw [if_neg c, if_neg (by omega)]

/-- Eight digits of base 256 are read back one by one. -/
theorem digits_read (g : Nat → Nat) (b : ∀ k, g k < 256) {j : Nat} (h : j < 8) :
    bits ((List.range 8).foldr (fun i a => g i + 256 * a) 0) (8 * j) 8 = g j := by
  have b0 := b 0; have b1 := b 1; have b2 := b 2; have b3 := b 3; have b4 := b 4; have b5 := b 5; have b6 := b 6; have b7 := b 7
  have e : List.range 8 = [0, 1, 2, 3, 4, 5, 6, 7] := rfl
  simp only [e, List.foldr_cons, List.foldr_nil, bits]
  obtain rfl | rfl | rfl | rfl | rfl | rfl | rfl | rfl : j = 0 ∨ j = 1 ∨ j = 2 ∨ j = 3 ∨ j = 4 ∨ j = 5 ∨ j = 6 ∨ j = 7 := by omega
  all_goals omega

/-- A word of a list of bytes gives its bytes back. -/
theorem bits_wordOf (l : List Byte) {j : Nat} (h : j < 8) : bits (wordOf l) (8 * j) 8 = (l.getD j 0xFF#8).toNat :=
  digits_read (fun k => (l.getD k 0xFF#8).toNat) (fun k => (l.getD k 0xFF#8).isLt) h

/-- Words outside a programmed run keep what they held. -/
theorem depotWord_putBytes_other (s : State) (w x : Nat) (bs : List Byte) (h : x < w ∨ w + (bs.length + 7) / 8 ≤ x) :
    (s.putBytes w bs).depotWord x = s.depotWord x := by
  rw [putBytes, depotWord_putWords, if_neg (by omega)]

/-- Bytes programmed are the bytes read. -/
theorem depotBytes_putBytes (s : State) (w n : Nat) (bs : List Byte) (h : n ≤ bs.length) : (s.putBytes w bs).depotBytes w n = bs.take n := by
  apply List.ext_getElem
  · simp [depotBytes, h]
  · intro i hi hj
    have hi' : i < n := by simpa [depotBytes] using hi
    simp only [depotBytes, List.getElem_map, List.getElem_range, List.getElem_take]
    rw [putBytes, depotWord_putWords, if_pos (by omega), show w + i / 8 - w = i / 8 by omega, bits_wordOf _ (Nat.mod_lt _ (by omega))]
    rw [List.getD_eq_getElem?_getD, List.getElem?_drop, show 8 * (i / 8) + i % 8 = i by omega, List.getElem?_eq_getElem (by omega)]
    simp

/-! ## Erased sectors -/

/-- An erased sector reads all ones, the others as before. -/
theorem depotWord_wipe (s : State) (xs : List Nat) (w : Nat) :
    (s.wipeSectors xs).depotWord w = if xs.contains (sectorOf w) then erasedWord else s.depotWord w := by
  have h := Table.find_filter (fun k => !xs.contains (sectorOf k)) s.sec.depot w
  simp only [depotWord, wipeSectors, modSec, Table.get]
  rw [h]
  by_cases c : sectorOf w ∈ xs <;> simp [c]

/-- What is read depends on the words that are read alone. -/
theorem depotBytes_congr {s t : State} {w n : Nat} (h : ∀ x, w ≤ x → x < w + (n + 7) / 8 → s.depotWord x = t.depotWord x) :
    s.depotBytes w n = t.depotBytes w n := by
  apply List.map_congr_left
  intro i hi
  have := List.mem_range.mp hi
  rw [h (w + i / 8) (by omega) (by omega)]

/-- A word of an area lies in a sector of it. -/
theorem area_contains {typ k x : Nat} (h : areaWord typ k ≤ x ∧ x < areaWord typ k + 512 * (areaSectors typ k).length) :
    (areaSectors typ k).contains (sectorOf x) = true := by
  have l : (areaSectors typ k).length = if typ = 1 then 64 else 8 := by simp [areaSectors]
  rw [l] at h
  simp only [areaSectors, List.contains_eq_mem, List.mem_map, List.mem_range, decide_eq_true_eq, sectorOf]
  unfold areaWord at h
  exact ⟨x / 512 - areaSector typ k, by omega, by omega⟩

/-- A word of an area lies in no sector of another area. -/
theorem area_apart {a b c d x : Nat} (ha : a = 1 ∨ a = 2) (hc : c = 1 ∨ c = 2) (hb : b < 2) (hd : d < 2) (n : ¬(a = c ∧ b = d))
    (h : areaWord a b ≤ x ∧ x < areaWord a b + 512 * (areaSectors a b).length) : (areaSectors c d).contains (sectorOf x) = false := by
  have l : (areaSectors a b).length = if a = 1 then 64 else 8 := by simp [areaSectors]
  rw [l] at h
  rw [← Bool.not_eq_true]
  simp only [areaSectors, List.contains_eq_mem, List.mem_map, List.mem_range, decide_eq_true_eq, sectorOf]
  rintro ⟨i, hi, e⟩
  unfold areaWord at h
  have hb' : b = 0 ∨ b = 1 := by omega
  have hd' : d = 0 ∨ d = 1 := by omega
  rcases ha with rfl | rfl <;> rcases hc with rfl | rfl <;> rcases hb' with rfl | rfl <;> rcases hd' with rfl | rfl <;>
    simp [areaSector] at h e n hi <;> omega

/-! ## Fields -/

/-- The digits of a number give it back, cut to so many. -/
theorem digits_sum (n v : Nat) : (List.range n).foldr (fun i a => bits v (8 * i) 8 + 256 * a) 0 = v % 256 ^ n := by
  induction n generalizing v with
  | zero => simp [Nat.mod_one]
  | succ n ih =>
    have h : (List.range n).foldr (fun i a => bits v (8 * (i + 1)) 8 + 256 * a) 0 = v / 256 % 256 ^ n := by
      rw [← ih (v / 256)]
      congr 1
      funext i a
      simp only [bits, Nat.div_div_eq_div_mul, show 256 = 2 ^ 8 by rfl, ← Nat.pow_add]
      rw [show 8 * (i + 1) = 8 + 8 * i by omega]
    rw [List.range_succ_eq_map, List.foldr_cons, List.foldr_map, h, Nat.pow_succ, Nat.mul_comm (256 ^ n), Nat.mod_mul]
    simp [bits]

/-- A field that holds the bytes of a number reads as it. -/
theorem leField_bytes {bs : List Byte} {off n v : Nat} (h : (bs.drop off).take n = toBytes (leBytes n v)) : leField bs off n = v % 256 ^ n := by
  rw [leField, h, ← digits_sum n v, toBytes, leBytes, List.foldr_map, List.foldr_map]
  congr 1
  funext i a
  simp [bits]

theorem foldl_round_length (l : List (Nat × Nat)) : ∀ v : List Nat, v.length = 8 → (l.foldl Sha384.round v).length = 8 := by
  induction l with
  | nil => exact fun v h => h
  | cons k l ih =>
    intro v h
    apply ih
    match v, h with
    | [a, b, c, d, e, f, g, h], _ => rfl

theorem foldl_block_length (l : List (List Nat)) : ∀ v : List Nat, v.length = 8 → (l.foldl Sha384.block v).length = 8 := by
  induction l with
  | nil => exact fun v h => h
  | cons k l ih =>
    intro v h
    apply ih
    simp [Sha384.block, foldl_round_length _ v h, h]

/-- A SHA-384 digest has 48 bytes. -/
@[simp] theorem digest_length (l : List Nat) : (Sha384.digest l).length = 48 := by
  have h := foldl_block_length (Sha384.blocks ((Sha384.padded l).length / 128) (Sha384.padded l)) Sha384.init rfl
  match e : (Sha384.blocks ((Sha384.padded l).length / 128) (Sha384.padded l)).foldl Sha384.block Sha384.init, h with
  | [a, b, c, d, i, f, g, j], _ => simp [Sha384.digest, e, Sha384.toBe]

/-- The area record has 64 bytes. -/
@[simp] theorem areaRecord_length (bs : List Byte) : (areaRecord bs).length = 64 := by simp [areaRecord, toBytes, leBytes]

/-! ## Slices of what is read -/

theorem depotBytes_take (s : State) (w n m : Nat) (h : m ≤ n) : (s.depotBytes w n).take m = s.depotBytes w m := by
  simp [depotBytes, ← List.map_take, List.take_range, Nat.min_eq_left h]

theorem depotBytes_drop (s : State) (w n a : Nat) : (s.depotBytes w n).drop (8 * a) = s.depotBytes (w + a) (n - 8 * a) := by
  apply List.ext_getElem
  · simp [depotBytes]
  · intro i _ _
    simp only [depotBytes, List.getElem_drop, List.getElem_map, List.getElem_range]
    rw [show (8 * a + i) / 8 = a + i / 8 by omega, show (8 * a + i) % 8 = i % 8 by omega, Nat.add_assoc]

/-- The bytes of one word. -/
theorem depotBytes_word (s : State) (w : Nat) : s.depotBytes w 8 = toBytes (leBytes 8 (s.depotWord w)) := by
  simp only [depotBytes, toBytes, leBytes, List.map_map]
  apply List.map_congr_left
  intro i hi
  have := List.mem_range.mp hi
  simp [Nat.div_eq_of_lt this, Nat.mod_eq_of_lt this]

/-! ## Areas -/

/-- What an area holds depends on its own words alone. -/
theorem areaImage_congr {s t : State} {typ k : Nat}
    (h : ∀ x, areaWord typ k ≤ x → x < areaWord typ k + 512 * (areaSectors typ k).length → s.depotWord x = t.depotWord x) :
    s.areaImage typ k = t.areaImage typ k := by
  have l : (areaSectors typ k).length = if typ = 1 then 64 else 8 := by simp [areaSectors]
  rw [l] at h
  have e : s.depotBytes (areaWord typ k) 64 = t.depotBytes (areaWord typ k) 64 :=
    depotBytes_congr fun x _ _ => h x (by omega) (by split <;> omega)
  unfold areaImage
  simp only [e]
  by_cases c : typ = 1
  · simp only [c, if_true] at h ⊢
    rw [depotBytes_congr (s := s) (t := t) fun x _ _ => h x (by omega) (by omega)]
  · simp only [c, if_false] at h ⊢
    by_cases n : leField (t.depotBytes (areaWord typ k) 64) 4 4 ≤ 32704
    · rw [depotBytes_congr (s := s) (t := t) (w := areaWord typ k + 8) fun x _ _ => h x (by omega) (by omega)]
    · simp [n]

/-- An erased area holds nothing. -/
theorem areaImage_erased {s : State} {typ k : Nat} (h : s.depotWord (areaWord typ k) = erasedWord) : s.areaImage typ k = none := by
  have m : leField (s.depotBytes (areaWord typ k) 64) 0 4 = 0xFFFFFFFF := by
    have e : ((s.depotBytes (areaWord typ k) 64).drop 0).take 4 = toBytes (leBytes 4 (2 ^ 64 - 1)) := by
      rw [List.drop_zero, depotBytes_take _ _ _ _ (by omega), ← depotBytes_take _ _ 8 _ (by omega), depotBytes_word, h]
      decide
    exact (leField_bytes e).trans (by decide)
  simp only [areaImage, m]
  simp

/-- A microcode image programmed behind its record is what the area holds (R458). -/
theorem areaImage_micro (s : State) (k q : Nat) (bs : List Byte) (l : 0x70 ≤ bs.length ∧ bs.length ≤ 32704) (r : 0 < q ∧ q < 2 ^ 64 - 1) :
    (s.programArea 2 k q bs).areaImage 2 k = some (q, bs) := by
  obtain ⟨w, hw⟩ : ∃ w, w = areaWord 2 k := ⟨_, rfl⟩
  have d : s.programArea 2 k q bs = ((s.putBytes (w + 8) bs).putBytes w (areaRecord bs)).putDepot (w + 1) q := by simp [programArea, hw]
  have rec8 : ∀ (x n : Nat), (x = w ∧ n ≤ 8) ∨ w + 2 ≤ x → (s.programArea 2 k q bs).depotBytes x n = ((s.putBytes (w + 8) bs).putBytes w (areaRecord bs)).depotBytes x n := by
    intro x n h
    rw [d]
    exact depotBytes_congr fun y _ _ => depotWord_put_other _ _ (by omega)
  have body : (s.programArea 2 k q bs).depotBytes (w + 8) bs.length = bs := by
    rw [rec8 _ _ (Or.inr (by omega)), depotBytes_congr (t := s.putBytes (w + 8) bs) fun x _ _ => depotWord_putBytes_other _ _ _ _ (Or.inr (by simp; omega)),
      depotBytes_putBytes _ _ _ _ (Nat.le_refl _), List.take_length]
  have full : ((s.putBytes (w + 8) bs).putBytes w (areaRecord bs)).depotBytes w 64 = areaRecord bs := by
    rw [depotBytes_putBytes _ _ _ _ (by simp), List.take_of_length_le (by simp)]
  have lo : ((s.programArea 2 k q bs).depotBytes w 64).take 8 = (areaRecord bs).take 8 := by
    have := congrArg (List.take 8) full
    rw [depotBytes_take _ _ _ _ (by omega)] at this
    rw [depotBytes_take _ _ _ _ (by omega), rec8 _ _ (Or.inl ⟨rfl, by omega⟩), this]
  have hi : ((s.programArea 2 k q bs).depotBytes w 64).drop 16 = (areaRecord bs).drop 16 := by
    have := congrArg (List.drop (8 * 2)) full
    rw [depotBytes_drop] at this
    rw [show 16 = 8 * 2 by rfl, depotBytes_drop, rec8 _ _ (Or.inr (by omega)), this]
  have f0 : leField ((s.programArea 2 k q bs).depotBytes w 64) 0 4 = 0x524D4355 := by
    refine (leField_bytes (v := 0x524D4355) ?_).trans (by decide)
    have := congrArg (List.take 4) lo
    rw [List.take_take, List.take_take] at this
    rw [List.drop_zero]; simpa [areaRecord, toBytes, leBytes] using this
  have f4 : leField ((s.programArea 2 k q bs).depotBytes w 64) 4 4 = bs.length := by
    rw [leField_bytes (v := bs.length) (by
      have := congrArg (List.drop 4) lo
      rw [List.drop_take, List.drop_take] at this
      rw [this]; simp [areaRecord, toBytes, leBytes])]
    exact Nat.mod_eq_of_lt (by omega)
  have f8 : leField ((s.programArea 2 k q bs).depotBytes w 64) 8 8 = q := by
    rw [leField_bytes (v := q) (by
      rw [show (8 : Nat) = 8 * 1 by rfl, depotBytes_drop, depotBytes_take _ _ _ _ (by omega), depotBytes_word, d, depotWord_put_same])]
    exact Nat.mod_eq_of_lt (by omega)
  have dig : (areaRecord bs).drop 16 = toBytes (Sha384.digest (bs.map (·.toNat))) := by
    simp only [areaRecord, toBytes, List.map_append]
    exact List.drop_left' (by simp [leBytes])
  unfold areaImage
  simp only [← hw, f0, f4, f8, body, hi, dig]
  simp; omega

/-- A Rulebook blob programmed is what the area holds (R524). -/
theorem areaImage_rulebook (s : State) (k q : Nat) (bs : List Byte) (m : leField bs 0 4 = 0x4B424C52) (e : leField bs 0x10 4 = bs.length)
    (l : 64 ≤ bs.length ∧ bs.length ≤ 262144) : (s.programArea 1 k q bs).areaImage 1 k = some (leField bs 8 8, bs) := by
  have h : (s.programArea 1 k q bs).depotBytes (areaWord 1 k) 64 = bs.take 64 := by simp [programArea, depotBytes_putBytes _ _ _ _ l.1]
  have f : ∀ off n, off + n ≤ 64 → leField (bs.take 64) off n = leField bs off n := by
    intro off n c
    simp only [leField, List.drop_take, List.take_take]
    rw [Nat.min_eq_left (by omega)]
  unfold areaImage
  simp only [h, f 0 4 (by omega), f 8 8 (by omega), f 0x10 4 (by omega), m, e, if_true, Nat.min_eq_right l.2]
  simp [programArea, depotBytes_putBytes _ _ _ _ (Nat.le_refl _)]

/-- Programming an image changes no word outside its area. -/
theorem programArea_other (s : State) {typ k q x : Nat} {bs : List Byte} (ht : typ = 1 ∨ typ = 2) (l : bs.length ≤ if typ = 1 then 262144 else 32704)
    (h : ¬(areaWord typ k ≤ x ∧ x < areaWord typ k + 512 * (areaSectors typ k).length)) : (s.programArea typ k q bs).depotWord x = s.depotWord x := by
  have e : (areaSectors typ k).length = if typ = 1 then 64 else 8 := by simp [areaSectors]
  rw [e] at h
  rcases ht with rfl | rfl
  · simp only [if_true] at l h
    simp only [programArea, if_true]
    exact depotWord_putBytes_other _ _ _ _ (by omega)
  · simp only [show ¬((2 : Nat) = 1) by omega, if_false] at l h
    simp only [programArea, show ¬((2 : Nat) = 1) by omega, if_false]
    rw [depotWord_put_other _ _ (by omega), depotWord_putBytes_other _ _ _ _ (by simp; omega), depotWord_putBytes_other _ _ _ _ (by omega)]

/-- The number of the area in force is 0 or 1. -/
theorem areaInForce_lt {s : State} {typ k q : Nat} {bs : List Byte} (h : s.areaInForce typ = some (k, q, bs)) : k < 2 := by
  unfold areaInForce at h
  split at h
  · split at h <;> simp at h <;> omega
  · simp at h; omega
  · simp at h; omega
  · simp at h

/-- With nothing in force neither area holds anything. -/
theorem areaInForce_none {s : State} {typ : Nat} (h : s.areaInForce typ = none) : s.areaImage typ 0 = none ∧ s.areaImage typ 1 = none := by
  unfold areaInForce at h
  split at h
  · split at h <;> simp at h
  · simp at h
  · simp at h
  · exact ⟨by assumption, by assumption⟩

/-- A write of one kind of image leaves the areas of the other kind alone (R457). -/
theorem areaImage_write_other (s : State) {typ c d : Nat} {bs : List Byte} (ht : typ = 1 ∨ typ = 2) (hc : c = 1 ∨ c = 2) (hd : d < 2) (n : c ≠ typ)
    (l : bs.length ≤ if typ = 1 then 262144 else 32704) : (s.writeArea typ bs).areaImage c d = s.areaImage c d := by
  have wipe : ∀ (u : State) k, k < 2 → (u.wipeSectors (areaSectors typ k)).areaImage c d = u.areaImage c d := fun u k hk =>
    areaImage_congr fun x h1 h2 => by rw [depotWord_wipe, area_apart hc ht hd hk (fun q => n q.1) ⟨h1, h2⟩]; simp
  have prog : ∀ (u : State) k q, k < 2 → (u.programArea typ k q bs).areaImage c d = u.areaImage c d := fun u k q hk =>
    areaImage_congr fun x h1 h2 => programArea_other u ht l fun h => by
      have a := area_apart hc ht hd hk (fun q => n q.1) ⟨h1, h2⟩
      rw [area_contains h] at a
      exact Bool.noConfusion a
  unfold writeArea
  simp only
  split
  · rw [prog _ _ _ (by omega), wipe _ _ (by omega)]; rfl
  · split
    · rw [wipe _ _ (by omega), prog _ _ _ (by omega), wipe _ _ (by omega)]; rfl
    · rename_i h _
      rw [wipe _ _ (areaInForce_lt h), prog _ _ _ (by omega), wipe _ _ (by omega)]; rfl

/-- An image that is programmed at the sequence after that in force, or of no lower sequence of its own, is in force after its write (R457, R458, R530). -/
theorem areaInForce_write (s : State) {typ : Nat} {bs : List Byte} (f : Nat → Nat) (ht : typ = 1 ∨ typ = 2) (l : bs.length ≤ if typ = 1 then 262144 else 32704)
    (p : ∀ (u : State) k, (s.areaInForce typ = none → (u.programArea typ k 1 bs).areaImage typ k = some (f 1, bs)) ∧
      ∀ a, s.areaInForce typ = some a → (u.programArea typ k (a.2.1 + 1) bs).areaImage typ k = some (f (a.2.1 + 1), bs))
    (o : typ = 1 → ∀ a, s.areaInForce 1 = some a → a.2.1 ≤ leField bs 8 8) : ∃ k q, (s.writeArea typ bs).areaInForce typ = some (k, q, bs) := by
  have apart : ∀ (u : State) a b q, a < 2 → b < 2 → a ≠ b → ((u.wipeSectors (areaSectors typ a)).programArea typ a q bs).areaImage typ b = u.areaImage typ b :=
    fun u a b q ha hb hn => areaImage_congr fun x h1 h2 => by
      have c := area_apart ht ht hb ha (fun e => hn e.2.symm) ⟨h1, h2⟩
      rw [programArea_other _ ht l fun h => by rw [area_contains h] at c; exact Bool.noConfusion c, depotWord_wipe, c]; simp
  unfold writeArea
  simp only
  split
  · rename_i h
    have h' : s.areaInForce typ = none := h
    refine ⟨0, f 1, ?_⟩
    rw [areaInForce, (p _ 0).1 h', apart _ 0 1 _ (by omega) (by omega) (by omega)]
    have e : (s.modSec fun x => { x with signed := if x.signed.contains (typ, bs) then x.signed else x.signed ++ [(typ, bs)] }).areaImage typ 1 = none := (areaInForce_none h').2
    rw [e]
  · rename_i k q b h
    have h' : s.areaInForce typ = some (k, q, b) := h
    have hk := areaInForce_lt h'
    have c : (decide (typ = 1) && decide (leField bs 8 8 < q)) = false := by
      by_cases e : typ = 1
      · have := o e (k, q, b) (e ▸ h')
        simp at this ⊢; omega
      · simp [e]
    refine ⟨1 - k, f (q + 1), ?_⟩
    rw [c]
    simp only [Bool.false_eq_true, if_false]
    have gone : ∀ u : State, (u.wipeSectors (areaSectors typ k)).areaImage typ k = none := fun u => areaImage_erased (by
      have e : (areaSectors typ k).length = if typ = 1 then 64 else 8 := by simp [areaSectors]
      have c : (areaSectors typ k).contains (sectorOf (areaWord typ k)) = true := area_contains ⟨Nat.le_refl _, by rw [e]; split <;> omega⟩
      rw [depotWord_wipe, c]
      exact if_pos rfl)
    have kept : ∀ u : State, (u.wipeSectors (areaSectors typ k)).areaImage typ (1 - k) = u.areaImage typ (1 - k) := fun u => areaImage_congr fun x h1 h2 => by
      rw [depotWord_wipe, area_apart ht ht (by omega) hk (fun e => by omega) ⟨h1, h2⟩]; simp
    have new : ∀ u : State, ((u.programArea typ (1 - k) (q + 1) bs).wipeSectors (areaSectors typ k)).areaImage typ (1 - k) = some (f (q + 1), bs) := fun u =>
      (kept _).trans ((p u (1 - k)).2 (k, q, b) h')
    generalize hu : State.wipeSectors _ (areaSectors typ (1 - k)) = u
    have g := gone (u.programArea typ (1 - k) (q + 1) bs)
    have w := new u
    generalize (u.programArea typ (1 - k) (q + 1) bs).wipeSectors (areaSectors typ k) = t at g w ⊢
    obtain rfl | rfl : k = 0 ∨ k = 1 := by omega
    · simp only [Nat.sub_zero] at w
      simp only [areaInForce, g, w]
    · simp only [Nat.sub_self] at w
      simp only [areaInForce, g, w]

/-! ## The images a boot finds -/

@[simp] theorem wipeSectors_signed (s : State) (xs : List Nat) : (s.wipeSectors xs).sec.signed = s.sec.signed := rfl

@[simp] theorem putDepot_signed (s : State) (w v : Nat) : (s.putDepot w v).sec.signed = s.sec.signed := rfl

@[simp] theorem putBytes_signed (s : State) (w : Nat) (bs : List Byte) : (s.putBytes w bs).sec.signed = s.sec.signed := by
  unfold putBytes
  generalize (bs.length + 7) / 8 = n
  induction n with
  | zero => rfl
  | succ n ih => rw [List.range_succ, List.foldl_append, List.foldl_cons, List.foldl_nil, putDepot_signed, ih]

@[simp] theorem programArea_signed (s : State) (typ k q : Nat) (bs : List Byte) : (s.programArea typ k q bs).sec.signed = s.sec.signed := by
  unfold programArea
  simp only
  split
  · simp
  · rw [putDepot_signed, putBytes_signed, putBytes_signed]

/-- Of the verdicts on images a write adds that of its own image alone. -/
theorem writeArea_signed (s : State) (typ : Nat) (bs : List Byte) :
    (s.writeArea typ bs).sec.signed = if s.sec.signed.contains (typ, bs) then s.sec.signed else s.sec.signed ++ [(typ, bs)] := by
  unfold writeArea
  simp only
  split
  · simp [modSec]
  · split <;> simp [modSec]

/-- The image written is signed, and no image of the other kind has another verdict than before. -/
theorem areaSigned_write (s : State) (typ c : Nat) (bs b : List Byte) :
    (s.writeArea typ bs).areaSigned typ bs = true ∧ (c ≠ typ → (s.writeArea typ bs).areaSigned c b = s.areaSigned c b) := by
  constructor
  · simp only [areaSigned, writeArea_signed]
    split
    · rename_i h
      rw [h, Bool.true_or]
    · simp
  · intro n
    simp only [areaSigned, writeArea_signed]
    split
    · rfl
    · simp [n]

/-- After a write of a customer microcode image the boot finds it (R458); the Rulebook area is as before. -/
theorem microImage_write (s : State) {bs : List Byte} (l : 0x70 ≤ bs.length ∧ bs.length ≤ 32704)
    (q : ∀ a, s.areaInForce 2 = some a → a.2.1 + 1 < 2 ^ 64 - 1) :
    (s.writeArea 2 bs).microImage = some ⟨bs, true⟩ ∧ (s.writeArea 2 bs).rulebookImage = s.rulebookImage := by
  constructor
  · obtain ⟨k, n, h⟩ := areaInForce_write s (typ := 2) (bs := bs) id (Or.inr rfl) (by simpa using l.2)
      (fun u k => ⟨fun _ => areaImage_micro u k 1 bs l (by omega), fun a ha => areaImage_micro u k _ bs l ⟨by omega, q a ha⟩⟩) (fun e => by omega)
    simp [microImage, h, (areaSigned_write s 2 2 bs bs).1]
  · have e : ∀ d, d < 2 → (s.writeArea 2 bs).areaImage 1 d = s.areaImage 1 d := fun d hd =>
      areaImage_write_other s (Or.inr rfl) (Or.inl rfl) hd (by omega) (by simpa using l.2)
    simp only [rulebookImage, areaInForce, e 0 (by omega), e 1 (by omega), (areaSigned_write s 2 1 bs _).2 (by omega)]

/-- After a write of a Rulebook of no lower sequence than the one in force the boot finds it (R457, R530); the microcode area is as before. -/
theorem rulebookImage_write (s : State) {bs : List Byte} (m : leField bs 0 4 = 0x4B424C52) (e : leField bs 0x10 4 = bs.length)
    (l : 64 ≤ bs.length ∧ bs.length ≤ 262144) (o : ∀ a, s.areaInForce 1 = some a → a.2.1 ≤ leField bs 8 8) :
    (s.writeArea 1 bs).rulebookImage = some ⟨bs, true⟩ ∧ (s.writeArea 1 bs).microImage = s.microImage := by
  constructor
  · obtain ⟨k, n, h⟩ := areaInForce_write s (typ := 1) (bs := bs) (fun _ => leField bs 8 8) (Or.inl rfl) (by simpa using l.2)
      (fun u k => ⟨fun _ => areaImage_rulebook u k 1 bs m e l, fun a _ => areaImage_rulebook u k _ bs m e l⟩) (fun _ => o)
    simp [rulebookImage, h, (areaSigned_write s 1 1 bs bs).1]
  · have e : ∀ d, d < 2 → (s.writeArea 1 bs).areaImage 2 d = s.areaImage 2 d := fun d hd =>
      areaImage_write_other s (Or.inl rfl) (Or.inr rfl) hd (by omega) (by simpa using l.2)
    simp only [microImage, areaInForce, e 0 (by omega), e 1 (by omega), (areaSigned_write s 1 2 bs _).2 (by omega)]

end Sys2Proof.Machine.State
end

