-- ==== Sys2Proof/Laws/Reset.lean ====
section
/-! SUPPORT. What the operations of a reset can change: the cut of a Depot operation, the record of a stop without a flush. -/

namespace Sys2Proof.Machine.State

/-- Cutting a Depot operation touches Depot words, their marks and erase counts, and the count of free values. -/
theorem cutDepot_frame (s : State) (b : Nat) : ∃ (d : Table Nat) (w : List Nat) (e : Table Nat) (n : Nat),
    s.cutDepot b = { s with sec := { s.sec with depot := d, spoilt := w, erases := e }, free := n } := by
  unfold cutDepot
  split
  · exact ⟨_, _, _, _, rfl⟩
  · rename_i o _
    simp only [nextFree, spoilWords, putDepot, wipeSectors, modSec]
    generalize sectorWords (sectorOf o.word) = ws
    cases o.erase <;> simp only [Bool.false_eq_true, ↓reduceIte] <;> split <;> exact ⟨_, _, _, _, rfl⟩

/-- The same of both banks, as every reset cuts them. -/
theorem cutBoth_frame (s : State) : ∃ (d : Table Nat) (w : List Nat) (e : Table Nat) (n : Nat),
    (s.cutDepot 0).cutDepot 1 = { s with sec := { s.sec with depot := d, spoilt := w, erases := e }, free := n } := by
  obtain ⟨d, w, e, n, h⟩ := cutDepot_frame s 0
  obtain ⟨d', w', e', n', h'⟩ := cutDepot_frame (s.cutDepot 0) 1
  exact ⟨d', w', e', n', by rw [h', h]⟩

/-- A stop without a flush changes what NAND tells of the last flush, and nothing else. -/
theorem crash_frame (s : State) : ∃ (f : List HoldSum) (c : Nat) (ok : Bool) (p d : Nat),
    s.crash = s.modNand fun x => { x with flushed := f, flushCause := c, flushOk := ok, flushParcels := p, flushTime := d } := by
  unfold crash
  split
  · exact ⟨_, _, _, _, _, rfl⟩
  · exact ⟨_, _, _, _, _, rfl⟩

end Sys2Proof.Machine.State
end

