-- ==== Sys2Proof/WellFormed.lean ====
section
/-! DEFINITION. Which commands are well formed: every operand lies in the range the spec gives its kind. The meanings do not ask for it: a command that is not well formed names nothing the block has and leaves it as it is, or is taken by the field's width. -/

namespace Sys2Proof

/-- An index that may be absent, below a bound. -/
def optLt (o : Option Nat) (n : Nat) : Bool := o.all (fun v => decide (v < n))

/-- An aligned 32-bit register of the diagnostic window (R506, R10). -/
def regAddr (off : Nat) : Bool := decide (off < 0x100000) && decide (off % 4 = 0)

/-- Planes and codeword slots are masks of 4 and 32 bits (R33, R36). -/
def OpArg.wf (a : OpArg) : Bool := decide (a.planes < 16) && decide (0 < a.planes)

/-- An 8-bit opcode, a 16-bit identifier and number of blocks, a 64-bit LBA, a 32-bit namespace (NVMe field widths). -/
def Sqe.wf (e : Sqe) : Bool :=
  decide (e.opcode < 256) && decide (e.cid < 65536) && decide (e.nlb < 65536)
    && decide (e.slba < 2 ^ 64) && decide (e.nsid < 2 ^ 32)

/-- A header's LSEQ has 16 bits and its TYPE 8 (R329). -/
def BlHdr.wf (h : BlHdr) : Bool := decide (h.lseq < 65536) && decide (h.typ < 256)

/-- A tag has 12 bits, an opcode 8 (R329, R336). -/
def BlCmd.wf (c : BlCmd) : Bool := c.h.wf && decide (c.tag < 4096) && decide (c.opcode < 256)

/-- A HELLO names a member and carries a mode of two bits (R334). -/
def Hello.wf (h : Hello) : Bool := h.h.wf && decide (h.mode < 4)

/-- Widths of the straps (R4). -/
def Straps.wf (x : Straps) : Bool := decide (x.mode < 4) && decide (x.member < 8) && decide (x.geom < 4) && decide (x.test < 4)

/-- One of the eight symbols of one of the ten devices (R390). -/
def SymErr.wf (e : SymErr) : Bool := decide (e.dev < 10) && decide (e.sym < 8)

/-- Bits of a stored SRAM word (64 to 71 the check bits), of a control-store word; channels (R85, R395, R401). -/
def ScrubTarget.wf : ScrubTarget → Bool
  | .dram _ upset => upset.all SymErr.wf
  | .sram _ _ _ upset => upset.all fun b => decide (b < 72)
  | .store ch _ upset => decide (ch < 16) && upset.all fun b => decide (b < 176)

/-- Whether a command is well formed. -/
def Instr.wf : Instr → Bool
  | .powerOnReset _ => true
  | .rstNAssert _ => true
  | .rstNRelease => true
  | .guardFullReset => true
  | .strapSample x => x.wf
  | .perstNAssert => true
  | .perstNDeassert => true
  | .linkTrainingStart p => decide (p < 2)
  | .hotReset p => decide (p < 2)
  | .pcieLinkDown p => decide (p < 2)
  | .l1Entry p sub => decide (p < 2) && decide (sub < 3)
  | .l1Exit p => decide (p < 2)
  | .flr p => decide (p < 2)
  | .flrFinish p _ _ => decide (p < 2)
  | .configWrite p _ => decide (p < 2)
  | .memWriteTlp p _ _ _ => decide (p < 2)
  | .memReadTlp p _ _ _ => decide (p < 2)
  | .hostReadCompletion p tag _ _ _ => decide (p < 2) && decide (tag < 1024)
  | .completionTimeout p tag => decide (p < 2) && decide (tag < 1024)
  | .tagQuarantineEnd p tag => decide (p < 2) && decide (tag < 1024)
  | .msixTableWrite p vector dword _ => decide (p < 2) && decide (vector < 257) && decide (dword < 4)
  | .ccEnable k css mps ams => decide (k < 2) && decide (css < 8) && decide (mps < 16) && decide (ams < 8)
  | .controllerReset k => decide (k < 2)
  | .normalShutdown k => decide (k < 2)
  | .abruptShutdown k => decide (k < 2)
  | .shutdownComplete k => decide (k < 2)
  | .sqTailDoorbell k _ _ => decide (k < 2)
  | .cqHeadDoorbell k _ _ => decide (k < 2)
  | .intmsWrite k _ => decide (k < 2)
  | .intmcWrite k _ => decide (k < 2)
  | .commandFetch k e _ => decide (k < 2) && e.wf
  | .serialisedStart _ => true
  | .ilInsert _ _ => true
  | .ilRemove _ => true
  | .completionPoint _ => true
  | .abortIlCas _ => true
  | .completionPost _ _ _ _ => true
  | .coalesceTimeout p _ => decide (p < 2)
  | .pcSearchPin _ _ part _ => decide (part < 4)
  | .pcPinAddr _ _ part p _ => decide (part < 4) && decide (p < 65536)
  | .pcUnpin p => decide (p < 65536)
  | .pcInsert p _ _ part _ => decide (p < 65536) && decide (part < 4)
  | .pcRelease p => decide (p < 65536)
  | .pcClear p => decide (p < 65536)
  | .aeSearch port _ _ _ _ _ _ => decide (port < 2)
  | .aeSearchWindow => true
  | .aePortRestart port => decide (port < 2)
  | .mapLineRead _ _ _ => true
  | .mapWrite slot _ _ => decide (slot < 256)
  | .mapCas slot _ _ _ => decide (slot < 256)
  | .mapLineRebuild slot _ _ => decide (slot < 256)
  | .tickCutoff _ => true
  | .tickBoundary => true
  | .ttEnable => true
  | .ttBudgetEffWrite _ _ => true
  | .tickLoRead => true
  | .legStart d _ _ => decide (d < 512)
  | .holdRelease ch _ => decide (ch < 16)
  | .requestTaken d _ _ => decide (d < 512)
  | .stationWatchdog ch => decide (ch < 16)
  | .sbRestart ch => decide (ch < 16)
  | .opTimeout d _ => decide (d < 512)
  | .rbStuck ch => decide (ch < 16)
  | .opRead d a => decide (d < 512) && a.wf
  | .opReadSlc d a => decide (d < 512) && a.wf
  | .opReadRetry d a => decide (d < 512) && a.wf
  | .opReadSoft d a => decide (d < 512) && a.wf
  | .opProg d a => decide (d < 512) && a.wf
  | .opProgSlc d a => decide (d < 512) && a.wf
  | .opErase d a => decide (d < 512) && a.wf
  | .opSuspendProg d _ _ => decide (d < 512)
  | .opSuspendErase d _ _ => decide (d < 512)
  | .opResumeProg d _ _ => decide (d < 512)
  | .opResumeErase d _ _ => decide (d < 512)
  | .opAbort d _ _ => decide (d < 512)
  | .opStatus d _ => decide (d < 512)
  | .opResetCe ch ce => decide (ch < 16) && decide (ce.val < 8)
  | .opSetFeature d _ _ => decide (d < 512)
  | .opGetFeature d _ => decide (d < 512)
  | .opIdentify ch ce _ => decide (ch < 16) && decide (ce < 8)
  | .opZqLong ch ce => decide (ch < 16) && decide (ce.val < 8)
  | .opZqShort ch ce => decide (ch < 16) && decide (ce.val < 8)
  | .opDcc ch ce => decide (ch < 16) && decide (ce.val < 8)
  | .opReadTrain ch ce _ => decide (ch < 16) && decide (ce < 8)
  | .opWriteTrain ch ce _ => decide (ch < 16) && decide (ce < 8)
  | .opTrainVerify ch ce _ => decide (ch < 16) && decide (ce < 8)
  | .opDrift ch ce _ => decide (ch < 16) && decide (ce < 8)
  | .opWdrift ch ce _ => decide (ch < 16) && decide (ce < 8)
  | .opVendor d _ => decide (d < 512)
  | .csWrite _ box => decide (box < 16)
  | .csRead box => decide (box < 16)
  | .tableWrite index => decide (index < 1024)
  | .loadLock => true
  | .channelIdentify ch ces => decide (ch < 16) && decide (ces.length ≤ 8)
  | .channelTrain ch _ _ => decide (ch < 16)
  | .calForceHold ch ce => decide (ch < 16) && decide (ce < 8)
  | .hardDecodeDone _ _ => true
  | .softDecodeDone _ _ => true
  | .reconstruction _ _ _ _ => true
  | .parcelReserve _ => true
  | .parcelPlace _ _ _ _ _ => true
  | .padTimeout _ _ => true
  | .stripePass _ _ => true
  | .programFail _ _ _ => true
  | .eraseFail d plane block => decide (d < 512) && decide (plane < 4) && decide (block < 4096)
  | .bufferStopFlushDone => true
  | .journalCommit => true
  | .journalCommitTimeout => true
  | .journalPageDurable => true
  | .checkpointWrite _ => true
  | .segmentLoad _ => true
  | .patrolPeriod _ => true
  | .trackerAge => true
  | .blockCheck ch die plane block => decide (ch < 16) && decide (die < 32) && decide (plane < 4) && decide (block < 4096)
  | .staticRelocationScan => true
  | .indicatorUpdate => true
  | .tenderSample bank vin => decide (bank < 4096) && decide (vin < 4096)
  | .tenderLimitUpdate => true
  | .repeatMeasurement => true
  | .remeasureTimer => true
  | .measureDischargeStart => true
  | .bankSettled => true
  | .bankFallTimed _ => true
  | .measureTimeout => true
  | .sagTimeout => true
  | .powerFailDeclare => true
  | .flushProgramLoad => true
  | .flushProgramDone _ _ => true
  | .bankDepleted => true
  | .inputRecovered => true
  | .recovery _ => true
  | .blLinkTrain p => decide (p < 6)
  | .branchLinkDown p => decide (p < 6)
  | .hello h => h.wf
  | .helloAck p h => decide (p < 6) && h.wf
  | .helloRepeat p => decide (p < 6)
  | .blRead c => c.wf
  | .blWrite c => c.wf
  | .writeDelta c => c.wf
  | .parityApply c => c.wf
  | .deallocate c => c.wf
  | .blFlush c => c.wf
  | .blIdentify c => c.wf
  | .volumeCreate c _ _ => c.wf
  | .volumeDelete c => c.wf
  | .blSanitize c _ _ _ => c.wf
  | .blSetTime c _ => c.wf
  | .xferRdy p h tag _ _ => decide (p < 6) && h.wf && decide (tag < 4096)
  | .data p h tag _ _ => decide (p < 6) && h.wf && decide (tag < 4096)
  | .grantOpen tag => decide (tag < 4096)
  | .resp p h tag _ _ _ _ _ => decide (p < 6) && h.wf && decide (tag < 4096)
  | .blAbort h tag => h.wf && decide (tag < 4096)
  | .abortAck p h tag _ => decide (p < 6) && h.wf && decide (tag < 4096)
  | .logRead h tag _ _ _ _ => h.wf && decide (tag < 4096)
  | .resume h _ => h.wf
  | .resumeAck p h _ _ => decide (p < 6) && h.wf
  | .event p h _ _ => decide (p < 6) && h.wf
  | .ack p _ => decide (p < 6)
  | .nak p _ => decide (p < 6)
  | .credit p _ _ => decide (p < 6)
  | .replayTimeout p => decide (p < 6)
  | .cmdTimeout p tag => decide (p < 6) && decide (tag < 4096)
  | .blTagQuarantineEnd p tag => decide (p < 6) && decide (tag < 4096)
  | .discoveryWindowEnd => true
  | .destage slot _ _ => decide (slot < 256)
  | .slowMember m => decide (m < 7)
  | .rebuildStart pos target => decide (pos < 7) && decide (target < 7)
  | .rebuildRow => true
  | .inspectionRow slot _ => decide (slot < 256)
  | .inspectNow => true
  | .regionClear slot _ => decide (slot < 256)
  | .resync slot _ => decide (slot < 256)
  | .dramRead port _ upset => decide (port < 10) && upset.all SymErr.wf
  | .dramWrite port addr bytes => decide (port < 10) && decide (addr % 128 + bytes.length ≤ 128)
  | .flipMaskArm group _ => decide (group < 10)
  | .mergeRetire ch _ => decide (ch < 2)
  | .urgencyEscalate port level _ => decide (port < 10) && decide (1 ≤ level) && decide (level ≤ 3)
  | .sweepSegmentDone => true
  | .segInval _ => true
  | .platelayerRead t => t.wf
  | .mr4Poll ch _ => decide (ch < 2)
  | .keyDerive _ _ => true
  | .keyCacheInvalidate _ slot => optLt slot 128
  | .xtsJob j => decide (j.slot < 128)
  | .gcmEncrypt _ => true
  | .gcmDecrypt _ _ _ => true
  | .hwmAdvance _ => true
  | .opalSet slot _ _ _ => optLt slot 128
  | .opalGenkey slot => optLt slot 128
  | .opalRevert _ => true
  | .alarmRaise _ rails => decide (rails < 256)
  | .alarmRelease => true
  | .bootChainStage _ => true
  | .status slot => decide (slot < 8)
  | .verifyImage slot _ => decide (slot < 8)
  | .measure slot _ => decide (slot < 8)
  | .challenge slot => decide (slot < 8)
  | .ticket slot _ => decide (slot < 8)
  | .lifecycle slot _ _ => decide (slot < 8)
  | .mediaKeyAdvance slot _ => decide (slot < 8)
  | .setTime slot _ => decide (slot < 8)
  | .spdm slot _ _ => decide (slot < 8)
  | .helloBuild slot p => decide (slot < 8) && decide (p < 6)
  | .helloCheck slot p h => decide (slot < 8) && decide (p < 6) && h.wf
  | .seal slot _ _ _ => decide (slot < 8)
  | .unseal slot _ => decide (slot < 8)
  | .stamp slot => decide (slot < 8)
  | .getVersion _ => true
  | .getCapabilities _ => true
  | .negotiateAlgorithms _ _ _ => true
  | .getDigests _ => true
  | .getCertificate _ slot _ _ => decide (slot < 8)
  | .spdmChallenge _ slot _ => decide (slot < 8)
  | .getMeasurements _ _ _ => true
  | .clockOscStop _ => true
  | .vbatLow _ => true
  | .scTimeLoRead => true
  | .depotProgram _ _ _ pcBank => optLt pcBank 2
  | .depotErase _ _ pcBank => optLt pcBank 2
  | .depotProgramDone b _ => decide (b < 2)
  | .depotEraseDone b _ => decide (b < 2)
  | .depotRead _ _ _ => true
  | .depotSuspend b => decide (b < 2)
  | .depotResume b => decide (b < 2)
  | .dpWpSet _ => true
  | .tempSample _ => true
  | .thresholdCrossed _ => true
  | .thresholdCleared _ => true
  | .throttleStepUp => true
  | .throttleStepDown => true
  | .thermalRestart _ => true
  | .nonOperationalEnter _ => true
  | .apstTimeout k => decide (k < 2)
  | .tokenRefill _ => true
  | .tokenAge _ _ => true
  | .dramTraining ch _ _ => decide (ch < 2)
  | .controllerReady => true
  | .recoveryLoad => true
  | .rlStatus => true
  | .rlWrite _ _ => true
  | .rlCommit _ _ _ => true
  | .startupStatusRead _ => true
  | .flush _ => true
  | .write _ _ => true
  | .read _ => true
  | .writeUncorrectable _ => true
  | .compare _ _ => true
  | .writeZeroes _ => true
  | .datasetManagement _ => true
  | .verify _ => true
  | .reservationRegister _ _ _ _ _ _ => true
  | .reservationReport _ => true
  | .reservationAcquire _ _ _ _ _ _ => true
  | .reservationRelease _ _ _ _ _ => true
  | .ioManagementReceive _ => true
  | .ioManagementSend _ _ => true
  | .copy _ => true
  | .createIoSq _ => true
  | .createIoCq _ => true
  | .deleteIoSq _ => true
  | .deleteIoCq _ => true
  | .getLogPage _ => true
  | .identify _ => true
  | .abort _ => true
  | .getFeatures _ => true
  | .arbitration _ => true
  | .powerManagement _ => true
  | .temperatureThreshold _ => true
  | .volatileWriteCache _ => true
  | .numberOfQueues _ => true
  | .interruptCoalescing _ => true
  | .interruptVectorConfiguration _ => true
  | .writeAtomicityNormal _ => true
  | .asyncEventConfiguration _ => true
  | .autonomousPowerStateTransition _ _ => true
  | .timestamp _ _ => true
  | .nonOperationalPowerStateConfig _ => true
  | .flexibleDataPlacement _ => true
  | .fdpEvents _ => true
  | .reservationNotificationMask _ => true
  | .reservationPersistence _ => true
  | .vendorEventEnable _ => true
  | .asyncEventRequest _ => true
  | .nsCreate _ _ => true
  | .nsDelete _ => true
  | .namespaceAttachment _ _ => true
  | .firmwareImageDownload _ _ => true
  | .firmwareCommit _ _ => true
  | .activationDrainDone _ => true
  | .selfTestShort _ => true
  | .selfTestExtended _ => true
  | .selfTestAbort _ => true
  | .selfTestComplete failSeg => optLt failSeg 8
  | .mediaPassResume => true
  | .directiveSend _ => true
  | .directiveReceive _ => true
  | .formatNvm _ _ => true
  | .securitySend _ _ => true
  | .securityReceive _ => true
  | .exitFailureMode _ => true
  | .blockErase _ => true
  | .overwrite _ => true
  | .sanitizeCryptoErase _ => true
  | .sanitizeComplete _ => true
  | .depotImageDownload _ _ => true
  | .depotImageCommit _ _ => true
  | .guardChallenge _ => true
  | .diagnosticTicket _ _ => true
  | .lifecycleRequest _ => true
  | .holdUpMeasure _ => true
  | .journeyLogArchiveRead _ => true
  | .dieTableRead _ => true
  | .ticketExpire => true
  | .lcrc p _ => decide (p < 2)
  | .poison p _ => decide (p < 2)
  | .cplDelay p _ _ => decide (p < 2)
  | .drop p _ => decide (p < 6)
  | .corruptCrc p _ => decide (p < 6)
  | .corruptAuth p _ => decide (p < 6)
  | .reorder p _ => decide (p < 6)
  | .delay p _ _ => decide (p < 6)
  | .readFail _ levels => decide (levels < 4)
  | .progFail _ => true
  | .slow _ => true
  | .laneTestStart _ _ => true
  | .laneTestStop => true
  | .jrnlLoRead => true
  | .nonceLoRead => true
  | .rbRowLoRead => true
  | .readClear off => regAddr off
  | .registerWrite off _ => regAddr off
  | .branchLinkUp p lanes => decide (p < 6) && decide (1 ≤ lanes) && decide (lanes ≤ 2)
  | .pcieLinkUp p _ width _ => decide (p < 2) && [1, 2, 4, 8, 16].contains width
  | .powerLoss => true
  | .lanePatternLock _ => true
  | .pcieReplayTimerTimeout p _ => decide (p < 2)
  | .dllpReceived p _ => decide (p < 2)
  | .injectionHoldExpire _ p => decide (p < 6)

end Sys2Proof
end

