-- ==== Sys2Proof/Safety.lean ====
section
/-! DEFINITION. What counts as a safe run, in the terms the statements use: what resets leave, and the invariants of a step. -/

namespace Sys2Proof.Machine

/-- What lies on flash, in the fuses and in the counter sector outlives every reset (R429, R430, R491). -/
structure Survives (s t : State) : Prop where
  content : t.media.nand.content = s.media.nand.content
  journal : t.media.nand.journal = s.media.nand.journal
  fuse : t.sec.fuse = s.sec.fuse
  boot : t.sec.boot = s.sec.boot
  minSvn : t.sec.minSvn = s.sec.minSvn
  rbMinSvn : t.sec.rbMinSvn = s.sec.rbMinSvn
  mark : t.sec.mark = s.sec.mark
  pending : t.pending = s.pending

/-- What a reset of everything outside the Guard partition leaves (R434, R491): straps unsampled, nothing ready or waiting, no port, no context, no key, no Rulebook in force, DRAM, map, write buffer, map engine and Branch Links empty, the flash side with nothing but what lies on the dies. -/
structure Blanked (s t : State) : Prop where
  mode : t.mode = .unsampled
  ready : t.plat.ready = false
  tokens : t.plat.tokens = []
  dram : t.mem.dram = []
  map : t.media.map = []
  parcels : t.media.parcels = []
  contexts : t.adm.ctxs = []
  ports : t.ports = []
  keys : t.sec.keys = []
  rulebook : t.rb = {}
  engine : t.ae = {}
  links : t.link = {}
  flash : t.flash = { eraseCounts := s.flash.eraseCounts, trackers := s.flash.trackers, trackAge := s.flash.trackAge }
  survives : Survives s t

/-- What a full reset leaves (R418, R449, R491): nothing held, a new boot's Guard state, the nonce counter at the stored mark. -/
structure AfterReset (s t : State) : Prop extends Blanked s t where
  hold : t.plat.hold = .none
  journey : t.sec.journey = []
  challenge : t.sec.challenge = none
  nonce : t.sec.nonce = s.sec.mark

namespace State

/-- A transaction packet that passes every check of the link layer and the session (R331, R334, R335, R345): the link up, CRC right, the number expected, session, tag and nonce right, and a TYPE and LEN this end receives. -/
def packetOk (s : State) (p typ : Nat) (h : BlHdr) : Bool :=
  (s.bl p).lanes != 0 && s.blInUse p && h.crcOk && h.lseq == (s.bl p).recvSeq &&
  (typ == 0x10 || typ == 0x11 || ((s.bl p).session && h.authOk && decide ((s.bl p).rxNext ≤ h.counter))) &&
  h.typ == typ && s.dirOk typ && lenOk typ h.len

/-- A CMD packet that a worker accepts and does not refuse (R338, R342, R346). -/
def cmdOk (s : State) (c : BlCmd) (op : Nat) : Bool :=
  s.packetOk 0 0x01 c.h && (Table.find s.link.inTags c.tag).isNone && decide (s.link.inTags.length < 512) && !s.flag (Reg.BL_STAT_FROZEN 0) &&
  s.blRefusal c == 0 && c.opcode == op

/-- A packet is waiting on a Branch port, or has been sent and is not acknowledged (R331, R333). -/
def queuedOrSent (s : State) (p : Nat) (k : BlPacket) : Prop := k ∈ (s.bl p).waiting ∨ ∃ x ∈ (s.bl p).replay, x.packet = k

/-- A read of a peer's log is outstanding or queued on a Branch port (R347). -/
def logAsked (s : State) (p id : Nat) : Prop := ∃ c ∈ (s.bl p).queue ++ (s.bl p).tags.map (·.2), c.owner = BlOwner.log id

/-- A command has ended with a status and dword 0; its completion entry may be posted (R277, R301). -/
def answered (s : State) (n : Nat) (st : Status) (dw0 : Nat) : Prop := ∃ c, s.ctx n = some c ∧ c.status = some st ∧ c.dw0 = dw0 ∧ c.started = true

end State

end Sys2Proof.Machine
end

