-- ==== Sys2Proof/Certificates/Slice0/Obligations.lean ====
section
/-! DEFINITION. The statements for the provers: one definition of a Prop each, family by family of the command table, then the step, reset and what every step keeps. -/

open Sys2Proof Sys2Proof.Machine

/-! ## Resets, power and alarms (chapters 17, 20) -/

/-- POWER_ON_RESET, GUARD_FULL_RESET, RST_N_RELEASE, ALARM_RELEASE, INPUT_RECOVERED and THERMAL_RESTART complete, each under the conditions the spec gives it, in the state AfterReset describes: straps unsampled, nothing ready, no port, context, key or token request, no Rulebook in force, DRAM, map, write buffer, map engine and Branch Links empty, on the flash side only what lies on the dies; Journey Log and challenge empty, the nonce counter at the stored mark, nothing held; what flash, fuses and the counter sector hold and the waiting commands are kept. The Station clock counts on. While TAMPER is active neither power-on nor RST_N ends the hold (R491, R434, R435, R206, R482, R492). -/
def Obligations.ResetsRestart : Prop :=
  (∀ (offMs : Nat) (s : State), s.plat.tamper = false → ∃ t, exec (.powerOnReset offMs) s = .next t ∧ AfterReset s t ∧ t.sec.clockMs = (s.sec.clockMs + offMs) % 2 ^ 48) ∧
  (∀ s : State, s.plat.hold ≠ .off → ∃ t, exec .guardFullReset s = .next t ∧ AfterReset s t ∧ t.sec.clockMs = s.sec.clockMs) ∧
  (∀ s : State, s.plat.hold = .rstN → s.plat.tamper = false → ∃ t, exec .rstNRelease s = .next t ∧ AfterReset s t ∧ t.sec.clockMs = s.sec.clockMs) ∧
  (∀ s : State, s.plat.hold = .alarm → s.rget Reg.GD_ALARM_TAMPER = 0 → ∃ t, exec .alarmRelease s = .next t ∧ AfterReset s t) ∧
  (∀ s : State, s.media.flush = .done → s.media.nand.flushCause = 1 → 100000 ≤ s.media.vinHigh → ∃ t, exec .inputRecovered s = .next t ∧ AfterReset s t) ∧
  (∀ (c : Int) (s : State), s.media.flush = .done → s.media.nand.flushCause = 2 → c < s.param .thermalWarnC - s.param .thermalHysteresisC →
    (s.media.alsoFailed = true → 100000 ≤ s.media.vinHigh) →
    ∃ t, exec (.thermalRestart c) s = .next t ∧ AfterReset s t) ∧
  (∀ (offMs : Nat) (s : State), s.plat.tamper = true → ∃ t, exec (.powerOnReset offMs) s = .next t ∧ Blanked s t ∧ t.plat.hold = .alarm) ∧
  (∀ s : State, s.plat.hold = .rstN → s.plat.tamper = true → ∃ t, exec .rstNRelease s = .next t ∧ t.plat.hold = .alarm ∧ t.sec = s.sec)

/-- What takes the device down: RST_N low for 10 us or more before ready holds every block; the loss of the supplies; the first alarm, which also erases the root key, drives WP_N low and latches its cause in the register and in the counter sector; with nothing outstanding and nothing dirty a shutdown completes with its mark; and a tamper alarm is not released by its condition (R434, R435, R491, R492, R275). -/
def Obligations.HoldsAndShutdown : Prop :=
  (∀ (lowNs : Nat) (s : State), 10000 ≤ lowNs → s.plat.hold = .none → s.media.flush = .none → s.plat.ready = false →
    ∃ t, exec (.rstNAssert lowNs) s = .next t ∧ Blanked s t ∧ t.plat.hold = .rstN) ∧
  (∀ s : State, s.plat.hold ≠ .off → ∃ t, exec .powerLoss s = .next t ∧ Blanked s t ∧ t.plat.hold = .off) ∧
  (∀ (c : AlarmCause) (rails : Nat) (s : State), s.plat.hold = .none → c ≠ .tamper →
    ∃ t, exec (.alarmRaise c rails) s = .next t ∧ Blanked s t ∧ t.plat.hold = .alarm ∧ t.rget Reg.GD_TICKET_ACTIVE = 0 ∧ t.rget Reg.CE_STAT_ROOT_LOADED = 0 ∧ t.out = s.out ++ [.wpLow] ∧
      t.sec.lastAlarm = s.sec.lastAlarm ||| State.alarmBit c ∧ t.rget (State.alarmField c) = 1) ∧
  (∀ s : State, s.plat.hold = .alarm → s.rget Reg.GD_ALARM_TAMPER = 1 → exec .alarmRelease s = .next { s with plat := { s.plat with tamper := false } }) ∧
  (∀ (k : Nat) (s : State), s.plat.rst = 0 → s.bifur = false → k = 0 → (s.ctl 0).shst = 1 → s.ctxsOf 0 = [] → s.dirtyCount = 0 → s.media.openPage = [] →
    s.media.pages = [] → s.media.flush = .none →
    ∃ t, exec (.shutdownComplete k) s = .next t ∧ (t.ctl 0).shst = 2 ∧ t.media.nand.cleanMark = some s.sec.clockMs ∧ t.media.quiesced = true ∧
      t.media.map = s.media.map ∧ t.sec = s.sec ∧ t.mem.dram = s.mem.dram)

/-! ## PCI Express (chapter 10) -/

/-- Bringing a PCIe link up and down: PERST_N holds the port in reset with its link down and the controller disabled; released, the port leaves reset and may train; training ends at a speed the Rulebook allows and a width the port has, 64 GT/s in FLIT mode; a hot reset, a link down and a function reset return configuration space to its reset values and disable the controller, the function reset staying in progress until it finishes and clears the buffer (R244, R245, R255, R267, R268, R270, R496). -/
def Obligations.PcieLinkAndResets : Prop :=
  (∀ s : State, s.mode = .standalone → s.bifur = false → s.plat.perst = false → (s.port 0).inReset = false →
    ∃ t, exec .perstNAssert s = .next t ∧ t.plat.perst = true ∧ (t.port 0).inReset = true ∧ (t.port 0).linkUp = false ∧ (t.ctl 0).en = false ∧
      (t.port 0).quarantine = (s.port 0).quarantine ∧ t.mem = s.mem ∧ t.link = s.link ∧ t.rb = s.rb) ∧
  (∀ s : State, s.mode = .standalone → s.bifur = false → s.plat.linksReleased = true →
    ∃ t, exec .perstNDeassert s = .next t ∧ t.plat.perst = false ∧ (t.port 0).inReset = false ∧ t.ctls = s.ctls ∧ t.sec = s.sec ∧ t.media = s.media) ∧
  (∀ (p : Nat) (s : State), p ∈ s.ctlList → (s.port p).inReset = false → (s.port p).linkUp = false → s.alive = true → s.laneTested false p = false →
    exec (.linkTrainingStart p) s = .next (s.modPort p fun x => { x with training := true })) ∧
  (∀ (p gts width : Nat) (flit : Bool) (s : State), (s.port p).training = true → gts ∈ [2, 5, 8, 16, 32, 64] → gts ≤ s.paramN .pcieMaxSpeedGts → width ∈ s.portWidths →
    ∃ t, exec (.pcieLinkUp p gts width flit) s = .next t ∧ (t.port p).linkUp = true ∧ (t.port p).speedGts = gts ∧ (t.port p).width = width ∧
      (t.port p).flit = (flit || gts == 64) ∧ (t.port p).training = false ∧ (∀ q, q ≠ p → t.port q = s.port q) ∧ t.ctls = s.ctls ∧ t.regs = s.regs) ∧
  (∀ (p : Nat) (s : State), p ∈ s.ctlList → (s.port p).inReset = false → (s.port p).linkUp = true → (s.port p).l1 = 0 →
    ∃ t, exec (.hotReset p) s = .next t ∧ (t.port p).bar0 = 0 ∧ (t.port p).mse = false ∧ (t.port p).cmb = [] ∧ (t.port p).linkUp = true ∧ (t.ctl p).en = false ∧ t.mem = s.mem) ∧
  (∀ (p : Nat) (s : State), (s.port p).inReset = false → (s.port p).linkUp = true →
    ∃ t, exec (.pcieLinkDown p) s = .next t ∧ (t.port p).linkUp = false ∧ (t.port p).bar0 = 0 ∧ (t.port p).cmb = [] ∧ (t.ctl p).en = false ∧ t.mem = s.mem) ∧
  (∀ (p : Nat) (s : State), s.rxOk p = true → (s.port p).flr = false →
    ∃ t, exec (.flr p) s = .next t ∧ (t.port p).flr = true ∧ (t.port p).bar0 = 0 ∧ (t.port p).bme = false ∧ (t.ctl p).en = false ∧ t.mem = s.mem) ∧
  (∀ (p lastTlpNs durNs : Nat) (s : State), (s.port p).flr = true →
    ∃ t, exec (.flrFinish p lastTlpNs durNs) s = .next t ∧ (t.port p).flr = false ∧ (t.port p).cmb = [] ∧ (t.port p).flrDuration = min 65535 (durNs / 10000) ∧
      (t.port p).flrSilence = min 255 (lastTlpNs / 10) ∧ t.ctls = s.ctls ∧ t.regs = s.regs)

/-- Power states of the link, DLLPs and the replay timer: L1 is entered where the host and the Rulebook allow it and left once every lane has its token; a configuration write stores its field, and one during a function reset completes with Request Retry Status; a Nak is a replay, a protocol error a retrain, both counted; a replay timeout is a correctable error and a retrain (R246, R261, R267, R271, R487). -/
def Obligations.PcieConfigAndLinkEvents : Prop :=
  (∀ (p : Nat) (s : State), s.rxOk p = true → (s.port p).aspmL1 = true → s.paramN .pcieAspmL1Enable = 1 →
    exec (.l1Entry p 0) s = .next (s.modPort p fun x => { x with l1 := 1 })) ∧
  (∀ (p : Nat) (s : State), p ∈ s.ctlList → (s.port p).l1 ≠ 0 → (s.port p).width ∈ s.portWidths → s.plat.tokens = [] →
    ((s.port p).width * s.rget Reg.TK_WT_SERDES ≤ s.rget Reg.TK_STAT_LEVEL →
      ∃ t, exec (.l1Exit p) s = .next t ∧ (t.port p).l1 = 0 ∧ t.plat.tokens = [] ∧ t.ctls = s.ctls ∧ t.media = s.media) ∧
    (s.rget Reg.TK_STAT_LEVEL = 0 → 0 < s.rget Reg.TK_WT_SERDES →
      ∃ t, exec (.l1Exit p) s = .next t ∧ (t.port p).l1 = (s.port p).l1 ∧ t.plat.tokens.length = (s.port p).width ∧ t.ctls = s.ctls ∧ t.media = s.media)) ∧
  (∀ (p : Nat) (r g : Bool) (mrrs mps : Nat) (s : State), s.rxOk p = true → (s.port p).flr = false →
    exec (.configWrite p (.deviceControl r g mrrs mps)) s = .next (s.modPort p fun x => { x with relaxed := r, tag10 := g, mrrs := mrrs % 8, mps := mps % 8 })) ∧
  (∀ (p : Nat) (w : CfgWrite) (s : State), s.rxOk p = true → (s.port p).flr = true → exec (.configWrite p w) s = .next (s.emit (.cpl p 2 []))) ∧
  (∀ (p : Nat) (s : State), s.rxOk p = true →
    exec (.dllpReceived p .nak) s = .next (s.modPort p fun x => { x with replays := min 65535 (x.replays + 1) })) ∧
  (∀ (p : Nat) (s : State), s.rxOk p = true → ∃ t, exec (.dllpReceived p .protocolError) s = .next t ∧ (t.port p).retrains = min 255 ((s.port p).retrains + 1) ∧
      .dllProtocol ∈ (t.port p).aerStatus ∧ t.ctls = s.ctls ∧ t.regs = s.regs) ∧
  (∀ (p : Nat) (roll : Bool) (s : State), s.rxOk p = true →
    ∃ t, exec (.pcieReplayTimerTimeout p roll) s = .next t ∧ (t.port p).retrains = min 255 ((s.port p).retrains + 1) ∧
      (if roll then .replayRollover else .replayTimeout) ∈ (t.port p).aerStatus ∧ t.ctls = s.ctls ∧ t.regs = s.regs)

/-- Memory requests and completions: a posted write to the enabled buffer stores its bytes there; a read of it returns them; both leave everything else as it was; a request that hits no window is a miss, an Unsupported Request for a read. The last completion of a request frees its tag, a poisoned one is counted; a timeout quarantines the tag and counts; the quarantine ends; an MSI-X table write stores its dword; a held completion arrives (R251 to R258, R260, R263 to R266). -/
def Obligations.PcieRequestsAndTags : Prop :=
  (∀ (p addr off : Nat) (b : Byte) (s : State), s.rxOk p = true → s.window p addr 1 = some (2, off) →
    ∃ t, exec (.memWriteTlp p addr [b] false) s = .next t ∧ Table.get 0#8 (t.port p).cmb off = b ∧
      (∀ o, o ≠ off → Table.get 0#8 (t.port p).cmb o = Table.get 0#8 (s.port p).cmb o) ∧ t.ctls = s.ctls ∧ t.regs = s.regs ∧ t.mem = s.mem) ∧
  (∀ (p addr off : Nat) (s : State), s.rxOk p = true → s.window p addr 1 = some (2, off) →
    exec (.memReadTlp p addr 1 false) s = .next (s.emit (.cpl p 0 [(Table.get 0#8 (s.port p).cmb off).toNat]))) ∧
  (∀ (p addr len : Nat) (ue : Bool) (s : State), s.rxOk p = true → s.window p addr len = none →
    ∃ t, exec (.memReadTlp p addr len ue) s = .next t ∧ .cpl p 1 [] ∈ t.out ∧ (t.port p).misses = min 65535 ((s.port p).misses + 1) ∧ t.regs = s.regs ∧ t.ctls = s.ctls) ∧
  (∀ (p tag len : Nat) (r : HostRead) (s : State), s.rxOk p = true → Table.find (s.port p).reads tag = some r → r.held = false → r.ctx = none → r.want ≤ r.got + len →
    s.ctxsOf p = [] →
    ∃ t, exec (.hostReadCompletion p tag len false .ok) s = .next t ∧ Table.find (t.port p).reads tag = none ∧ t.ctls = s.ctls ∧ t.regs = s.regs) ∧
  (∀ (p tag : Nat) (r : HostRead) (s : State), Table.find (s.port p).reads tag = some r → (s.port p).ctoDisable = false → r.ctx = none →
    ∃ t, exec (.completionTimeout p tag) s = .next t ∧ Table.find (t.port p).reads tag = none ∧ (tag, 2 * r.limitNs) ∈ (t.port p).quarantine ∧
      (t.port p).timeouts = min 65535 ((s.port p).timeouts + 1) ∧ .completionTimeout ∈ (t.port p).aerStatus ∧ t.ctls = s.ctls) ∧
  (∀ (p tag : Nat) (s : State), s.ctxsOf p = [] →
    ∃ t, exec (.tagQuarantineEnd p tag) s = .next t ∧ State.quarantined (t.port p) tag = false ∧ (∀ u, u ≠ tag → State.quarantined (t.port p) u = State.quarantined (s.port p) u) ∧ t.regs = s.regs) ∧
  (∀ (p vector : Nat) (v : Word) (s : State), s.rxOk p = true → (s.port p).mse = true → (s.port p).flr = false → vector < 257 → (s.port p).msixEnable = false →
    ∃ t, exec (.msixTableWrite p vector 2 v) s = .next t ∧ (t.msixEntry p vector).data = v ∧
      (∀ w, w ≠ vector → t.msixEntry p w = s.msixEntry p w) ∧ t.ctls = s.ctls) ∧
  (∀ (p : Nat) (k : BlSent) (s : State), (s.bl p).delayed = some k →
    ∃ t, exec (.injectionHoldExpire true p) s = .next t ∧ t.out = s.out ++ [.packet p k false false] ∧ (t.bl p).delayed = none ∧ t.ports = s.ports ∧ t.regs = s.regs)

/-! ## NVMe controllers, fetch and completion (chapters 09 and 11) -/

/-- Enabling, resetting and shutting a controller down, its doorbells and its interrupt masks: enabling with a supported CSS and MPS makes it ready once the device is, and builds the admin queues; an unsupported value sets CFS instead; a reset empties its queues; a shutdown request shows SHST 0b01; a doorbell in range stores its tail, with the tick it came in, or head, one out of range leaves the queue alone; INTMS and INTMC set and clear the mask. Nothing of DRAM, of the security side or of the array changes (R273 to R278, R298). -/
def Obligations.ControllerCommands : Prop :=
  (∀ (k mps ams : Nat) (s : State), k ∈ s.ctlList → (s.ctl k).en = false → (s.port k).inReset = false → mps ≤ 4 →
    ∃ t, exec (.ccEnable k 0 mps ams) s = .next t ∧ (t.ctl k).en = true ∧ (t.ctl k).cfs = false ∧ (t.ctl k).rdy = s.plat.ready ∧ (t.ctl k).mps = mps ∧
      Table.find (t.ctl k).sqs 0 = some { size := (s.ctl k).asqs + 1, cqid := 0, prio := 0, base := (s.ctl k).asq } ∧
      (∀ j, j ≠ k → t.ctl j = s.ctl j) ∧ t.mem = s.mem ∧ t.sec = s.sec ∧ t.arr = s.arr ∧ t.regs = s.regs) ∧
  (∀ (k css mps ams : Nat) (s : State), k ∈ s.ctlList → (s.ctl k).en = false → (s.port k).inReset = false → css ≠ 0 →
    ∃ t, exec (.ccEnable k css mps ams) s = .next t ∧ (t.ctl k).cfs = true ∧ (t.ctl k).rdy = false) ∧
  (∀ (k : Nat) (s : State), k ∈ s.ctlList → (s.ctl k).en = true →
    ∃ t, exec (.controllerReset k) s = .next t ∧ (t.ctl k).en = false ∧ (t.ctl k).rdy = false ∧ (t.ctl k).sqs = [] ∧ (t.ctl k).cqs = [] ∧
      t.mem = s.mem ∧ t.sec = s.sec ∧ t.arr = s.arr) ∧
  (∀ (k : Nat) (s : State), k ∈ s.ctlList → (s.ctl k).en = true → (s.ctl k).shst = 0 →
    exec (.normalShutdown k) s = .next (s.modCtl k fun c => { c with shn := 1, shst := 1 })) ∧
  (∀ (k : Nat) (s : State), k ∈ s.ctlList → (s.ctl k).en = true → (s.ctl k).shst = 0 →
    ∃ t, exec (.abruptShutdown k) s = .next t ∧ (t.ctl k).shst = 1 ∧ (t.ctl k).shn = 2 ∧ (t.ctl k).aers = [] ∧ t.mem = s.mem ∧ t.sec = s.sec ∧ t.arr = s.arr) ∧
  (∀ (k q tail : Nat) (x : SubQueue) (s : State), k ∈ s.ctlList → (s.ctl k).en = true → (s.ctl k).rdy = true → (s.ctl k).cfs = false → s.plat.nonOp = none →
    Table.find (s.ctl k).sqs q = some x → tail < x.size →
    exec (.sqTailDoorbell k q tail) s = .next (s.modCtl k fun c => { c with sqs := Table.ins c.sqs q { x with tail := tail, bells := if tail = x.tail then x.bells else x.bells ++ [(tail, s.flash.tick)] } })) ∧
  (∀ (k q tail : Nat) (x : SubQueue) (s : State), k ∈ s.ctlList → (s.ctl k).en = true → (s.ctl k).rdy = true → (s.ctl k).cfs = false → s.plat.nonOp = none →
    Table.find (s.ctl k).sqs q = some x → x.size ≤ tail →
    ∃ t, exec (.sqTailDoorbell k q tail) s = .next t ∧ (t.ctl k).sqs = (s.ctl k).sqs) ∧
  (∀ (k q head : Nat) (x : CompQueue) (s : State), k ∈ s.ctlList → (s.ctl k).en = true → (s.ctl k).rdy = true → (s.ctl k).cfs = false → s.plat.nonOp = none →
    Table.find (s.ctl k).cqs q = some x → head < x.size → (head + x.size - x.head) % x.size ≤ (x.tail + x.size - x.head) % x.size →
    ∃ t, exec (.cqHeadDoorbell k q head) s = .next t ∧ Table.find (t.ctl k).cqs q = some { x with head := head } ∧ t.mem = s.mem ∧ t.sec = s.sec ∧ t.adm = s.adm) ∧
  (∀ (k : Nat) (v : Word) (s : State), (s.port k).msixEnable = false → v.getLsbD 0 = true →
    ∃ t, exec (.intmsWrite k v) s = .next t ∧ (t.ctl k).intMask = true ∧ t.ports = s.ports ∧ t.regs = s.regs) ∧
  (∀ (k : Nat) (v : Word) (s : State), (s.port k).msixEnable = false → v.getLsbD 0 = true →
    ∃ t, exec (.intmcWrite k v) s = .next t ∧ (t.ctl k).intMask = false ∧ t.ports = s.ports ∧ t.regs = s.regs)

/-- A command's way from its queue to its completion entry: a fetch puts it into a context with the next fetch sequence number; a serialised admin command starts when no earlier one is outstanding; a command or a firmware range gets its Interlocking entries; at the completion point an ACTIVE command becomes DONE with the next sequence number; an Abort that comes first makes it ABORTED; its completion entry carries its queue, CID, status and phase; its entries are removed and its context is free (R233 to R237, R278, R280, R293, R296, R302). -/
def Obligations.CommandLifeCycle : Prop :=
  (∀ (k q n : Nat) (e : Sqe) (c : Controller) (x : SubQueue) (s : State), s.fetching k = true → State.pickQueue (s.ctl k) = some (q, c) →
    Table.find c.sqs q = some x → x.inCmb = false → s.freeCtx q = some n → (q = 0 ∨ s.fetchHeld = false) →
    ∃ t d, exec (.commandFetch k e false) s = .next t ∧ t.ctx n = some d ∧ d.ctl = k ∧ d.sqid = q ∧ d.sqe.cid = e.cid ∧ d.sqe.opcode = e.opcode ∧ d.seq = s.adm.seq ∧
      t.adm.seq = s.adm.seq + 1 ∧ (∀ m, m ≠ n → t.ctx m = s.ctx m) ∧ t.media = s.media ∧ t.mem = s.mem ∧ t.sec = s.sec) ∧
  (∀ (n : Nat) (c : Ctx) (s : State), s.ctx n = some c → c.sqid = 0 → State.serialisedCmd c.sqe = true → c.inserted = false →
    (s.adm.ctxs.all fun p => !(p.2.sqid == 0 && decide (p.2.ctl < 2) && State.serialisedCmd p.2.sqe && decide (p.2.seq < c.seq) && !p.2.posted)) = true →
    exec (.serialisedStart n) s = .next (s.modCtxN n fun c => { c with inserted := true })) ∧
  (∀ (n : Nat) (c : Ctx) (ns : Namespace) (s : State), s.aeRuns 0 = true → s.ctx n = some c → c.inserted = false → c.status = none →
    s.insertTurn c = true → s.nsOf c.sqe.nsid = some ns → (State.ilUnits ns c.sqe).length ≤ s.ilFree →
    ∃ t d, exec (.ilInsert n none) s = .next t ∧ t.ctx n = some d ∧ d.inserted = true ∧ d.sqe = c.sqe ∧ t.media = s.media ∧ t.mem = s.mem) ∧
  (∀ (n : Nat) (r : IlRange) (s : State), s.aeRuns 0 = true → s.flag Reg.AE_IL_STAT_FULL = false → s.ctx n = none → (State.coverAll [r] 1).length ≤ s.ilFree →
    s.fwEntries + (State.coverAll [r] 1).length ≤ s.rget Reg.AE_IL_CFG_FW_MAX →
    ∃ t d, exec (.ilInsert n (some r)) s = .next t ∧ t.ctx n = some d ∧ d.inserted = true ∧ d.ctl = 3 ∧ d.seq = s.adm.seq ∧ t.media = s.media) ∧
  (∀ (n : Nat) (c : Ctx) (s : State), s.aeRuns 0 = true → s.ctx n = some c → c.posted = true →
    ∃ t, exec (.ilRemove n) s = .next t ∧ t.ctx n = none ∧ t.media = s.media ∧ t.mem = s.mem ∧ t.ctls = s.ctls) ∧
  (∀ (n : Nat) (c : Ctx) (s : State), s.ctx n = some c → s.mayComplete n c = true → c.started = true →
    ∃ t d, exec (.completionPoint n) s = .next t ∧ t.ctx n = some d ∧ d.word = .done ∧ d.status.isSome = true ∧ d.cpSeq = s.adm.seq ∧ t.adm.seq = s.adm.seq + 1 ∧
      t.mem = s.mem ∧ t.ctls = s.ctls ∧ t.media.map = s.media.map) ∧
  (∀ (n : Nat) (c : Ctx) (s : State), s.ctx n = some c → c.ctl < 2 → c.posted = false → c.word = .active → s.aeRuns 0 = true → s.abortersOf n ≠ [] → s.beingDeleted c = false →
    ∃ t d, exec (.abortIlCas n) s = .next t ∧ t.ctx n = some d ∧ d.word = .aborted ∧ d.status = some (stGen 0x07) ∧ t.mem = s.mem ∧ t.ctls = s.ctls) ∧
  (∀ (n a b x cqid : Nat) (c : Ctx) (st : Status) (q : CompQueue) (s : State), s.ctx n = some c → c.status = some st → State.ended c = true → c.waitIus = [] →
    c.members = 0 → s.afterDone c = true → s.media.flush = .none → s.plat.hold = .none → c.ctl < 2 → s.cqOf c = some (cqid, q) → State.CompQueue.free q = true →
    s.txOk c.ctl = true →
    ∃ t, exec (.completionPost n a b x) s = .next t ∧ .completion c.ctl c.sqid c.sqe.cid st c.dw0 q.phase ∈ t.out ∧ t.media = s.media ∧ t.flash = s.flash ∧ t.arr = s.arr) ∧
  (∀ (p v : Nat) (s : State), (Table.get ({} : Coalesce) (s.port p).coal v).count ≠ 0 → s.msixOpen p v = true →
    ∃ t, exec (.coalesceTimeout p v) s = .next t ∧ (Table.get ({} : Coalesce) (t.port p).coal v).count = 0 ∧ .msix p v ∈ t.out ∧ t.ctls = s.ctls ∧ t.media = s.media)

/-- The Associative Engine: a search that fits its window reports the matches of its banks in position order; a new window carries over only what exceeded the rate; a stopped port runs again; a Parcels entry is inserted CURRENT with PIN 0, cleared of CURRENT, and unpinned one at a time (R223 to R228, R239). -/
def Obligations.EngineCommands : Prop :=
  (∀ (port w b i : Nat) (key mask : List U64) (banks : List Nat) (s : State), s.flag Reg.AE_CTRL_ENABLE = true → s.portStopped port = false → s.ae.waiting = [] →
    s.widthError ⟨port, w, key, mask, banks, b * 4096 + i * w⟩ = false → s.searchFits ⟨port, w, key, mask, banks, b * 4096 + i * w⟩ = true →
    ∃ t, exec (.aeSearch port w key mask banks b i) s = .next t ∧ t.regs = s.regs ∧ t.ae.entries = s.ae.entries ∧
      t.out = s.out ++ [.search (!(s.aeMatches ⟨port, w, key, mask, banks.filter (State.portServes port), b * 4096 + i * w⟩).isEmpty)
        (s.aeMatches ⟨port, w, key, mask, banks.filter (State.portServes port), b * 4096 + i * w⟩).head?
        (min 15 (s.aeMatches ⟨port, w, key, mask, banks.filter (State.portServes port), b * 4096 + i * w⟩).length)
        (decide (2 ≤ (s.aeMatches ⟨port, w, key, mask, banks.filter (State.portServes port), b * 4096 + i * w⟩).length))]) ∧
  (∀ s : State, s.ae.waiting = [] → ∃ t, exec .aeSearchWindow s = .next t ∧ t.ae.window = s.ae.window - s.rget Reg.AE_PWR_CFG_BANK_RATE ∧ t.ae.entries = s.ae.entries ∧ t.out = s.out) ∧
  (∀ (port : Nat) (s : State), s.portStopped port = true → s.ae.waiting = [] →
    ∃ t, exec (.aePortRestart port) s = .next t ∧ t.portStopped port = false ∧ t.ae.entries = s.ae.entries ∧ t.regs = s.regs) ∧
  (∀ (p nsx iu part : Nat) (o : Option Nat) (s : State), s.aeRuns 1 = true → p < 65536 →
    ∃ t, exec (.pcInsert p nsx iu part o) s = .next t ∧ t.parcelEntry p = some ⟨[State.parcelUnit nsx iu part true], [BitVec.ofNat 64 (2 ^ 50 - 1)], true, 0⟩ ∧
      t.media = s.media ∧ t.adm = s.adm) ∧
  (∀ (p : Nat) (s : State), s.aeRuns 1 = true →
    ∃ t, exec (.pcClear p) s = .next t ∧ t.isCurrent p = false ∧ (∀ q, q < 65536 → p < 65536 → q ≠ p → t.parcelEntry q = s.parcelEntry q) ∧ t.regs = s.regs ∧ t.media = s.media) ∧
  (∀ (p : Nat) (s : State), s.aeRuns 1 = true → 0 < s.pinOf p →
    ∃ t, exec (.pcUnpin p) s = .next t ∧ t.pinOf p + 1 = s.pinOf p ∧ t.regs = s.regs ∧ t.media = s.media)

/-! ## Translation: map, parcels, stripes, journal (chapter 06) -/

/-- The map assist: a WRITE stores the entry and returns the one it replaced; a CAS stores only where the current entry equals the expected one, and otherwise changes no entry; an unreadable line becomes UNREC; an entry whose line cannot be used yet is not written; a map line read of a segment not yet loaded moves it to the front of the load order, and of a deallocated IU resolves the lookup. Every other entry keeps its value (R138 to R140, R162, R22). -/
def Obligations.MapCommands : Prop :=
  (∀ (slot iu : Nat) (e : MapEntry) (s : State), s.flag Reg.FT_CTRL_ENABLE = true → s.linesWait slot [iu] = none →
    ∃ t, exec (.mapWrite slot iu e) s = .next t ∧ t.mapGet slot iu = e.toNat ∧ t.out = s.out ++ [.mapReplaced (s.mapGet slot iu) true] ∧
      (∀ k, k ≠ mapKey slot iu → Table.get entDealloc t.media.map k = Table.get entDealloc s.media.map k) ∧ t.media.nand = s.media.nand ∧ t.media.parcels = s.media.parcels) ∧
  (∀ (slot iu : Nat) (e w : MapEntry) (s : State), s.flag Reg.FT_CTRL_ENABLE = true → s.linesWait slot [iu] = none → s.mapGet slot iu = e.toNat →
    ∃ t, exec (.mapCas slot iu e w) s = .next t ∧ t.mapGet slot iu = w.toNat ∧ .mapReplaced e.toNat true ∈ t.out ∧
      (∀ k, k ≠ mapKey slot iu → Table.get entDealloc t.media.map k = Table.get entDealloc s.media.map k)) ∧
  (∀ (slot iu : Nat) (e w : MapEntry) (s : State), s.flag Reg.FT_CTRL_ENABLE = true → s.linesWait slot [iu] = none → s.mapGet slot iu ≠ e.toNat →
    ∃ t, exec (.mapCas slot iu e w) s = .next t ∧ t.media.map = s.media.map ∧ .mapReplaced (s.mapGet slot iu) false ∈ t.out) ∧
  (∀ (slot iu : Nat) (e : MapEntry) (s u : State), s.flag Reg.FT_CTRL_ENABLE = true → s.linesWait slot [iu] = some u →
    exec (.mapWrite slot iu e) s = .next u ∧ u.media.map = s.media.map) ∧
  (∀ (slot line : Nat) (s : State), mapKey slot line ∈ s.media.badLines →
    ∃ t, exec (.mapLineRebuild slot line false) s = .next t ∧ mapKey slot line ∉ t.media.badLines ∧ (∀ i, i < 12 → t.mapGet slot (line * 12 + i) = entUnrec)) ∧
  (∀ (n iu : Nat) (c : Ctx) (ns : Namespace) (s : State), s.ctx n = some c → s.nsOf c.sqe.nsid = some ns → ns.array = false → c.todo.any (·.1 == iu) = true →
    c.word = .active → c.inserted = true → segOf (State.slotOf ns.nsid) iu ∈ s.media.toLoad →
    ∃ t, exec (.mapLineRead n iu false) s = .next t ∧ t.media.toLoad.head? = some (segOf (State.slotOf ns.nsid) iu) ∧ t.adm = s.adm ∧ t.media.map = s.media.map) ∧
  (∀ (n iu : Nat) (c : Ctx) (ns : Namespace) (s : State), s.ctx n = some c → s.nsOf c.sqe.nsid = some ns → ns.array = false → c.todo.any (·.1 == iu) = true →
    c.word = .active → c.inserted = true → segOf (State.slotOf ns.nsid) iu ∉ s.media.toLoad → s.lineBad (State.slotOf ns.nsid) iu = false → s.mapGet (State.slotOf ns.nsid) iu = entDealloc →
    ∃ t d, exec (.mapLineRead n iu false) s = .next t ∧ t.ctx n = some d ∧ d.todo.any (·.1 == iu) = false ∧ t.media = s.media ∧ t.flash = s.flash)

/-- The write buffer: a lookup that finds its one CURRENT parcel pins it and is resolved; the parcel a map entry names is pinned while it holds the IU, and otherwise the retry is counted; a CLEAN parcel that nothing names or pins becomes FREE; a write within the limit gets its parcels; a placed parcel takes the next write sequence number; an unfilled stripe is padded; a stripe whose units passed is recorded as passed (R141, R143, R144, R146, R148, R150, R239, R240). -/
def Obligations.ParcelCommands : Prop :=
  (∀ (n iu part p : Nat) (c : Ctx) (ns : Namespace) (s : State), s.ctx n = some c → s.nsOf c.sqe.nsid = some ns → s.aeRuns 1 = true → (iu, part) ∈ c.todo →
    c.word = .active → c.inserted = true → s.pcMatches (State.slotOf ns.nsid) iu part = [p] → ((s.parcel p).blocks.any fun b => b.slot == lostSlot) = false →
    ∃ t d, exec (.pcSearchPin n iu part false) s = .next t ∧ t.ctx n = some d ∧ (iu, part) ∉ d.todo ∧ p ∈ d.pinned ∧ t.pinOf p = s.pinOf p + 1 ∧ t.media = s.media) ∧
  (∀ (n iu part p : Nat) (c : Ctx) (ns : Namespace) (e : AeEntry) (s : State), s.ctx n = some c → s.nsOf c.sqe.nsid = some ns → s.aeRuns 1 = true → (iu, part) ∈ c.todo →
    c.word = .active → c.inserted = true → s.parcelEntry p = some e → e.valid = true →
    (e.value.getD 0 0 ^^^ State.parcelUnit (State.slotOf ns.nsid) iu part true) &&& BitVec.ofNat 64 (2 ^ 49 - 1) = 0 → ((s.parcel p).blocks.any fun b => b.slot == lostSlot) = false →
    ∃ t d, exec (.pcPinAddr n iu part p false) s = .next t ∧ t.ctx n = some d ∧ (iu, part) ∉ d.todo ∧ p ∈ d.pinned ∧ t.pinOf p = s.pinOf p + 1 ∧ t.media = s.media) ∧
  (∀ (n iu part p : Nat) (ue : Bool) (c : Ctx) (ns : Namespace) (s : State), s.ctx n = some c → s.nsOf c.sqe.nsid = some ns → s.aeRuns 1 = true → (iu, part) ∈ c.todo →
    c.word = .active → c.inserted = true → s.parcelEntry p = none → exec (.pcPinAddr n iu part p ue) s = .next (s.rsat Reg.AE_PC_CNT_PIN_RETRY)) ∧
  (∀ (p : Nat) (s : State), s.aeRuns 1 = true → (s.parcel p).state = .clean → s.mapGet (s.parcel p).slot (s.parcel p).iu ≠ entInbuf (s.parcel p).first → s.pinOf p = 0 →
    (s.adm.ctxs.all fun q => !(q.2.word != .done && q.2.changed.any fun r => r.2.1 == entInbuf (s.parcel p).first)) = true →
    ∃ t, exec (.pcRelease p) s = .next t ∧ t.parcel p = {} ∧ (∀ q, q ≠ p → t.parcel q = s.parcel q) ∧ t.media.map = s.media.map ∧ t.adm = s.adm) ∧
  (∀ (n : Nat) (c : Ctx) (ns : Namespace) (s : State), s.ctx n = some c → s.nsOf c.sqe.nsid = some ns → ns.array = false → c.sqe.opcode = 0x01 → c.word = .active → c.inserted = true → c.sqid ≠ 0 →
    c.parcels = [] → c.started = false → c.status = none → c.sqe.cmbData = true → s.plat.hold = .none → s.media.flush = .none → s.reserveAhead c = false → s.bufferStop = false →
    s.media.bootMeasured = true → s.flag Reg.FT_STAT_JRNL_HOLD = false → State.parcelIus ns c ≠ [] →
    s.badPlacement c = false → s.linesWait (State.spaceOf ns) (State.parcelIus ns c) = none →
    (s.dirtyCount + State.parcelsFor ns (State.parcelIus ns c).length) * 8 < s.limitInForce * 7 →
    (s.freeParcels (State.parcelsFor ns (State.parcelIus ns c).length)).length = State.parcelsFor ns (State.parcelIus ns c).length →
    ∃ t d, exec (.parcelReserve n) s = .next t ∧ t.ctx n = some d ∧ d.parcels = s.freeParcels (State.parcelsFor ns (State.parcelIus ns c).length) ∧
      t.media.map = s.media.map ∧ t.media.nand = s.media.nand) ∧
  (∀ (g h p sn key l : Nat) (s u : State), g < s.groupCount → s.media.quiesced = false → s.media.flush = .none → (s.parcel p).place.isSome = true → (s.grp g).hostWait = false → s.waitsMeta g = false →
    s.mayPlace g h p = true → s.iuParcels p = [p] → s.placeIu g (.host h) 1 = (u, some (sn, key, l)) →
    ∃ t, exec (.parcelPlace g (.host h) [p] [] []) s = .next t ∧ (t.parcel p).state = .placed ∧ (t.parcel p).wseq = s.media.wseq ∧ (t.parcel p).unit = some (sn, key / 64, key % 64) ∧
      t.media.map = s.media.map ∧ t.media.nand.content = s.media.nand.content) ∧
  (∀ (n j : Nat) (b : Superblock) (s : State), s.sb n = some b → b.state = .open_ → b.cursor / 64 = j → b.used ≠ 0 →
    ∃ t, exec (.padTimeout n j) s = .next t ∧ t.rget Reg.FT_STAT_PAD = 1 ∧ t.media.map = s.media.map ∧ t.media.parcels = s.media.parcels ∧ t.media.nand.content = s.media.nand.content) ∧
  (∀ (n j m h : Nat) (b : Superblock) (s u : State), s.sb n = some b → State.stripeFull b j = true → j ∉ b.passed → State.stripeUnits b j ≠ [] → b.stream = .host h →
    (∀ q ∈ State.stripeUnits b j, ∀ p ∈ q.2.parcels, s.segWaits (s.parcel p).slot (s.parcel p).iu = false ∧ s.lineBad (s.parcel p).slot (s.parcel p).iu = false) →
    s.metaRoom b.group (s.openParityCws b) = (u, some m) →
    ∃ t d, exec (.stripePass n j) s = .next t ∧ t.sb n = some d ∧ j ∈ d.passed ∧ t.mem = s.mem ∧ t.sec = s.sec ∧ t.link = s.link)

/-- Failures, journal, checkpoints and load order: a failed program closes its superblock and marks the position; a failed erase retires the block; the Buffer stop flush ends when nothing is dirty and no page is open; a commit fills and closes the open page; a durable page raises the durable sequence past its records; a checkpoint starts at the durable sequence and its segment is clean; a loaded segment leaves the load order (R155, R156, R158 to R162, R192). -/
def Obligations.JournalAndFailures : Prop :=
  (∀ (n j pos : Nat) (b : Superblock) (s : State), s.sb n = some b → pos < b.dies.length → j ∉ b.passed → (Table.get {} b.units (j * 64 + pos)).failed = false →
    ∃ t d, exec (.programFail n j pos) s = .next t ∧ t.sb n = some d ∧ pos ∈ d.retirePos ∧ d.state ≠ .open_ ∧ t.media.map = s.media.map ∧ t.media.nand.content = s.media.nand.content) ∧
  (∀ (d plane block : Nat) (s : State), (s.blockInfo (State.blockNo d plane block)).retired = false → (s.die d).present = true →
    ∃ t, exec (.eraseFail d plane block) s = .next t ∧ (t.blockInfo (State.blockNo d plane block)).retired = true ∧ t.media.map = s.media.map ∧ t.media.nand.content = s.media.nand.content) ∧
  (∀ s : State, s.media.bstopFlush = true → s.dirtyCount = 0 → s.media.openPage = [] → s.media.pages = [] →
    ∃ t, exec .bufferStopFlushDone s = .next t ∧ t.rget Reg.FT_WEAR_STAT_BSTOP_FLUSHED = 1 ∧ t.media.bstopFlush = false ∧ t.media.nand = s.media.nand ∧ t.adm = s.adm) ∧
  (∀ s : State, s.media.quiesced = false → s.media.flush = .none → s.media.openPage ≠ [] →
    ∃ t pg, exec .journalCommit s = .next t ∧ t.media.openPage = [] ∧ t.media.pages = s.media.pages ++ [pg] ∧ pg.recs = State.fillPage s.media.openPage s.media.nextSeq ∧
      t.media.map = s.media.map ∧ t.media.nand.content = s.media.nand.content ∧ t.media.nand.sbs = s.media.nand.sbs) ∧
  (∀ s : State, s.media.quiesced = false → s.media.flush = .none → s.media.openPage ≠ [] →
    ∃ t pg, exec .journalCommitTimeout s = .next t ∧ t.media.openPage = [] ∧ t.media.pages = s.media.pages ++ [pg] ∧ pg.recs = State.fillPage s.media.openPage s.media.nextSeq ∧
      t.media.map = s.media.map ∧ t.media.nand.content = s.media.nand.content ∧ t.media.nand.sbs = s.media.nand.sbs) ∧
  (∀ (pg : JPage) (rest : List JPage) (s : State), s.media.pages = pg :: rest →
    ∃ t, exec .journalPageDurable s = .next t ∧ (∀ r ∈ pg.recs, r.seq < t.media.durable) ∧ s.media.durable < t.media.durable ∧ t.media.map = s.media.map ∧
      t.media.nand.content = s.media.nand.content) ∧
  (∀ (seg m : Nat) (s u : State), s.media.quiesced = false → s.media.flush = .none → seg < 2 ^ 27 → s.ckptTurn seg = true → s.ckptRoom seg = (u, some m) →
    ∃ t c, exec (.checkpointWrite seg) s = .next t ∧ Table.find t.media.nand.ckpt seg = some c ∧ c.start = s.media.durable ∧ Table.find t.media.dirtySegs seg = none ∧
      t.media.map = s.media.map ∧ t.media.nand.content = s.media.nand.content) ∧
  (∀ (seg : Nat) (rest : List Nat) (s : State), s.media.toLoad = seg :: rest →
    ∃ t, exec (.segmentLoad seg) s = .next t ∧ t.media.toLoad = rest ∧ (rest = [] → t.rget Reg.FT_STAT_MAP_READY = 1) ∧ t.media.nand = s.media.nand ∧ t.adm = s.adm)

/-! ## Timetable and signal boxes (chapters 02 and 04) -/

/-- The clock and the registers of the Timetable: the first boundary starts the count at 0 and each later one adds one to it and puts the planned tick into force; at a cutoff the next tick is planned, once; TT_CTRL.ENABLE is set when the layout of every channel fits, and otherwise only CFG_ERR is; an effective budget is clipped to its configured one; a read of TT_TICK_LO returns the low half and latches the high half (R29, R30, R32, R50, R56). Clauses in which a row changes nothing outside its conditions are the model's (log entry 2). -/
def Obligations.TimetableCommands : Prop :=
  (∀ s : State, s.plat.hold = .none → s.flash.ticking = false →
    exec .tickBoundary s = .next { s with flash := { s.flash with ticking := true, tick := 0, planned := false } }) ∧
  (∀ s : State, s.plat.hold = .none → s.flash.ticking = true →
    ∃ t, exec .tickBoundary s = .next t ∧ t.flash.tick = s.flash.tick + 1 ∧ t.flash.planned = false ∧ (∀ d, (s.die d).suspended = true → (t.die d).span = (s.die d).span + 1) ∧
      (∀ ch, ch < s.channels → (t.box ch).cur = (s.box ch).plan ∧ t.flag (Reg.TT_CH_STAT_MAINT_NOW ch) = s.maintAt (s.flash.tick + 1) ch) ∧
      (s.mode ≠ .manager → t.mem = s.mem ∧ t.media = s.media ∧ t.adm = s.adm ∧ t.ctls = s.ctls)) ∧
  (∀ (work : List ChWork) (s : State), s.flag Reg.TT_CTRL_ENABLE = true → s.flash.ticking = true → s.flash.planned = false →
    ∃ t, exec (.tickCutoff work) s = .next t ∧ t.flash.planned = true ∧ t.flash.tick = s.flash.tick ∧ t.mem = s.mem ∧ t.sec = s.sec ∧ t.plat.hold = s.plat.hold ∧ (s.plat.tokens = [] → t.ports = s.ports)) ∧
  (∀ (work : List ChWork) (s : State), s.flash.planned = true → exec (.tickCutoff work) s = .next s) ∧
  (∀ s : State, s.flag Reg.TT_CTRL_LOCK = false → (∀ ch, ch < s.channels → s.layoutBad ch = false) →
    exec .ttEnable s = .next ((s.rset Reg.TT_CTRL_ENABLE 1).rset Reg.TT_STATUS_RUNNING 1)) ∧
  (∀ (ch : Nat) (s : State), s.flag Reg.TT_CTRL_LOCK = false → ch < s.channels → s.layoutBad ch = true →
    ∃ t, exec .ttEnable s = .next t ∧ t.flag (Reg.TT_CH_STAT_CFG_ERR ch) = true ∧ t.flag Reg.TT_CTRL_ENABLE = s.flag Reg.TT_CTRL_ENABLE ∧
      t.flag Reg.TT_STATUS_RUNNING = s.flag Reg.TT_STATUS_RUNNING ∧ t.flash = s.flash) ∧
  (∀ s : State, s.flag Reg.TT_CTRL_LOCK = true → exec .ttEnable s = .next s) ∧
  (∀ (prog erase : Nat) (s : State), prog < 512 → erase < 256 →
    ∃ t, exec (.ttBudgetEffWrite prog erase) s = .next t ∧ t.rget Reg.TT_BUDGET_EFF_PROG = min prog (s.rget Reg.TT_BUDGET_CFG_MAX_PROG) ∧
      t.rget Reg.TT_BUDGET_EFF_ERASE = min erase (s.rget Reg.TT_BUDGET_CFG_MAX_ERASE) ∧ t.flash = s.flash ∧ t.media = s.media ∧ t.out = s.out) ∧
  (∀ s : State, exec .tickLoRead s =
    .next ((s.rset Reg.TT_TICK_HI_COUNT_HI (s.flash.tick / 2 ^ 32)).emit (.readData 0x008 (BitVec.ofNat 32 s.flash.tick))))

/-- The control store: a load-port WRITE stores DATA at ADDR in the boxes that BCAST and BOX choose and in no other; a READ gives a word back, a Gwynon word as zero at security levels 1 and 2; TABLE_LO and TABLE_HI go to descriptor INDEX or to dispatch entry INDEX - 512; after LOAD_LOCK no write has an effect (R85, R94, R109, R110). Clauses in which a row changes nothing outside its conditions are the model's (log entry 2). -/
def Obligations.LoadPort : Prop :=
  (∀ (bcast : Bool) (box : Nat) (s : State), s.flag Reg.SB_CS_CTRL_LOAD_LOCK = false → s.rget Reg.SB_CS_ADDR_ADDR < 8192 →
    ∃ t, exec (.csWrite bcast box) s = .next t ∧
      (∀ ch, ch < s.channels → bcast = true ∨ ch = box → t.storeWord ch (s.rget Reg.SB_CS_ADDR_ADDR) = s.csData) ∧
      (∀ ch a, a < 8192 → a ≠ s.rget Reg.SB_CS_ADDR_ADDR ∨ (bcast = false ∧ ch ≠ box) → t.storeWord ch a = s.storeWord ch a) ∧
      t.media = s.media ∧ t.flash.dies = s.flash.dies ∧ t.flash.descs = s.flash.descs ∧ t.flash.dispatch = s.flash.dispatch) ∧
  (∀ (box : Nat) (s : State), 0x1C00 ≤ s.rget Reg.SB_CS_ADDR_ADDR ∨ s.rget Reg.GD_STAT_LEVEL = 0 →
    ∃ t, exec (.csRead box) s = .next t ∧ t.csData = s.storeWord box (s.rget Reg.SB_CS_ADDR_ADDR) ∧ t.flash = s.flash ∧ t.media = s.media ∧ t.out = s.out) ∧
  (∀ (box : Nat) (s : State), s.rget Reg.SB_CS_ADDR_ADDR < 0x1C00 → s.rget Reg.GD_STAT_LEVEL ≠ 0 →
    ∃ t, exec (.csRead box) s = .next t ∧ t.csData = 0 ∧ t.flash = s.flash ∧ t.media = s.media ∧ t.out = s.out) ∧
  (∀ (i : Nat) (s : State), s.flag Reg.SB_CS_CTRL_LOAD_LOCK = false → i < 512 →
    ∃ t, exec (.tableWrite i) s = .next t ∧ Table.get (0#64) t.flash.descs i = BitVec.ofNat 64 (s.rget Reg.SB_TABLE_HI_DATA * 2 ^ 32 + s.rget Reg.SB_TABLE_LO_DATA) ∧
      (∀ j, j ≠ i → Table.get (0#64) t.flash.descs j = Table.get (0#64) s.flash.descs j) ∧ t.flash.dispatch = s.flash.dispatch ∧ t.flash.store = s.flash.store) ∧
  (∀ (set op : Nat) (s : State), s.flag Reg.SB_CS_CTRL_LOAD_LOCK = false → set < 16 → op < 32 →
    ∃ t, exec (.tableWrite (512 + set * 32 + op)) s = .next t ∧
      t.descOf set op = (if s.rget Reg.SB_TABLE_LO_DATA / 2 ^ 15 % 2 = 1 then some (s.rget Reg.SB_TABLE_LO_DATA % 512) else none) ∧
      t.flash.descs = s.flash.descs ∧ t.flash.store = s.flash.store) ∧
  (∀ s : State, exec .loadLock s = .next (s.rset Reg.SB_CS_CTRL_LOAD_LOCK 1)) ∧
  (∀ (bcast : Bool) (n : Nat) (s : State), s.flag Reg.SB_CS_CTRL_LOAD_LOCK = true → exec (.csWrite bcast n) s = .next s ∧ exec (.tableWrite n) s = .next s)

/-- Legs: a parked routine whose need is met starts its leg at its resume address on its die, with the micro-stack empty, and runs words as the bus answers; a word that only jumps moves PC and leaves the leg running; a word with two wrong bits in one half of its code halts its box with cause CS_UE; 1024 cycles without a station halt it with cause WATCHDOG and the PC kept; a posted request of a parked routine is taken and its service routine starts at its descriptor's entry: a suspended program counts its suspension, an aborted read goes back to its owner; a restarted box runs again with its stack empty (R82, R83, R90, R91, R96, R100 to R103). -/
def Obligations.LegCommands : Prop :=
  (∀ (d owner : Nat) (env : LegEnv) (s u : State), u = s.selectCtx d owner → u.boxRuns (chOf d) = true → u.flag (Reg.SB_SEQ_STAT_IN_LEG (chOf d)) = false →
    (u.die d).ctx.active = true → (u.die d).ctx.parked = true → (u.die d).request = none → (u.die d).isol = 0 → u.legReady d = true →
    ∃ t : State, exec (.legStart d owner env) s = .next ((t.runWords (chOf d) env).wearSince s) ∧ t.pcOf (chOf d) = (u.die d).ctx.resume % 2 ^ 13 ∧ t.flag (Reg.SB_SEQ_STAT_IN_LEG (chOf d)) = true ∧
      (t.box (chOf d)).die = d ∧ (t.box (chOf d)).stack = [] ∧ (t.die d).ctx.parked = false ∧ t.media = s.media ∧ t.mem = s.mem) ∧
  (∀ (ch a : Nat) (e : WordEnv) (s : State), s.boxRuns ch = true → s.flag (Reg.SB_SEQ_STAT_IN_LEG ch) = true → (s.box ch).holding = false → (s.box ch).rbWait = false →
    (s.die (s.box ch).die).ctx.armed = false → e.flips = [] → Table.get [] s.flash.csErrs (8192 * ch + s.pcOf ch) = [] → a < 2 ^ 13 →
    ¬ (a = 0x1C00 ∧ s.pcOf ch = 0x1BFF) → s.storeWord ch (s.pcOf ch) = BitVec.ofNat 176 (2 ^ 13 + a) → (s.box ch).dist + 1 < 1024 →
    ∃ t, exec (.holdRelease ch [e]) s = .next t ∧ t.pcOf ch = a ∧ t.flag (Reg.SB_SEQ_STAT_IN_LEG ch) = true ∧ (t.box ch).stack = (s.box ch).stack ∧ (t.box ch).dist = (s.box ch).dist + 1 ∧
      t.media = s.media ∧ t.flash.jobs = s.flash.jobs) ∧
  (∀ (ch a b : Nat) (w : BitVec 176) (e : WordEnv) (es : LegEnv) (s : State), s.boxRuns ch = true → s.flag (Reg.SB_SEQ_STAT_IN_LEG ch) = true → (s.box ch).holding = false → (s.box ch).rbWait = false →
    Table.find s.flash.store (8192 * ch + s.pcOf ch) = some w → Table.get [] s.flash.csErrs (8192 * ch + s.pcOf ch) = [] → e.flips = [a, b] → a < 176 → b < 176 → a ≠ b → State.csLow a = State.csLow b →
    ∃ t, exec (.holdRelease ch (e :: es)) s = .next t ∧ t.flag (Reg.SB_SEQ_STAT_HALTED ch) = true ∧ t.rget (Reg.SB_SEQ_STAT_HALT_CAUSE ch) = 2 ∧
      t.flag (Reg.SB_SEQ_ERR_CS_UE ch) = true ∧ t.flag (Reg.SB_SEQ_STAT_IN_LEG ch) = false ∧ t.media.nand = s.media.nand ∧ t.media.map = s.media.map ∧ t.mem = s.mem) ∧
  (∀ (ch : Nat) (s : State), s.boxRuns ch = true → s.flag (Reg.SB_SEQ_STAT_IN_LEG ch) = true → s.flag (Reg.SB_SEQ_STAT_AT_STATION ch) = false →
    ∃ t, exec (.stationWatchdog ch) s = .next t ∧ t.flag (Reg.SB_SEQ_STAT_HALTED ch) = true ∧ t.rget (Reg.SB_SEQ_STAT_HALT_CAUSE ch) = 1 ∧
      t.rget (Reg.SB_SEQ_WDOG_TRIP_PC ch) = s.pcOf ch % 2 ^ 13 ∧ t.flag (Reg.SB_SEQ_STAT_IN_LEG ch) = false ∧ t.media.nand = s.media.nand ∧ t.media.map = s.media.map ∧ t.mem = s.mem) ∧
  (∀ (d : Nat) (s : State), s.requestReady d .suspend = true → (s.die d).state = .prog →
    ∃ t, exec (.requestTaken d [] []) s = .next t ∧ (t.die d).state = .suspProg ∧ (t.die d).suspCount = (s.die d).suspCount + 1 ∧ (t.die d).request = none ∧
      (∀ i, s.descOf (s.die d).dispatchSet 7 = some i → ((s.selectOp d).die d).ctx.resCtl ≠ 3 → t.pcOf (chOf d) = s.descField i 0 13 ∧ t.flag (Reg.SB_SEQ_STAT_IN_LEG (chOf d)) = true) ∧
      t.media = s.media ∧ t.adm = s.adm) ∧
  (∀ (d : Nat) (s : State), s.requestReady d .abort = true →
    ∃ t, exec (.requestTaken d [] []) s = .next t ∧ (t.die d).state = .abort ∧ (t.die d).reads = [] ∧ (t.die d).request = none ∧ (∀ o ∈ (s.die d).owners, .flashReport d o 8 ∈ t.out) ∧
      (∀ i, s.descOf (s.die d).dispatchSet 11 = some i → (s.die d).ctx.resCtl ≠ 3 → t.pcOf (chOf d) = s.descField i 0 13 ∧ t.flag (Reg.SB_SEQ_STAT_IN_LEG (chOf d)) = true) ∧
      (s.descOf (s.die d).dispatchSet 11 = none → (s.die d).ctx.resCtl = 0 → (t.die d).ctx.active = false) ∧ t.adm = s.adm) ∧
  (∀ (ch : Nat) (s : State), ch < s.channels → s.flag (Reg.SB_SEQ_STAT_HALTED ch) = true →
    ∃ t, exec (.sbRestart ch) s = .next t ∧ t.flag (Reg.SB_SEQ_STAT_HALTED ch) = false ∧ t.rget (Reg.SB_SEQ_STAT_HALT_CAUSE ch) = 0 ∧ (t.box ch).stack = [] ∧
      (∀ d, chOf d = ch → (t.die d).ctx.active = false ∧ (t.die d).features = []) ∧ t.media.nand = s.media.nand ∧ t.media.map = s.media.map ∧ t.mem = s.mem)

/-! ## Operations of the flash dies and calibration (chapters 03 and 04) -/

/-- Reads: where a read may start on its die (an Express read in its issue tick on an idle, reading or suspended die with a free read unit; a lower class on an idle or reading die with a command-window place), OP_READ, OP_READ_SLC, OP_READ_RETRY and OP_READ_SOFT put the routine of operation code 0 to 3 into the die's context, parked at its entry, with the operation's address, class and owner; a lower class takes a window place; where it may not start, nothing changes (R31, R33, R38, R93, R94). Clauses in which a row changes nothing outside its conditions are the model's (log entry 2). -/
def Obligations.ReadDispatch : Prop :=
  ∀ (d : Nat) (a : OpArg) (s : State), ∀ p ∈ [(Instr.opRead d a, 0), (.opReadSlc d a, 1), (.opReadRetry d a, 2), (.opReadSoft d a, 3)],
    (∀ i, s.readStart d p.2 a = true → s.descOf (s.die d).dispatchSet p.2 = some i →
      ∃ t, exec p.1 s = .next t ∧ (t.die d).ctx = { active := true, op := p.2, desc := i, arg := a, resume := s.descField i 0 13, parked := true, startTick := s.flash.tick } ∧
        (t.die d).state = (s.die d).state ∧ (∀ e, e ≠ d → t.die e = s.die e) ∧
        (t.box (chOf d)).cur.window = (if a.cls = .express then (s.box (chOf d)).cur.window else (s.box (chOf d)).cur.window - 1) ∧
        t.media.map = s.media.map ∧ t.media.nand.content = s.media.nand.content ∧ t.media.parcels = s.media.parcels ∧ t.adm = s.adm ∧ t.out = s.out) ∧
    (s.readStart d p.2 a = false → exec p.1 s = .next s)

/-- Programs and erases: where one may start (the die idle, its class and blocks right, the budget with a place, the tokens there), OP_PROG, OP_PROG_SLC and OP_ERASE put the routine of operation code 4 to 6 into the die's context, draw its tokens where it has not collected them, count it in the budget, and start its suspend count at 0; where only the tokens are missing it is presented to the Token instrument and waits; where it may not start, nothing changes (R33, R34, R47, R93, R94, R488). Clauses in which a row changes nothing outside its conditions are the model's (log entry 2). -/
def Obligations.ProgramDispatch : Prop :=
  ∀ (d : Nat) (a : OpArg) (s : State), ∀ p ∈ [(Instr.opProg d a, 4), (.opProgSlc d a, 5), (.opErase d a, 6)],
    (∀ i, s.opStart d p.2 a = true → s.descOf (s.die d).dispatchSet p.2 = some i →
      ∃ t, exec p.1 s = .next t ∧ (t.die d).ctx.active = true ∧ (t.die d).ctx.op = p.2 ∧ (t.die d).ctx.arg = a ∧ (t.die d).ctx.resume = s.descField i 0 13 ∧
        (t.die d).ctx.parked = true ∧ (t.die d).counted = true ∧ (t.die d).suspCount = 0 ∧ (t.die d).tokenPaid = false ∧ (∀ e, e ≠ d → t.die e = s.die e) ∧
        (p.2 = 6 → t.rget Reg.TT_BUDGET_STAT_ERASE_ACTIVE = (s.rget Reg.TT_BUDGET_STAT_ERASE_ACTIVE + 1) % 2 ^ Reg.TT_BUDGET_STAT_ERASE_ACTIVE.width ∧
          ((s.die d).tokenPaid = false → t.rget Reg.TK_STAT_LEVEL = (s.rget Reg.TK_STAT_LEVEL - s.rget Reg.TT_TOKEN_WT_ERASE) % 2 ^ Reg.TK_STAT_LEVEL.width)) ∧
        (p.2 ≠ 6 → t.rget Reg.TT_BUDGET_STAT_PROG_ACTIVE = (s.rget Reg.TT_BUDGET_STAT_PROG_ACTIVE + 1) % 2 ^ Reg.TT_BUDGET_STAT_PROG_ACTIVE.width ∧
          ((s.die d).tokenPaid = false → t.rget Reg.TK_STAT_LEVEL = (s.rget Reg.TK_STAT_LEVEL - s.rget Reg.TT_TOKEN_WT_PROG) % 2 ^ Reg.TK_STAT_LEVEL.width)) ∧
        t.media = s.media ∧ t.adm = s.adm ∧ t.out = s.out) ∧
    (s.opFree d p.2 a = true → s.opStart d p.2 a = false →
      ∃ t, exec p.1 s = .next t ∧ ((t.die d).tokenPaid = true ∨ (t.plat.tokens.any fun r => r.wake == .flash d) = true) ∧ (t.die d).ctx = (s.die d).ctx ∧ t.media = s.media ∧ t.adm = s.adm) ∧
    (s.opFree d p.2 a = false → exec p.1 s = .next s)

/-- Suspends, resumes and aborts: the posted suspend of a programming or erasing die suspends it, clears the request and adds one to its suspensions; the planned resume of a suspended program or erase, once its tick has come, puts the die back to work, protected until PROGRESS ticks on; the posted abort of a die in READ_L or LOAD takes its reads off, tells each owner once and leaves the die waiting in ABORT. Each starts its service routine at its descriptor's entry (R30, R39, R41, R43 to R45, R100, R101). -/
def Obligations.SuspendResumeAbort : Prop :=
  (∀ (d : Nat) (s : State), s.requestReady d .suspend = true →
    ((s.die d).state = .prog → ∃ t, exec (.opSuspendProg d [] []) s = .next t ∧ (t.die d).state = .suspProg ∧ (t.die d).suspCount = (s.die d).suspCount + 1 ∧
      (t.die d).request = none ∧ (t.die d).span = 0 ∧ t.media = s.media ∧ t.adm = s.adm) ∧
    ((s.die d).state = .erase → ∃ t, exec (.opSuspendErase d [] []) s = .next t ∧ (t.die d).state = .suspErase ∧ (t.die d).suspCount = (s.die d).suspCount + 1 ∧
      (t.die d).request = none ∧ (t.die d).span = 0 ∧ (∀ i, s.descOf (s.die d).dispatchSet 8 = some i → ((s.selectOp d).die d).ctx.resCtl ≠ 3 → t.pcOf (chOf d) = s.descField i 0 13) ∧
      t.media = s.media ∧ t.adm = s.adm)) ∧
  (∀ (d : Nat) (s : State), s.resumeReady d = true →
    ((s.die d).state = .suspProg → ∃ t, exec (.opResumeProg d [] []) s = .next t ∧ (t.die d).state = .prog ∧ (t.die d).resumeAt = none ∧ (t.die d).draining = false ∧
      (t.die d).protectedTo = s.flash.tick + s.rget Reg.TT_EXPRESS_CFG_PROGRESS ∧ (t.die d).ctx.resumed = true ∧
      (∀ i, s.descOf (s.die d).dispatchSet 9 = some i → t.pcOf (chOf d) = s.descField i 0 13) ∧ t.media = s.media ∧ t.adm = s.adm) ∧
    ((s.die d).state = .suspErase → ∃ t, exec (.opResumeErase d [] []) s = .next t ∧ (t.die d).state = .erase ∧ (t.die d).resumeAt = none ∧ (t.die d).draining = false ∧
      (t.die d).protectedTo = s.flash.tick + s.rget Reg.TT_EXPRESS_CFG_PROGRESS ∧ (t.die d).ctx.resumed = true ∧
      (∀ i, s.descOf (s.die d).dispatchSet 10 = some i → t.pcOf (chOf d) = s.descField i 0 13) ∧ t.media = s.media ∧ t.adm = s.adm)) ∧
  (∀ (d : Nat) (s : State), s.requestReady d .abort = true → (s.die d).state = .readL ∨ (s.die d).state = .load →
    ∃ t, exec (.opAbort d [] []) s = .next t ∧ (t.die d).state = .abort ∧ (t.die d).reads = [] ∧ (t.die d).others = [] ∧ (t.die d).request = none ∧
      (∀ o ∈ (s.die d).owners, .flashReport d o 8 ∈ t.out) ∧ (s.descOf (s.die d).dispatchSet 11 = none → (s.die d).ctx.resCtl = 0 → (t.die d).ctx.active = false) ∧ t.adm = s.adm)

/-- Status, features and faults of a die: ready ends an ABORT; a status byte of all ones, or with a reserved bit set, counts as invalid, resets the LUN and fails what ran; a set feature is kept, and FP takes a feature that was set; a reset of a chip enable drops the features of its four dies; a timeout frees the die's context, sets OP_TIMEOUT and counts; RB_N stuck low isolates its channel; a vendor operation that is due starts in the Goods class (R39, R62, R75 to R77, R93, R95, R103). -/
def Obligations.DieStatusCommands : Prop :=
  (∀ (d : Nat) (status : Byte) (s : State), s.opReady d 12 = true → (s.die d).state = .abort → status ≠ 0xFF → status.getLsbD 6 = true →
    ∃ t, exec (.opStatus d ⟨status, false, []⟩) s = .next t ∧ (t.die d).state = .idle ∧ (t.box (chOf d)).status = status ∧ t.media = s.media ∧ t.adm = s.adm) ∧
  (∀ (d : Nat) (status : Byte) (r : Bool) (s : State), s.opReady d 12 = true → status = 0xFF ∨ r = true →
    ∃ t, exec (.opStatus d ⟨status, r, []⟩) s = .next t ∧ t.flag (Reg.SB_CH_ERR_STATUS_INVALID (chOf d)) = true ∧ (t.die d).statusInv = (s.die d).statusInv + 1 ∧
      (t.die d).ctx.active = false ∧ .lunReset d ∈ t.out ∧ t.media.nand = s.media.nand ∧ t.media.map = s.media.map) ∧
  (∀ (d : Nat) (s : State), s.boxRuns (chOf d) = true → (s.die d).ctx.active = true → (s.die d).suspended = false → (s.die d).isol = 0 →
    ∃ t, exec (.opTimeout d false) s = .next t ∧ t.flag (Reg.SB_CH_ERR_OP_TIMEOUT (chOf d)) = true ∧ (t.die d).timeouts = (s.die d).timeouts + 1 ∧
      (t.die d).ctx.active = false ∧ .flashReport d (s.die d).ctx.arg.owner 7 ∈ t.out ∧ .lunReset d ∈ t.out ∧ t.media.nand = s.media.nand ∧ t.media.map = s.media.map) ∧
  (∀ (d : Nat) (feat : Byte) (v : Word) (s : State), s.opReady d 14 = true →
    ∃ t, exec (.opSetFeature d feat ⟨v, []⟩) s = .next t ∧ Table.find (t.die d).features feat.toNat = some v ∧ (t.die d).ctx.fp = v ∧
      (∀ e, e ≠ d → t.die e = s.die e) ∧ t.media = s.media ∧ t.adm = s.adm) ∧
  (∀ (d : Nat) (feat : Byte) (v : Word) (s : State), s.opReady d 15 = true → Table.find (s.die d).features feat.toNat = some v →
    ∃ t, exec (.opGetFeature d ⟨feat, []⟩) s = .next t ∧ (t.die d).ctx.fp = v ∧ (t.die d).features = (s.die d).features ∧
      (∀ e, e ≠ d → t.die e = s.die e) ∧ t.media = s.media ∧ t.adm = s.adm) ∧
  (∀ (ch ce : Nat) (s : State), s.boxFree ch = true → s.hasOp (32 * ch + 4 * ce) 13 = true → s.seqPlace ch = true →
    ∃ t, exec (.opResetCe ch ⟨ce, []⟩) s = .next t ∧ (∀ l, l < 4 → (t.die (32 * ch + 4 * ce + l)).features = []) ∧ (∀ e, (t.die e).state = (s.die e).state) ∧
      t.media = s.media ∧ t.adm = s.adm) ∧
  (∀ (ch ce i : Nat) (answer : CeIdent) (s : State), s.boxFree ch = true → s.descOf 0 16 = some i →
    ∃ t, exec (.opIdentify ch ce ⟨answer, []⟩) s = .next t ∧ t.flash.paramPage = (if answer.responds then some (8 * ch + ce, answer) else none) ∧ t.pcOf ch = s.descField i 0 13 ∧
      t.flash.dies = s.flash.dies ∧ t.media = s.media) ∧
  (∀ (d n i : Nat) (s : State), s.lowerStart d .goods = true → n < 4 → s.descOf (s.die d).dispatchSet (0x1C + n) = some i → (s.die d).state = .idle → s.vendorDue d n = true →
    ∃ t, exec (.opVendor d n) s = .next t ∧ (t.die d).ctx.op = 0x1C + n ∧ (t.die d).ctx.arg.cls = .goods ∧ (t.die d).ctx.resume = s.descField i 0 13 ∧
      Table.find (t.die d).vendorAt n = some s.flash.tick ∧ (t.box (chOf d)).cur.window = (s.box (chOf d)).cur.window - 1 ∧ t.media = s.media ∧ t.regs = s.regs) ∧
  (∀ (ch : Nat) (s : State), ch < s.channels → s.flag (Reg.SB_CH_STAT_ISOLATED ch) = false → (∀ d ∈ diesOf ch, (s.die d).ctx.active = false ∧ (s.die d).reads = []) →
    ∃ t, exec (.rbStuck ch) s = .next t ∧ t.flag (Reg.SB_CH_STAT_ISOLATED ch) = true ∧ t.flag (Reg.SB_CH_STAT_POWERED ch) = false ∧ t.flag (Reg.SB_CH_ERR_CH_ISOLATED ch) = true ∧
      (∀ d ∈ diesOf ch, (s.die d).state ≠ .absent → (t.die d).isol ≠ 0) ∧ t.media.nand = s.media.nand ∧ t.media.map = s.media.map)

/-- Calibration steps, each where it may run on its chip enable: the steps of a training go in order, the first of them writing the interface, termination and driver features; training steps keep the trims they find; a verify pass with good margins makes them the trims of the next tick boundary; another one at boot lowers the channel's rate, and in service, with the 48th slot, fails the RETRAIN once; a drift step moves a delay by at most one from the trims in force or to come and counts the moves, and a low margin schedules a RETRAIN; a chip enable that has waited long enough for a periodic step holds new starts (R68, R69, R71 to R74). -/
def Obligations.CalibrationSteps : Prop :=
  (∀ (ch ce : Nat) (s : State), ∀ p ∈ [(Instr.opZqLong ch ⟨ce, []⟩, 17, 1), (.opDcc ch ⟨ce, []⟩, 19, 2)], s.trainStep ch ce p.2.1 p.2.2 = true →
    ∃ t, exec p.1 s = .next t ∧ (t.ceCal ch ce).stage = p.2.2 ∧ (t.ceCal ch ce).retrainSlots = (s.ceCal ch ce).retrainSlots + 1 ∧ (t.ceCal ch ce).trims = (s.ceCal ch ce).trims ∧
      ((s.ceCal ch ce).stage = 0 → (t.ceCal ch ce).setRate = some (s.rateNow ch)) ∧ t.media = s.media ∧ t.flash.dies = s.flash.dies) ∧
  (∀ (ch ce : Nat) (s : State), s.calReady ch ce 18 = true →
    ∃ t, exec (.opZqShort ch ⟨ce, []⟩) s = .next t ∧ (t.ceCal ch ce).lastCal = (s.ceCal ch ce).lastCal.set 0 s.flash.tick ∧ (t.ceCal ch ce).trims = (s.ceCal ch ce).trims ∧
      t.media = s.media ∧ t.flash.dies = s.flash.dies) ∧
  (∀ (ch ce item value margin : Nat) (s : State), value < 256 → margin < 256 →
    (s.trainStep ch ce 20 3 = true → item < 8 ∨ item = 16 ∨ item = 18 →
      ∃ t, exec (.opReadTrain ch ce ⟨[⟨item, value, margin⟩], []⟩) s = .next t ∧ Table.find (t.ceCal ch ce).found item = some (value, if item = 18 then 0 else margin) ∧
        (t.ceCal ch ce).trims = (s.ceCal ch ce).trims ∧ t.media = s.media ∧ t.flash.dies = s.flash.dies) ∧
    (s.trainStep ch ce 21 4 = true → (8 ≤ item ∧ item < 16) ∨ item = 17 ∨ item = 19 →
      ∃ t, exec (.opWriteTrain ch ce ⟨[⟨item, value, margin⟩], []⟩) s = .next t ∧ Table.find (t.ceCal ch ce).found item = some (value, if item = 19 then 0 else margin) ∧
        (t.ceCal ch ce).trims = (s.ceCal ch ce).trims ∧ t.media = s.media ∧ t.flash.dies = s.flash.dies)) ∧
  (∀ (ch ce : Nat) (s : State), s.trainStep ch ce 22 5 = true → s.flag (Reg.SB_CH_STAT_TRAINED ch) = false ∨ 47 ≤ (s.ceCal ch ce).retrainSlots → s.marginsOk (s.ceCal ch ce).found = true →
    ∃ t, exec (.opTrainVerify ch ce ⟨true, []⟩) s = .next t ∧ (t.ceCal ch ce).newTrims = some (s.ceCal ch ce).found ∧ (t.ceCal ch ce).trained = true ∧
      (t.ceCal ch ce).retrain = false ∧ (t.ceCal ch ce).trims = (s.ceCal ch ce).trims ∧ t.media = s.media ∧ t.flash.dies = s.flash.dies) ∧
  (∀ (ch ce : Nat) (ok : Bool) (s : State), s.trainStep ch ce 22 5 = true → (ok && s.marginsOk (s.ceCal ch ce).found) = false →
    (s.flag (Reg.SB_CH_STAT_TRAINED ch) = false → ce < 8 → rateCode (s.paramN .flashMinRateMts) < s.rateNow ch →
      ∃ t, exec (.opTrainVerify ch ce ⟨ok, []⟩) s = .next t ∧ t.flag (Reg.SB_CH_ERR_TRAIN_FAIL ch) = true ∧ t.rateNow ch = s.rateNow ch - 1 ∧ (t.ceCal ch ce).stage = 0 ∧ (t.ceCal ch ce).trained = false ∧
        t.flash.dies = s.flash.dies ∧ t.media = s.media) ∧
    (s.flag (Reg.SB_CH_STAT_TRAINED ch) = true → 47 ≤ (s.ceCal ch ce).retrainSlots → (s.ceCal ch ce).retrainFailed = false →
      ∃ t, exec (.opTrainVerify ch ce ⟨ok, []⟩) s = .next t ∧ t.flag (Reg.SB_CH_ERR_TRAIN_FAIL ch) = true ∧ (t.ceCal ch ce).retrainFailed = true ∧
        (t.ceCal ch ce).trims = (s.ceCal ch ce).trims ∧ (t.ceCal ch ce).newTrims = (s.ceCal ch ce).newTrims ∧ t.flash.dies = s.flash.dies)) ∧
  (∀ (ch ce item : Nat) (m : EyeMeas) (s : State), ∀ p ∈ [(Instr.opDrift ch ce ⟨[m], []⟩, 23, 1), (.opWdrift ch ce ⟨[m], []⟩, 24, 2)], s.calReady ch ce p.2.1 = true → m.item = item →
    (p.2.1 = 23 → item < 8 ∨ item = 16) → (p.2.1 = 24 → (8 ≤ item ∧ item < 16) ∨ item = 17) →
    (Table.get (0, 0) ((s.ceCal ch ce).newTrims.getD (s.ceCal ch ce).trims) item).1 < 255 → 0 < m.toCentre →
    ∃ t ts, exec p.1 s = .next t ∧ (t.ceCal ch ce).newTrims = some ts ∧ (Table.get (0, 0) ts item).1 = (Table.get (0, 0) ((s.ceCal ch ce).newTrims.getD (s.ceCal ch ce).trims) item).1 + 1 ∧
      t.rget (Reg.SB_CH_CAL_DRIFT_MOVES ch) = min (s.rget (Reg.SB_CH_CAL_DRIFT_MOVES ch) + 1) (2 ^ (Reg.SB_CH_CAL_DRIFT_MOVES ch).width - 1) ∧
      (m.margin < s.paramN .flashDriftMarginMin → (t.ceCal ch ce).retrain = true ∧ t.flag (Reg.SB_CH_ERR_DRIFT_LOW ch) = true) ∧
      (t.ceCal ch ce).lastCal = (s.ceCal ch ce).lastCal.set p.2.2 s.flash.tick ∧ t.media = s.media ∧ t.flash.dies = s.flash.dies) ∧
  (∀ (ch ce i : Nat) (s : State), (s.ceCal ch ce).populated = true → (s.ceCal ch ce).hold = false → s.ceGone ch ce = false → i < 3 → s.paramN .flashCalForcePeriods ≤ s.calWaited (s.ceCal ch ce) i →
    exec (.calForceHold ch ce) s = .next ((s.modCal ch ce fun c => { c with hold := true }).rsat (Reg.SB_CH_CAL_DEFERRED ch)))

/-! ## Identification, training and decoding (chapters 03 and 05) -/

/-- Identification and boot training: CHANNEL_IDENTIFY draws the channel's tokens, waits with its power off where they are missing, and else marks every chip enable that answers as populated and the channel as identified, once; once every channel is identified CHANNEL_TRAIN ends with the channel trained and its temperature kept; a single chip enable that passes at the nominal rate runs at it (R64, R68, R69, R487). Clauses in which a row changes nothing outside its conditions are the model's (log entry 2). -/
def Obligations.ChannelBringUp : Prop :=
  (∀ (ch : Nat) (ces : List CeIdent) (s : State), ch < s.channels → ch ∉ s.flash.identified → s.flag Reg.SB_GLOBAL_LOCK = false → s.plat.linksReleased = true → s.plat.hold = .none →
    s.flag (Reg.SB_CH_STAT_POWERED ch) = false → s.plat.tokens = [] → s.rget Reg.TK_WT_CHANNEL ≤ s.rget Reg.TK_STAT_LEVEL →
    ∃ t, exec (.channelIdentify ch ces) s = .next t ∧ ch ∈ t.flash.identified ∧
      t.rget Reg.TK_STAT_LEVEL = min (s.rget Reg.TK_RATE_POOL_MAX) (s.rget Reg.TK_STAT_LEVEL - s.rget Reg.TK_WT_CHANNEL) % 2 ^ Reg.TK_STAT_LEVEL.width ∧
      (∀ ce a, ce < 8 → ces[ce]? = some a → a.responds = true → (t.ceCal ch ce).populated = true) ∧
      t.media.nand = s.media.nand ∧ t.media.map = s.media.map ∧ t.mem = s.mem ∧ t.sec = s.sec ∧ t.plat = s.plat) ∧
  (∀ (ch : Nat) (ces : List CeIdent) (s : State), ch < s.channels → ch ∉ s.flash.identified → s.flag Reg.SB_GLOBAL_LOCK = false → s.plat.linksReleased = true → s.plat.hold = .none →
    s.flag (Reg.SB_CH_STAT_POWERED ch) = false → s.plat.tokens = [] → s.rget Reg.TK_STAT_LEVEL < s.rget Reg.TK_WT_CHANNEL →
    ∃ t, exec (.channelIdentify ch ces) s = .next t ∧ (t.plat.tokens.map (·.wake)) = [.channel ch] ∧ t.flag (Reg.SB_CH_STAT_POWERED ch) = false ∧ t.flash = s.flash ∧ t.media = s.media) ∧
  (∀ (ch : Nat) (ces : List CeIdent) (s : State), ch ∈ s.flash.identified → exec (.channelIdentify ch ces) s = .next s) ∧
  (∀ (ch : Nat) (ts : List CeTrain) (temp : Int) (s : State), ch < s.channels → (∀ k, k < s.channels → k ∈ s.flash.identified) → s.flag (Reg.SB_CH_STAT_TRAINED ch) = false →
    s.flag (Reg.SB_CH_STAT_ISOLATED ch) = false →
    ∃ t, exec (.channelTrain ch ts temp) s = .next t ∧ t.flag (Reg.SB_CH_STAT_TRAINED ch) = true ∧ t.rget (Reg.SB_CH_CAL_TRAIN_TEMP ch) = unsigned temp 8 % 256 ∧
      t.media.nand = s.media.nand ∧ t.media.map = s.media.map ∧ t.mem = s.mem) ∧
  (∀ (ch : Nat) (x : CeTrain) (temp : Int) (s : State), ch < s.channels → (∀ k, k < s.channels → k ∈ s.flash.identified) → s.flag (Reg.SB_CH_STAT_TRAINED ch) = false →
    s.flag (Reg.SB_CH_STAT_ISOLATED ch) = false → (s.ceCal ch x.ce).populated = true → (s.ceCal ch x.ce).isolated = false → s.ceUntrainable ch x.ce = false →
    s.paramN .flashRateMts ∈ rates → s.paramN .flashMinRateMts ≤ s.paramN .flashRateMts → s.cePasses ch x (s.paramN .flashRateMts) = true →
    ∃ t, exec (.channelTrain ch [x] temp) s = .next t ∧ (t.ceCal ch x.ce).trained = true ∧ (t.ceCal ch x.ce).trainTemp = temp ∧ (t.ceCal ch x.ce).newTrims = some (State.keepTrims [] x.trims) ∧
      t.rget (Reg.SB_CH_STAT_RATE_ACT ch) = rateCode (s.paramN .flashRateMts) ∧ t.flash.dies = s.flash.dies ∧ t.out = s.out)

/-- The decode ladder: the decode in progress in a decoder ends: a good hard or soft decode within its iteration limit ends the codeword's job; a hard decode that does not converge takes it to level 1 with the first row not yet tried; 64 or fewer zero bits and a failed last soft attempt take it to level 3; a reconstruction from the parity its superblock has is counted and ends the job, and one that fails makes the IU unrecoverable in the map (R116, R122 to R126, R153). -/
def Obligations.DecodeLadder : Prop :=
  (∀ (n : Nat) (r : DecRes) (j : Job) (s : State), Table.find s.flash.jobs n = some j → s.fogNand 1 j.die = false → j.failTo ≤ j.level → j.isGood r = true →
   
    (j.state = .hard → s.inDecoder false n = true → r.iter ≤ s.rget Reg.LD_HARD_CFG_ITER_MAX → 64 < r.zeroBits → ∃ t, exec (.hardDecodeDone n r) s = .next t ∧ Table.find t.flash.jobs n = none ∧ t.media.hourReads = s.media.hourReads + 1 ∧ t.mem = s.mem) ∧
    (j.state = .soft → s.inDecoder true n = true → r.iter ≤ s.rget Reg.LD_SOFT_CFG_ITER_MAX → 64 < r.zeroBits → ∃ t, exec (.softDecodeDone n r) s = .next t ∧ Table.find t.flash.jobs n = none ∧ t.media.hourReads = s.media.hourReads + 1 ∧ t.mem = s.mem)) ∧
  (∀ (n row : Nat) (r : DecRes) (j : Job) (s : State), Table.find s.flash.jobs n = some j → s.fogNand 1 j.die = false → j.state = .hard → s.inDecoder false n = true → j.tracks = false → j.level = 0 → r.converged = false → 64 < r.zeroBits →
    (j.rows (s.paramN .readRetrySteps)).find? (fun x => !j.tried.contains x) = some row →
    ∃ t k, exec (.hardDecodeDone n r) s = .next t ∧ Table.find t.flash.jobs n = some k ∧ k.level = 1 ∧ k.state = .sensing ∧ k.step = row ∧ k.tried = j.tried ++ [row] ∧
      t.media.map = s.media.map ∧ t.media.nand = s.media.nand ∧ t.mem = s.mem) ∧
  (∀ (n : Nat) (r : DecRes) (j : Job) (s : State), Table.find s.flash.jobs n = some j → s.fogNand 1 j.die = false → j.state = .hard → s.inDecoder false n = true → j.tracks = false → r.zeroBits ≤ 64 →
    ∃ t k, exec (.hardDecodeDone n r) s = .next t ∧ Table.find t.flash.jobs n = some k ∧ k.state = .recon ∧ k.level = 3 ∧ k.erased = true ∧ t.media.map = s.media.map ∧ t.mem = s.mem) ∧
  (∀ (n : Nat) (r : DecRes) (j : Job) (s : State), Table.find s.flash.jobs n = some j → s.fogNand 1 j.die = false → j.state = .soft → s.inDecoder true n = true → j.soft2 = true → r.converged = false →
    ∃ t k, exec (.softDecodeDone n r) s = .next t ∧ Table.find t.flash.jobs n = some k ∧ k.state = .recon ∧ k.level = 3 ∧ t.media.map = s.media.map ∧ t.mem = s.mem) ∧
  (∀ (n : Nat) (j : Job) (s : State), Table.find s.flash.jobs n = some j → j.state = .recon → s.parityFor j = true →
    ∃ t, exec (.reconstruction n true j.lba j.nsid) s = .next t ∧ Table.find t.flash.jobs n = none ∧
      t.rget Reg.FT_PARITY_CNT_RECON_OK = min (s.rget Reg.FT_PARITY_CNT_RECON_OK + 1) (2 ^ Reg.FT_PARITY_CNT_RECON_OK.width - 1) ∧
      t.media.map = s.media.map ∧ t.mem = s.mem) ∧
  (∀ (n lba nsid : Nat) (j : Job) (x : Stored) (s : State), Table.find s.flash.jobs n = some j → j.state = .recon → j.owner = .relocation ∨ j.owner = .check →
    Table.find s.media.nand.content (s.jobLoc j) = some x → s.mapGet x.slot x.iu = s.jobLoc j →
    ∃ t, exec (.reconstruction n false lba nsid) s = .next t ∧ Table.find t.flash.jobs n = none ∧ t.mapGet x.slot x.iu = entUnrec ∧
      (∀ k, k ≠ mapKey x.slot x.iu → Table.get entDealloc t.media.map k = Table.get entDealloc s.media.map k) ∧
      t.rget Reg.FT_PARITY_CNT_RECON_FAIL = min (s.rget Reg.FT_PARITY_CNT_RECON_FAIL + 1) (2 ^ Reg.FT_PARITY_CNT_RECON_FAIL.width - 1) ∧ t.media.nand.content = s.media.nand.content)

/-! ## The Yard (chapter 07) -/

/-- Patrol and ageing: a period registers its share of the samples left, at the last one samples outstanding set LATE and are finished first, and a pass that is complete begins the next with the samples of every verified superblock; the counters-only scheme makes one tracking read of each block, on page 127 n; a day adds one to AGE of every tracker entry, up to 255, and to nothing else of it. Block checks, static relocation and the hourly indicators: a clean check puts the Milepost counter at half the limit; a bad one queues the superblock and counts; a check with pages still to read, or of a superblock not yet verified, waits; each group queues at most static_per_day superblocks; the indicators show the last hour's figures and the figures start again (R177 to R179, R182 to R185, R189). Clauses in which a row changes nothing outside its conditions are the model's (log entry 2). -/
def Obligations.PatrolAndYard : Prop :=
  (∀ (k : Nat) (s : State), s.paramN .patrolDisturbScheme ≠ 1 → s.media.quiesced = false → 0 < k →
    ∃ t l, exec (.patrolPeriod k) s = .next t ∧ t.media.samplesLeft = s.media.samplesLeft - ceilDiv s.media.samplesLeft k ∧ t.media.due = s.media.due ++ l ∧
      l.length ≤ ceilDiv s.media.samplesLeft k ∧ t.media.nand = s.media.nand ∧ t.media.map = s.media.map ∧ t.flash = s.flash ∧ t.regs = s.regs) ∧
  (∀ s : State, s.paramN .patrolDisturbScheme ≠ 1 → s.media.quiesced = false → s.media.due ≠ [] ∨ s.media.walkBlocks ≠ [] →
    ∃ t l, exec (.patrolPeriod 0) s = .next t ∧ t.rget Reg.FT_PATROL_STAT_LATE = 1 ∧ t.media.samplesLeft = 0 ∧ t.media.due = s.media.due ++ l ∧ t.media.pass = s.media.pass ∧
      t.media.nand = s.media.nand ∧ t.media.map = s.media.map ∧ t.flash = s.flash) ∧
  (∀ s : State, s.paramN .patrolDisturbScheme ≠ 1 → s.media.quiesced = false → s.media.due = [] → s.media.walkBlocks = [] →
    ∃ t, exec (.patrolPeriod 0) s = .next t ∧ t.media.pass = s.media.pass + 1 ∧ t.media.samplesDone = 0 ∧
      t.media.samplesTotal = (s.passSbs.map fun p => s.sampleTotal p.2).sum ∧ t.media.walkBlocks = s.passSbs.flatMap (fun p => State.sbBlocks p.2) ∧
      t.media.samplesLeft = t.media.samplesTotal ∧ t.rget Reg.FT_PATROL_STAT_DONE_PCT = 0 ∧ t.media.nand = s.media.nand ∧ t.media.map = s.media.map) ∧
  (∀ s : State, s.paramN .patrolDisturbScheme = 1 → s.media.quiesced = false →
    ∃ t, exec (.patrolPeriod 0) s = .next t ∧ t.media.pass = s.media.pass + 1 ∧ (∀ q ∈ t.media.trackDue, q.2 = 127 * (s.media.pass + 1) % max 1 s.pagesPer) ∧
      t.media.nand = s.media.nand ∧ t.media.map = s.media.map ∧ t.flash = s.flash) ∧
  (∀ s : State, ∃ t, exec .trackerAge s = .next t ∧ (∀ b, bits (t.tracker b) 16 8 = min 255 (bits (s.tracker b) 16 8 + 1) ∧ bits (t.tracker b) 0 16 = bits (s.tracker b) 0 16 ∧
      bits (t.tracker b) 24 8 = bits (s.tracker b) 24 8) ∧ t.media = s.media ∧ t.regs = s.regs ∧ t.flash.jobs = s.flash.jobs) ∧
  (∀ (ch l plane block n : Nat) (x : List Nat × SampleWorst) (b : Superblock) (s : State), (s.blockInfo (State.blockNo (32 * ch + l) plane block)).check = true →
    (s.blockInfo (State.blockNo (32 * ch + l) plane block)).serial = some n → s.sb n = some b → b.state = .verified →
    Table.get ([], ⟨0, 0, false, false⟩) s.media.checks (State.blockNo (32 * ch + l) plane block) = x → (∀ p ∈ s.checkPages (State.blockNo (32 * ch + l) plane block) b, p ∈ x.1) → s.refreshSource x.2 = 0 →
    ∃ t, exec (.blockCheck ch l plane block) s = .next t ∧ (t.blockInfo (State.blockNo (32 * ch + l) plane block)).milepost = s.paramN .patrolMilepostLimit / 2 ∧
      (t.blockInfo (State.blockNo (32 * ch + l) plane block)).check = false ∧
      t.rget Reg.FT_MILEPOST_CNT_CHECK_CLEAN = min (s.rget Reg.FT_MILEPOST_CNT_CHECK_CLEAN + 1) (2 ^ Reg.FT_MILEPOST_CNT_CHECK_CLEAN.width - 1) ∧
      t.media.map = s.media.map ∧ t.media.nand.content = s.media.nand.content) ∧
  (∀ (ch l plane block n : Nat) (x : List Nat × SampleWorst) (b : Superblock) (s : State), (s.blockInfo (State.blockNo (32 * ch + l) plane block)).check = true →
    (s.blockInfo (State.blockNo (32 * ch + l) plane block)).serial = some n → s.sb n = some b → b.state = .verified →
    Table.get ([], ⟨0, 0, false, false⟩) s.media.checks (State.blockNo (32 * ch + l) plane block) = x → (∀ p ∈ s.checkPages (State.blockNo (32 * ch + l) plane block) b, p ∈ x.1) → s.refreshSource x.2 ≠ 0 →
    ∃ t, exec (.blockCheck ch l plane block) s = .next t ∧ (t.blockInfo (State.blockNo (32 * ch + l) plane block)).check = false ∧
      t.rget Reg.FT_MILEPOST_CNT_CHECK_REFRESH = min (s.rget Reg.FT_MILEPOST_CNT_CHECK_REFRESH + 1) (2 ^ Reg.FT_MILEPOST_CNT_CHECK_REFRESH.width - 1) ∧
      t.media.map = s.media.map ∧ t.media.nand.content = s.media.nand.content) ∧
  (∀ (ch l plane block n p : Nat) (b : Superblock) (s : State), (s.blockInfo (State.blockNo (32 * ch + l) plane block)).serial = some n → s.sb n = some b → b.state = .verified →
    p ∈ s.checkPages (State.blockNo (32 * ch + l) plane block) b → p ∉ (Table.get ([], ⟨0, 0, false, false⟩) s.media.checks (State.blockNo (32 * ch + l) plane block)).1 → exec (.blockCheck ch l plane block) s = .next s) ∧
  (∀ (ch l plane block n : Nat) (b : Superblock) (s : State), (s.blockInfo (State.blockNo (32 * ch + l) plane block)).serial = some n → s.sb n = some b → b.state = .closed →
    exec (.blockCheck ch l plane block) s = .next s) ∧
  (∀ s : State, ∃ t, exec .staticRelocationScan s = .next t ∧ (∀ g, g < s.groupCount → (t.grp g).staticToday ≤ s.paramN .wearStaticPerDay) ∧
      t.media.map = s.media.map ∧ t.media.nand.content = s.media.nand.content ∧ t.flash = s.flash) ∧
  (∀ s : State, ∃ t, exec .indicatorUpdate s = .next t ∧
      t.rget Reg.FT_WEAR_STAT_EW_RATE = bit (decide (s.paramN .wearEwRatePpm * s.media.hourReads < s.media.hourEw * 1000000)) ∧
      t.rget Reg.FT_WEAR_STAT_RETRY_RATE = bit (decide (s.paramN .wearRetryRatePpm * s.media.hourReads < s.media.hourRetry * 1000000)) ∧
      t.rget Reg.FT_WEAR_STAT_CLASS_LOSS = bit (decide (s.paramN .wearClassLossPpm * s.media.hourHost < s.media.hourLoss * 1000000)) ∧
      t.media.hourReads = 0 ∧ t.media.hourEw = 0 ∧ t.media.hourRetry = 0 ∧ t.media.hourHost = 0 ∧ t.media.hourLoss = 0 ∧ t.media.map = s.media.map ∧
      t.media.nand = s.media.nand ∧ t.flash = s.flash)

/-! ## Hold-up (chapter 08) -/

/-- The Tender: a sample sets the two voltages and the time the input has been low; the limit update stores the largest limit that the bank can flush, held down by a repeat measurement, and never leaves FT_DIRTY.LIMIT above it; a write of MEASURE, or remeasure_h hours of tick time, lowers the limit first (R144, R197, R199, R201, R203, R205, R516). That FT_DIRTY.LIMIT takes TENDER_MAX at the limit update is the model's reading (log entry 27). Clauses in which a row changes nothing outside its conditions are the model's (log entry 2). -/
def Obligations.TenderCommands : Prop :=
  (∀ (bank vin : Nat) (s : State), ∃ t, exec (.tenderSample bank vin) s = .next t ∧ t.rget Reg.FT_HU_VOLT_BANK_MV = State.senseMv bank (s.paramN .holdupSenseDiv) ∧
      t.rget Reg.FT_HU_VOLT_VIN_MV = State.senseMv vin (s.paramN .holdupVinDiv) ∧
      (State.senseMv vin (s.paramN .holdupVinDiv) < s.paramN .holdupVinFailMv → vin < 4095 → t.media.vinLow = s.media.vinLow + 1 ∧ t.media.vinHigh = 0) ∧
      (s.paramN .holdupVinFailMv ≤ State.senseMv vin (s.paramN .holdupVinDiv) → t.media.vinLow = 0) ∧
      (4095 ≤ vin → t.media.vinLow = 0) ∧ t.media.nand = s.media.nand ∧ t.media.flush = s.media.flush ∧ t.media.parcels = s.media.parcels) ∧
  (∀ s : State, s.paramN .holdupEnable ≠ 0 → s.flushing = false →
    ∃ t, exec .tenderLimitUpdate s = .next t ∧
      (s.media.measureCap = none → t.rget Reg.FT_DIRTY_MAX_TENDER_MAX = s.tenderFor (s.rget Reg.FT_HU_VOLT_BANK_MV)) ∧
      (∀ c, s.media.measureCap = some c → t.rget Reg.FT_DIRTY_MAX_TENDER_MAX = min c (s.tenderFor (s.rget Reg.FT_HU_VOLT_BANK_MV))) ∧
      t.rget Reg.FT_DIRTY_LIMIT ≤ t.rget Reg.FT_DIRTY_MAX_TENDER_MAX ∧
      (s.media.repeatRun = false → t.rget Reg.FT_HU_STAT_SAG = bit (decide (t.rget Reg.FT_DIRTY_MAX_TENDER_MAX < s.paramN .holdupMinParcels))) ∧
      t.media.nand = s.media.nand ∧ t.media.map = s.media.map ∧ t.media.parcels = s.media.parcels) ∧
  (∀ s : State, s.paramN .holdupEnable ≠ 0 → s.media.measure = .idle → s.media.bootMeasured = true → s.flushing = false →
    ∃ t, exec .repeatMeasurement s = .next t ∧ t.media.measure = .lowering ∧ t.media.repeatRun = true ∧
      t.media.measureCap = some (s.tenderFor (s.rget Reg.FT_HU_VOLT_BANK_MV - s.paramN .holdupMeasureDropMv)) ∧ t.rget Reg.FT_HU_STAT_MEASURING = 1 ∧
      t.rget Reg.FT_DIRTY_LIMIT ≤ t.rget Reg.FT_DIRTY_MAX_TENDER_MAX ∧ t.media.nand = s.media.nand ∧ t.media.cap = s.media.cap ∧
      (s.paramN .holdupRemeasureH ≠ 0 → s.paramN .holdupRemeasureH * 3600000000000 ≤ (s.flash.tick - s.media.measuredAt) * 8192 → exec .remeasureTimer s = .next t)) ∧
  (∀ s : State, s.paramN .holdupRemeasureH = 0 → exec .remeasureTimer s = .next s)

/-- The bank measurement: with the dirty count at the lowered limit the bank settles, a settled bank that is not at full scale discharges, and a fall of 1 ms to 2 s gives C; any other end leaves C at 0 and is counted; both end with the charger on and the load off; TENDER_MAX of a bank voltage is the largest L, up to 65,536, whose flush time fits the time the bank gives: it fits or is 0, and no greater L fits (R198 to R201, R203, R516). Clauses in which a row changes nothing outside its conditions are the model's (log entry 2). -/
def Obligations.MeasurementCommands : Prop :=
  (∀ (mv : Nat) (s : State), s.paramN .holdupVMinMv < mv → s.media.cap ≠ 0 → s.flushGroups ≠ [] →
    s.tenderFor mv ≤ 65536 ∧ (s.tenderFor mv ≠ 0 → (s.tFlush (s.tenderFor mv) : Int) ≤ s.availNs mv) ∧
    (∀ l, s.tenderFor mv < l → l ≤ 65536 → s.availNs mv < (s.tFlush l : Int))) ∧
  (∀ s : State, s.media.measure = .lowering → s.dirtyCount ≤ s.media.measureCap.getD 0 →
    exec .measureDischargeStart s = .next (s.modMedia fun m => { m with measure := .settling })) ∧
  (∀ s : State, s.media.measure = .settling → s.media.bankFull = false →
    exec .bankSettled s = .next (s.modMedia fun m => { m with measure := .discharging, chgEn := false, dis := true })) ∧
  (∀ s : State, s.media.bankFull = true → exec .bankSettled s = .next s) ∧
  (∀ (us : Nat) (s : State), s.media.measure = .discharging → 1000 ≤ us → us ≤ 2000000 →
    ∃ t, exec (.bankFallTimed us) s = .next t ∧ t.media.cap = s.paramN .holdupDischargeMa * us / s.paramN .holdupMeasureDropMv ∧ t.media.measure = .idle ∧
      t.media.chgEn = true ∧ t.media.dis = false ∧ t.rget Reg.FT_HU_STAT_MEASURED = 1 ∧ t.rget Reg.FT_HU_STAT_MEASURING = 0 ∧ t.media.nand = s.media.nand ∧ t.flash = s.flash) ∧
  (∀ (us : Nat) (s : State), s.media.measure = .discharging → us < 1000 ∨ 2000000 < us →
    ∃ t, exec (.bankFallTimed us) s = .next t ∧ exec .measureTimeout s = .next t ∧ t.media.cap = 0 ∧ t.media.measure = .idle ∧ t.media.chgEn = true ∧ t.media.dis = false ∧
      t.rget Reg.FT_HU_CNT_MEASURE_FAILS = min (s.rget Reg.FT_HU_CNT_MEASURE_FAILS + 1) (2 ^ Reg.FT_HU_CNT_MEASURE_FAILS.width - 1) ∧ t.media.nand = s.media.nand) ∧
  (∀ s : State, s.media.measure = .settling → ∃ t, exec .measureTimeout s = .next t ∧ t.media.cap = 0 ∧ t.media.measure = .idle ∧ t.rget Reg.FT_HU_STAT_MEASURING = 0 ∧
      t.media.nand = s.media.nand ∧ t.flash = s.flash)

/-- The flush: a sag that lasts withdraws the write cache; an input low for the filter time starts a flush with cause 1, which stops every start, drops the reads, sets the flush budget and turns the charger off; its programs are loaded as the budget has places; one that ends is marked passed or failed, and passed data adds its parcels to the count; a depleted bank stops the device with every WP_N low; a recovery closes every open superblock, counts an unclean stop and ends once (R203, R205, R207 to R211, R215). Clauses in which a row changes nothing outside its conditions are the model's (log entry 2). -/
def Obligations.FlushCommands : Prop :=
  (∀ s : State, s.flag Reg.FT_HU_STAT_SAG = true → s.cachePresent = true → s.paramN .holdupSagMs ≤ s.media.sagMs → s.media.repeatRun = false →
    ∃ t, exec .sagTimeout s = .next t ∧ t.rget Reg.FT_HU_STAT_WITHDRAWN = 1 ∧ t.rget Reg.FT_STAT_VWC = 0 ∧ t.cachePresent = false ∧ t.media.nand = s.media.nand ∧ t.flash = s.flash) ∧
  (∀ s : State, s.flushing = false → 0 < s.media.vinLow → s.paramN .holdupVinFilterUs ≤ (s.media.vinLow - 1) * 10 →
    ∃ t, exec .powerFailDeclare s = .next t ∧ t.media.flush = .running ∧ t.media.nand.flushCause = 1 ∧ t.media.chgEn = false ∧ t.flash.startsStopped = true ∧ t.flash.xreads = [] ∧
      t.rget Reg.TT_BUDGET_EFF_PROG = s.flushPrograms % 2 ^ 9 ∧ t.media.map = s.media.map ∧ t.media.nand.content = s.media.nand.content ∧ t.adm = s.adm) ∧
  (∀ s : State, s.media.flush = .running →
    ∃ t, exec .flushProgramLoad s = .next t ∧
      t.media.flushUnits = State.loadUnits s.media.flushUnits (s.rget Reg.TT_BUDGET_EFF_PROG - s.flushBusy.length) s.media.flushUnits ∧
      t.media.map = s.media.map ∧ t.media.nand.content = s.media.nand.content ∧ t.flash = s.flash) ∧
  (∀ (i : Nat) (ok : Bool) (u : FlushUnit) (s : State), s.media.flushUnits[i]? = some u → u.loaded = true → u.ended = false → s.flushing = true →
    ∃ t, exec (.flushProgramDone i ok) s = .next t ∧ t.media.flushUnits[i]? = some { u with ended := true, passed := ok } ∧
      (ok = true → u.kind = .data → t.media.nand.flushParcels = s.media.nand.flushParcels + (u.parcels.filter (· != State.padParcel)).length) ∧
      (ok = false → t.media.nand.content = s.media.nand.content) ∧ t.media.map = s.media.map ∧ t.flash = s.flash) ∧
  (∀ s : State, s.media.flush = .running → s.rget Reg.FT_HU_VOLT_BANK_MV ≤ s.paramN .holdupVMinMv →
    ∃ t, exec .bankDepleted s = .next t ∧ t.media.flush = .stopped ∧ (∀ ch, ch < s.channels → t.rget (Reg.SB_CH_STAT_WP ch) = 0) ∧ t.media.nand = s.media.nand ∧ t.flash = s.flash) ∧
  (∀ (env : RecoveryEnv) (s : State), s.booting = true → s.plat.ready = false → s.plat.recovered = false → s.needsRecovery = true → s.flag Reg.GD_STAT_SIGNED = true → s.channelsUp = true →
    ∃ t, exec (.recovery env) s = .next t ∧ t.plat.recovered = true ∧ t.media.nand.unclean = s.media.nand.unclean + 1 ∧ t.rget Reg.FT_HU_STAT_LAST_UNCLEAN = 1 ∧
      t.media.nand.flushed = [] ∧ (∀ n b h, t.sb n = some b → b.stream = .host h → b.state ≠ .open_) ∧ t.sec = s.sec ∧ t.ports = s.ports) ∧
  (∀ (env : RecoveryEnv) (s : State), s.plat.recovered = true → exec (.recovery env) s = .next s)

/-! ## Branch Link (chapter 13) -/

/-- Reception on a Branch port: a packet that passes every check is acknowledged and passed up, the next number is expected and its nonce may not come again; one with a bad CRC is answered with one NAK and changes no number; one whose tag does not verify, or whose nonce is not greater than the last, freezes the queue, counts, and enters the error log (R331, R335, R345, R346). -/
def Obligations.PacketReception : Prop :=
  ∀ (p typ tag : Nat) (h : BlHdr) (s : State),
    (s.packetOk p typ h = true → ∃ t, s.blRecv p typ tag h = (t, true) ∧ (t.bl p).recvSeq = ((s.bl p).recvSeq + 1) % 65536 ∧ .control p 0x40 h.lseq 0 ∈ t.out ∧
      (typ ≠ 0x10 → typ ≠ 0x11 → (t.bl p).rxNext = h.counter + 1) ∧ t.media = s.media ∧ t.adm = s.adm ∧ t.regs = s.regs) ∧
    ((s.bl p).lanes ≠ 0 → s.blInUse p = true → h.crcOk = false → (s.bl p).nakSent = false →
      ∃ t, s.blRecv p typ tag h = (t, false) ∧ .control p 0x41 (((s.bl p).recvSeq + 65535) % 65536) 0 ∈ t.out ∧ (t.bl p).nakSent = true ∧ (t.bl p).recvSeq = (s.bl p).recvSeq ∧
        t.media = s.media ∧ t.adm = s.adm ∧ t.regs = s.regs) ∧
    ((s.bl p).lanes ≠ 0 → s.blInUse p = true → h.crcOk = true → h.lseq = (s.bl p).recvSeq → h.typ ≠ 0x10 → h.typ ≠ 0x11 → (s.bl p).session = true →
      (h.authOk = false → ∃ t, s.blRecv p typ tag h = (t, false) ∧ t.flag (Reg.BL_STAT_FROZEN p) = true ∧ t.link.errors.head?.map (·.code) = some 1 ∧
        t.rget (Reg.BL_ERRCNT_AUTH p) = min (s.rget (Reg.BL_ERRCNT_AUTH p) + 1) (2 ^ (Reg.BL_ERRCNT_AUTH p).width - 1) ∧ t.media = s.media ∧ t.adm = s.adm) ∧
      (h.authOk = true → h.counter < (s.bl p).rxNext → ∃ t, s.blRecv p typ tag h = (t, false) ∧ t.flag (Reg.BL_STAT_FROZEN p) = true ∧
        t.link.errors.head?.map (·.code) = some 2 ∧ t.media = s.media ∧ t.adm = s.adm))

/-- The link: training starts; a link that comes up has fresh numbers and the peer's credits; one that goes down loses session, replay buffer and, at a worker, its outstanding commands; an ACK takes packets off the replay buffer, a NAK or a replay timeout sends them again, and the fourth replay retrains; credits grow up to their limits; HELLO is sent, and its exchange opens a session or refuses it with its cause (R328, R331, R333, R334, R349). -/
def Obligations.LinkCommands : Prop :=
  (∀ (p : Nat) (s : State), s.blInUse p = true → (s.bl p).lanes = 0 → exec (.blLinkTrain p) s = .next (s.rset (Reg.BL_STAT_STATE p) 1)) ∧
  (∀ (p lanes : Nat) (s : State), s.blInUse p = true → lanes = 1 ∨ lanes = 2 → (s.bl p).lanes = 0 → (s.bl p).retraining = false →
    ∃ t, exec (.branchLinkUp p lanes) s = .next t ∧ (t.bl p).lanes = lanes ∧ (t.bl p).recvSeq = 0 ∧ (t.bl p).session = false ∧ t.rget (Reg.BL_STAT_STATE p) = 2 ∧
      (s.mode = .worker → (t.bl p).hdr = 64 ∧ (t.bl p).data = 512 ∧ (t.bl p).sendSeq = 0) ∧ t.media = s.media ∧ t.adm = s.adm) ∧
  (∀ (p : Nat) (s : State), (s.bl p).lanes ≠ 0 → s.blInUse p = true →
    ∃ t, exec (.branchLinkDown p) s = .next t ∧ (t.bl p).lanes = 0 ∧ (t.bl p).session = false ∧ (t.bl p).replay = [] ∧ (t.bl p).waiting = [] ∧ t.rget (Reg.BL_STAT_STATE p) = 5 ∧
      (s.mode = .worker → t.link.inTags = [])) ∧
  (∀ (p lseq : Nat) (s : State), ((s.bl p).replay.any fun k => k.lseq == lseq) = true → (s.bl p).waiting = [] →
    ∃ t, exec (.ack p lseq) s = .next t ∧ (t.bl p).replay = ((s.bl p).replay.dropWhile fun k => k.lseq != lseq).drop 1 ∧ (t.bl p).replays = 0 ∧ t.media = s.media ∧ t.regs = s.regs) ∧
  (∀ (p lseq : Nat) (s : State), p < 6 → (s.bl p).replay ≠ [] → (s.bl p).lanes ≠ 0 →
    ∃ t, exec (.nak p lseq) s = .next t ∧ exec (.replayTimeout p) s = .next t ∧ (t.bl p).replay = (s.bl p).replay ∧
      t.rget (Reg.BL_LINK_REPLAYS p) = min (s.rget (Reg.BL_LINK_REPLAYS p) + 1) (2 ^ (Reg.BL_LINK_REPLAYS p).width - 1) ∧
      ((s.bl p).replays + 1 < 4 → (t.bl p).retraining = (s.bl p).retraining) ∧ (4 ≤ (s.bl p).replays + 1 → (t.bl p).retraining = true ∧ (t.bl p).replays = 0) ∧ t.media = s.media) ∧
  (∀ (p hdr dat : Nat) (s : State), (s.bl p).lanes ≠ 0 → (s.bl p).waiting = [] →
    ∃ t, exec (.credit p hdr dat) s = .next t ∧ (t.bl p).hdr = min 64 ((s.bl p).hdr + hdr) ∧ (t.bl p).data = min 512 ((s.bl p).data + dat) ∧ t.media = s.media ∧ t.regs = s.regs) ∧
  (∀ (p : Nat) (s : State), s.mode = .manager → s.blInUse p = true → (s.bl p).lanes ≠ 0 → (s.bl p).session = false →
    ∃ t k, exec (.helloRepeat p) s = .next t ∧ k.typ = 0x10 ∧ t.queuedOrSent p k ∧ t.rget (Reg.BL_STAT_STATE p) = 2 ∧ t.media = s.media) ∧
  (∀ (h : Hello) (s : State), s.mode = .worker → s.plat.ready = true → s.packetOk 0 0x10 h.h = true →
    (State.helloVerifies h false = true → ∃ t k, exec (.hello h) s = .next t ∧ t.rget (Reg.BL_STAT_STATE 0) = 3 ∧ (t.bl 0).session = true ∧ (t.bl 0).serial = h.serial ∧
      k.typ = 0x11 ∧ t.queuedOrSent 0 k ∧ t.media = s.media) ∧
    (State.helloVerifies h false = false → ∃ t, exec (.hello h) s = .next t ∧ t.rget (Reg.BL_STAT_STATE 0) = 4 ∧ t.rget (Reg.BL_STAT_REFUSE_CAUSE 0) = 1 ∧
      (t.bl 0).session = (s.bl 0).session ∧ t.media = s.media)) ∧
  (∀ (p : Nat) (h : Hello) (s : State), s.mode = .manager → s.rget (Reg.BL_STAT_STATE p) = 2 → s.packetOk p 0x11 h.h = true →
    (s.helloRefusal p h = 0 → ∃ t, exec (.helloAck p h) s = .next t ∧ t.rget (Reg.BL_STAT_STATE p) = 3 ∧ t.rget (Reg.BL_STAT_MEMBER p) = h.member ∧ (t.bl p).session = true ∧
      (t.bl p).serial = h.serial ∧ t.media = s.media) ∧
    (s.helloRefusal p h ≠ 0 → ∃ t, exec (.helloAck p h) s = .next t ∧ t.rget (Reg.BL_STAT_STATE p) = 4 ∧ t.rget (Reg.BL_STAT_REFUSE_CAUSE p) = s.helloRefusal p h ∧
      (t.bl p).session = (s.bl p).session ∧ t.media = s.media))

/-- A worker's commands: READ, WRITE, WRITE_DELTA, PARITY_APPLY, DEALLOCATE and FLUSH take a context in arrival order and hold their tag; a refused one answers with its status at once; one that arrives on a frozen queue answers FROZEN; one that repeats an outstanding tag freezes the queue (R25, R336 to R338, R342, R346). -/
def Obligations.WorkerCommands : Prop :=
  ∀ (c : BlCmd) (s : State), ∀ i ∈ [(Instr.blRead c, 1), (.blWrite c, 2), (.writeDelta c, 3), (.parityApply c, 4), (.deallocate c, 5), (.blFlush c, 6)],
    (∀ n, s.cmdOk c i.2 = true → s.freeCtx 1 = some n →
      ∃ t x, exec i.1 s = .next t ∧ t.ctx n = some x ∧ x.sqe = State.blSqe c ∧ x.seq = s.adm.seq ∧ t.adm.seq = s.adm.seq + 1 ∧
        (Table.find t.link.inTags c.tag).map (·.ctx) = some n ∧ t.media = s.media ∧ t.mem = s.mem) ∧
    (c.opcode = i.2 → s.packetOk 0 0x01 c.h = true → Table.find s.link.inTags c.tag = none → s.link.inTags.length < 512 → s.flag (Reg.BL_STAT_FROZEN 0) = false → s.blRefusal c ≠ 0 →
      ∃ t, exec i.1 s = .next t ∧ t.queuedOrSent 0 ⟨0x04, false, c.tag, [], State.respBody (s.blRefusal c) 0 0 [] []⟩ ∧ Table.find t.link.inTags c.tag = none ∧
        t.adm.ctxs = s.adm.ctxs ∧ t.media = s.media) ∧
    (c.opcode = i.2 → s.packetOk 0 0x01 c.h = true → Table.find s.link.inTags c.tag = none → s.link.inTags.length < 512 → s.flag (Reg.BL_STAT_FROZEN 0) = true →
      ∃ t, exec i.1 s = .next t ∧ t.queuedOrSent 0 ⟨0x04, false, c.tag, [], State.respBody 8 0 0 [] []⟩ ∧ t.adm.ctxs = s.adm.ctxs ∧ t.media = s.media) ∧
    (c.opcode = i.2 → s.packetOk 0 0x01 c.h = true → (Table.find s.link.inTags c.tag).isSome = true →
      ∃ t, exec i.1 s = .next t ∧ t.flag (Reg.BL_STAT_FROZEN 0) = true ∧ t.link.errors.head?.map (·.code) = some 5 ∧ t.adm.ctxs = s.adm.ctxs ∧ t.media = s.media)

/-- A worker's other services: IDENTIFY answers with data; VOLUME_CREATE makes the volume where none is, and VOLUME_DELETE removes it; SANITIZE starts its action; SET_TIME sets the Station clock; a log that exists is returned and another is refused; RESUME naming the newest entry ends the freeze and another is STALE; ABORT of an unknown tag is acknowledged NO_SUCH_TAG, and of a running command ends it (R313, R318, R323, R337, R338, R344, R347, R348). -/
def Obligations.WorkerServices : Prop :=
  (∀ (c : BlCmd) (s : State), s.cmdOk c 7 = true →
    ∃ t, exec (.blIdentify c) s = .next t ∧ t.queuedOrSent 0 ⟨0x03, true, c.tag, leBytes 4 0, s.identifyBlock⟩ ∧
      t.queuedOrSent 0 ⟨0x04, false, c.tag, [], State.respBody 0 0 1 [] []⟩ ∧ t.media = s.media ∧ t.adm = s.adm) ∧
  (∀ (c : BlCmd) (capacity iuShift : Nat) (s : State), s.cmdOk c 8 = true → (s.volume c.volume).isNone = true → iuShift = 12 ∨ iuShift = 14 → capacity ≠ 0 →
    State.granulesFor iuShift (capacity * 4096) ≤ s.freeGranules → capacity * 4096 ≤ s.localFree →
    ∃ t v, exec (.volumeCreate c capacity iuShift) s = .next t ∧ t.volume c.volume = some v ∧ v.nsze = capacity ∧ v.iuShift = iuShift ∧
      t.queuedOrSent 0 ⟨0x04, false, c.tag, [], State.respBody 0 0 0 [] []⟩ ∧ t.media.map = s.media.map ∧ t.media.nand.content = s.media.nand.content) ∧
  (∀ (c : BlCmd) (capacity iuShift : Nat) (s : State), s.cmdOk c 8 = true → (s.volume c.volume).isSome = true →
    ∃ t, exec (.volumeCreate c capacity iuShift) s = .next t ∧ t.queuedOrSent 0 ⟨0x04, false, c.tag, [], State.respBody 4 0 0 [] []⟩ ∧ t.media = s.media) ∧
  (∀ (c : BlCmd) (s : State), s.cmdOk c 9 = true → s.nsQuiet (fun x => x == c.volume % 128) = true →
    ∃ t, exec (.volumeDelete c) s = .next t ∧ t.volume c.volume = none ∧ t.queuedOrSent 0 ⟨0x04, false, c.tag, [], State.respBody 0 0 0 [] []⟩ ∧ t.mem = s.mem ∧ t.flash = s.flash) ∧
  (∀ (c : BlCmd) (sanact owpass : Nat) (ovrpat : Word) (s : State), s.cmdOk c 0x0A = true → sanact = 2 ∨ sanact = 4 ∨ (sanact = 3 ∧ 1 ≤ owpass ∧ owpass ≤ 16) →
    ∃ t z, exec (.blSanitize c sanact owpass ovrpat) s = .next t ∧ t.adm.sanitize = some z ∧ z.action = sanact ∧ z.running = true ∧ z.owpass = owpass ∧ z.ovrpat = ovrpat ∧
      t.mem = s.mem ∧ t.ctls = s.ctls) ∧
  (∀ (c : BlCmd) (ms : Nat) (s : State), s.cmdOk c 0x0B = true →
    ∃ t, exec (.blSetTime c ms) s = .next t ∧ t.sec.clockMs = ms % 2 ^ 48 ∧ t.rget Reg.SC_STAT_VALID = 1 ∧ t.rget Reg.SC_STAT_LOST = 0 ∧
      t.queuedOrSent 0 ⟨0x04, false, c.tag, [], State.respBody 0 0 0 [] []⟩ ∧ t.media = s.media ∧ t.adm = s.adm) ∧
  (∀ (h : BlHdr) (tag logId numd offset boot : Nat) (s : State), s.packetOk 0 0x07 h = true → Table.find s.link.inTags tag = none → s.link.inTags.length < 512 →
    (1 ≤ logId → logId ≤ 4 → ∃ t, exec (.logRead h tag logId numd offset boot) s = .next t ∧ t.queuedOrSent 0 ⟨0x04, false, tag, [], State.respBody 0 0 0 [] []⟩ ∧
      t.media = s.media ∧ t.adm = s.adm) ∧
    (logId = 0 ∨ 5 < logId → ∃ t, exec (.logRead h tag logId numd offset boot) s = .next t ∧ t.queuedOrSent 0 ⟨0x04, false, tag, [], State.respBody 4 0 0 [] []⟩ ∧
      t.media = s.media ∧ t.adm = s.adm)) ∧
  (∀ (h : BlHdr) (entry : Nat) (s : State), s.packetOk 0 0x08 h = true →
    (s.flag (Reg.BL_STAT_FROZEN 0) = false ∨ entry = s.newestErr → ∃ t, exec (.resume h entry) s = .next t ∧ t.flag (Reg.BL_STAT_FROZEN 0) = false ∧
      t.queuedOrSent 0 ⟨0x09, false, 0, [0, 0, 0, 0] ++ leBytes 4 s.newestErr, []⟩ ∧ t.media = s.media ∧ t.adm = s.adm) ∧
    (s.flag (Reg.BL_STAT_FROZEN 0) = true → entry ≠ s.newestErr → ∃ t, exec (.resume h entry) s = .next t ∧ t.flag (Reg.BL_STAT_FROZEN 0) = true ∧
      t.queuedOrSent 0 ⟨0x09, false, 0, [1, 0, 0, 0] ++ leBytes 4 s.newestErr, []⟩ ∧ t.media = s.media ∧ t.adm = s.adm)) ∧
  (∀ (h : BlHdr) (tag : Nat) (s : State), s.packetOk 0 0x05 h = true → Table.find s.link.inTags tag = none →
    ∃ t, exec (.blAbort h tag) s = .next t ∧ t.queuedOrSent 0 ⟨0x06, false, tag, [1], []⟩ ∧ t.media = s.media ∧ t.adm = s.adm) ∧
  (∀ (h : BlHdr) (tag : Nat) (x : BlIn) (c : Ctx) (s : State), s.packetOk 0 0x05 h = true → Table.find s.link.inTags tag = some x → x.opcode ≠ 0x0A → s.ctx x.ctx = some c →
    c.word = .active ∨ c.word = .waiting →
    ∃ t, exec (.blAbort h tag) s = .next t ∧ Table.find t.link.inTags tag = none ∧ t.queuedOrSent 0 ⟨0x04, false, tag, [], State.respBody 7 0 0 [] []⟩ ∧
      t.queuedOrSent 0 ⟨0x06, false, tag, [0], []⟩ ∧ t.mem = s.mem)

/-- Data transfer of a write: a worker that is ready for more opens a grant of at most 64 blocks and sends XFER_RDY; the manager sends the granted blocks in ascending order; a block of the grant is kept by its index, and one outside every grant freezes the queue (R340, R345). -/
def Obligations.GrantCommands : Prop :=
  (∀ (tag : Nat) (x : BlIn) (c : Ctx) (s : State), s.mode = .worker → Table.find s.link.inTags tag = some x → s.ctx x.ctx = some c → x.grant = none → x.granted < x.count →
    x.opcode = 2 ∨ x.opcode = 3 ∨ x.opcode = 4 → c.word = .active → c.inserted = true → c.status = none → x.aborted = false → s.stopRefused c = false → c.parcels ≠ [] → c.todo = [] → c.jobs = [] →
    ∃ t y, exec (.grantOpen tag) s = .next t ∧ Table.find t.link.inTags tag = some y ∧ y.grant = some (x.granted, min 64 (x.count - x.granted)) ∧ y.got = x.got ∧
      t.queuedOrSent 0 ⟨0x02, false, tag, leBytes 4 x.granted ++ leBytes 2 (min 64 (x.count - x.granted)), []⟩ ∧ t.media = s.media ∧ t.adm = s.adm) ∧
  (∀ (p tag first count : Nat) (h : BlHdr) (c : BlOut) (s : State), s.packetOk p 0x02 h = true → Table.find (s.bl p).tags tag = some c →
    ∃ t, exec (.xferRdy p h tag first count) s = .next t ∧
      (∀ i, i < count → t.queuedOrSent p ⟨0x03, i + 1 == count, tag, leBytes 4 (first + i), c.blocks.getD (first + i) bzero⟩) ∧ t.media = s.media ∧ t.adm = s.adm) ∧
  (∀ (tag index first n : Nat) (h : BlHdr) (bytes : List Byte) (x : BlIn) (s : State), s.mode = .worker → s.packetOk 0 0x03 h = true → h.len = 4096 →
    Table.find s.link.inTags tag = some x → x.grant = some (first, n) →
    (first ≤ index → index < first + n → ∃ t y, exec (.data 0 h tag index bytes) s = .next t ∧ Table.find t.link.inTags tag = some y ∧ Table.find y.got index = some bytes ∧ t.mem = s.mem) ∧
    (index < first ∨ first + n ≤ index → ∃ t, exec (.data 0 h tag index bytes) s = .next t ∧ t.flag (Reg.BL_STAT_FROZEN 0) = true ∧ t.link.errors.head?.map (·.code) = some 7 ∧
      t.media = s.media ∧ t.adm = s.adm)) ∧
  (∀ (p tag index : Nat) (h : BlHdr) (bytes : List Byte) (c : BlOut) (s : State), s.mode = .manager → s.packetOk p 0x03 h = true → h.len = 4096 → Table.find (s.bl p).tags tag = some c →
    ∃ t y, exec (.data p h tag index bytes) s = .next t ∧ Table.find (t.bl p).tags tag = some y ∧ Table.find y.got index = some bytes ∧ t.media = s.media ∧ t.adm = s.adm)

/-- A manager's answers: RESP frees its tag; a RESP, DATA or ABORT_ACK for a tag that is not outstanding is counted late, an ABORT_ACK for an outstanding tag is discarded; RESUMED releases held commands and STALE has the log read again; EVENT 1 holds the commands, and it and EVENT 2 have a log read; a command timeout quarantines the tag, counts and sends ABORT; the quarantine ends; the discovery window closes and the array is assembled, once (R338, R342, R343, R346 to R348, R350, R355). -/
def Obligations.ManagerAnswers : Prop :=
  (∀ (p tag detail count : Nat) (h : BlHdr) (unrec zeros : List Nat) (c : BlOut) (s : State), s.packetOk p 0x04 h = true → Table.find (s.bl p).tags tag = some c →
    c.owner = .none ∨ c.owner = .setTime → c.opcode ≠ 8 → c.opcode ≠ 9 → (s.bl p).queue = [] →
    ∃ t, exec (.resp p h tag 0 detail count unrec zeros) s = .next t ∧ Table.find (t.bl p).tags tag = none ∧ t.media = s.media ∧ t.adm = s.adm) ∧
  (∀ (p tag status n : Nat) (h : BlHdr) (bytes : List Byte) (s : State), Table.find (s.bl p).tags tag = none →
    (s.packetOk p 0x04 h = true → ∃ t, exec (.resp p h tag status 0 0 [] []) s = .next t ∧ t.media = s.media ∧
      t.rget (Reg.BL_ERRCNT_LATE p) = min (s.rget (Reg.BL_ERRCNT_LATE p) + 1) (2 ^ (Reg.BL_ERRCNT_LATE p).width - 1)) ∧
    (s.packetOk p 0x06 h = true → ∀ no, ∃ t, exec (.abortAck p h tag no) s = .next t ∧ t.media = s.media ∧
      t.rget (Reg.BL_ERRCNT_LATE p) = min (s.rget (Reg.BL_ERRCNT_LATE p) + 1) (2 ^ (Reg.BL_ERRCNT_LATE p).width - 1)) ∧
    (s.mode = .manager → s.packetOk p 0x03 h = true → ∃ t, exec (.data p h tag n bytes) s = .next t ∧ t.media = s.media ∧
      t.rget (Reg.BL_ERRCNT_LATE p) = min (s.rget (Reg.BL_ERRCNT_LATE p) + 1) (2 ^ (Reg.BL_ERRCNT_LATE p).width - 1))) ∧
  (∀ (p tag : Nat) (c : BlOut) (h : BlHdr) (s : State), s.packetOk p 0x06 h = true → Table.find (s.bl p).tags tag = some c →
    ∃ t, exec (.abortAck p h tag true) s = .next t ∧ (t.bl p).tags = (s.bl p).tags ∧ (t.bl p).quarantine = (s.bl p).quarantine ∧ t.regs = s.regs ∧ t.media = s.media) ∧
  (∀ (p newest : Nat) (h : BlHdr) (s : State), s.packetOk p 0x09 h = true →
    (∃ t, exec (.resumeAck p h false newest) s = .next t ∧ (t.bl p).held = false ∧ t.media = s.media ∧ t.adm = s.adm) ∧
    (∃ t, exec (.resumeAck p h true newest) s = .next t ∧ (t.bl p).held = (s.bl p).held ∧ t.logAsked p 1 ∧ t.media = s.media ∧ t.adm = s.adm)) ∧
  (∀ (p entry : Nat) (h : BlHdr) (s : State), s.packetOk p 0x0A h = true →
    (∃ t, exec (.event p h 1 entry) s = .next t ∧ (t.bl p).held = true ∧ t.logAsked p 1 ∧ t.media = s.media ∧ t.adm = s.adm) ∧
    (∃ t, exec (.event p h 2 entry) s = .next t ∧ (t.bl p).held = (s.bl p).held ∧ t.logAsked p 2 ∧ t.media = s.media ∧ t.adm = s.adm)) ∧
  (∀ (p tag : Nat) (c : BlOut) (s : State), p < 6 → Table.find (s.bl p).tags tag = some c →
    ∃ t, exec (.cmdTimeout p tag) s = .next t ∧ tag ∈ (t.bl p).quarantine ∧ t.queuedOrSent p ⟨0x05, false, tag, [], []⟩ ∧
      t.rget (Reg.BL_ERRCNT_TIMEOUTS p) = min (s.rget (Reg.BL_ERRCNT_TIMEOUTS p) + 1) (2 ^ (Reg.BL_ERRCNT_TIMEOUTS p).width - 1) ∧ t.mem = s.mem) ∧
  (∀ (p tag : Nat) (s : State), ∃ t, exec (.blTagQuarantineEnd p tag) s = .next t ∧ tag ∉ (t.bl p).quarantine ∧ (∀ x, x ≠ tag → x ∈ (s.bl p).quarantine → x ∈ (t.bl p).quarantine) ∧
      t.media = s.media ∧ t.adm = s.adm) ∧
  (∀ s : State, s.mode = .manager → s.link.window = true → s.plat.hold = .none →
    ∃ t, exec .discoveryWindowEnd s = .next t ∧ t.link.window = false ∧ t.link.assembled = true ∧ t.mem = s.mem) ∧
  (∀ s : State, s.mode = .manager → s.link.window = true → s.plat.hold = .none → s.link.assembled = true →
    exec .discoveryWindowEnd s = .next { s with link := { s.link with window := false } })

/-! ## The array (chapter 14) -/

/-- The array engine: a destage and a rebuild row that take their stripe lock mark the regions of their row dirty; a member that does not answer is FAILED with cause 3; a FAILED position is rebuilt on its target, row by row while the rate is below its limit; an inspection row moves the pass on, and so does a new pass; a clean region's bit is cleared, also at the end of its resync, and the last one ends the resync (R365, R369, R371 to R373, R377 to R380). -/
def Obligations.ArrayCommands : Prop :=
  (∀ (slot row : Nat) (ps : List Nat) (ns : Namespace) (h : ArrayHeader) (x : AJob) (s : State), s.arrayAt slot = some ns → s.hdr? = some h → s.arrayUp = true → ps ≠ [] →
    (ps.all fun p => s.destagable h slot row ns p) = true → x = { kind := .destage, slot := slot, row := row, parcels := ps, news := s.destageNews h ns ps } →
    (s.takeLock slot row (State.wantsWriter x h)).isSome = true →
    ∃ t, exec (.destage slot row ps) s = .next t ∧ (∀ g ∈ State.regionsOf x h, g ∈ Table.get [] t.arr.dirty slot) ∧ (∀ g ∈ Table.get [] s.arr.dirty slot, g ∈ Table.get [] t.arr.dirty slot) ∧
      t.mem = s.mem ∧ t.plat = s.plat) ∧
  (∀ (m pos : Nat) (h : ArrayHeader) (q : Position) (s : State), s.mode = .manager → s.plat.ready = false ∨ s.flag Reg.AY_STAT_RESYNC = true ∨ s.adm.selfTest.isSome = true → m ≠ 0 →
    s.posOf m = some pos → s.hdr? = some h → h.positions[pos]? = some q → q.state = .online → s.link.jobs = [] →
    (∀ p, s.memberPort m = some p → (s.bl p).tags = [] ∧ (s.bl p).queue = []) →
    ∃ t g, exec (.slowMember m) s = .next t ∧ t.hdr? = some g ∧ g.positions[pos]? = some { q with state := PosState.failed, cause := 3 } ∧ t.mem = s.mem ∧ t.plat = s.plat) ∧
  (∀ (pos target : Nat) (h : ArrayHeader) (q : Position) (s : State), s.hdr? = some h → h.positions[pos]? = some q → s.arrayUp = true → q.state = .failed →
    (h.positions.any fun x => x.state == PosState.rebuilding) = false → s.rebuildTarget h q target = true → target ∉ h.spares → s.arrayNs ≠ [] → h.positions.length ≤ 7 →
    ∃ t g, exec (.rebuildStart pos target) s = .next t ∧ t.hdr? = some g ∧ g.positions[pos]? = some ⟨target, s.memberSerial target, .rebuilding, 0⟩ ∧ g.ckpt = (0, 0) ∧
      t.rget Reg.AY_RB_ROW_LO_ROW_LO = 0 ∧ t.rget Reg.AY_REBUILD_POSITION = pos % 2 ^ Reg.AY_REBUILD_POSITION.width ∧ t.mem = s.mem ∧ t.plat = s.plat) ∧
  (∀ (pos slot : Nat) (ns : Namespace) (h : ArrayHeader) (x : AJob) (s : State), s.hdr? = some h → s.arrayUp = true → s.link.jobs = [] →
    s.flag Reg.AY_CTRL_REBUILD_PAUSE = false → s.flag Reg.AY_STAT_EMAP_FULL = false → s.rebuildRate < s.rebuildLimit h →
    ((List.range h.n).find? fun j => (h.positions[j]?).any fun (x : Position) => x.state == PosState.rebuilding) = some pos →
    ((s.arrayNs.map (·.1)).find? fun v => decide (h.ckpt.1 ≤ v)) = some slot → s.arrayAt slot = some ns →
    x = { kind := .rebuild pos, slot := slot, row := (if slot = h.ckpt.1 then h.ckpt.2 else 0), offs := List.range 16 } → (s.takeLock slot x.row true).isSome = true →
    ∃ t, exec .rebuildRow s = .next t ∧ (∀ g ∈ State.regionsOf x h, g ∈ Table.get [] t.arr.dirty slot) ∧ t.mem = s.mem ∧ t.plat = s.plat) ∧
  (∀ (slot row : Nat) (ns : Namespace) (h : ArrayHeader) (s : State), s.arrayAt slot = some ns → s.hdr? = some h → s.arrayUp = true → row < h.rows ns.blocks4k →
    ∃ t, exec (.inspectionRow slot row) s = .next t ∧ t.rget Reg.AY_INSPECT_DONE_PCT = (s.inspected h slot row).rget Reg.AY_INSPECT_DONE_PCT ∧
      t.rget Reg.AY_INSPECT_PASS = (s.inspected h slot row).rget Reg.AY_INSPECT_PASS ∧ (0 < h.down → t = s.inspected h slot row) ∧ t.mem = s.mem ∧ t.plat = s.plat) ∧
  (∀ s : State, s.arrayUp = true → exec .inspectNow s = .next ((s.rset Reg.AY_INSPECT_PASS (s.rget Reg.AY_INSPECT_PASS + 1)).rset Reg.AY_INSPECT_DONE_PCT 0)) ∧
  (∀ (slot g : Nat) (ns : Namespace) (h : ArrayHeader) (s : State), s.arrayAt slot = some ns → s.hdr? = some h → s.arrayUp = true → g ∈ Table.get [] s.arr.dirty slot →
    s.flag Reg.AY_STAT_RESYNC = false → (s.link.jobs.any fun j => j.2.slot == slot && (State.regionsOf j.2 h).contains g) = false →
    ∃ t, exec (.regionClear slot g) s = .next t ∧ g ∉ Table.get [] t.arr.dirty slot ∧ (∀ r, r ≠ g → r ∈ Table.get [] s.arr.dirty slot → r ∈ Table.get [] t.arr.dirty slot) ∧
      t.journalGen slot (g / 32704) = s.journalGen slot (g / 32704) + 1 ∧ t.media = s.media ∧ t.mem = s.mem) ∧
  (∀ (slot g : Nat) (ns : Namespace) (h : ArrayHeader) (s : State), s.arrayAt slot = some ns → s.hdr? = some h → s.arrayUp = true → g ∈ Table.get [] s.arr.dirty slot →
    s.flag Reg.AY_STAT_RESYNC = true → s.link.resyncing = some (slot, g) →
    (s.link.jobs.any fun j => j.2.slot == slot && (State.rowsOfRegion h ns g).contains j.2.row && (match j.2.kind with | .recompute => true | _ => false)) = false →
    ∃ t, exec (.resync slot g) s = .next t ∧ g ∉ Table.get [] t.arr.dirty slot ∧ t.link.resyncing = none ∧
      ((t.arr.dirty.all fun q => q.2.isEmpty) = true → t.rget Reg.AY_STAT_RESYNC = 0) ∧ t.media = s.media ∧ t.mem = s.mem)

/-! ## DRAM and stored data (chapter 15) -/

/-- DRAM access: a write of a whole word stores its bytes and leaves every other address alone; a shorter one waits in the merge buffer, where a read sees it; a write to an unswept segment waits; a read of a clean word returns it, of a one-device error returns it corrected, of a poisoned one is answered with an error, of an unswept segment with zeros; a request to DRAM in self-refresh first asks tokens for both channels, which end it where the pool has them; an access above the capacity is refused and counted (R385, R391, R395, R396, R398, R406, R487, R488). -/
def Obligations.DramAccess : Prop :=
  (∀ (port w : Nat) (bytes : List Byte) (s : State), s.flag Reg.MC_CTRL_ENABLE = true → s.flag Reg.MC_STAT_SELF_REFRESH = false → bytes.length = 128 → w * 128 < s.dramBytes → s.segValid (w * 128 / 2 ^ 21) = true →
    (s.mergeOf (s.chanOf (w * 128))).find? (·.word == w) = none → s.flag (Reg.ME_FLIP_D_ARM (s.chanOf (w * 128))) = false →
    ∃ t, exec (.dramWrite port (w * 128) bytes) s = .next t ∧ (∀ i, i < 128 → t.mem.byte (w * 128 + i) = bytes.getD i 0#8) ∧
      (∀ a, a / 128 ≠ w → t.mem.byte a = s.mem.byte a) ∧ t.errsOf w = [] ∧ t.mem.held = s.mem.held ∧ t.out = s.out ∧ t.media = s.media) ∧
  (∀ (port w off : Nat) (bytes : List Byte) (s : State), s.flag Reg.MC_CTRL_ENABLE = true → s.flag Reg.MC_STAT_SELF_REFRESH = false → bytes ≠ [] → off + bytes.length ≤ 127 → w * 128 < s.dramBytes →
    s.segValid ((w * 128 + off) / 2 ^ 21) = true → (s.mergeOf (s.chanOf (w * 128 + off))).find? (·.word == w) = none → (s.mergeOf (s.chanOf (w * 128 + off))).length < 16 →
    s.chanOf (w * 128 + off) ≤ 1 →
    ∃ t, exec (.dramWrite port (w * 128 + off) bytes) s = .next t ∧ t.mem.dram = s.mem.dram ∧ t.mem.errs = s.mem.errs ∧
      (∀ i, i < bytes.length → (t.wordBytes (s.chanOf (w * 128 + off)) w)[off + i]? = bytes[i]?) ∧
      (∀ i, i < 128 → i < off ∨ off + bytes.length ≤ i → (t.wordBytes (s.chanOf (w * 128 + off)) w)[i]? = some (s.mem.byte (w * 128 + i))) ∧ t.out = s.out ∧ t.media = s.media) ∧
  (∀ (port addr : Nat) (bytes : List Byte) (s : State), s.flag Reg.MC_CTRL_ENABLE = true → s.flag Reg.MC_STAT_SELF_REFRESH = false → bytes ≠ [] → addr < s.dramBytes → s.segValid (addr / 2 ^ 21) = false →
    ∃ t, exec (.dramWrite port addr bytes) s = .next t ∧ t.mem.held = s.mem.held ++ [⟨port, addr, bytes.take (128 - addr % 128)⟩] ∧ t.mem.dram = s.mem.dram ∧
      t.mem.merge0 = s.mem.merge0 ∧ t.mem.merge1 = s.mem.merge1 ∧ t.out = s.out) ∧
  (∀ (port addr : Nat) (bytes : List Byte) (upset : List SymErr) (s : State), s.flag Reg.MC_CTRL_ENABLE = true → s.dramBytes ≤ addr →
    (bytes ≠ [] → exec (.dramWrite port addr bytes) s = .next ((s.rsat Reg.MC_STAT_RANGE_ERR).emit (.dramError port))) ∧
    exec (.dramRead port addr upset) s = .next ((s.rsat Reg.MC_STAT_RANGE_ERR).emit (.dramData port none))) ∧
  (∀ (port addr : Nat) (s : State), s.flag Reg.MC_CTRL_ENABLE = true → s.flag Reg.MC_STAT_SELF_REFRESH = false → addr < s.dramBytes → s.segValid (addr / 2 ^ 21) = true → s.errsOf (addr / 128) = [] →
    ∃ t, exec (.dramRead port addr []) s = .next t ∧ t.out = s.out ++ [.dramData port (some (s.wordBytes (s.chanOf addr) (addr / 128)))] ∧
      t.mem.dram = s.mem.dram ∧ t.mem.merge0 = s.mem.merge0 ∧ t.mem.merge1 = s.mem.merge1 ∧ t.regs = s.regs) ∧
  (∀ (port addr : Nat) (s : State), s.flag Reg.MC_CTRL_ENABLE = true → s.flag Reg.MC_STAT_SELF_REFRESH = true → addr < s.dramBytes → s.segValid (addr / 2 ^ 21) = true →
    s.errsOf (addr / 128) = [] → s.plat.tokens = [] → 2 * s.rget Reg.TK_WT_DRAM ≤ s.rget Reg.TK_STAT_LEVEL →
    ∃ t, exec (.dramRead port addr []) s = .next t ∧ t.flag Reg.MC_STAT_SELF_REFRESH = false ∧ t.plat.tokens = [] ∧
      t.out = s.out ++ [.dramData port (some (s.wordBytes (s.chanOf addr) (addr / 128)))]) ∧
  (∀ (port addr : Nat) (upset : List SymErr) (s : State), s.flag Reg.MC_CTRL_ENABLE = true → s.flag Reg.MC_STAT_SELF_REFRESH = true → addr < s.dramBytes →
    s.plat.tokens = [] → s.rget Reg.TK_STAT_LEVEL < s.rget Reg.TK_WT_DRAM →
    ∃ t, exec (.dramRead port addr upset) s = .next t ∧ t.flag Reg.MC_STAT_SELF_REFRESH = true ∧ t.mem = s.mem ∧ t.out = s.out ∧ t.rget Reg.TK_STAT_LEVEL = 0 ∧
      t.plat.tokens = [{ id := 1, wake := .dram 0, prio := 3, weight := s.rget Reg.TK_WT_DRAM, got := s.rget Reg.TK_STAT_LEVEL },
        { id := 2, wake := .dram 1, prio := 3, weight := s.rget Reg.TK_WT_DRAM }]) ∧
  (∀ (port addr d : Nat) (upset : List SymErr) (s : State), s.flag Reg.MC_CTRL_ENABLE = true → s.flag Reg.MC_STAT_SELF_REFRESH = false → addr < s.dramBytes → s.segValid (addr / 2 ^ 21) = true →
    addErrs (s.errsOf (addr / 128)) upset ≠ poison → errDevs (addErrs (s.errsOf (addr / 128)) upset) = [d] →
    ∃ t, exec (.dramRead port addr upset) s = .next t ∧ t.out = s.out ++ [.dramData port (some (s.wordBytes (s.chanOf addr) (addr / 128)))] ∧
      t.errsOf (addr / 128) = [] ∧ t.rget Reg.ME_CNT_DRAM_CE = min (s.rget Reg.ME_CNT_DRAM_CE + 1) 65535 ∧ t.rget Reg.ME_ERR_INFO_KIND = 1 ∧
      t.rget Reg.ME_ERR_INFO_DEVICE = d % 16 ∧ t.mem.dram = s.mem.dram) ∧
  (∀ (port addr : Nat) (s : State), s.flag Reg.MC_CTRL_ENABLE = true → s.flag Reg.MC_STAT_SELF_REFRESH = false → addr < s.dramBytes → s.segValid (addr / 2 ^ 21) = true → s.errsOf (addr / 128) = poison →
    ∃ t, exec (.dramRead port addr []) s = .next t ∧ t.out = s.out ++ [.dramData port none] ∧ t.errsOf (addr / 128) = poison ∧
      t.rget Reg.ME_CNT_DRAM_POISON = min (s.rget Reg.ME_CNT_DRAM_POISON + 1) 255 ∧ t.mem.dram = s.mem.dram) ∧
  (∀ (port addr : Nat) (upset : List SymErr) (s : State), s.flag Reg.MC_CTRL_ENABLE = true → s.flag Reg.MC_STAT_SELF_REFRESH = false → addr < s.dramBytes → s.segValid (addr / 2 ^ 21) = false →
    ∃ t, exec (.dramRead port addr upset) s = .next t ∧ t.out = s.out ++ [.dramData port (some (List.replicate 128 0#8))] ∧ t.mem = s.mem ∧
      (s.flag Reg.ME_CTRL_UNINIT_CNT = true → t.rget Reg.ME_CNT_UNINIT_COUNT = min (s.rget Reg.ME_CNT_UNINIT_COUNT + 1) (2 ^ 32 - 1)))

/-- Upkeep of stored data: a retired entry overlays its word, or leaves it poisoned where the word cannot be read; a swept segment reads zero and is valid, every other address unchanged; an invalidated one is no longer valid; the Platelayer corrects a one-device error and counts it; a request that reaches L3 is late; MR4 reports at 85 C and above double the refresh; an SRAM word is written through its byte enables, zeros where it was not valid, the Platelayer corrects one wrong bit of it, counts two as uncorrectable and finds nothing in a word that is not valid; a flip mask arms inside the diagnostic gate only (R388, R393 to R395, R397 to R402, R406). -/
def Obligations.MemoryUpkeep : Prop :=
  (∀ (ch w : Nat) (e : MergeEntry) (s : State), (s.mergeOf ch).find? (·.word == w) = some e → e.word = w → e.bytes.length < 128 → s.errsOf w = [] →
    s.flag (Reg.ME_FLIP_D_ARM (s.chanOf (w * 128))) = false → ch ≤ 1 →
    ∃ t, exec (.mergeRetire ch w) s = .next t ∧ (t.mergeOf ch).find? (·.word == w) = none ∧
      (∀ i, i < 128 → t.mem.byte (w * 128 + i) = Table.get (s.mem.byte (w * 128 + i)) e.bytes i) ∧ (∀ a, a / 128 ≠ w → t.mem.byte a = s.mem.byte a) ∧
      t.rget Reg.ME_MERGE_STAT_RMW = min (s.rget Reg.ME_MERGE_STAT_RMW + 1) 65535 ∧ t.out = s.out) ∧
  (∀ (ch w : Nat) (e : MergeEntry) (s : State), (s.mergeOf ch).find? (·.word == w) = some e → e.word = w → e.bytes.length < 128 → s.errsOf w = poison →
    s.flag (Reg.ME_FLIP_D_ARM (s.chanOf (w * 128))) = false → ch ≤ 1 →
    ∃ t, exec (.mergeRetire ch w) s = .next t ∧ (∀ i, i < 128 → t.mem.byte (w * 128 + i) = Table.get 0#8 e.bytes i) ∧ (∀ a, a / 128 ≠ w → t.mem.byte a = s.mem.byte a) ∧
      t.errsOf w = poison ∧ (∀ p ∈ e.ports, Out.dramError p ∈ t.out)) ∧
  (∀ s : State, s.mem.sweeping = true → s.mem.prio = [] → s.mem.inval = [] → s.mem.sweepSeg < s.segCount → s.mem.sweepSeg ∉ s.mem.early →
    (∀ h ∈ s.mem.held, h.addr / 2 ^ 21 ≠ s.mem.sweepSeg) →
    ∃ t, exec .sweepSegmentDone s = .next t ∧ t.mem.sweepSeg = s.mem.sweepSeg + 1 ∧ t.segValid s.mem.sweepSeg = true ∧ (∀ a, a / 2 ^ 21 = s.mem.sweepSeg → t.mem.byte a = 0#8) ∧
      (∀ a, a / 2 ^ 21 ≠ s.mem.sweepSeg → t.mem.byte a = s.mem.byte a) ∧ t.rget Reg.ME_STAT_SWEEP_DONE = bit (decide (s.segCount = s.mem.sweepSeg + 1))) ∧
  (∀ (seg : Nat) (s : State), seg < s.segCount → s.segValid seg = true → (seg ∈ s.mem.early → s.mem.sweepSeg ≤ seg) →
    ∃ t, exec (.segInval seg) s = .next t ∧ t.segValid seg = false ∧ (∀ a, a / 2 ^ 21 ≠ seg → t.mem.byte a = s.mem.byte a) ∧ t.mem.held = s.mem.held) ∧
  (∀ (w d : Nat) (upset : List SymErr) (s : State), s.flag Reg.ME_CTRL_SCRUB_EN = true → w < s.dramBytes / 128 → s.segValid (w / 2 ^ 14) = true → s.flag Reg.MC_STAT_SELF_REFRESH = false → s.plat.nonOp ≠ some 4 →
    addErrs (s.errsOf w) upset ≠ poison → errDevs (addErrs (s.errsOf w) upset) = [d] →
    ∃ t, exec (.platelayerRead (.dram w upset)) s = .next t ∧ t.errsOf w = [] ∧ t.rget Reg.ME_CNT_DRAM_CE = min (s.rget Reg.ME_CNT_DRAM_CE + 1) 65535 ∧
      t.rget Reg.ME_ERR_INFO_PORT = 8 ∧ t.mem.dram = s.mem.dram ∧ t.out = s.out ∧ t.ae = s.ae) ∧
  (∀ (port latNs : Nat) (s : State), port < 10 → s.rget (Reg.MC_PORT_CFG_TARGET_NS port) ≤ latNs →
    ∃ t, exec (.urgencyEscalate port 3 latNs) s = .next t ∧ t.rget (Reg.MC_PORT_STAT_LATE port) = min (s.rget (Reg.MC_PORT_STAT_LATE port) + 1) 65535 ∧
      t.rget (Reg.MC_PORT_STAT_MAX_LAT port) = max (s.rget (Reg.MC_PORT_STAT_MAX_LAT port)) (min 65535 (latNs / 16)) % 65536 ∧ t.mem = s.mem) ∧
  (∀ (ch : Nat) (temps : List Int) (s : State), ch < 2 → s.flag Reg.MC_STAT_SELF_REFRESH = false → (∃ x ∈ temps, 85 ≤ x) → (∀ x ∈ temps, x ≤ 95) →
    ∃ t, exec (.mr4Poll ch temps) s = .next t ∧ t.rget Reg.MC_STAT_REF2X / 2 ^ ch % 2 = 1 ∧ ch ∉ t.mem.hot ∧ t.mem.dram = s.mem.dram) ∧
  (∀ (ch : Nat) (v : Word) (s : State), ch < 2 → s.gateOpen 4 = true → v.toNat % 2 = 1 →
    ∃ t, exec (.flipMaskArm ch v) s = .next t ∧ t.flag (Reg.ME_FLIP_D_ARM ch) = true ∧ t.rget (Reg.ME_FLIP_D_DEV_A ch) = v.toNat / 4 % 16 ∧
      t.rget (Reg.ME_FLIP_D_PATTERN ch) = v.toNat / 2 ^ 16 % 2 ^ 16 ∧ t.mem = s.mem) ∧
  (∀ (g w : Nat) (x : SramWrite) (s : State), s.flag Reg.ME_CTRL_SCRUB_EN = true → s.plat.nonOp ≠ some 4 → g < 8 → s.flag (Reg.ME_FLIP_S_ARM g) = false →
    ((∀ o, s.sramWord g w = some o → o.flips.length ≤ 1) →
      ∃ t, exec (.platelayerRead (.sram g w [x] [])) s = .next t ∧ t.sramWord g w = some ⟨State.mergeBytes (((s.sramWord g w).map (·.data)).getD 0#64) x.data x.bytes, []⟩ ∧
        t.mem.dram = s.mem.dram ∧ t.rget Reg.ME_CNT_SRAM_UE = s.rget Reg.ME_CNT_SRAM_UE ∧ t.out = s.out) ∧
    (∀ (d : BitVec 64) (b : Nat), s.sramWord g w = some ⟨d, []⟩ → b < 72 → g ≠ 1 → g ≠ 5 →
      ∃ t, exec (.platelayerRead (.sram g w [] [b])) s = .next t ∧ t.sramWord g w = some ⟨d, []⟩ ∧ t.rget Reg.ME_CNT_SRAM_CE = min (s.rget Reg.ME_CNT_SRAM_CE + 1) 65535 ∧
        t.rget Reg.ME_ERR_INFO_GROUP = g ∧ t.rget Reg.ME_ERR_INFO_KIND = 4 ∧ t.out = s.out) ∧
    (∀ (d : BitVec 64) (a b : Nat), s.sramWord g w = some ⟨d, []⟩ → a < 72 → b < 72 → a ≠ b → g = 0 →
      ∃ t, exec (.platelayerRead (.sram g w [] [a, b])) s = .next t ∧ t.sramWord 0 w = some ⟨d, []⟩ ∧ t.rget Reg.ME_CNT_SRAM_UE = min (s.rget Reg.ME_CNT_SRAM_UE + 1) 65535 ∧
        t.rget Reg.ME_ERR_INFO_GROUP = 0 ∧ t.rget Reg.ME_ERR_INFO_KIND = 5 ∧ t.mem.nextIncident = (s.mem.nextIncident + 1) % 2 ^ 32) ∧
    (∀ upset : List Nat, s.sramWord g w = none → 0 < w → exec (.platelayerRead (.sram g w [] upset)) s = .next { s with mem := { s.mem with sramPart := true } })) ∧
  (∀ (g : Nat) (v : Word) (s : State), s.gateOpen 4 = false → v.toNat % 2 = 1 → exec (.flipMaskArm g v) s = .next (s.rset Reg.FG_STAT_DENIED 1))

/-! ## The cipher engine (chapter 16) -/

/-- Keys and jobs: a label outside the table, or the Guard's label asked by a core, is refused; a request derives what the cache lacks into a free entry; entries named are invalidated, those in use at their last use; a job outside the limits is refused with no output, no nonce taken and the cache unchanged; an encryption takes the next nonce and returns it; a bad tag releases zeros only; an erased engine ends every job (R410, R411, R413, R416, R417, R419, R420). -/
def Obligations.CipherJobs : Prop :=
  (∀ (r : KeyReq) (byGuard : Bool) (s : State), s.flag Reg.CE_STAT_ROOT_LOADED = true → s.flag Reg.CE_STAT_ERASED = false →
    (r.label = .other ∨ (r.label = .attk ∧ byGuard = false) → exec (.keyDerive byGuard r) s = .next (s.rset Reg.CE_ERR_REFUSED 1)) ∧
    (r.label = .medk ∨ r.label = .blnk ∨ r.label = .dpot → (∀ k ∈ s.sec.keys, State.keyFits r k = false) → s.sec.keys.length < 64 →
      ∃ t, exec (.keyDerive byGuard r) s = .next t ∧ t.sec.keys = ⟨r, 1, false⟩ :: s.sec.keys ∧ t.rget Reg.CE_KC_STAT_MISSES = min (s.rget Reg.CE_KC_STAT_MISSES + 1) 255 ∧
        t.sec.nonce = s.sec.nonce ∧ t.media = s.media)) ∧
  (∀ (label : KeyLabel) (slot : Option Nat) (s : State),
    ∃ t, exec (.keyCacheInvalidate label slot) s = .next t ∧
      (∀ k ∈ t.sec.keys, k.req.label = label → (slot = none ∨ slot = some (k.req.context.getD 2 999)) → k.drop = true ∧ k.uses ≠ 0) ∧
      (∀ k ∈ s.sec.keys, k.req.label ≠ label → k ∈ t.sec.keys) ∧ t.sec.nonce = s.sec.nonce ∧ t.media = s.media ∧ t.out = s.out) ∧
  (∀ (j : XtsJob) (s : State), s.engineReady = true →
    (State.xtsOk j = false → exec (.xtsJob j) s = .next ((s.rset Reg.CE_ERR_LEN 1).rsat Reg.CE_CNT_LEN_ERRS)) ∧
    (State.xtsOk j = true → (s.requestKey (s.medkReq j.slot)).2 = true →
      ∃ t out, exec (.xtsJob j) s = .next t ∧ t.out = s.out ++ [.xts out] ∧ out.length = j.blocks.length ∧ t.sec.nonce = s.sec.nonce ∧ t.media = s.media)) ∧
  (∀ (j : GcmJob) (nonce : Nat) (ok : Bool) (s : State), s.engineReady = true → State.gcmOk j = false →
    exec (.gcmEncrypt j) s = .next ((s.rset Reg.CE_ERR_LEN 1).rsat Reg.CE_CNT_LEN_ERRS) ∧
    exec (.gcmDecrypt j nonce ok) s = .next ((s.rset Reg.CE_ERR_LEN 1).rsat Reg.CE_CNT_LEN_ERRS)) ∧
  (∀ (j : GcmJob) (s : State), s.engineReady = true → State.gcmOk j = true → s.gcmReady = true → (s.requestKey (s.gcmReq j.stream)).2 = true →
    ∃ t c, exec (.gcmEncrypt j) s = .next t ∧ t.out = s.out ++ [.sealed s.sec.nonce c] ∧ t.sec.nonce = s.sec.nonce + 1 ∧ t.sec.mark = s.sec.mark ∧ t.sec.nonce ≤ t.sec.mark ∧
      (t.sec.nonce = t.sec.mark → t.flag Reg.CE_STAT_GCM_HOLD = true) ∧ t.media = s.media) ∧
  (∀ (j : GcmJob) (s : State), s.engineReady = true → State.gcmOk j = true → s.sec.gcmOn = true → s.sec.mark ≤ s.sec.nonce →
    exec (.gcmEncrypt j) s = .next (s.rset Reg.CE_STAT_GCM_HOLD 1)) ∧
  (∀ (j : GcmJob) (nonce : Nat) (s : State), s.engineReady = true → State.gcmOk j = true → (s.requestKey (s.gcmReq j.stream)).2 = true →
    (∃ t m, exec (.gcmDecrypt j nonce true) s = .next t ∧ t.out = s.out ++ [.opened m] ∧ t.sec.nonce = s.sec.nonce ∧ t.media = s.media) ∧
    (∃ t, exec (.gcmDecrypt j nonce false) s = .next t ∧ t.out = s.out ++ [.opened (List.replicate j.bytes.length 0#8)] ∧ t.flag Reg.CE_ERR_AUTH = true ∧
      t.rget Reg.CE_CNT_AUTH_FAILS = min (s.rget Reg.CE_CNT_AUTH_FAILS + 1) 65535 ∧ t.sec.nonce = s.sec.nonce ∧ t.media = s.media)) ∧
  (∀ (x : XtsJob) (j : GcmJob) (nonce : Nat) (ok : Bool) (s : State), s.flag Reg.CE_STAT_ERASED = true →
    exec (.xtsJob x) s = .next (s.rset Reg.CE_ERR_KEY_ERASED 1) ∧ exec (.gcmEncrypt j) s = .next (s.rset Reg.CE_ERR_KEY_ERASED 1) ∧
    exec (.gcmDecrypt j nonce ok) s = .next (s.rset Reg.CE_ERR_KEY_ERASED 1))

/-- The nonce mark and the locking ranges: a program of the mark that passes raises it by 2^32 and lets encryption go on, the second failure in a row disables it and sets HWM_FAIL; a Set changes a row's lock state and one that names a range fails; GenKey of a namespace row leaves its data unreachable, of the Global row, and a Revert, every namespace's (R418, R421, R423 to R425). Clauses in which a row changes nothing outside its conditions are the model's (log entry 2). -/
def Obligations.MarkAndLocking : Prop :=
  (∀ s : State, s.markDue = true →
    (∃ t, exec (.hwmAdvance true) s = .next t ∧ t.sec.mark = s.sec.mark + 2 ^ 32 ∧ t.sec.gcmOn = true ∧ t.sec.hwmFails = 0 ∧ t.media = s.media ∧ t.ctls = s.ctls) ∧
    (s.sec.hwmFails = 0 → ∃ t, exec (.hwmAdvance false) s = .next t ∧ t.sec.hwmFails = 1 ∧ t.sec.mark = s.sec.mark ∧ t.regs = s.regs) ∧
    (s.sec.hwmFails = 1 → ∃ t, exec (.hwmAdvance false) s = .next t ∧ t.sec.hwmFails = 2 ∧ t.sec.gcmOn = false ∧ t.sec.mark = s.sec.mark ∧ t.flag Reg.CE_ERR_HWM_FAIL = true)) ∧
  (∀ s : State, 2 ≤ s.sec.hwmFails → ∀ ok, exec (.hwmAdvance ok) s = .next s) ∧
  (∀ (slot : Option Nat) (r w : Bool) (s : State), s.sec.opalActive = true →
    exec (.opalSet slot r w true) s = .next (s.emit (.opal false)) ∧
    (s.nsQuiet (s.governs slot) = true → ∃ t, exec (.opalSet slot r w false) s = .next t ∧ t.out = s.out ++ [.opal true] ∧
      Table.get {} t.sec.opal (State.rowOf slot) = { Table.get {} s.sec.opal (State.rowOf slot) with readLocked := r, writeLocked := w } ∧
      (∀ k, k ≠ State.rowOf slot → Table.get {} t.sec.opal k = Table.get {} s.sec.opal k) ∧ t.media = s.media ∧ t.regs = s.regs)) ∧
  (∀ (x : Nat) (s : State), s.sec.opalActive = true → s.nsQuiet (· == x) = true →
    ∃ t, exec (.opalGenkey (some x)) s = .next t ∧ Table.get 0 t.sec.rangeGens x = Table.get 0 s.sec.rangeGens x + 1 ∧
      (∀ k, k / 2 ^ 40 % 128 = x → Table.find t.media.map k = none) ∧ (∀ k, k / 2 ^ 40 % 128 ≠ x → Table.find t.media.map k = Table.find s.media.map k) ∧
      t.sec.mediaGen = s.sec.mediaGen ∧ t.media.nand.ns = s.media.nand.ns ∧ .opal true ∈ t.out ∧ (s.mode ≠ .manager → t.out = s.out ++ [.opal true]) ∧ t.ctls = s.ctls) ∧
  (∀ s : State, s.nsQuiet (fun _ => true) = true →
    (s.sec.opalActive = true → ∃ t, exec (.opalGenkey none) s = .next t ∧ t.sec.mediaGen = s.sec.mediaGen + 1 ∧
      (∀ q ∈ s.media.nand.ns, ∀ k, k / 2 ^ 40 % 128 = q.1 → Table.find t.media.map k = none) ∧ (∀ k ∈ t.sec.keys, k.req.label = .medk → k.drop = true) ∧ t.ctls = s.ctls) ∧
    (∃ t, exec (.opalRevert true) s = .next t ∧ t.sec.mediaGen = s.sec.mediaGen + 1 ∧ t.sec.opalActive = false ∧ t.sec.opal = [] ∧ t.flag Reg.CE_STAT_OPAL_ACTIVE = false ∧
      (∀ q ∈ s.media.nand.ns, ∀ k, k / 2 ^ 40 % 128 = q.1 → Table.find t.media.map k = none) ∧ t.ctls = s.ctls) ∧
    exec (.opalRevert false) s = .next (s.emit (.opal false)))

/-! ## The Depot, temperatures, tokens and the start (chapters 18 to 20) -/

/-- The Depot: a command begins on a free bank, or is refused with its cause and changes no word; a second core command is an overrun; a program that passes leaves its word at the data and every other word alone, an erase its sector erased with one more cycle; a read suspends the bank's operation and returns the word, corrected or refused as its errors ask; a write-protect bit only sets (R460 to R467). -/
def Obligations.DepotCommands : Prop :=
  (∀ (w v : Nat) (s : State), s.plat.hold ≠ .off → s.sec.guardCmd = none → w < 2 ^ 21 → v < 2 ^ 64 → s.bankOp (State.bankOf w) = none →
    (s.depotRefusal ⟨false, w, v, true, false⟩ none = 0 → ∃ t, exec (.depotProgram true w v none) s = .next t ∧ t.bankOp (State.bankOf w) = some ⟨false, w, v, true, false⟩ ∧
      t.sec.depot = s.sec.depot ∧ t.sec.erases = s.sec.erases ∧ t.media = s.media) ∧
    (s.depotRefusal ⟨true, w, 0, true, false⟩ none = 0 → ∃ t, exec (.depotErase true w none) s = .next t ∧ t.bankOp (State.bankOf w) = some ⟨true, w, 0, true, false⟩ ∧
      t.sec.depot = s.sec.depot ∧ t.sec.erases = s.sec.erases ∧ t.media = s.media)) ∧
  (∀ (w v : Nat) (pc : Option Nat) (s : State), s.plat.hold ≠ .off → s.sec.coreCmd = none → s.flag Reg.DP_STAT_CORE_BUSY = false →
    (s.depotRefusal (s.coreOp false) pc ≠ 0 → exec (.depotProgram false w v pc) s = .next (s.depotResult (s.coreOp false) (s.depotRefusal (s.coreOp false) pc))) ∧
    (s.depotRefusal (s.coreOp true) pc ≠ 0 → exec (.depotErase false w pc) s = .next (s.depotResult (s.coreOp true) (s.depotRefusal (s.coreOp true) pc))) ∧
    (s.depotRefusal (s.coreOp false) pc = 0 → s.sec.guardCmd = none → s.bankOp (State.bankOf (s.coreOp false).word) = none →
      ∃ t, exec (.depotProgram false w v pc) s = .next t ∧ t.bankOp (State.bankOf (s.coreOp false).word) = some (s.coreOp false) ∧ t.flag Reg.DP_STAT_CORE_BUSY = true ∧
        t.sec.depot = s.sec.depot)) ∧
  (∀ (w v : Nat) (pc : Option Nat) (s : State), s.plat.hold ≠ .off → s.flag Reg.DP_STAT_CORE_BUSY = true →
    exec (.depotProgram false w v pc) s = .next (s.rset Reg.DP_ERR_OVERRUN 1) ∧ exec (.depotErase false w pc) s = .next (s.rset Reg.DP_ERR_OVERRUN 1)) ∧
  (∀ (b : Nat) (o : DepotOp) (s : State), b < 2 → s.bankOp b = some o → o.suspended = false → s.sec.guardCmd = none → s.sec.coreCmd = none →
    (o.erase = false → ∃ t, exec (.depotProgramDone b true) s = .next t ∧ t.depotWord o.word = o.value ∧ (∀ w, w ≠ o.word → t.depotWord w = s.depotWord w) ∧
      t.bankOp b = none ∧ t.bankOp (1 - b) = s.bankOp (1 - b) ∧ t.sec.erases = s.sec.erases) ∧
    (o.erase = false → ∃ t, exec (.depotProgramDone b false) s = .next t ∧ o.word ∈ t.sec.spoilt ∧ (∀ w, w ≠ o.word → t.depotWord w = s.depotWord w) ∧ t.flag Reg.DP_ERR_PROG_FAIL = true ∧
      t.bankOp b = none) ∧
    (o.erase = true → ∃ t, exec (.depotEraseDone b true) s = .next t ∧ (∀ w, State.sectorOf w = State.sectorOf o.word → t.depotWord w = erasedWord) ∧
      (∀ w, State.sectorOf w ≠ State.sectorOf o.word → t.depotWord w = s.depotWord w) ∧
      Table.get 0 t.sec.erases (State.sectorOf o.word) = Table.get 0 s.sec.erases (State.sectorOf o.word) + 1 ∧ t.bankOp b = none)) ∧
  (∀ (guard : Bool) (w : Nat) (s : State), w < 2 ^ 21 → s.bankOp (State.bankOf w) = none →
    exec (.depotRead guard (8 * w) 0) s = .next (s.emit (.depot guard (some (s.depotWord w)))) ∧
    (s.depotWord w ≠ erasedWord → exec (.depotRead guard (8 * w) 1) s = .next ((s.rsat Reg.DP_CNT_CORR).emit (.depot guard (some (s.depotWord w)))) ∧
      ∃ t, exec (.depotRead guard (8 * w) 2) s = .next t ∧ t.out = s.out ++ [.depot guard none] ∧ t.flag Reg.DP_ERR_UNCORR = true ∧ t.sec = s.sec)) ∧
  (∀ (b : Nat) (o : DepotOp) (s : State), b < 2 → s.bankOp b = some o →
    (o.suspended = false → ∃ t, exec (.depotSuspend b) s = .next t ∧ t.bankOp b = some { o with suspended := true } ∧ t.bankOp (1 - b) = s.bankOp (1 - b) ∧
      t.rget Reg.DP_CNT_SUSPENDS = min (s.rget Reg.DP_CNT_SUSPENDS + 1) 65535 ∧ t.sec.depot = s.sec.depot) ∧
    (∃ t, exec (.depotResume b) s = .next t ∧ t.bankOp b = some { o with suspended := false } ∧ t.bankOp (1 - b) = s.bankOp (1 - b) ∧ t.sec.depot = s.sec.depot)) ∧
  (∀ (x : Nat) (s : State), x < 4096 → ∃ t, exec (.dpWpSet x) s = .next t ∧ x ∈ t.sec.wp ∧ (∀ y, y ∈ s.sec.wp → y ∈ t.sec.wp) ∧ (∀ y, y ∈ t.sec.wp → y = x ∨ y ∈ s.sec.wp) ∧
    t.sec.depot = s.sec.depot ∧ t.regs = s.regs)

/-- Temperature, power states and tokens: a sample takes every input's reading and marks an open one broken; thresholds set and clear their flags, and the shutdown threshold begins a flush; the throttle moves one step; an idle controller takes the state of its table, and PS3 or PS4 gates the blocks once nothing is dirty; the pool refills up to its limit and an old request goes to priority 1 (R472 to R488). Clauses in which a row changes nothing outside its conditions are the model's (log entry 2). -/
def Obligations.ThermalAndTokens : Prop :=
  (∀ (l : List TempReading) (s : State), s.plat.hold = .none → s.mode ≠ .strapFault →
    ∃ t, exec (.tempSample l) s = .next t ∧
      (∀ (i : Nat) (q : TempReading), i < 18 → l[i]? = some q → (q.isOpen = false → q.isShort = false → (14 ≤ i → -40 ≤ q.temp ∧ q.temp ≤ 150) → (t.tempIn i).reading = q.temp) ∧
        (q.isOpen = true ∨ 14 ≤ i ∧ q.temp < -40 → s.tempEnabled i = true → (s.tempIn i).broken = .none → (t.tempIn i).broken = .open_) ∧
        (q.isOpen = false → 14 ≤ i → 150 < q.temp → s.tempEnabled i = true → (s.tempIn i).broken = .none → (t.tempIn i).broken = .short)) ∧
      (∀ i, i < 18 → (s.tempIn i).broken ≠ .none → (t.tempIn i).broken = (s.tempIn i).broken) ∧
      (∀ th, (t.stay th).above = (if s.threshold th ≤ t.shownComposite then min 10 ((s.stay th).above + 1) else 0) ∧
        (t.stay th).below = (if t.shownComposite < s.threshold th - s.param .thermalHysteresisC then min 10 ((s.stay th).below + 1) else 0)) ∧
      t.media = s.media ∧ t.sec = s.sec) ∧
  (∀ s : State, s.flag Reg.TH_CTRL_ENABLE = true →
    (s.crossedNow .warning = true → exec (.thresholdCrossed .warning) s = .next (s.rset Reg.TH_STAT_WARN 1)) ∧
    (s.crossedNow .throttle = true → s.flag Reg.TH_STAT_THROTTLE = false →
      exec (.thresholdCrossed .throttle) s = .next ((s.rset Reg.TH_STAT_THROTTLE 1).rsat Reg.TH_CNT_THROTTLE_ENTRIES)) ∧
    (s.crossedNow .shutdown = true → s.flag Reg.TH_STAT_STOPPING = false → s.flushing = false →
      ∃ t, exec (.thresholdCrossed .shutdown) s = .next t ∧ t.media.flush = .running ∧ t.media.nand.flushCause = 2 ∧ t.flag Reg.TH_STAT_STOPPING = true ∧ t.flash.startsStopped = true) ∧
    (s.clearedNow .warning = true → exec (.thresholdCleared .warning) s = .next (s.rset Reg.TH_STAT_WARN 0)) ∧
    (s.clearedNow .throttle = true → exec (.thresholdCleared .throttle) s = .next (s.rset Reg.TH_STAT_THROTTLE 0)) ∧
    (∀ th, s.crossedNow th = false → exec (.thresholdCrossed th) s = .next s) ∧ (∀ th, s.clearedNow th = false → exec (.thresholdCleared th) s = .next s)) ∧
  (∀ s : State, s.flag Reg.TH_STAT_THROTTLE = true → s.threshold .throttle ≤ s.shownComposite → s.rget Reg.TH_STAT_STEP < 4 → 500 ≤ s.plat.stepUpMs →
    ∃ t, exec .throttleStepUp s = .next t ∧ t.rget Reg.TH_STAT_STEP = s.rget Reg.TH_STAT_STEP + 1 ∧ t.rget Reg.TH_CNT_STEP_CHANGES = min (s.rget Reg.TH_CNT_STEP_CHANGES + 1) 65535 ∧
      t.plat.stepUpMs = 0 ∧ t.media = s.media ∧ (s.plat.tokens = [] → t.flash = s.flash)) ∧
  (∀ s : State, s.flag Reg.TH_STAT_THROTTLE = false → 2000 ≤ s.plat.stepDownMs → 0 < s.rget Reg.TH_STAT_STEP → s.rget Reg.TH_STAT_STEP ≤ 4 →
    (s.flag Reg.TH_STAT_DRAM_HOT = true → s.rget Reg.TH_STAT_STEP ≤ 2 → exec .throttleStepDown s = .next s) ∧
    (s.flag Reg.TH_STAT_DRAM_HOT = false → ∃ t, exec .throttleStepDown s = .next t ∧ t.rget Reg.TH_STAT_STEP = s.rget Reg.TH_STAT_STEP - 1 ∧ t.plat.stepDownMs = 0 ∧ t.media = s.media ∧
      (s.plat.tokens = [] → t.flash = s.flash))) ∧
  (∀ (ps : Nat) (s : State), s.plat.ready = true → s.psInForce = ps → 3 ≤ ps → s.idleHosts = true → s.flushing = false → s.plat.nonOp = none → s.dirtyCount = 0 →
    s.media.openPage = [] → s.media.pages = [] → ∃ t, exec (.nonOperationalEnter ps) s = .next t ∧ t.plat.nonOp = some ps ∧
      (∀ d, d ∈ t.plat.gated ↔ d ∈ s.plat.gated ∨ ∃ w ∈ s.leaveWakes ps, (∀ ch, w ≠ .dram ch) ∧ d ∈ w.domains) ∧
      (ps = 4 → t.flag Reg.MC_STAT_SELF_REFRESH = true) ∧ (ps ≠ 4 → t.regs = s.regs) ∧ t.media = s.media ∧ t.flash = s.flash ∧ t.mem = s.mem) ∧
  (∀ (k ps : Nat) (s : State), k ∈ s.ctlList → (s.ctl k).apstEnable = true → ((s.ctl k).apst.getD (s.ctl k).powerState (0, 0)).1 = ps → ps = 3 ∨ ps = 4 → (s.ctl k).powerState < ps →
    s.idleHosts = true → ∃ t, exec (.apstTimeout k) s = .next t ∧ (t.ctl k).powerState = ps ∧ (∀ j, j ≠ k → t.ctl j = s.ctl j) ∧ t.media = s.media) ∧
  (∀ (us : Nat) (s : State), s.plat.tokens = [] →
    ∃ t, exec (.tokenRefill us) s = .next t ∧ t.rget Reg.TK_STAT_LEVEL = min (s.rget Reg.TK_RATE_POOL_MAX) (s.rget Reg.TK_STAT_LEVEL + s.rget Reg.TK_RATE_RATE * us) % 256 ∧
      t.plat.tokens = [] ∧ t.media = s.media) ∧
  (∀ (us : Nat) (r : TokenReq) (s : State), s.plat.tokens = [r] → r.got + s.rget Reg.TK_STAT_LEVEL + s.rget Reg.TK_RATE_RATE * us < r.weight →
    ∃ t, exec (.tokenRefill us) s = .next t ∧ t.plat.tokens = [{ r with got := r.got + s.rget Reg.TK_STAT_LEVEL + s.rget Reg.TK_RATE_RATE * us, waited := r.waited + 10 * us }] ∧
      t.rget Reg.TK_STAT_LEVEL = 0) ∧
  (∀ (id us : Nat) (r : TokenReq) (s : State), s.plat.tokens.find? (fun x => x.id == id) = some r → s.paramN .tokenMaxWaitUs ≤ us → r.aged = false →
    ∃ t, exec (.tokenAge id us) s = .next t ∧ t.plat.tokens = s.plat.tokens.filter (fun x => x.id != id) ++ [{ r with prio := 1, waited := max r.waited (10 * us), aged := true }] ∧
      t.flag Reg.TK_STAT_AGED = true ∧ t.media = s.media)

/-- The start: straps are sampled once and a bad set is a strap fault; CONFIG loads the root key and counts the boot; a missing Rulebook leaves the defaults in force; both channels trained start the sweeper and a channel that cannot train stops the boot; with its conditions met the device is ready, its blocks locked, its SVN minimum never lower; the recovery load takes an image and restarts; the status block is served (R2 to R5, R27, R437, R438, R494, R497, R501, R502). Clauses in which a row changes nothing outside its conditions are the model's (log entry 2). -/
def Obligations.StartupCommands : Prop :=
  (∀ (x : Straps) (s : State), s.plat.hold = .none → s.mode = .unsampled → x.mode < 4 → x.member < 8 → x.geom < 4 → x.test < 4 →
    (s.strapsBad x = false → ∃ t, exec (.strapSample x) s = .next t ∧ t.mode = State.modeOf x.mode ∧ t.rget Reg.MC_CTRL_GEOM = x.geom ∧ t.media = s.media) ∧
    (s.strapsBad x = true → ∃ t, exec (.strapSample x) s = .next t ∧ t.mode = .strapFault ∧ t.media = s.media)) ∧
  (∀ (x : Straps) (s : State), s.mode ≠ .unsampled → exec (.strapSample x) s = .next s) ∧
  (∀ s : State, s.plat.hold = .none → s.mode ≠ .unsampled → s.sec.journey = [] →
    ∃ t e, exec (.bootChainStage .config) s = .next t ∧ t.sec.boot = s.sec.boot + 1 ∧ t.sec.journey = [e] ∧ e.stage = 1 ∧ e.result = 0 ∧ t.flag Reg.CE_STAT_ROOT_LOADED = true ∧
      t.rget Reg.GD_BOOT_CNT_COUNT = (s.sec.boot + 1) % 2 ^ 32 ∧ t.media = s.media) ∧
  (∀ s : State, s.booting = true → s.lastEntry = (5, 0) → s.rulebookImage = none →
    ∃ t, exec (.bootChainStage .rulebook) s = .next t ∧ t.rb = {} ∧ t.lastEntry = (6, 4) ∧ t.plat.linksReleased = true) ∧
  (∀ (ch : Nat) (attempts : List Bool) (density : Bool) (s : State), s.booting = true → s.lastEntry = (3, 0) → ch < 2 → ch ∉ s.plat.dramOk →
    (true ∈ attempts.take 3 → density = true → s.plat.dramOk.length = 1 →
      ∃ t, exec (.dramTraining ch attempts density) s = .next t ∧ t.flag Reg.MC_STAT_TRAINED = true ∧ t.mem.sweeping = true ∧ t.mem.dram = s.mem.dram) ∧
    (true ∉ attempts.take 3 ∨ density = false → ∃ t, exec (.dramTraining ch attempts density) s = .next t ∧ t.plat.progress = 9 ∧ t.plat.detail = ch ∧ t.mem = s.mem)) ∧
  (∀ s : State, s.readyNow = true →
    ∃ t, exec .controllerReady s = .next t ∧ t.plat.ready = true ∧ t.flag Reg.MC_CTRL_LOCK = true ∧ t.flag Reg.FT_CTRL_LOCK = true ∧ t.flag Reg.TT_CTRL_LOCK = true ∧
      s.sec.minSvn ≤ t.sec.minSvn ∧ s.sec.rbMinSvn ≤ t.sec.rbMinSvn ∧ t.media.map = s.media.map) ∧
  (∀ s : State, s.readyNow = false → exec .controllerReady s = .next s) ∧
  (∀ s : State, s.plat.hold = .none → s.mode ≠ .unsampled → s.mode ≠ .strapFault → s.flag Reg.GD_STAT_RECOVERY = false → s.plat.progress = 10 →
    ∃ t, exec .recoveryLoad s = .next t ∧ t.flag Reg.GD_STAT_RECOVERY = true ∧ t.plat.progress = 8 ∧ t.sec.rlBytes = 0 ∧ t.media = s.media) ∧
  (∀ s : State, s.loading = true →
    exec .rlStatus s = .next (s.emit (.mctp ([s.shownProgress] ++ leBytes 4 s.sec.rlBytes ++ [s.sec.rlResult]))) ∧
    (∀ (off : Nat) (bytes : List Byte), 0 < off → bytes.length ≤ 1024 → off + bytes.length ≤ 768 * 4096 →
      ∃ t, exec (.rlWrite off bytes) s = .next t ∧ t.sec.rlBytes = s.sec.rlBytes + bytes.length ∧ t.adm = s.adm ∧ t.out = s.out ++ [.mctp [0]]) ∧
    (∀ bytes : List Byte, bytes.length ≤ 1024 → ∃ t, exec (.rlWrite 0 bytes) s = .next t ∧ t.sec.rlBytes = bytes.length ∧ Table.find t.adm.fwSlots 1 = none ∧ t.out = s.out ++ [.mctp [0]]) ∧
    (∀ (len : Nat) (i : ImageCheck) (ok : Bool), len ≠ s.sec.rlBytes → ∃ t, exec (.rlCommit len i ok) s = .next t ∧ t.sec.rlResult = 3 ∧ t.adm = s.adm ∧ t.out = s.out ++ [.mctp [3]]) ∧
    (∀ i : ImageCheck, s.verifyStatus { i with cls := 0 } = 0 → ∃ t, exec (.rlCommit s.sec.rlBytes i true) s = .next t ∧ Table.find t.adm.fwSlots 1 = some { i with cls := 0 } ∧ t.adm.activeSlot = 1 ∧ t.mode = .unsampled)) ∧
  (∀ (ms : Nat) (s : State), s.plat.hold ≠ .off → 2 ≤ ms → exec (.startupStatusRead ms) s = .next (s.emit (.mctp (s.statusBlock ms))))

/-! ## The Guard (chapter 17) -/

/-- Mailbox requests: STATUS, STAMP, HELLO_BUILD and HELLO_CHECK answer; VERIFY_IMAGE names an image as verified when every check passes, else VERIFY_FAIL or SVN_LOW; MEASURE appends one entry of a verified image, and answers LOG_FULL at 64; CHALLENGE makes the previous nonce void; a ticket is accepted only against its conditions; a lifecycle request that is allowed is pending, level 2 blows the fuse; a set of the clock makes it valid; a sealed secret takes one nonce and unseals to its bytes (R404, R432, R437, R441, R446, R450, R453, R504). -/
def Obligations.MailboxCommands : Prop :=
  (∀ (slot p : Nat) (h : Hello) (s : State), s.mailboxOpen slot = true → p ≤ 5 →
    (∃ t d, exec (.status slot) s = .next t ∧ t = s.answer slot 0 d) ∧
    (∃ t d, exec (.stamp slot) s = .next t ∧ t = s.answer slot 0 d ∧ d.take 4 = leBytes 4 (if s.flag Reg.SC_STAT_VALID then s.sec.clockMs / 1000 % 2 ^ 32 else 2 ^ 32 - 1) ∧
      d.drop 5 = leBytes 8 s.flash.tick) ∧
    (∃ t d, exec (.helloBuild slot p) s = .next t ∧ t.out = s.out ++ [.mailbox slot 0 d] ∧ d.length = (if s.mode = .worker then 868 else 644) ∧ d.take 8 = leBytes 8 s.sec.serial ∧
      t.media = s.media ∧ t.sec = s.sec) ∧
    (State.helloVerifies h (s.mode == .manager) = true → exec (.helloCheck slot p h) s = .next (s.answer slot 0 [])) ∧
    (State.helloVerifies h (s.mode == .manager) = false → ∃ t, exec (.helloCheck slot p h) s = .next t ∧ (t.bl p).ephemeral = none ∧ t.out = s.out ++ [.mailbox slot 3 []] ∧
      t.sec = s.sec ∧ t.regs = s.regs)) ∧
  (∀ (slot : Nat) (i : ImageCheck) (s : State), s.mailboxOpen slot = true →
    (∃ t, exec (.verifyImage slot i) s = .next t ∧ (s.verifyStatus i = 0 → i.digest ∈ t.sec.verified) ∧ (s.verifyStatus i ≠ 0 → t.sec = s.sec) ∧
      (∀ d ∈ t.sec.verified, d = i.digest ∨ d ∈ s.sec.verified) ∧ t.sec.minSvn = s.sec.minSvn ∧ t.regs = s.regs ∧ t.media = s.media ∧ Out.mailbox slot (s.verifyStatus i) (if s.verifyStatus i = 0 then leBytes 48 i.digest else []) ∈ t.out) ∧
    (i.digest ∉ s.sec.verified → exec (.measure slot i) s = .next (s.answer slot 2 [])) ∧
    (i.digest ∈ s.sec.verified → 64 ≤ s.sec.journey.length → exec (.measure slot i) s = .next (s.answer slot 6 [])) ∧
    (i.digest ∈ s.sec.verified → s.sec.journey.length < 64 → ∃ t e, exec (.measure slot i) s = .next t ∧ t.sec.journey = s.sec.journey ++ [e] ∧ e.stage = 10 ∧ e.digest = i.digest ∧
      e.index = s.sec.journey.length ∧ e.boot = s.sec.boot ∧ t.rget Reg.GD_STAT_ENTRIES = (s.sec.journey.length + 1) % 128 ∧ t.media = s.media)) ∧
  (∀ (slot : Nat) (s : State), s.mailboxOpen slot = true →
    ∃ t n, exec (.challenge slot) s = .next t ∧ t.sec.challenge = some n ∧ t.out = s.out ++ [.mailbox slot 0 (leBytes 32 n)] ∧ t.regs = s.regs ∧ t.media = s.media) ∧
  (∀ (slot : Nat) (k : Ticket) (s : State), s.mailboxOpen slot = true →
    (s.ticketOk k = true → ∃ t e, exec (.ticket slot k) s = .next t ∧ t.plat.ticket = some (k.scope, e) ∧ t.flag Reg.FG_STAT_GATE_OPEN = true ∧ t.flag Reg.GD_TICKET_ACTIVE = true ∧
      t.out = s.out ++ [.mailbox slot 0 []] ∧ t.media = s.media) ∧
    (s.ticketOk k = false → ∃ t, exec (.ticket slot k) s = .next t ∧ t.plat.ticket = s.plat.ticket ∧ t.sec.challenge = none ∧ t.regs = s.regs ∧ t.out = s.out ++ [.mailbox slot 3 []])) ∧
  (∀ (slot target : Nat) (s : State), s.mailboxOpen slot = true →
    (s.sec.fuse = false → s.rget Reg.GD_STAT_LEVEL ≠ 2 → target ≠ s.rget Reg.GD_STAT_LEVEL → target ≤ 2 →
      ∃ t, exec (.lifecycle slot target 0x4C564C30#32) s = .next t ∧ t.sec.fuse = decide (target = 2) ∧ (target ≠ 2 → t.sec.pendingLevel = some target) ∧ t.plat.ticket = none ∧
        t.rget Reg.GD_STAT_LEVEL = s.rget Reg.GD_STAT_LEVEL ∧ t.media = s.media) ∧
    (∀ confirm : Word, confirm ≠ 0x4C564C30#32 → exec (.lifecycle slot target confirm) s = .next (s.answer slot 2 [])) ∧
    (s.sec.fuse = true → ∀ confirm : Word, exec (.lifecycle slot target confirm) s = .next (s.answer slot 2 []))) ∧
  (∀ (slot ms : Nat) (s : State), s.mailboxOpen slot = true →
    (∃ t, exec (.mediaKeyAdvance slot true) s = .next t ∧ t.sec.mediaGen = s.sec.mediaGen + 1 ∧ (∀ k ∈ t.sec.keys, k.req.label = .medk → k.drop = true) ∧ t.media = s.media) ∧
    exec (.mediaKeyAdvance slot false) s = .next (s.answer slot 5 []) ∧
    (∃ t, exec (.setTime slot ms) s = .next t ∧ t.sec.clockMs = ms % 2 ^ 48 ∧ t.flag Reg.SC_STAT_VALID = true ∧ t.flag Reg.SC_STAT_LOST = false ∧ t.media = s.media)) ∧
  (∀ (slot secretId : Nat) (bytes : List Byte) (s : State), s.mailboxOpen slot = true →
    (bytes.length ≤ 4096 → s.gcmReady = true → ∃ t, exec (.seal slot secretId bytes true) s = .next t ∧ t.sec.nonce = s.sec.nonce + 1 ∧
      exec (.unseal slot secretId) t = .next (t.answer slot 0 (bytes.map fun b : Byte => b.toNat)) ∧ t.media = s.media) ∧
    (bytes.length ≤ 4096 → s.gcmReady = true → exec (.seal slot secretId bytes false) s = .next (s.answer slot 5 [])) ∧
    (4096 < bytes.length ∨ s.gcmReady = false → exec (.seal slot secretId bytes true) s = .next (s.answer slot 2 [])) ∧
    (Table.find s.sec.secrets secretId = none → exec (.unseal slot secretId) s = .next (s.answer slot 2 [])))

/-- SPDM and the Station clock: each request advances a transport's connection only from the state before it and is otherwise unexpected; slot 0 alone holds the certificate chain, which digests and portions come from; a challenge is signed by the key of this boot's images and level; measurements are Busy before the first signing and show the journey after it; the mailbox's SPDM serves the same; an oscillator stop and a low battery lose the clock; a read of the low word latches the high one (R443, R444, R448, R453, R454). Clauses in which a row changes nothing outside its conditions are the model's (log entry 2). -/
def Obligations.SpdmAndClock : Prop :=
  (∀ (t : Nat) (s : State), s.spdmOpen t = true →
    (∃ u, exec (.getVersion t) s = .next u ∧ u.spdmState t = 1 ∧ u.out = s.out ++ [.spdm t .version] ∧ (∀ j, j ≠ t → u.spdmState j = s.spdmState j) ∧ u.media = s.media) ∧
    (s.spdmState t = 1 → ∃ u, exec (.getCapabilities t) s = .next u ∧ u.spdmState t = 2 ∧ u.out = s.out ++ [.spdm t .capabilities]) ∧
    (s.spdmState t ≠ 1 → exec (.getCapabilities t) s = .next (s.emit (.spdm t .unexpected))) ∧
    (s.spdmState t = 2 → ∃ u, exec (.negotiateAlgorithms t true true) s = .next u ∧ u.spdmState t = 3 ∧ u.out = s.out ++ [.spdm t .algorithms]) ∧
    (∀ p h : Bool, s.spdmState t ≠ 2 → exec (.negotiateAlgorithms t p h) s = .next (s.emit (.spdm t .unexpected))) ∧
    (s.spdmState t = 3 → exec (.getDigests t) s = .next (s.emit (.spdm t (.digests (Sha384.digest (s.chainBytes.map fun b : Byte => b.toNat))))) ∧
      (∀ off len, exec (.getCertificate t 0 off len) s = .next (s.emit (.spdm t (.certificate ((s.chainBytes.drop off).take len) (s.chainBytes.length - off - len))))) ∧
      (∀ n, exec (.spdmChallenge t 0 n) s =
        .next (s.emit (.spdm t (.challengeAuth n (State.signature (State.attKey s.sec.guardDigest s.sec.bootDigest (s.rget Reg.GD_STAT_LEVEL)) [n] s.free))))) ∧
      (∀ slot off len n, slot ≠ 0 → exec (.getCertificate t slot off len) s = .next (s.emit (.spdm t .invalid)) ∧ exec (.spdmChallenge t slot n) s = .next (s.emit (.spdm t .invalid))) ∧
      (∀ i sg, s.signedRecord = none → exec (.getMeasurements t i sg) s = .next (s.emit (.spdm t .busy))) ∧
      (∀ sg r, s.signedRecord = some r → exec (.getMeasurements t 0xFF sg) s = .next (s.emit (.spdm t (.measurements (r.entries.map State.measured) sg))) ∧
        exec (.getMeasurements t 0xFE sg) s = .next (s.emit (.spdm t (.manifest (s.recordBytes r true) sg))) ∧
        (∀ i e, 1 ≤ i → i ≤ 64 → r.entries[i - 1]? = some e → exec (.getMeasurements t i sg) s = .next (s.emit (.spdm t (.measurements [State.measured e] sg)))))) ∧
    (s.spdmState t ≠ 3 → exec (.getDigests t) s = .next (s.emit (.spdm t .unexpected)) ∧ ∀ i sg, exec (.getMeasurements t i sg) s = .next (s.emit (.spdm t .unexpected)))) ∧
  (∀ (slot t : Nat) (r : SpdmReq) (s : State), s.mailboxOpen slot = true → s.spdmOpen t = true → exec (.spdm slot t r) s = .next ((s.spdm t r).answer slot 0 [])) ∧
  (∀ (us : Nat) (s : State), (2000 < us → exec (.clockOscStop us) s = .next ((s.rset Reg.SC_STAT_VALID 0).rset Reg.SC_STAT_LOST 1)) ∧ (us ≤ 2000 → exec (.clockOscStop us) s = .next s)) ∧
  (∀ (mv : Nat) (s : State), s.plat.hold = .off → mv < 1800 → exec (.vbatLow mv) s = .next ((s.rset Reg.SC_STAT_VALID 0).rset Reg.SC_STAT_LOST 1)) ∧
  (∀ s : State, ∃ t v, exec .scTimeLoRead s = .next t ∧ t.out = s.out ++ [.readData 0x9040 v] ∧ v.toNat = s.sec.clockMs % 2 ^ 32 ∧
    t.rget Reg.SC_TIME_HI_MS_HI = s.sec.clockMs / 2 ^ 32 % 2 ^ Reg.SC_TIME_HI_MS_HI.width ∧ t.sec = s.sec ∧ t.media = s.media)

/-! ## I/O commands (chapter 11) -/

/-- Reading commands: Read, Verify and Compare begin the lookups of exactly the parts their range touches, Compare keeping the host's data for the completion point; Flush makes every committed parcel of the namespaces it names that an earlier command wrote urgent, and commits the open journal page; no map entry, and nothing on flash, changes (R20, R284, R287, R296). -/
def Obligations.ReadingCommands : Prop :=
  (∀ (n : Nat) (c : Ctx) (ns : Namespace) (s : State), s.mayRun n 0x02 = some (c, ns) →
    ∃ t, exec (.read n) s = .next t ∧ t.ctx n = some { c with started := true, todo := State.rangeTodo ns c.sqe.slba c.sqe.nlb } ∧ (∀ m, m ≠ n → t.ctx m = s.ctx m) ∧
      t.media = { s.media with hourHost := s.media.hourHost + 1 } ∧ t.flash = s.flash ∧ t.regs = s.regs) ∧
  (∀ (n : Nat) (c : Ctx) (ns : Namespace) (s : State), s.mayRun n 0x0C = some (c, ns) →
    ∃ t, exec (.verify n) s = .next t ∧ t.ctx n = some { c with started := true, todo := State.rangeTodo ns c.sqe.slba c.sqe.nlb } ∧ (∀ m, m ≠ n → t.ctx m = s.ctx m) ∧
      t.media = s.media ∧ t.flash = s.flash ∧ t.regs = s.regs) ∧
  (∀ (n : Nat) (data : List Block) (c : Ctx) (ns : Namespace) (s : State), s.mayRun n 0x05 = some (c, ns) →
    ∃ t x, exec (.compare n data) s = .next t ∧ t.ctx n = some x ∧ x.started = true ∧ x.todo = State.rangeTodo ns c.sqe.slba c.sqe.nlb ∧ x.cmp = data ∧ x.sqe = c.sqe ∧
      t.media = s.media ∧ t.flash = s.flash) ∧
  (∀ (n : Nat) (c : Ctx) (s : State), s.ctx n = some c → c.word = .active → c.inserted = true → c.started = false → c.status = none → c.sqe.opcode = 0 → c.sqid ≠ 0 ∨ 2 ≤ c.ctl → s.flushing = false →
    ∃ t x, exec (.flush n) s = .next t ∧ t.ctx n = some x ∧ x.started = true ∧ x.needDurable = some s.media.nextSeq ∧ t.media.openPage = [] ∧
      (∀ p, (s.parcel p).cpSeq < c.seq → (s.parcel p).committed = true → (s.parcel p).state = .filled ∨ (s.parcel p).state = .placed ∨ (s.parcel p).state = .stripeWait →
        c.sqe.nsid = 0xFFFFFFFF ∨ (s.parcel p).slot % 128 = State.slotOf c.sqe.nsid → (t.parcel p).urgent = true) ∧
      (∀ p, (t.parcel p).state = (s.parcel p).state ∧ (t.parcel p).blocks = (s.parcel p).blocks) ∧ t.media.map = s.media.map ∧ t.media.nand.content = s.media.nand.content ∧
      t.media.nand.ns = s.media.nand.ns ∧ t.flash = s.flash)

/-- Writing commands: a Write with its parcels and data leaves each IU it covers INBUF, naming the IU's first parcel, those parcels FILLED, the host's count of data grown, and every other map entry and all of flash alone; Write Uncorrectable leaves its whole IUs UNREC, Write Zeroes and Deallocate theirs DEALLOC, every other entry alone; a Deallocate without AD changes nothing; a command that needs a map line of an unloaded segment or a bad one waits with nothing changed; in the Buffer stop a writer is refused (R140, R145, R162, R191, R285, R286). -/
def Obligations.WritingCommands : Prop :=
  (∀ (n : Nat) (data : List Block) (c : Ctx) (ns : Namespace) (s : State), s.mayRun n 0x01 = some (c, ns) → c.ctl < 2 → s.stopRefused c = false → s.writeReady n c = true →
    s.linesWait (State.spaceOf ns) (State.parcelIus ns c) = none →
    ∃ t, exec (.write n data) s = .next t ∧
      (∀ iu ∈ State.parcelIus ns c, t.mapGet (State.spaceOf ns) iu = entInbuf ((c.parcels.filter fun p => (s.parcel p).iu == iu).headD 0) ∧
        ∀ p ∈ c.parcels, (s.parcel p).iu = iu → (t.parcel p).state = .filled) ∧
      (∀ k, (∀ iu ∈ State.parcelIus ns c, k ≠ mapKey (State.spaceOf ns) iu) → Table.get entDealloc t.media.map k = Table.get entDealloc s.media.map k) ∧
      (t.ctl c.ctl).dataWritten = (s.ctl c.ctl).dataWritten + (c.sqe.nlb + 1) * ns.lbaBytes / 512 ∧ t.media.nand = s.media.nand ∧ t.media.pages = s.media.pages ∧ t.flash = s.flash) ∧
  (∀ (n : Nat) (c : Ctx) (ns : Namespace) (s : State), s.mayRun n 0x04 = some (c, ns) → s.stopRefused c = false → ns.array = false → c.sqe.slba % ns.bpi = 0 →
    (c.sqe.slba + c.sqe.nlb + 1) % ns.bpi = 0 → s.linesWait (State.slotOf ns.nsid) (State.wholeIus ns c.sqe.slba (c.sqe.nlb + 1)) = none →
    ∃ t, exec (.writeUncorrectable n) s = .next t ∧ (∀ iu ∈ State.wholeIus ns c.sqe.slba (c.sqe.nlb + 1), t.mapGet (State.slotOf ns.nsid) iu = entUnrec) ∧
      (∀ k, (∀ iu ∈ State.wholeIus ns c.sqe.slba (c.sqe.nlb + 1), k ≠ mapKey (State.slotOf ns.nsid) iu) → Table.get entDealloc t.media.map k = Table.get entDealloc s.media.map k) ∧
      t.media.nand.content = s.media.nand.content ∧ t.flash = s.flash) ∧
  (∀ (n : Nat) (c : Ctx) (ns : Namespace) (s : State), s.mayRun n 0x04 = some (c, ns) → s.stopRefused c = false → c.sqe.slba % ns.bpi ≠ 0 →
    exec (.writeUncorrectable n) s = .next (s.failCtx n stField)) ∧
  (∀ (n : Nat) (c : Ctx) (ns : Namespace) (s : State), s.mayRun n 0x08 = some (c, ns) → s.stopRefused c = false → ns.array = false → State.parcelIus ns c = [] →
    s.linesWait (State.slotOf ns.nsid) (State.wholeIus ns c.sqe.slba (c.sqe.nlb + 1)) = none →
    ∃ t, exec (.writeZeroes n) s = .next t ∧ (∀ iu ∈ State.wholeIus ns c.sqe.slba (c.sqe.nlb + 1), t.mapGet (State.slotOf ns.nsid) iu = entDealloc) ∧
      (∀ k, (∀ iu ∈ State.wholeIus ns c.sqe.slba (c.sqe.nlb + 1), k ≠ mapKey (State.slotOf ns.nsid) iu) → Table.get entDealloc t.media.map k = Table.get entDealloc s.media.map k) ∧
      t.media.nand.content = s.media.nand.content ∧ t.flash = s.flash) ∧
  (∀ (n : Nat) (c : Ctx) (ns : Namespace) (s : State), s.mayRun n 0x09 = some (c, ns) →
    (c.sqe.ad = false → ∃ t, exec (.datasetManagement n) s = .next t ∧ t.ctx n = some { c with started := true } ∧ t.media = s.media ∧ t.regs = s.regs) ∧
    (c.sqe.ad = true → s.stopRefused c = false → ns.array = false → s.linesWait (State.slotOf ns.nsid) (s.deallocIus (State.slotOf ns.nsid) (State.iuRanges ns c.sqe.ranges)).eraseDups = none →
      ∃ t, exec (.datasetManagement n) s = .next t ∧
        (∀ iu r, iu < 2 ^ 40 → r ∈ c.sqe.ranges → r.1 ≤ iu * ns.bpi → (iu + 1) * ns.bpi ≤ r.1 + r.2 → t.mapGet (State.slotOf ns.nsid) iu = entDealloc) ∧
        (∀ x iu, iu < 2 ^ 40 → x ≠ State.slotOf ns.nsid ∨ (∀ r ∈ c.sqe.ranges, ¬(r.1 ≤ iu * ns.bpi ∧ (iu + 1) * ns.bpi ≤ r.1 + r.2)) → t.mapGet x iu = s.mapGet x iu) ∧
        t.media.nand.content = s.media.nand.content ∧ t.flash = s.flash)) ∧
  (∀ (n : Nat) (data : List Block) (c : Ctx) (ns : Namespace) (s t : State), s.mayRun n 0x01 = some (c, ns) → c.ctl < 2 → s.stopRefused c = false → s.writeReady n c = true →
    s.linesWait (State.spaceOf ns) (State.parcelIus ns c) = some t →
    exec (.write n data) s = .next t ∧ t.ctx n = s.ctx n ∧ t.media.map = s.media.map ∧ t.media.parcels = s.media.parcels ∧ t.media.nand = s.media.nand ∧ t.flash = s.flash) ∧
  (∀ (n : Nat) (data : List Block) (c : Ctx) (ns : Namespace) (s : State), s.stopRefused c = true →
    (s.mayRun n 0x01 = some (c, ns) → c.ctl < 2 → exec (.write n data) s = .next (s.failCtx n stWriteProtected)) ∧
    (s.mayRun n 0x08 = some (c, ns) → exec (.writeZeroes n) s = .next (s.failCtx n stWriteProtected)) ∧
    (s.mayRun n 0x19 = some (c, ns) → exec (.copy n) s = .next (s.failCtx n stWriteProtected)))

/-- Copy, I/O management and reservations: a Copy outside its limits fails, else begins the lookups of its source ranges, and with their data and its parcels writes its destination; receive returns the handle status; a send closes the named units; a registrant's key is kept, a reservation is taken while none is held and refused to another, released by its holder; the report returns it (R282, R288, R289). -/
def Obligations.CopyAndReservations : Prop :=
  (∀ (n : Nat) (c : Ctx) (ns : Namespace) (s : State), s.mayRun n 0x19 = some (c, ns) → s.stopRefused c = false → c.sqe.fmt = 0 →
    (State.copyTooLarge ns c.sqe = true → exec (.copy n) s = .next (s.failCtx n (stCmd 0x83))) ∧
    (State.copyTooLarge ns c.sqe = false → (∀ l ∈ State.copySources c.sqe, l < ns.nsze) → c.sqe.slba + (State.copySources c.sqe).length ≤ ns.nsze → State.copySources c.sqe ≠ [] →
      (c.fetched = false → ∃ t x, exec (.copy n) s = .next t ∧ t.ctx n = some x ∧ x.fetched = true ∧ (∀ r ∈ c.sqe.ranges, ∀ q ∈ State.rangeTodo ns r.1 (r.2 - 1), q ∈ x.todo) ∧
        t.media = s.media ∧ t.regs = s.regs) ∧
      (c.fetched = true → s.writeReady n c = true → s.linesWait (State.spaceOf ns) (State.parcelIus ns c) = none → ∃ t, exec (.copy n) s = .next t ∧
        (∀ iu ∈ State.parcelIus ns c, t.mapGet (State.spaceOf ns) iu = entInbuf ((c.parcels.filter fun p => (s.parcel p).iu == iu).headD 0)) ∧
        (∀ k, (∀ iu ∈ State.parcelIus ns c, k ≠ mapKey (State.spaceOf ns) iu) → Table.get entDealloc t.media.map k = Table.get entDealloc s.media.map k) ∧
        t.media.nand = s.media.nand ∧ t.flash = s.flash))) ∧
  (∀ (n : Nat) (c : Ctx) (ns : Namespace) (s : State), s.mayRun n 0x12 = some (c, ns) →
    (s.adm.fdp = true → ∃ t, exec (.ioManagementReceive n) s = .next t ∧ t.ctx n = some { c with started := true, bytes := s.ruhStatus ns } ∧ t.media = s.media ∧ t.regs = s.regs) ∧
    (s.adm.fdp = false → exec (.ioManagementReceive n) s = .next (s.failCtx n stField))) ∧
  (∀ (n g h : Nat) (c : Ctx) (ns : Namespace) (s : State), s.mayRun n 0x1D = some (c, ns) → s.adm.fdp = true → h < 4096 → h < ns.handles.length → g < s.groupCount →
    ∃ t x, exec (.ioManagementSend n [g * 4096 + h]) s = .next t ∧ t.ctx n = some x ∧ x.started = true ∧
      (s.openSb g (.host (ns.handles.getD h 0)) = none → t.media = s.media) ∧ t.media.map = s.media.map) ∧
  (∀ (n pid : Nat) (c : Ctx) (ns : Namespace) (s : State), s.mayRun n 0x1D = some (c, ns) → s.adm.fdp = true → ns.handles.length ≤ pid % 4096 ∨ s.groupCount ≤ pid / 4096 →
    exec (.ioManagementSend n [pid]) s = .next (s.failCtx n (stGen 0x2A))) ∧
  (∀ (n key cptpl : Nat) (c : Ctx) (ns : Namespace) (s : State), s.mayRun n 0x0D = some (c, ns) →
    (State.regKey ns c.ctl = none → ∃ t x, exec (.reservationRegister n 0 0 key false cptpl) s = .next t ∧ Table.find t.media.nand.ns (State.slotOf ns.nsid) = some x ∧
      State.regKey x c.ctl = some key ∧ x.resGen = ns.resGen + 1 ∧ x.holder = ns.holder ∧ x.ptpl = State.ptplOf ns cptpl ∧ (∀ k, k ≠ c.ctl → State.regKey x k = State.regKey ns k) ∧ t.media.map = s.media.map) ∧
    (∀ old bad : Nat, State.regKey ns c.ctl = some old → bad ≠ old → exec (.reservationRegister n 1 bad key false cptpl) s = .next (s.failCtx n (stGen 0x83)) ∧
      exec (.reservationRegister n 2 bad key false cptpl) s = .next (s.failCtx n (stGen 0x83)))) ∧
  (∀ (n : Nat) (c : Ctx) (ns : Namespace) (s : State), s.mayRun n 0x0E = some (c, ns) →
    ∃ t x, exec (.reservationReport n) s = .next t ∧ t.ctx n = some x ∧ x.started = true ∧ x.bytes.take 4 = leBytes 4 ns.resGen ∧ x.bytes[4]? = some ns.rtype ∧
      x.bytes.length = 24 + 24 * ns.registrants.length ∧ t.media = s.media ∧ t.regs = s.regs) ∧
  (∀ (n ty key pr : Nat) (iekey : Bool) (c : Ctx) (ns : Namespace) (s : State), s.mayRun n 0x11 = some (c, ns) → 1 ≤ ty → ty ≤ 6 → State.regKey ns c.ctl = some key →
    (ns.holder = none → ∃ t x, exec (.reservationAcquire n 0 ty key pr iekey) s = .next t ∧ Table.find t.media.nand.ns (State.slotOf ns.nsid) = some x ∧ x = { ns with holder := some c.ctl, rtype := ty } ∧
      t.media.map = s.media.map) ∧
    (∀ h, ns.holder = some h → h ≠ c.ctl → State.allReg ns.rtype = false → exec (.reservationAcquire n 0 ty key pr iekey) s = .next (s.failCtx n (stGen 0x83)))) ∧
  (∀ (n key : Nat) (iekey : Bool) (c : Ctx) (ns : Namespace) (s : State), s.mayRun n 0x15 = some (c, ns) → State.regKey ns c.ctl = some key → ns.holder = some c.ctl →
    ∃ t x, exec (.reservationRelease n 0 ns.rtype key iekey) s = .next t ∧ Table.find t.media.nand.ns (State.slotOf ns.nsid) = some x ∧ x = { ns with holder := none, rtype := 0 } ∧ t.media.map = s.media.map)

/-! ## Admin commands (chapter 12) -/

/-- Queues, logs and events: a Create I/O queue command makes the queue its fields name, or fails with the first check it breaks and changes no queue; a Delete marks or removes it; Identify and Get Log Page return their data or fail; an Abort names its target, fails as the ninth or ends not aborted; an Asynchronous Event Request waits, reports an event that waits, or fails as the ninth (R276, R277, R292, R297, R301 to R304, R308). -/
def Obligations.AdminCommands : Prop :=
  (∀ (n : Nat) (c : Ctx) (s : State), s.adminRun n 0x05 = some c → c.status = none →
    (s.createCqStatus c = none → ∃ t, exec (.createIoCq n) s = .next t ∧ t.answered n stOk 0 ∧
      Table.find (t.ctl c.ctl).cqs (c.a 0) = some { size := c.a 1 + 1, vector := c.a 2, ints := c.a 3 == 1, base := c.a 4, inCmb := c.a 5 == 1 } ∧
      (∀ q, q ≠ c.a 0 → Table.find (t.ctl c.ctl).cqs q = Table.find (s.ctl c.ctl).cqs q) ∧ (t.ctl c.ctl).sqs = (s.ctl c.ctl).sqs ∧ t.media = s.media) ∧
    (∀ st, s.createCqStatus c = some st → ∃ t, exec (.createIoCq n) s = .next t ∧ t.answered n st 0 ∧ t.ctls = s.ctls ∧ t.media = s.media)) ∧
  (∀ (n : Nat) (c : Ctx) (s : State), s.adminRun n 0x01 = some c → c.status = none →
    (s.createSqStatus c = none → ∃ t, exec (.createIoSq n) s = .next t ∧ t.answered n stOk 0 ∧
      Table.find (t.ctl c.ctl).sqs (c.a 0) = some { size := c.a 1 + 1, cqid := c.a 3, prio := c.a 2 % 4, base := c.a 4, inCmb := c.a 5 == 1 } ∧
      (∀ q, q ≠ c.a 0 → Table.find (t.ctl c.ctl).sqs q = Table.find (s.ctl c.ctl).sqs q) ∧ (t.ctl c.ctl).cqs = (s.ctl c.ctl).cqs ∧ t.media = s.media) ∧
    (∀ st, s.createSqStatus c = some st → ∃ t, exec (.createIoSq n) s = .next t ∧ t.answered n st 0 ∧ t.ctls = s.ctls ∧ t.media = s.media)) ∧
  (∀ (n : Nat) (c : Ctx) (q : SubQueue) (s : State), s.adminRun n 0x00 = some c → c.status = none → c.a 0 ≠ 0 → Table.find (s.ctl c.ctl).sqs (c.a 0) = some q → q.deleting = false →
    ∃ t x, exec (.deleteIoSq n) s = .next t ∧ t.answered n stOk 0 ∧ Table.find (t.ctl c.ctl).sqs (c.a 0) = some { q with deleting := true } ∧ t.ctx n = some x ∧
      x.after = s.inFlight c.ctl (c.a 0) ∧ t.media = s.media) ∧
  (∀ (n : Nat) (c : Ctx) (s : State), s.adminRun n 0x00 = some c → c.status = none → c.a 0 = 0 ∨ Table.find (s.ctl c.ctl).sqs (c.a 0) = none →
    ∃ t, exec (.deleteIoSq n) s = .next t ∧ t.answered n (stCmd 0x01) 0 ∧ t.ctls = s.ctls) ∧
  (∀ (n : Nat) (c : Ctx) (s : State), s.adminRun n 0x04 = some c → c.status = none →
    (c.a 0 ≠ 0 → (Table.find (s.ctl c.ctl).cqs (c.a 0)).isSome = true → (∀ q ∈ (s.ctl c.ctl).sqs, q.2.cqid ≠ c.a 0) →
      ∃ t, exec (.deleteIoCq n) s = .next t ∧ t.answered n stOk 0 ∧ Table.find (t.ctl c.ctl).cqs (c.a 0) = none ∧ (t.ctl c.ctl).sqs = (s.ctl c.ctl).sqs ∧ t.media = s.media) ∧
    (c.a 0 ≠ 0 → (Table.find (s.ctl c.ctl).cqs (c.a 0)).isSome = true → (∃ q ∈ (s.ctl c.ctl).sqs, q.2.cqid = c.a 0) →
      ∃ t, exec (.deleteIoCq n) s = .next t ∧ t.answered n (stCmd 0x0C) 0 ∧ t.ctls = s.ctls)) ∧
  (∀ (n : Nat) (c : Ctx) (s : State), s.adminRun n 0x06 = some c → c.status = none →
    (∀ bytes, s.identify c.ctl c.sqe.nsid (c.a 0) (c.a 1) = .ok bytes → ∃ t x, exec (.identify n) s = .next t ∧ t.answered n stOk 0 ∧ t.ctx n = some x ∧ x.bytes = bytes ∧ t.media = s.media ∧ t.ctls = s.ctls) ∧
    (∀ st, s.identify c.ctl c.sqe.nsid (c.a 0) (c.a 1) = .error st → ∃ t, exec (.identify n) s = .next t ∧ t.answered n st 0 ∧ t.media = s.media ∧ t.ctls = s.ctls)) ∧
  (∀ (n : Nat) (c : Ctx) (s : State), s.adminRun n 0x02 = some c → c.status = none →
    (∀ page, s.logPage c.ctl (c.a 0) = some page → ∃ t x, exec (.getLogPage n) s = .next t ∧ t.answered n stOk 0 ∧ t.ctx n = some x ∧ x.bytes = State.pageBytes page (c.a 1) (c.a 2) ∧ t.media = s.media) ∧
    (s.logPage c.ctl (c.a 0) = none → ∃ t, exec (.getLogPage n) s = .next t ∧ t.answered n (stCmd 0x09) 0 ∧ t.media = s.media ∧ t.ctls = s.ctls)) ∧
  (∀ (n : Nat) (c : Ctx) (s : State), s.adminRun n 0x08 = some c → c.status = none → c.target = none →
    (8 ≤ s.abortsBefore c → ∃ t, exec (.abort n) s = .next t ∧ t.answered n (stCmd 0x03) 0 ∧ t.ctls = s.ctls) ∧
    (s.abortsBefore c < 8 → s.abortTarget c = none → ∃ t, exec (.abort n) s = .next t ∧ t.answered n stOk 1 ∧ t.ctls = s.ctls) ∧
    (∀ m, s.abortsBefore c < 8 → s.abortTarget c = some m → ∃ t, exec (.abort n) s = .next t ∧ t.ctx n = some { c with target := some m } ∧ t.ctls = s.ctls ∧ t.media = s.media)) ∧
  (∀ (n : Nat) (c : Ctx) (s : State), s.adminRun n 0x0C = some c → c.status = none → n ∉ (s.ctl c.ctl).aers →
    (8 ≤ (s.ctl c.ctl).aers.length → ∃ t, exec (.asyncEventRequest n) s = .next t ∧ t.answered n (stCmd 0x05) 0 ∧ t.ctls = s.ctls) ∧
    ((s.ctl c.ctl).aers.length < 8 → (s.ctl c.ctl).events = [] → ∃ t, exec (.asyncEventRequest n) s = .next t ∧ (t.ctl c.ctl).aers = (s.ctl c.ctl).aers ++ [n] ∧ t.ctx n = some c ∧ t.media = s.media) ∧
    (∀ e l, (s.ctl c.ctl).aers.length < 8 → (s.ctl c.ctl).events = e :: l → ∃ t, exec (.asyncEventRequest n) s = .next t ∧
      t.answered n stOk (e.1 + e.2.1 * 256 + e.2.2 * 65536) ∧ (t.ctl c.ctl).events = l ∧ t.media = s.media))

/-- Features: Get Features returns the value its SEL asks; each Set Features row puts its field in force and changes no other controller; a value out of range, a feature outside the table, or a save of one that cannot be saved fails and leaves the controllers alone; NN, DN and the queues take no other effect; the Timestamp sets the clock; placement changes only without namespaces (R276, R305 to R307, R310, R323, R485). -/
def Obligations.FeatureCommands : Prop :=
  (∀ (n : Nat) (c : Ctx) (s : State), s.adminRun n 0x0A = some c → c.status = none →
    (s.featureOk (c.a 0) = true → c.a 0 ≠ 0x04 ∨ State.tmpOk (c.a 2) = true →
      (c.a 1 = 0 → ∃ t, exec (.getFeatures n) s = .next t ∧ t.answered n stOk (State.packed (c.a 0) (s.currentVals c.ctl (c.a 0) (c.a 2) c.sqe.nsid)) ∧ t.ctls = s.ctls ∧ t.media = s.media) ∧
      (c.a 1 = 1 → ∃ t, exec (.getFeatures n) s = .next t ∧ t.answered n stOk (State.packed (c.a 0) (s.defaultVals (c.a 0) (c.a 2))) ∧ t.ctls = s.ctls ∧ t.media = s.media)) ∧
    (s.featureOk (c.a 0) = false ∨ 3 < c.a 1 → ∃ t, exec (.getFeatures n) s = .next t ∧ t.answered n stField 0 ∧ t.ctls = s.ctls)) ∧
  (∀ (n f : Nat) (c : Ctx) (s : State), s.setRun n f = some c → c.status = none → c.a 0 = f → s.featureOk f = true → c.a 1 = 0 →
    (f = 0x01 → ∃ t, exec (.arbitration n) s = .next t ∧ t.answered n stOk 0 ∧
      t.ctl c.ctl = { s.ctl c.ctl with ab := bits (c.a 2) 0 3, lpw := bits (c.a 2) 8 8, mpw := bits (c.a 2) 16 8, hpw := bits (c.a 2) 24 8 } ∧ (∀ k, k ≠ c.ctl → t.ctl k = s.ctl k)) ∧
    (f = 0x02 → bits (c.a 2) 0 5 ≤ 4 → ∃ t, exec (.powerManagement n) s = .next t ∧ t.answered n stOk 0 ∧ (t.ctl c.ctl).powerState = bits (c.a 2) 0 5 ∧ t.media = s.media ∧ (∀ k, k ≠ c.ctl → t.ctl k = s.ctl k)) ∧
    (f = 0x02 → 4 < bits (c.a 2) 0 5 → ∃ t, exec (.powerManagement n) s = .next t ∧ t.answered n stField 0 ∧ t.ctls = s.ctls) ∧
    (f = 0x04 → State.tmpOk (c.a 2) = true → bits (c.a 2) 20 2 = 0 → ∃ t, exec (.temperatureThreshold n) s = .next t ∧
      Table.find (t.ctl c.ctl).overThresh (bits (c.a 2) 16 4) = some (bits (c.a 2) 0 16) ∧ t.media = s.media) ∧
    (f = 0x04 → State.tmpOk (c.a 2) = true → bits (c.a 2) 20 2 = 1 → ∃ t, exec (.temperatureThreshold n) s = .next t ∧
      Table.find (t.ctl c.ctl).underThresh (bits (c.a 2) 16 4) = some (bits (c.a 2) 0 16) ∧ t.media = s.media) ∧
    (f = 0x07 → ∃ t, exec (.numberOfQueues n) s = .next t ∧ t.answered n stOk (255 + 255 * 65536) ∧ t.ctls = s.ctls ∧ t.media = s.media) ∧
    (f = 0x08 → ∃ t, exec (.interruptCoalescing n) s = .next t ∧ t.answered n stOk 0 ∧ t.ctl c.ctl = { s.ctl c.ctl with coalThr := bits (c.a 2) 0 8, coalTime := bits (c.a 2) 8 8 }) ∧
    (f = 0x09 → 1 ≤ bits (c.a 2) 0 16 → bits (c.a 2) 0 16 ≤ 256 → ∃ t, exec (.interruptVectorConfiguration n) s = .next t ∧ t.answered n stOk 0 ∧
      (Table.get ({} : Coalesce) (t.port c.ctl).coal (bits (c.a 2) 0 16)).disabled = (bits (c.a 2) 16 1 == 1) ∧ t.ctls = s.ctls) ∧
    (f = 0x09 → bits (c.a 2) 0 16 = 0 ∨ 256 < bits (c.a 2) 0 16 → ∃ t, exec (.interruptVectorConfiguration n) s = .next t ∧ t.answered n stField 0 ∧ t.ports = s.ports) ∧
    (f = 0x0A → ∃ t, exec (.writeAtomicityNormal n) s = .next t ∧ t.answered n stOk 0 ∧ t.ctl c.ctl = { s.ctl c.ctl with dn := c.a 2 % 2 == 1 } ∧ t.media = s.media) ∧
    (f = 0x0B → ∃ t, exec (.asyncEventConfiguration n) s = .next t ∧ t.answered n stOk 0 ∧ t.ctl c.ctl = { s.ctl c.ctl with aec := bits (c.a 2) 0 10 }) ∧
    (f = 0x0C → ∀ table : List ApstEntry, (∀ e ∈ State.apstVals table, e.2 = 0 ∨ e.1 = 3 ∨ e.1 = 4) → ∃ t, exec (.autonomousPowerStateTransition n table) s = .next t ∧ t.answered n stOk 0 ∧
      t.ctl c.ctl = { s.ctl c.ctl with apstEnable := c.a 2 % 2 == 1, apst := State.apstVals table }) ∧
    (f = 0x0E → ∀ ms, ∃ t, exec (.timestamp n ms) s = .next t ∧ t.answered n stOk 0 ∧ t.sec.clockMs = ms % 2 ^ 48 ∧ t.flag Reg.SC_STAT_VALID = true ∧ t.ctls = s.ctls ∧ t.media = s.media) ∧
    (f = 0x11 → ∃ t, exec (.nonOperationalPowerStateConfig n) s = .next t ∧ t.answered n stOk 0 ∧ t.ctl c.ctl = { s.ctl c.ctl with noppme := c.a 2 % 2 == 1 }) ∧
    (f = 0xC0 → ∃ t, exec (.vendorEventEnable n) s = .next t ∧ t.answered n stOk 0 ∧ t.ctl c.ctl = { s.ctl c.ctl with vendorEvents := bits (c.a 2) 0 5 })) ∧
  (∀ (n : Nat) (c : Ctx) (s : State), s.setRun n 0x06 = some c → c.status = none → c.a 0 = 0x06 → c.a 1 = 0 →
    (c.a 2 % 2 = 1 → s.cachePresent = true → ∃ t, exec (.volatileWriteCache n) s = .next t ∧ t.answered n stOk 0 ∧ t.media = s.media) ∧
    (c.a 2 % 2 = 1 → s.cachePresent = false → ∃ t, exec (.volatileWriteCache n) s = .next t ∧ t.answered n stField 0 ∧ t.ctls = s.ctls ∧ t.media = s.media) ∧
    (c.a 2 % 2 = 0 → ∃ t, exec (.volatileWriteCache n) s = .next t ∧ t.answered n stOk 0 ∧ (t.ctl c.ctl).wce = false ∧ t.media.openPage = [] ∧ t.media.map = s.media.map ∧
      (∀ p, (s.parcel p).committed = true → (s.parcel p).state = .filled ∨ (s.parcel p).state = .placed ∨ (s.parcel p).state = .stripeWait → (t.parcel p).urgent = true))) ∧
  (∀ (n : Nat) (c : Ctx) (s : State), s.setRun n 0x1D = some c → c.status = none → c.a 0 = 0x1D → c.a 1 = 0 →
    (s.media.nand.ns = [] → c.a 2 % 65536 = 1 → s.paramN .translationFdpEnable = 1 → bits (c.a 3) 8 8 = 0 →
      ∃ t, exec (.flexibleDataPlacement n) s = .next t ∧ t.answered n stOk 0 ∧ t.adm.fdp = (c.a 3 % 2 == 1) ∧ t.ctls = s.ctls ∧ t.media = s.media) ∧
    (s.media.nand.ns ≠ [] → ∃ t, exec (.flexibleDataPlacement n) s = .next t ∧ t.answered n (stGen 0x0C) 0 ∧ t.adm.fdp = s.adm.fdp)) ∧
  (∀ (n : Nat) (c : Ctx) (s : State), s.setRun n 0x1E = some c → c.status = none → c.a 0 = 0x1E → c.a 1 = 0 → bits (c.a 2) 0 16 < s.paramN .translationFdpHandles →
    ∃ t, exec (.fdpEvents n) s = .next t ∧ t.answered n stOk 0 ∧ (bits (c.a 2) 0 16 ∈ t.adm.fdpMasked ↔ c.a 3 % 2 = 0) ∧
      (∀ h, h ≠ bits (c.a 2) 0 16 → (h ∈ t.adm.fdpMasked ↔ h ∈ s.adm.fdpMasked)) ∧ t.ctls = s.ctls) ∧
  (∀ (n x : Nat) (c : Ctx) (s : State), s.setRun n 0x81 = some c → c.status = none → c.a 0 = 0x81 → c.a 1 = 0 → s.bifur = true → s.nsNamed c.sqe.nsid = [x] →
    ∃ t, exec (.reservationNotificationMask n) s = .next t ∧ t.answered n stOk 0 ∧ Table.get 0 (t.ctl c.ctl).resMask x = bits (c.a 2) 1 3 * 2 ∧ t.media = s.media) ∧
  (∀ (n x : Nat) (y : Namespace) (c : Ctx) (s : State), s.setRun n 0x82 = some c → c.status = none → c.a 0 = 0x82 → c.a 1 = 0 → s.bifur = true → s.nsNamed c.sqe.nsid = [x] →
    Table.find s.media.nand.ns x = some y →
    ∃ t, exec (.reservationPersistence n) s = .next t ∧ t.answered n stOk 0 ∧ Table.find t.media.nand.ns x = some { y with ptpl := c.a 2 % 2 == 1 } ∧ t.media.map = s.media.map) ∧
  (∀ (n f : Nat) (c : Ctx) (s : State), s.setRun n f = some c → c.status = none → c.a 0 = f → s.featureOk f = true → State.saveable f = false → c.a 1 = 1 →
    (f = 0x07 → ∃ t, exec (.numberOfQueues n) s = .next t ∧ t.answered n (stCmd 0x0D) 0 ∧ t.ctls = s.ctls) ∧
    (f = 0x0A → ∃ t, exec (.writeAtomicityNormal n) s = .next t ∧ t.answered n (stCmd 0x0D) 0 ∧ t.ctls = s.ctls))

/-! ## Namespaces, self-test, Sanitize (chapter 12) -/

/-- Namespace commands outside an array: a create that passes its checks makes the namespace with the lowest free identifier, its creation count one higher, and every other slot alone; a delete leaves none of the namespaces it names, nor their map entries, once no command is outstanding on them; an attachment adds the controllers named; a Format leaves every block of its namespaces deallocated in the block size asked, and a key the Guard refuses changes no entry; each fails with its first broken check (R134, R313, R314). -/
def Obligations.NamespaceCommands : Prop :=
  (∀ (n : Nat) (d : NsData) (c : Ctx) (s : State), s.adminRun n 0x0D = some c → c.a 0 = 0 → c.status = none → c.fetched = false → c.members = 0 → s.mode ≠ .manager → (∀ k, n ∉ (s.ctl k).aers) →
    (s.createStatus d = none → ∃ t x, exec (.nsCreate n d) s = .next t ∧ t.answered n stOk x.nsid ∧ Table.find t.media.nand.ns (State.slotOf x.nsid) = some x ∧ x.nsze = d.nsze ∧ x.lbaf = d.flbas ∧
      x.creation = Table.get 0 s.media.nand.creations (State.slotOf x.nsid) + 1 ∧ x.attached = 0 ∧ 1 ≤ x.nsid ∧ x.nsid ≤ 128 ∧ Table.find s.media.nand.ns (State.slotOf x.nsid) = none ∧
      (∀ i, 1 ≤ i → i < x.nsid → Table.find s.media.nand.ns (State.slotOf i) ≠ none) ∧
      (∀ j, j ≠ State.slotOf x.nsid → Table.find t.media.nand.ns j = Table.find s.media.nand.ns j) ∧ t.media.map = s.media.map ∧ t.flash = s.flash) ∧
    (∀ st, s.createStatus d = some st → ∃ t, exec (.nsCreate n d) s = .next t ∧ t.answered n st 0 ∧ t.media = s.media ∧ t.ctls = s.ctls)) ∧
  (∀ (n : Nat) (c : Ctx) (s : State), s.adminRun n 0x0D = some c → c.a 0 = 1 → c.status = none → c.fetched = false → c.members = 0 → s.mode ≠ .manager → (∀ q ∈ s.media.nand.ns, q.2.array = false) →
    s.namedNs c.sqe.nsid ≠ [] → s.nsQuiet (fun x => (s.namedNs c.sqe.nsid).any fun q => q.1 == x) = true →
    ∃ t, exec (.nsDelete n) s = .next t ∧ (∀ q ∈ s.namedNs c.sqe.nsid, Table.find t.media.nand.ns q.1 = none ∧ ∀ k, k / 2 ^ 40 % 128 = q.1 → Table.find t.media.map k = none) ∧
      (∀ j, (∀ q ∈ s.namedNs c.sqe.nsid, q.1 ≠ j) → Table.find t.media.nand.ns j = Table.find s.media.nand.ns j) ∧
      (∀ k, (∀ q ∈ s.namedNs c.sqe.nsid, q.1 ≠ k / 2 ^ 40 % 128) → Table.find t.media.map k = Table.find s.media.map k) ∧ t.flash = s.flash ∧ t.mem = s.mem) ∧
  (∀ (n : Nat) (c : Ctx) (s : State), s.adminRun n 0x0D = some c → c.a 0 = 1 → c.status = none → c.sqe.nsid ≠ 0xFFFFFFFF → s.namedNs c.sqe.nsid = [] →
    ∃ t, exec (.nsDelete n) s = .next t ∧ t.answered n (stGen 0x0B) 0 ∧ t.media = s.media) ∧
  (∀ (n : Nat) (ks : List Nat) (x : Namespace) (c : Ctx) (s : State), s.adminRun n 0x15 = some c → c.status = none → s.nsOf c.sqe.nsid = some x →
    (c.a 0 = 0 → s.attachStatus x true ks = none → ∃ t, exec (.namespaceAttachment n ks) s = .next t ∧
      Table.find t.media.nand.ns (State.slotOf x.nsid) = some { x with attached := x.attached + (ks.map fun k => 2 ^ (k - 1)).sum } ∧ t.media.map = s.media.map ∧ t.flash = s.flash) ∧
    (c.a 0 = 1 → s.attachStatus x false ks = none → ∃ t, exec (.namespaceAttachment n ks) s = .next t ∧
      Table.find t.media.nand.ns (State.slotOf x.nsid) = some { x with attached := x.attached - (ks.map fun k => 2 ^ (k - 1)).sum } ∧ t.media.map = s.media.map ∧ t.flash = s.flash) ∧
    (∀ st, c.a 0 ≤ 1 → s.attachStatus x (c.a 0 == 0) ks = some st → ∃ t, exec (.namespaceAttachment n ks) s = .next t ∧ t.answered n st 0 ∧ t.media = s.media)) ∧
  (∀ (n : Nat) (ok : Bool) (c : Ctx) (s : State), s.adminRun n 0x80 = some c → c.status = none → c.fetched = false → c.members = 0 → s.mode ≠ .manager → (∀ q ∈ s.media.nand.ns, q.2.array = false) →
    s.formatStatus c = none → s.nsQuiet (fun x => (s.formatted c).any fun q => q.1 == x) = true →
    (c.a 1 = 0 ∨ (c.a 1 = 2 ∧ ok = true) → ∃ t, exec (.formatNvm n ok) s = .next t ∧
      (∀ q ∈ s.formatted c, ∀ k, k / 2 ^ 40 % 128 = q.1 → Table.find t.media.map k = none) ∧
      (∀ q ∈ s.formatted c, ∀ x, Table.find t.media.nand.ns q.1 = some x → x.lbaf = c.a 0 ∧ x.formatting = false) ∧
      (∀ k, (∀ q ∈ s.formatted c, q.1 ≠ k / 2 ^ 40 % 128) → Table.find t.media.map k = Table.find s.media.map k) ∧
      (c.a 1 = 2 → t.sec.mediaGen = s.sec.mediaGen + 1) ∧ (c.a 1 = 0 → t.sec = s.sec)) ∧
    (c.a 1 = 2 → ok = false → ∃ t, exec (.formatNvm n ok) s = .next t ∧ t.answered n (stGen 0x06) 0 ∧ t.media.map = s.media.map ∧ t.sec = s.sec)) ∧
  (∀ (n : Nat) (ok : Bool) (st : Status) (c : Ctx) (s : State), s.adminRun n 0x80 = some c → c.status = none → c.fetched = false → s.formatStatus c = some st →
    ∃ t, exec (.formatNvm n ok) s = .next t ∧ t.answered n st 0 ∧ t.media = s.media ∧ t.sec = s.sec)

/-- Self-tests and Sanitize: a self-test starts when none runs, with a repeat measurement of the hold-up bank where one may start, and is refused beside another; while a measurement runs no test completes; an abort, and its completion with or without a failed segment, log the result and end it; the media pass resumes with no I/O in flight; a Sanitize of each action begins and ends the self-test, a second is refused; its end with success, where no die was isolated during it, leaves no mapped block, with failure the failure mode, which is left only where its start allowed it (R315 to R319). Clauses in which a row changes nothing outside its conditions are the model's (log entry 2). -/
def Obligations.TestAndSanitize : Prop :=
  (∀ (n : Nat) (c : Ctx) (s : State), s.adminRun n 0x14 = some c → c.status = none → c.sqe.nsid = 0 ∨ c.sqe.nsid = 0xFFFFFFFF ∨ (s.nsOf c.sqe.nsid).isSome = true →
    (s.adm.selfTest = none → c.a 0 = 1 → ∃ t x, exec (.selfTestShort n) s = .next t ∧ t.answered n stOk 0 ∧ t.adm.selfTest = some x ∧ x.extended = false ∧ x.nsid = c.sqe.nsid ∧ t.media.map = s.media.map ∧ t.media.nand = s.media.nand ∧ t.flash = s.flash ∧
      (s.paramN .holdupEnable ≠ 0 → s.media.measure = .idle → s.media.bootMeasured = true → s.flushing = false → t.media.measure = .lowering)) ∧
    (s.adm.selfTest = none → c.a 0 = 2 → ∃ t x, exec (.selfTestExtended n) s = .next t ∧ t.answered n stOk 0 ∧ t.adm.selfTest = some x ∧ x.extended = true ∧ x.suspended = s.ioInFlight ∧ t.media.map = s.media.map ∧ t.media.nand = s.media.nand ∧ t.flash = s.flash ∧
      (s.paramN .holdupEnable ≠ 0 → s.media.measure = .idle → s.media.bootMeasured = true → s.flushing = false → t.media.measure = .lowering)) ∧
    (∀ x, s.adm.selfTest = some x → (c.a 0 = 1 → ∃ t, exec (.selfTestShort n) s = .next t ∧ t.answered n (stCmd 0x1D) 0 ∧ t.adm.selfTest = some x) ∧
      (c.a 0 = 2 → ∃ t, exec (.selfTestExtended n) s = .next t ∧ t.answered n (stCmd 0x1D) 0 ∧ t.adm.selfTest = some x) ∧
      (c.a 0 = 15 → ∃ t, exec (.selfTestAbort n) s = .next t ∧ t.answered n stOk 0 ∧ t.adm.selfTest = none ∧ t.adm.testLog.head? = some (if x.extended then 2 else 1, 1, x.nsid, 0) ∧ t.media = s.media)) ∧
    (c.a 0 = 15 → s.adm.selfTest = none → ∃ t, exec (.selfTestAbort n) s = .next t ∧ t.answered n stOk 0 ∧ t.adm.testLog = s.adm.testLog)) ∧
  (∀ (x : SelfTest) (s : State), s.adm.selfTest = some x → x.suspended = false → s.plat.hold = .none → s.media.measure = .idle → s.critWarn x.ctl = 0 →
    s.paramN .holdupEnable ≠ 1 ∨ s.paramN .holdupMinParcels ≤ s.rget Reg.FT_DIRTY_MAX_TENDER_MAX →
    (∃ t, exec (.selfTestComplete none) s = .next t ∧ t.adm.selfTest = none ∧ t.adm.testLog.head? = some (if x.extended then 2 else 1, 0, x.nsid, 0) ∧ t.media = s.media) ∧
    (∀ g, 1 ≤ g → g ≤ 5 → ∃ t, exec (.selfTestComplete (some g)) s = .next t ∧ t.adm.selfTest = none ∧ t.adm.testLog.head? = some (if x.extended then 2 else 1, 7, x.nsid, g) ∧ t.media = s.media)) ∧
  (∀ (g : Option Nat) (s : State), s.media.measure ≠ .idle → exec (.selfTestComplete g) s = .next s) ∧
  (∀ (x : SelfTest) (s : State), s.adm.selfTest = some x → s.ioInFlight = false →
    exec .mediaPassResume s = .next { s with adm := { s.adm with selfTest := some { x with suspended := false } } }) ∧
  (∀ (n : Nat) (c : Ctx) (s : State), s.adminRun n 0x84 = some c → c.status = none →
    ((∀ z, s.adm.sanitize = some z → z.running = false) →
      (c.a 0 = 2 → ∃ t z, exec (.blockErase n) s = .next t ∧ t.adm.sanitize = some z ∧ z.action = 2 ∧ z.running = true ∧ z.ause = (c.a 1 == 1) ∧ t.adm.selfTest = none ∧ t.adm.sanStatus = 2 ∧ t.mem = s.mem) ∧
      (c.a 0 = 3 → 1 ≤ c.a 2 → c.a 2 ≤ 16 → ∃ t z, exec (.overwrite n) s = .next t ∧ t.adm.sanitize = some z ∧ z.action = 3 ∧ z.running = true ∧ z.owpass = c.a 2 ∧ t.adm.selfTest = none ∧ t.adm.sanStatus = 2 ∧ t.mem = s.mem) ∧
      (c.a 0 = 4 → ∃ t z, exec (.sanitizeCryptoErase n) s = .next t ∧ t.adm.sanitize = some z ∧ z.action = 4 ∧ z.running = true ∧ t.adm.selfTest = none ∧ t.adm.sanStatus = 2 ∧ t.mem = s.mem)) ∧
    (∀ z, s.adm.sanitize = some z → z.running = true → (c.a 0 = 2 → ∃ t, exec (.blockErase n) s = .next t ∧ t.answered n (stGen 0x1D) 0 ∧ t.adm.sanitize = some z ∧ t.media = s.media) ∧
      (c.a 0 = 4 → ∃ t, exec (.sanitizeCryptoErase n) s = .next t ∧ t.answered n (stGen 0x1D) 0 ∧ t.adm.sanitize = some z ∧ t.media = s.media)) ∧
    (∀ z, s.adm.sanitize = some z → z.running = false → c.a 0 = 1 →
      (z.ause = true → ∃ t, exec (.exitFailureMode n) s = .next t ∧ t.answered n stOk 0 ∧ t.adm.sanitize = none ∧ t.media = s.media) ∧
      (z.ause = false → ∃ t, exec (.exitFailureMode n) s = .next t ∧ t.answered n (stGen 0x1C) 0 ∧ t.adm.sanitize = some z ∧ t.media = s.media))) ∧
  (∀ (z : Sanitize) (s : State), s.adm.sanitize = some z → z.running = true → s.sanitizeOut = false → s.plat.hold = .none →
    (z.memberBad = false → z.dieLost = false → ∃ t, exec (.sanitizeComplete true) s = .next t ∧ t.adm.sanitize = none ∧ t.adm.sanStatus = 1 ∧
      (∀ q ∈ s.media.nand.ns, ∀ k, k / 2 ^ 40 % 128 = q.1 → Table.find t.media.map k = none) ∧ (z.action = 4 → t.sec.mediaGen = s.sec.mediaGen + 1) ∧
      (z.action = 2 ∨ z.action = 3 → t.media.nand.content = [])) ∧
    (∀ ok, (ok = false ∨ z.dieLost = true) → ∃ t x, exec (.sanitizeComplete ok) s = .next t ∧ t.adm.sanitize = some x ∧ x.failed = true ∧ x.running = false ∧ t.adm.sanStatus = 3 ∧ t.media = s.media))

/-! ## Firmware, security and vendor commands (chapter 12) -/

/-- Firmware: a download keeps its bytes at their offset, and fails on a bad length or an overlap; a commit stores the staged package, activates it at the next reset or at once as its action says, and fails without a package or with one the Guard rejects; the drained activation measures the package, makes its slot active and lets fetching go on (R320 to R322, R437, R441). -/
def Obligations.FirmwareCommands : Prop :=
  (∀ (n : Nat) (bytes : List Byte) (c : Ctx) (s : State), s.adminRun n 0x11 = some c → c.status = none →
    (c.a 0 % 4096 = 0 → 0 < c.a 0 → c.a 0 ≤ 3 * 2 ^ 20 → c.a 1 = 0 → bytes.length = c.a 0 →
      ∃ t, exec (.firmwareImageDownload n bytes) s = .next t ∧ t.answered n stOk 0 ∧ t.adm.fwBytes = bytes ∧ t.adm.fwParts = [(0, c.a 0)] ∧ t.adm.fwSlots = s.adm.fwSlots ∧ t.media = s.media) ∧
    (c.a 0 % 4096 = 0 → 0 < c.a 0 → c.a 1 % 4096 = 0 → 0 < c.a 1 → c.a 1 + c.a 0 ≤ 3 * 2 ^ 20 → (∀ q ∈ s.adm.fwParts, State.overlaps (c.a 1, c.a 0) q = false) → bytes.length = c.a 0 →
      ∃ t, exec (.firmwareImageDownload n bytes) s = .next t ∧ t.answered n stOk 0 ∧ (t.adm.fwBytes.drop (c.a 1)).take (c.a 0) = bytes ∧ t.adm.fwParts = s.adm.fwParts ++ [(c.a 1, c.a 0)] ∧
        t.adm.fwSlots = s.adm.fwSlots) ∧
    (c.a 0 % 4096 = 0 → 0 < c.a 0 → c.a 1 % 4096 = 0 → 0 < c.a 1 → c.a 1 + c.a 0 ≤ 3 * 2 ^ 20 → (∃ q ∈ s.adm.fwParts, State.overlaps (c.a 1, c.a 0) q = true) →
      ∃ t, exec (.firmwareImageDownload n bytes) s = .next t ∧ t.answered n (stCmd 0x14) 0 ∧ t.adm.fwBytes = s.adm.fwBytes) ∧
    (c.a 0 % 4096 ≠ 0 → ∃ t, exec (.firmwareImageDownload n bytes) s = .next t ∧ t.answered n stField 0 ∧ t.adm.fwBytes = s.adm.fwBytes)) ∧
  (∀ (n : Nat) (img : ImageCheck) (c : Ctx) (s : State), s.adminRun n 0x10 = some c → c.status = none → s.adm.activation = none → 1 ≤ c.a 1 → c.a 1 ≤ 3 →
    (c.a 0 = 0 → s.adm.fwParts ≠ [] → s.packageStatus (s.stagedPackage img) = none → ∃ t, exec (.firmwareCommit n img) s = .next t ∧ t.answered n stOk 0 ∧
      Table.find t.adm.fwSlots (c.a 1) = some (s.stagedPackage img) ∧ t.adm.pendingSlot = s.adm.pendingSlot ∧ t.adm.activeSlot = s.adm.activeSlot) ∧
    (c.a 0 = 1 → s.adm.fwParts ≠ [] → s.packageStatus (s.stagedPackage img) = none → ∃ t, exec (.firmwareCommit n img) s = .next t ∧ t.answered n stOk 0 ∧
      Table.find t.adm.fwSlots (c.a 1) = some (s.stagedPackage img) ∧ t.adm.pendingSlot = some (c.a 1) ∧ t.adm.activeSlot = s.adm.activeSlot) ∧
    (∀ i, c.a 0 = 2 → Table.find s.adm.fwSlots (c.a 1) = some i → s.packageStatus i = none → ∃ t, exec (.firmwareCommit n img) s = .next t ∧ t.answered n stOk 0 ∧ t.adm.pendingSlot = some (c.a 1) ∧
      t.adm.fwSlots = s.adm.fwSlots) ∧
    (c.a 0 = 3 → s.adm.fwParts ≠ [] → s.packageStatus (s.stagedPackage img) = none →
      (∀ x, Table.find s.adm.fwSlots s.adm.activeSlot = some x → (s.stagedPackage img).hotOk = true → (s.stagedPackage img).changesBoot x = false →
        ∃ t, exec (.firmwareCommit n img) s = .next t ∧ t.adm.activation = some (n, c.a 1) ∧ (∀ k ∈ s.ctlList, (t.ctl k).pp = true) ∧ t.adm.activeSlot = s.adm.activeSlot) ∧
      ((s.stagedPackage img).hotOk = false ∨ (∃ x, Table.find s.adm.fwSlots s.adm.activeSlot = some x ∧ (s.stagedPackage img).changesBoot x = true) →
        ∃ t, exec (.firmwareCommit n img) s = .next t ∧ t.answered n (stCmd 0x0B) 0 ∧ t.adm.pendingSlot = some (c.a 1))) ∧
    (∀ st, c.a 0 ≠ 2 → c.a 0 ≤ 3 → s.adm.fwParts ≠ [] → s.packageStatus (s.stagedPackage img) = some st →
      ∃ t, exec (.firmwareCommit n img) s = .next t ∧ t.answered n st 0 ∧ t.adm.fwSlots = s.adm.fwSlots) ∧
    (c.a 0 ≠ 2 → c.a 0 ≤ 3 → s.adm.fwParts = [] → ∃ t, exec (.firmwareCommit n img) s = .next t ∧ t.answered n (stCmd 0x07) 0 ∧ t.adm.fwSlots = s.adm.fwSlots)) ∧
  (∀ (n slot : Nat) (img : ImageCheck) (s : State), s.adm.activation = some (n, slot) → s.drained n = true → s.plat.hold = .none → s.flushing = false →
    (s.packageStatus (s.slotPackage slot img) = none → s.sec.journey.length < 64 → ∃ t e, exec (.activationDrainDone img) s = .next t ∧ t.adm.activation = none ∧
      t.adm.activeSlot = slot ∧ t.sec.running = (s.slotPackage slot img).svn ∧ e.digest = (s.slotPackage slot img).digest ∧
      t.sec.journey = s.sec.journey ++ [e] ∧ e.stage = 10 ∧ (∀ k ∈ s.ctlList, (t.ctl k).pp = false) ∧ t.adm.selfTest = none ∧ t.media = s.media) ∧
    (∀ st, s.packageStatus (s.slotPackage slot img) = some st → ∃ t, exec (.activationDrainDone img) s = .next t ∧ t.adm.activation = none ∧ t.adm.activeSlot = s.adm.activeSlot ∧ t.sec = s.sec ∧ (∀ k ∈ s.ctlList, (t.ctl k).pp = false)))

/-- Directives, security and vendor commands: a directive is enabled as it stands and reports itself; an Opal method takes effect and answers; a Depot image is staged at its offset, written where its checks pass and refused with its cause; the challenge gives the nonce, a ticket opens the gate above level 0 only against its conditions, a lifecycle request is pending or refused; a measurement begins; the archive and the die table are read; a ticket ends with its time (R301, R324 to R326, R421, R442, R450, R504, R505). Clauses in which a row changes nothing outside its conditions are the model's (log entry 2). -/
def Obligations.VendorCommands : Prop :=
  (∀ (n : Nat) (c : Ctx) (s : State), c.status = none → c.sqe.nsid = 0xFFFFFFFF →
    (s.adminRun n 0x19 = some c → c.a 0 = 0 → c.a 1 = 1 → c.a 3 = 2 → (c.a 2 == 1) = s.adm.fdp → ∃ t, exec (.directiveSend n) s = .next t ∧ t.answered n stOk 0 ∧ t.media = s.media) ∧
    (s.adminRun n 0x19 = some c → c.a 0 ≠ 0 → ∃ t, exec (.directiveSend n) s = .next t ∧ t.answered n stField 0 ∧ t.adm.fdp = s.adm.fdp) ∧
    (s.adminRun n 0x1A = some c → c.a 0 = 0 → c.a 1 = 1 → ∃ t x, exec (.directiveReceive n) s = .next t ∧ t.answered n stOk 0 ∧ t.ctx n = some x ∧ x.bytes = s.directiveParams ∧ t.media = s.media)) ∧
  (∀ (n : Nat) (m : OpalPayload) (u : State) (ok : Bool) (c : Ctx) (s : State), s.adminRun n 0x81 = some c → c.status = none → s.opalMethod m = some (u, ok) →
    ∃ t, exec (.securitySend n m) s = .next t ∧ t.answered n stOk 0 ∧ t.out = u.out ++ [.opal ok] ∧ t.sec = u.sec ∧ t.media = u.media) ∧
  (∀ (n : Nat) (c : Ctx) (s : State), s.adminRun n 0x82 = some c → c.status = none → ∃ t x, exec (.securityReceive n) s = .next t ∧ t.answered n stOk 0 ∧ t.ctx n = some x ∧ t.media = s.media ∧ t.sec = s.sec) ∧
  (∀ (n : Nat) (bytes : List Byte) (c : Ctx) (s : State), s.adminRun n 0xC0 = some c → c.status = none → c.a 2 = 1 ∨ c.a 2 = 2 → c.a 1 + c.a 0 ≤ 2 ^ 20 → bytes.length = c.a 0 →
    (c.a 1 = 0 → ∃ t, exec (.depotImageDownload n bytes) s = .next t ∧ t.answered n stOk 0 ∧ t.adm.depotBytes = bytes ∧ t.adm.depotType = c.a 2 ∧ t.sec = s.sec) ∧
    (c.a 1 ≠ 0 → s.adm.depotType = c.a 2 → ∃ t, exec (.depotImageDownload n bytes) s = .next t ∧ t.answered n stOk 0 ∧ (t.adm.depotBytes.drop (c.a 1)).take (c.a 0) = bytes ∧ t.sec = s.sec) ∧
    (c.a 1 ≠ 0 → s.adm.depotType ≠ c.a 2 → ∃ t, exec (.depotImageDownload n bytes) s = .next t ∧ t.answered n stField 0 ∧ t.adm.depotBytes = s.adm.depotBytes)) ∧
  (∀ (n : Nat) (sigOk : Bool) (c : Ctx) (s : State), s.adminRun n 0xC1 = some c → c.status = none → c.a 2 = 1 ∨ c.a 2 = 2 →
    (s.imageCause (c.a 2) sigOk ≠ 0 → ∃ t, exec (.depotImageCommit n sigOk) s = .next t ∧ t.answered n (stCmd 0xC0) (s.imageCause (c.a 2) sigOk) ∧ t.sec = s.sec) ∧
    (c.a 2 = 2 → s.imageCause 2 sigOk = 0 → (∀ a, s.areaInForce 2 = some a → a.2.1 + 1 < 2 ^ 64 - 1) →
      ∃ t, exec (.depotImageCommit n sigOk) s = .next t ∧ t.answered n stOk 0 ∧ t.microImage = some ⟨s.adm.depotBytes, true⟩ ∧ t.rulebookImage = s.rulebookImage ∧ t.adm.depotBytes = [] ∧
        (∀ a, s.areaInForce 2 = some a → t.areaImage 2 a.1 = none ∧ t.areaImage 2 (1 - a.1) = some (a.2.1 + 1, s.adm.depotBytes)) ∧
        (s.areaInForce 2 = none → t.areaImage 2 0 = some (1, s.adm.depotBytes))) ∧
    (c.a 2 = 1 → s.imageCause 1 sigOk = 0 → ∃ t, exec (.depotImageCommit n sigOk) s = .next t ∧ t.answered n stOk 0 ∧ t.rb = s.rb ∧ t.microImage = s.microImage ∧ t.adm.depotBytes = [] ∧
      ((∀ a, s.areaInForce 1 = some a → a.2.1 ≤ leField s.adm.depotBytes 8 8) → t.rulebookImage = some ⟨s.adm.depotBytes, true⟩))) ∧
  (∀ (n : Nat) (c : Ctx) (s : State), s.adminRun n 0xC2 = some c → c.status = none →
    ∃ t x v, exec (.guardChallenge n) s = .next t ∧ t.answered n stOk 0 ∧ t.sec.challenge = some v ∧ t.ctx n = some x ∧ x.bytes.length = 64 ∧ x.bytes.take 32 = leBytes 32 v ∧ t.media = s.media) ∧
  (∀ (n : Nat) (k : Ticket) (c : Ctx) (s : State), s.adminRun n 0xC3 = some c → c.status = none → c.a 0 ≤ 4096 →
    (s.rget Reg.GD_STAT_LEVEL = 0 → ∃ t, exec (.diagnosticTicket n k) s = .next t ∧ t.answered n (stCmd 0xC1) 0 ∧ t.plat = s.plat) ∧
    (s.rget Reg.GD_STAT_LEVEL ≠ 0 → s.ticketOk k = true → ∃ t e, exec (.diagnosticTicket n k) s = .next t ∧ t.answered n stOk 0 ∧ t.plat.ticket = some (k.scope, e) ∧ t.flag Reg.FG_STAT_GATE_OPEN = true) ∧
    (s.rget Reg.GD_STAT_LEVEL ≠ 0 → s.ticketOk k = false → ∃ t, exec (.diagnosticTicket n k) s = .next t ∧ t.answered n (stCmd 0xC3) 0 ∧ t.plat.ticket = s.plat.ticket ∧ t.sec.challenge = none)) ∧
  (∀ (n : Nat) (c : Ctx) (s : State), s.adminRun n 0xC4 = some c → c.status = none →
    (s.sec.fuse = false → s.rget Reg.GD_STAT_LEVEL = 0 → c.a 0 = 1 → c.a 1 = 0x4C564C30 → ∃ t, exec (.lifecycleRequest n) s = .next t ∧ t.answered n stOk 0 ∧ t.sec.pendingLevel = some 1 ∧ t.sec.fuse = false ∧
      t.rget Reg.GD_STAT_LEVEL = 0 ∧ t.media = s.media) ∧
    (c.a 1 ≠ 0x4C564C30 ∨ s.sec.fuse = true → ∃ t, exec (.lifecycleRequest n) s = .next t ∧ t.answered n (stCmd 0xC4) 0 ∧ t.sec = s.sec)) ∧
  (∀ (n : Nat) (c : Ctx) (s : State), s.adminRun n 0xC5 = some c → c.status = none →
    (s.paramN .holdupEnable = 0 → ∃ t, exec (.holdUpMeasure n) s = .next t ∧ t.answered n (stCmd 0xC1) 0 ∧ t.media = s.media) ∧
    (s.paramN .holdupEnable ≠ 0 → s.media.measure = .idle → s.media.bootMeasured = true → ∃ t x, exec (.holdUpMeasure n) s = .next t ∧ t.media.measure = .lowering ∧ t.media.repeatRun = true ∧
      t.ctx n = some x ∧ x.status = none ∧ t.media.map = s.media.map)) ∧
  (∀ (n : Nat) (c : Ctx) (s : State), s.adminRun n 0xC6 = some c → c.status = none →
    (∀ l, s.archived (c.a 2) = some l → ∃ t x, exec (.journeyLogArchiveRead n) s = .next t ∧ t.answered n stOk 0 ∧ t.ctx n = some x ∧ x.bytes = State.pageBytes l (c.a 1) (c.a 0) ∧ t.sec = s.sec) ∧
    (s.archived (c.a 2) = none → ∃ t, exec (.journeyLogArchiveRead n) s = .next t ∧ t.answered n (stCmd 0xC2) 0 ∧ t.sec = s.sec)) ∧
  (∀ (n : Nat) (c : Ctx) (s : State), s.adminRun n 0xC7 = some c → c.status = none →
    ∃ t x, exec (.dieTableRead n) s = .next t ∧ t.answered n stOk 0 ∧ t.ctx n = some x ∧ x.bytes = State.pageBytes (((List.range (32 * s.channels)).drop (c.a 1)).flatMap s.dieEntry) 0 (c.a 0) ∧ t.flash = s.flash) ∧
  (∀ (scope e : Nat) (s : State), s.plat.ticket = some (scope, e) →
    (e ≤ s.flash.tick → ∃ t, exec .ticketExpire s = .next t ∧ t.plat.ticket = none ∧ t.flag Reg.GD_TICKET_ACTIVE = false ∧ t.media = s.media) ∧
    (s.flash.tick < e → exec .ticketExpire s = .next s))

/-! ## The Fogman and the registers (chapters 1 and 21) -/

/-- The Fogman: with its facility's gate open a control is armed with its kind and count, with it shut nothing changes but DENIED; a lane test starts and stops on the lane selected, and its checker locks and counts errors while it runs (R503, R507 to R509). -/
def Obligations.FogmanCommands : Prop :=
  (∀ (p count : Nat) (s : State), s.gateOpen 2 = true → p < 2 → 1 ≤ count → count < 256 →
    (∃ t, exec (.lcrc p count) s = .next t ∧ t.rget Reg.FG_PCIE_KIND = 1 ∧ t.rget Reg.FG_PCIE_PORT = p ∧ t.rget Reg.FG_PCIE_COUNT = count ∧ (∀ g : Field, g.key / 32 ≠ 53252 → t.rget g = s.rget g)) ∧
    (∃ t, exec (.poison p count) s = .next t ∧ t.rget Reg.FG_PCIE_KIND = 2 ∧ t.rget Reg.FG_PCIE_PORT = p ∧ t.rget Reg.FG_PCIE_COUNT = count ∧ (∀ g : Field, g.key / 32 ≠ 53252 → t.rget g = s.rget g)) ∧
    (∀ us, us < 65536 → ∃ t, exec (.cplDelay p count us) s = .next t ∧ t.rget Reg.FG_PCIE_KIND = 3 ∧ t.rget Reg.FG_PCIE_PORT = p ∧ t.rget Reg.FG_PCIE_COUNT = count ∧ t.rget Reg.FG_PCIE_DELAY_US = us)) ∧
  (∀ (p count : Nat) (s : State), s.gateOpen 3 = true → p < 6 → 1 ≤ count → count < 256 →
    (∃ t, exec (.drop p count) s = .next t ∧ t.rget Reg.FG_BL_KIND = 1 ∧ t.rget Reg.FG_BL_PORT = p ∧ t.rget Reg.FG_BL_COUNT = count) ∧
    (∃ t, exec (.corruptCrc p count) s = .next t ∧ t.rget Reg.FG_BL_KIND = 2 ∧ t.rget Reg.FG_BL_PORT = p ∧ t.rget Reg.FG_BL_COUNT = count) ∧
    (∃ t, exec (.corruptAuth p count) s = .next t ∧ t.rget Reg.FG_BL_KIND = 3 ∧ t.rget Reg.FG_BL_PORT = p ∧ t.rget Reg.FG_BL_COUNT = count) ∧
    (∃ t, exec (.reorder p count) s = .next t ∧ t.rget Reg.FG_BL_KIND = 4 ∧ t.rget Reg.FG_BL_PORT = p ∧ t.rget Reg.FG_BL_COUNT = count) ∧
    (∀ us, us < 65536 → ∃ t, exec (.delay p count us) s = .next t ∧ t.rget Reg.FG_BL_KIND = 5 ∧ t.rget Reg.FG_BL_PORT = p ∧ t.rget Reg.FG_BL_COUNT = count ∧ t.rget Reg.FG_BL_DELAY_US = us)) ∧
  (∀ (count : Nat) (s : State), s.gateOpen 5 = true → 1 ≤ count → count < 256 →
    (∀ levels, levels < 3 → ∃ t, exec (.readFail count levels) s = .next t ∧ t.rget Reg.FG_NAND_KIND = 1 ∧ t.rget Reg.FG_NAND_LEVELS = levels ∧ t.rget Reg.FG_NAND_COUNT = count ∧
      t.plat.nandDie = s.rget Reg.FG_NAND_DIE_DIE) ∧
    (∃ t, exec (.progFail count) s = .next t ∧ t.rget Reg.FG_NAND_KIND = 2 ∧ t.rget Reg.FG_NAND_COUNT = count ∧ t.plat.nandDie = s.rget Reg.FG_NAND_DIE_DIE) ∧
    (∀ us, us < 65536 → ∃ t, exec (.slow us) s = .next t ∧ t.rget Reg.FG_NAND_KIND = 3 ∧ t.rget Reg.FG_NAND_EXTRA_US = us ∧ t.plat.nandDie = s.rget Reg.FG_NAND_DIE_DIE)) ∧
  (∀ (p count x : Nat) (s : State),
    (s.gateOpen 2 = false → exec (.lcrc p count) s = .next (s.rset Reg.FG_STAT_DENIED 1) ∧ exec (.cplDelay p count x) s = .next (s.rset Reg.FG_STAT_DENIED 1)) ∧
    (s.gateOpen 3 = false → exec (.drop p count) s = .next (s.rset Reg.FG_STAT_DENIED 1) ∧ exec (.delay p count x) s = .next (s.rset Reg.FG_STAT_DENIED 1)) ∧
    (s.gateOpen 5 = false → exec (.readFail count x) s = .next (s.rset Reg.FG_STAT_DENIED 1) ∧ exec (.slow x) s = .next (s.rset Reg.FG_STAT_DENIED 1)) ∧
    (s.gateOpen 6 = false → exec (.laneTestStart p x) s = .next (s.rset Reg.FG_STAT_DENIED 1))) ∧
  (∀ (loop pattern : Nat) (s : State), s.gateOpen 6 = true → s.rget Reg.FG_LANE_SEL_LANE < 4 → loop < 3 → pattern < 8 →
    ∃ t, exec (.laneTestStart loop pattern) s = .next t ∧ t.flag Reg.FG_LANE_CTRL_RUN = true ∧ t.rget Reg.FG_LANE_CTRL_LOOP = loop ∧ t.rget Reg.FG_LANE_CTRL_PATTERN = pattern ∧
      t.flag Reg.FG_LANE_CTRL_LOCKED = false ∧ ((s.port (s.lanePcie (s.rget Reg.FG_LANE_SEL_LANE))).inReset = false → (t.port (s.lanePcie (s.rget Reg.FG_LANE_SEL_LANE))).linkUp = false) ∧ t.mem = s.mem) ∧
  (∀ s : State, s.flag Reg.FG_LANE_CTRL_RUN = true →
    (∃ t, exec .laneTestStop s = .next t ∧ t.flag Reg.FG_LANE_CTRL_RUN = false ∧ t.media = s.media ∧ t.mem = s.mem) ∧
    (∀ errors, ∃ t, exec (.lanePatternLock errors) s = .next t ∧ t.flag Reg.FG_LANE_CTRL_LOCKED = true ∧
      t.rget Reg.FG_LANE_ERR_ERRORS = min (s.rget Reg.FG_LANE_ERR_ERRORS + errors) (2 ^ 32 - 1) ∧ t.ports = s.ports))

/-- Registers: a write of a plain register stores its RW fields alone, a range-limited locked one the nearest value until it is locked, clears the W1C bits written 1, and changes no RO register; a read returns the value and clears the RC fields; a read of a low word latches its high word (R10, R167, R382, R407, R426, R506). Clauses in which a row changes nothing outside its conditions are the model's (log entry 2). -/
def Obligations.RegisterCommands : Prop :=
  (∀ (v : Word) (s : State), s.alive = true →
    (∃ t, exec (.registerWrite 0xD018 v) s = .next t ∧ t.rget Reg.FG_DEPOT_PAGE_PAGE = v.toNat % 64 ∧ (∀ g : Field, g.key / 32 ≠ 0xD018 → t.rget g = s.rget g) ∧ t.media = s.media ∧ t.sec = s.sec) ∧
    (s.flag Reg.MC_CTRL_LOCK = false → ∃ t, exec (.registerWrite 0x608C v) s = .next t ∧ t.rget (Reg.MC_PORT_CFG_TARGET_NS 3) = max 50 (min 1000000 (v.toNat % 2 ^ 20)) ∧
      (∀ g : Field, g.key / 32 ≠ 0x608C → t.rget g = s.rget g)) ∧
    (s.flag Reg.MC_CTRL_LOCK = true → exec (.registerWrite 0x608C v) s = .next s) ∧
    (∃ t, exec (.registerWrite 0x8008 v) s = .next t ∧ (v.toNat / 2 % 2 = 1 → t.flag Reg.CE_ERR_AUTH = false) ∧ (v.toNat / 2 % 2 = 0 → t.rget Reg.CE_ERR_AUTH = s.rget Reg.CE_ERR_AUTH % 2) ∧ t.sec = s.sec) ∧
    exec (.registerWrite 0x7004 v) s = .next s) ∧
  (∀ s : State, s.alive = true →
    ∃ t v, exec (.readClear 0x8024) s = .next t ∧ t.out = s.out ++ [.readData 0x8024 v] ∧
      v.toNat = (s.rget Reg.CE_CNT_AUTH_FAILS + s.rget Reg.CE_CNT_LEN_ERRS * 65536) % 2 ^ 32 ∧ t.rget Reg.CE_CNT_AUTH_FAILS = 0 ∧ t.rget Reg.CE_CNT_LEN_ERRS = 0 ∧
      (∀ g : Field, g.key / 32 ≠ 0x8024 → t.rget g = s.rget g) ∧ t.sec = s.sec) ∧
  (∀ s : State, s.alive = true →
    (∃ t v, exec .jrnlLoRead s = .next t ∧ t.out = s.out ++ [.readData 0x2014 v] ∧ v.toNat = (s.media.durable - 1) % 2 ^ 32 ∧
      t.rget Reg.FT_JRNL_HI_DURABLE_HI = (s.media.durable - 1) / 2 ^ 32 % 2 ^ 32 ∧ t.media = s.media) ∧
    (∃ t v, exec .nonceLoRead s = .next t ∧ t.out = s.out ++ [.readData 0x8010 v] ∧ v.toNat = s.sec.nonce % 2 ^ 32 ∧ t.rget Reg.CE_NONCE_HI_COUNT_HI = s.sec.nonce / 2 ^ 32 % 2 ^ 32 ∧ t.sec = s.sec) ∧
    (s.mode = .manager → s.xd6408 = false → ∃ t v, exec .rbRowLoRead s = .next t ∧ t.out = s.out ++ [.readData 0x500C v] ∧ v.toNat = s.ckptRow % 2 ^ 32 ∧
      t.rget Reg.AY_RB_ROW_HI_ROW_HI = s.ckptRow / 2 ^ 32 % 2 ^ 32 ∧ t.arr = s.arr))

/-! ## The step, reset and what every step keeps -/

/-- A step takes the command that has waited longest and runs it with the rest of the queue; with no command waiting the block idles (the model's queue: log entry 1). Clauses in which a row changes nothing outside its conditions are the model's (log entry 2). -/
def Obligations.StepTakesFront : Prop :=
  (∀ (c : Instr) (rest : List Instr) (s : State), step { s with pending := c :: rest } = exec c { s with pending := rest }) ∧
  (∀ s : State, s.pending = [] → step s = .next s)

/-- Every step answers a next state, whose queue is the old one without its front: no command stops the block and none is refused, in any state; a command puts no command into the queue. That a command outside its conditions does nothing is the model's choice (log entry 2), and so is the idle step (log entry 1). -/
def Obligations.StepAnswersNext : Prop :=
  ∀ s : State, ∃ t, step s = .next t ∧ t.pending = s.pending.tail

/-- After power-on reset: straps not sampled, nothing ready, no hold, memory invalid and empty, every IU unmapped, the queues and command contexts empty, the nonce counter and mark 0 and encryption off, no key, SVN minima and boot counter 0, the default register values of the tables; and the invariants of `EveryStepKeeps` hold (R2, R395, R409, R418, R437, R439, R528). The values the spec does not give for reset are the model's (log entries 3 and 4). -/
def Obligations.ResetState : Prop :=
  State.reset.mode = .unsampled ∧ State.reset.plat.ready = false ∧ State.reset.plat.hold = .none ∧ State.reset.pending = [] ∧ State.reset.mem.dram = [] ∧
  (∀ seg, State.reset.segValid seg = false) ∧ State.reset.media.map = [] ∧ State.reset.adm.ctxs = [] ∧ State.reset.sec.nonce = 0 ∧ State.reset.sec.mark = 0 ∧ State.reset.sec.gcmOn = false ∧
  State.reset.sec.keys = [] ∧ State.reset.sec.minSvn = 0 ∧ State.reset.sec.rbMinSvn = 0 ∧ State.reset.sec.boot = 0 ∧ State.reset.sec.journey = [] ∧ State.reset.sec.fuse = false ∧
  State.reset.rget Reg.TT_EXPRESS_CFG_E_LIMIT = 4 ∧ State.reset.rget Reg.TT_BUDGET_CFG_MAX_PROG = 128 ∧ State.reset.rget Reg.TK_STAT_LEVEL = 64 ∧ State.reset.rget Reg.MC_CTRL_ENABLE = 0 ∧
  State.reset.rget (Reg.MC_HASH_LO_MASK_LO 0) = 0xAAA80080 ∧ State.reset.mem.wf = true ∧ State.reset.sec.nonce ≤ State.reset.sec.mark

/-- What every step from every state keeps: DRAM stays in its canonical form, so that equal memories are equal data; the GCM nonce counter never passes the durable mark; the mark, the boot counter and the SVN minimum never fall, and the level fuse once blown stays blown (R404, R418, R437, R439, R449, R450). -/
def Obligations.EveryStepKeeps : Prop :=
  ∀ s t : State, step s = .next t →
    (s.mem.wf = true → t.mem.wf = true) ∧ (s.sec.nonce ≤ s.sec.mark → t.sec.nonce ≤ t.sec.mark) ∧ s.sec.mark ≤ t.sec.mark ∧ s.sec.boot ≤ t.sec.boot ∧ s.sec.minSvn ≤ t.sec.minSvn ∧
    (s.sec.fuse = true → t.sec.fuse = true)

/-- The Rulebook SVN minimum: 0 on a new device; when the device becomes ready the minimum rises to the MIN_SVN of the Rulebook in force where that is higher; and no step ever lowers it (R528). -/
def Obligations.RulebookMinimum : Prop :=
  State.reset.sec.rbMinSvn = 0 ∧
  (∀ (s : State) (r : RulebookImage), s.readyNow = true → s.sec.inForce = some r → ∃ t, exec .controllerReady s = .next t ∧ t.sec.rbMinSvn = max s.sec.rbMinSvn r.minSvn) ∧
  (∀ s t : State, step s = .next t → s.sec.rbMinSvn ≤ t.sec.rbMinSvn)

/-- In worker mode a MEMBER_ID of 0b000 or 0b111 causes the strap-fault state (R4): whatever the other straps, when the straps are sampled. -/
def Obligations.WorkerMemberFault : Prop :=
  ∀ (x : Straps) (s : State), s.plat.hold = .none → s.mode = .unsampled → x.mode = 2 → x.member = 0 ∨ x.member = 7 →
    ∃ t, exec (.strapSample x) s = .next t ∧ t.mode = .strapFault

/-- Reads of the Depot beside its operations (R461): of the word being programmed, and of any word of the sector whose erase is running or suspended, the erased value, with no check event, whatever upset the cells have. -/
def Obligations.DepotHiddenReads : Prop :=
  ∀ (guard : Bool) (w upset : Nat) (o : DepotOp) (s : State), w < 2 ^ 21 → s.bankOp (State.bankOf w) = some o → State.bankOf o.word = State.bankOf w →
    (o.erase = false ∧ o.word = w) ∨ (o.erase = true ∧ State.sectorOf o.word = State.sectorOf w) →
    ∃ t, exec (.depotRead guard (8 * w) upset) s = .next t ∧ t.out = s.out ++ [.depot guard (some (2 ^ 64 - 1))] ∧ t.rget Reg.DP_CNT_CORR = s.rget Reg.DP_CNT_CORR ∧
      t.rget Reg.DP_ERR_UNCORR = s.rget Reg.DP_ERR_UNCORR ∧ t.mem = s.mem

/-- The Depot counts the erases of each sector, and the selected sector's count and its WORN bit are shown; an erase beyond 10,000 is performed, and sets DP_ERR.WEAR (R463). -/
def Obligations.DepotWear : Prop :=
  (∀ (b : Nat) (o : DepotOp) (s : State), b < 2 → s.bankOp b = some o → o.erase = true → o.suspended = false → s.sec.guardCmd = none → s.sec.coreCmd = none →
    ∃ t, exec (.depotEraseDone b true) s = .next t ∧ Table.get 0 t.sec.erases (State.sectorOf o.word) = Table.get 0 s.sec.erases (State.sectorOf o.word) + 1 ∧
      (∀ x, x ≠ State.sectorOf o.word → Table.get 0 t.sec.erases x = Table.get 0 s.sec.erases x) ∧ (∀ w, State.sectorOf w = State.sectorOf o.word → t.depotWord w = 2 ^ 64 - 1) ∧
      (10000 ≤ Table.get 0 s.sec.erases (State.sectorOf o.word) → t.flag Reg.DP_ERR_WEAR = true)) ∧
  (∀ s : State, s.alive = true → ∃ t v, exec (.readClear 0xA02C) s = .next t ∧ t.out = s.out ++ [.readData 0xA02C v] ∧
    v.toNat % 65536 = min 65535 (Table.get 0 s.sec.erases (s.rget Reg.DP_SECT_SEL_SECTOR)) ∧
    (v.toNat / 65536 % 2 = 1 ↔ 10000 < Table.get 0 s.sec.erases (s.rget Reg.DP_SECT_SEL_SECTOR)) ∧ t.sec = s.sec)
end

