-- ==== Sys2Proof/Tests/Slice0.lean ====
section
/-! SUPPORT. Tests: states and operands that meet the hypotheses of the statements, ill-formed commands that WellFormed refuses, and single steps checked against the words of the spec. -/

open Sys2Proof Sys2Proof.Machine

namespace Sys2Proof.Tests

/-! ## Small states -/

/-- The device out of reset in a mode. -/
def inMode (m : Mode) : State := { State.reset with mode := m }
/-- A hold in force. -/
def held (h : Hold) : State := { State.reset with plat := { State.reset.plat with hold := h } }
/-- A flush that has ended, with its cause. -/
def flushed (cause : Nat) : State :=
  { State.reset with media := { State.reset.media with flush := .done, vinHigh := 100000, nand := { State.reset.media.nand with flushCause := cause } } }
/-- Standalone with one port. -/
def withPort (x : Port) : State := { inMode .standalone with ports := [(0, x)] }
/-- Standalone with one controller. -/
def withCtl (c : Controller) : State := { inMode .standalone with ctls := [(0, c)] }
/-- A port with its link in L0. -/
def upPort : Port := { inReset := false, linkUp := true, width := 4, mse := true }

/-- A port that may send. -/
def txPort : Port := { upPort with bme := true }
/-- An enabled, ready controller with an admin queue pair and one I/O queue pair of 16 entries, an entry waiting in each submission queue. -/
def readyCtl : Controller :=
  { en := true, rdy := true, sqs := [(0, { size := 16, tail := 1, cqid := 0, prio := 0 }), (1, { size := 16, tail := 1, cqid := 1, prio := 0 })]
    cqs := [(0, { size := 16, vector := 0, tail := 3 }), (1, { size := 16, vector := 1, tail := 3 })] }
/-- A ready standalone device with port A up, controller 0 ready and the engine enabled. -/
def host : State :=
  { (inMode .standalone).rset Reg.AE_CTRL_ENABLE 1 with ports := [(0, txPort)], ctls := [(0, readyCtl)], plat := { ready := true, perst := false } }
/-- A submission entry of an opcode for namespace 1. -/
def entryOf (o : Nat) : Sqe := { Sqe.empty with opcode := o, cid := 7, nsid := 1, bytes := 4096 }
/-- A host context of an opcode on I/O queue 1, fetched and inserted. -/
def ioCtx (o : Nat) : Ctx := { ctl := 0, sqid := 1, sqe := entryOf o, seq := 0, path := .firmware, inserted := true }
/-- An admin context of an opcode with its fields. -/
def adminCtx (o : Nat) (arg : List Nat) : Ctx := { ctl := 0, sqid := 0, sqe := { entryOf o with arg := arg }, seq := 0, path := .firmware, inserted := true }
/-- The device with contexts. -/
def withCtxs (l : Table Ctx) : State := { host with adm := { ctxs := l, seq := 8 } }
/-- A namespace of 2^20 blocks of 4 KiB in slot 1, attached to controller 0. -/
def ns1 : Namespace := { nsid := 1, nsze := 2 ^ 20, lbaf := 1, iuShift := 12, creation := 0, granules := 1, attached := 1 }
/-- The device with namespace 1 and contexts. -/
def withNs (l : Table Ctx) : State := { withCtxs l with media := { nand := { ns := [(1, ns1)] } } }
/-- The translation layer enabled over namespace 1, with contexts. -/
def trans (l : Table Ctx) : State := (withNs l).rset Reg.FT_CTRL_ENABLE 1
/-- A device whose media state is changed. -/
def media (f : Media → Media) : State := State.modMedia (trans []) f
/-- A superblock of group 0's host stream 0 whose open unit is the first of stripe 1. -/
def sb0 : Superblock := { group := 0, stream := .host 0, dies := [0, 2], blocks := [[5], [6]], closeParity := false, slc := false, par := 864, cursor := 64, used := 1 }

theorem wit_ResetsRestart :
    (State.reset.plat.tamper = false) ∧ ((held .none).plat.hold ≠ .off) ∧ ((held .rstN).plat.hold = .rstN ∧ (held .rstN).plat.tamper = false) ∧ ((held .alarm).plat.hold = .alarm ∧ (held .alarm).rget Reg.GD_ALARM_TAMPER = 0) ∧
    ((flushed 1).media.flush = .done ∧ (flushed 1).media.nand.flushCause = 1 ∧ 100000 ≤ (flushed 1).media.vinHigh) ∧
    ((flushed 2).media.flush = .done ∧ (flushed 2).media.nand.flushCause = 2 ∧
      (flushed 2).param .thermalWarnC - (flushed 2).param .thermalHysteresisC - 1 < (flushed 2).param .thermalWarnC - (flushed 2).param .thermalHysteresisC ∧
      (flushed 2).media.alsoFailed = false) ∧
    (let s : State := { State.reset with plat := { hold := .rstN, tamper := true } }; s.plat.hold = .rstN ∧ s.plat.tamper = true) := by
  decide

theorem wit_HoldsAndShutdown :
    (10000 ≤ 10000 ∧ State.reset.plat.hold = .none ∧ State.reset.media.flush = .none ∧ State.reset.plat.ready = false) ∧
    (AlarmCause.voltage ≠ .tamper) ∧ (((held .alarm).rset Reg.GD_ALARM_TAMPER 1).plat.hold = .alarm ∧ ((held .alarm).rset Reg.GD_ALARM_TAMPER 1).rget Reg.GD_ALARM_TAMPER = 1) ∧
    ((withCtl { shst := 1 }).plat.rst = 0 ∧ (withCtl { shst := 1 }).bifur = false ∧ ((withCtl { shst := 1 }).ctl 0).shst = 1 ∧ (withCtl { shst := 1 }).ctxsOf 0 = [] ∧
      (withCtl { shst := 1 }).dirtyCount = 0 ∧ (withCtl { shst := 1 }).media.openPage = [] ∧ (withCtl { shst := 1 }).media.pages = [] ∧
      (withCtl { shst := 1 }).media.flush = .none) := by
  decide

theorem wit_PcieLinkAndResets :
    ((({ withPort upPort with plat := { perst := false } } : State).mode = .standalone ∧ (withPort upPort).bifur = false ∧
      ({ withPort upPort with plat := { perst := false } } : State).plat.perst = false ∧ ((withPort upPort).port 0).inReset = false)) ∧
    (({ withPort {} with plat := { linksReleased := true } } : State).plat.linksReleased = true) ∧
    (0 ∈ (withPort { upPort with linkUp := false }).ctlList ∧ ((withPort { upPort with linkUp := false }).port 0).inReset = false ∧
      ((withPort { upPort with linkUp := false }).port 0).linkUp = false ∧ (withPort upPort).alive = true ∧ (withPort upPort).laneTested false 0 = false) ∧
    (((withPort { training := true }).port 0).training = true ∧ 64 ∈ [2, 5, 8, 16, 32, 64] ∧ 64 ≤ (withPort { training := true }).paramN .pcieMaxSpeedGts ∧
      4 ∈ (withPort { training := true }).portWidths) ∧
    (0 ∈ (withPort upPort).ctlList ∧ ((withPort upPort).port 0).linkUp = true) ∧
    ((withPort upPort).rxOk 0 = true ∧ ((withPort upPort).port 0).flr = false) ∧
    (((withPort { upPort with flr := true }).port 0).flr = true) := by
  decide

theorem wit_PcieConfigAndLinkEvents :
    ((withPort { upPort with aspmL1 := true }).rxOk 0 = true ∧ ((withPort { upPort with aspmL1 := true }).port 0).aspmL1 = true ∧
      (withPort { upPort with aspmL1 := true }).paramN .pcieAspmL1Enable = 1) ∧
    (0 ∈ (withPort { upPort with l1 := 3 }).ctlList ∧ ((withPort { upPort with l1 := 3, width := 4 }).port 0).l1 ≠ 0 ∧ 4 ∈ (withPort upPort).portWidths ∧ (withPort upPort).plat.tokens = [] ∧
      4 * (withPort upPort).rget Reg.TK_WT_SERDES ≤ (withPort upPort).rget Reg.TK_STAT_LEVEL ∧
      ((withPort upPort).rset Reg.TK_STAT_LEVEL 0).rget Reg.TK_STAT_LEVEL = 0 ∧ 0 < (withPort upPort).rget Reg.TK_WT_SERDES) ∧
    ((withPort upPort).rxOk 0 = true ∧ ((withPort upPort).port 0).flr = false) ∧
    ((withPort { upPort with flr := true }).rxOk 0 = true ∧ ((withPort { upPort with flr := true }).port 0).flr = true) := by
  decide

/-- A port whose buffer is enabled at 0x100000, with a request outstanding on tag 5. -/
def busyPort : Port := { upPort with cre := true, bar2 := 0x40000000, reads := [(5, { ctx := none, want := 64 })] }

theorem wit_PcieRequestsAndTags :
    ((withPort busyPort).rxOk 0 = true ∧ (withPort busyPort).window 0 0x40000000 1 = some (2, 0) ∧
      (withPort busyPort).window 0 (0x40000000 + (withPort busyPort).cmbSize - 1) 1 = some (2, (withPort busyPort).cmbSize - 1) ∧
      (withPort busyPort).window 0 (0x40000000 + (withPort busyPort).cmbSize) 1 = none) ∧
    (Table.find ((withPort busyPort).port 0).reads 5 = some { ctx := none, want := 64 } ∧ (64 ≤ 0 + 64) ∧ (withPort busyPort).ctxsOf 0 = [] ∧
      ((withPort busyPort).port 0).ctoDisable = false) ∧
    (((withPort upPort).port 0).mse = true ∧ 256 < 257 ∧ ((withPort upPort).port 0).msixEnable = false) ∧
    ((({ State.reset with link := { ports := [(0, { delayed := some ⟨0, 0, { typ := 1 }⟩ })] } } : State).bl 0).delayed = some ⟨0, 0, { typ := 1 }⟩) := by
  decide

/-- The port with its controller disabled. -/
def off : State := { host with ctls := [] }
/-- A device in power for the doorbells, whose queue heads stand at 0. -/
def bell : State := host

theorem wit_ControllerCommands :
    (0 ∈ off.ctlList ∧ (off.ctl 0).en = false ∧ (off.port 0).inReset = false ∧ 4 ≤ 4 ∧ 1 ≠ 0) ∧
    (0 ∈ host.ctlList ∧ (host.ctl 0).en = true ∧ (host.ctl 0).shst = 0 ∧ (host.ctl 0).rdy = true ∧ (host.ctl 0).cfs = false ∧ host.plat.nonOp = none) ∧
    (Table.find (host.ctl 0).sqs 1 = some { size := 16, tail := 1, cqid := 1, prio := 0 } ∧ 15 < 16 ∧ 16 ≤ 16) ∧
    (Table.find (host.ctl 0).cqs 1 = some { size := 16, vector := 1, tail := 3 } ∧ 3 < 16 ∧ (3 + 16 - 0) % 16 ≤ (3 + 16 - 0) % 16) ∧
    ((host.port 0).msixEnable = false ∧ (1 : Word).getLsbD 0 = true) := by
  decide

/-- A read that has all its data. -/
def doneRead : Ctx := { ioCtx 0x02 with started := true }

theorem wit_CommandLifeCycle :
    (host.fetching 0 = true ∧ State.pickQueue (host.ctl 0) = some (0, readyCtl) ∧ Table.find readyCtl.sqs 0 = some { size := 16, tail := 1, cqid := 0, prio := 0 } ∧
      host.freeCtx 0 = some 0 ∧ host.fetchHeld = false) ∧
    (let s := withCtxs [(5, { adminCtx 0x80 [] with inserted := false })];
      s.ctx 5 = some { adminCtx 0x80 [] with inserted := false } ∧ State.serialisedCmd (adminCtx 0x80 []).sqe = true ∧
      (s.adm.ctxs.all fun p => !(p.2.sqid == 0 && decide (p.2.ctl < 2) && State.serialisedCmd p.2.sqe && decide (p.2.seq < 0) && !p.2.posted)) = true) ∧
    (let c := { ioCtx 0x02 with inserted := false };
     let s := withNs [(5, c)];
      s.aeRuns 0 = true ∧ s.ctx 5 = some c ∧ c.status = none ∧ s.insertTurn c = true ∧ s.nsOf c.sqe.nsid = some ns1 ∧ (State.ilUnits ns1 c.sqe).length ≤ s.ilFree) ∧
    (host.aeRuns 0 = true ∧ host.flag Reg.AE_IL_STAT_FULL = false ∧ host.ctx 5 = none ∧ (State.coverAll [⟨1, 2, 1, true⟩] 1).length ≤ host.ilFree ∧
      host.fwEntries + (State.coverAll [⟨1, 2, 1, true⟩] 1).length ≤ host.rget Reg.AE_IL_CFG_FW_MAX) ∧
    ((withCtxs [(5, { doneRead with posted := true })]).aeRuns 0 = true ∧ (withCtxs [(5, { doneRead with posted := true })]).ctx 5 = some { doneRead with posted := true }) ∧
    ((withNs [(5, doneRead)]).ctx 5 = some doneRead ∧ (withNs [(5, doneRead)]).mayComplete 5 doneRead = true) ∧
    (let s := withNs [(5, doneRead), (6, { adminCtx 0x08 [1, 7] with target := some 5 })];
      s.ctx 5 = some doneRead ∧ doneRead.word = .active ∧ s.aeRuns 0 = true ∧ s.abortersOf 5 ≠ [] ∧ s.beingDeleted doneRead = false) ∧
    (let c := { doneRead with word := .done, status := some stOk };
     let s := withNs [(5, c)];
      s.ctx 5 = some c ∧ State.ended c = true ∧ s.afterDone c = true ∧ s.media.flush = .none ∧ s.plat.hold = .none ∧
      s.cqOf c = some (1, { size := 16, vector := 1, tail := 3 }) ∧ State.CompQueue.free { size := 16, vector := 1, tail := 3 } = true ∧ s.txOk 0 = true) ∧
    (let s := withPort { txPort with msixEnable := true, coal := [(3, { count := 1 })], msix := [(3, { control := 0 })] };
      (Table.get ({} : Coalesce) (s.port 0).coal 3).count ≠ 0 ∧ s.msixOpen 0 3 = true) := by
  decide

/-- The engine with bank 0 of one-unit entries and parcel 4 pinned once. -/
def engine : State := { host.rset (bankCfg 0) 1 with ae := { entries := [(State.parcelPos 4, ⟨[0], [0], true, 1⟩)] } }

theorem wit_EngineCommands :
    (engine.flag Reg.AE_CTRL_ENABLE = true ∧ engine.portStopped 0 = false ∧ engine.ae.waiting = [] ∧ engine.widthError ⟨0, 1, [0], [0], [0], 0⟩ = false ∧
      engine.searchFits ⟨0, 1, [0], [0], [0], 0⟩ = true) ∧
    (({ engine with ae := { stopped1 := true } } : State).portStopped 1 = true ∧ ({ engine with ae := { stopped1 := true } } : State).ae.waiting = []) ∧
    (engine.aeRuns 1 = true ∧ 65535 < 65536 ∧ 0 < engine.pinOf 4) := by
  decide

theorem wit_MapCommands :
    ((trans []).flag Reg.FT_CTRL_ENABLE = true ∧ (trans []).linesWait 1 [0] = none ∧ (trans []).mapGet 1 0 = (0x2000000000 : MapEntry).toNat ∧ (trans []).mapGet 1 0 ≠ (0 : MapEntry).toNat) ∧
    (let s := media fun m => { m with badLines := [mapKey 1 0] }; s.flag Reg.FT_CTRL_ENABLE = true ∧ (s.linesWait 1 [0]).isSome = true) ∧
    (mapKey 1 0 ∈ (media fun m => { m with badLines := [mapKey 1 0] }).media.badLines) ∧
    (let c := { ioCtx 0x02 with todo := [(3, 0)] };
     let s := trans [(5, c)];
     let u := s.modMedia fun m => { m with toLoad := [segOf 1 3] };
      s.ctx 5 = some c ∧ s.nsOf c.sqe.nsid = some ns1 ∧ ns1.array = false ∧ c.todo.any (·.1 == 3) = true ∧ c.word = .active ∧ c.inserted = true ∧
      segOf (State.slotOf ns1.nsid) 3 ∈ u.media.toLoad ∧ segOf (State.slotOf ns1.nsid) 3 ∉ s.media.toLoad ∧ s.lineBad (State.slotOf ns1.nsid) 3 = false ∧
      s.mapGet (State.slotOf ns1.nsid) 3 = entDealloc) := by
  decide +kernel

theorem wit_ParcelCommands :
    (let c := { ioCtx 0x02 with todo := [(3, 0)] };
     let e : AeEntry := ⟨[State.parcelUnit 1 3 0 true], [BitVec.ofNat 64 (2 ^ 50 - 1)], true, 0⟩;
     let s := { trans [(5, c)] with ae := { entries := [(State.parcelPos 65535, e)] } };
      s.ctx 5 = some c ∧ s.nsOf c.sqe.nsid = some ns1 ∧ s.aeRuns 1 = true ∧ (3, 0) ∈ c.todo ∧ s.pcMatches (State.slotOf ns1.nsid) 3 0 = [65535] ∧
      s.parcelEntry 65535 = some e ∧ e.valid = true ∧ (e.value.getD 0 0 ^^^ State.parcelUnit (State.slotOf ns1.nsid) 3 0 true) &&& BitVec.ofNat 64 (2 ^ 49 - 1) = 0 ∧
      (s.parcel 65535).blocks = [] ∧ s.parcelEntry 0 = none) ∧
    (let s := media fun m => { m with parcels := [(4, { state := .clean, slot := 1, iu := 3, first := 4 })] };
      s.aeRuns 1 = true ∧ (s.parcel 4).state = .clean ∧ s.mapGet (s.parcel 4).slot (s.parcel 4).iu ≠ entInbuf (s.parcel 4).first ∧ s.pinOf 4 = 0 ∧
      (s.adm.ctxs.all fun q => !(q.2.word != .done && q.2.changed.any fun r => r.2.1 == entInbuf (s.parcel 4).first)) = true) ∧
    (let c := { ioCtx 0x01 with sqe := { entryOf 0x01 with cmbData := true } };
     let s := (trans [(5, c)]).modMedia fun m => { m with bootMeasured := true };
      s.ctx 5 = some c ∧ s.nsOf c.sqe.nsid = some ns1 ∧ c.parcels = [] ∧ c.started = false ∧ c.status = none ∧ s.media.flush = .none ∧ s.plat.hold = .none ∧
      s.reserveAhead c = false ∧ s.bufferStop = false ∧ s.media.bootMeasured = true ∧ s.flag Reg.FT_STAT_JRNL_HOLD = false ∧ State.parcelIus ns1 c = [0] ∧
      s.badPlacement c = false ∧ s.linesWait (State.spaceOf ns1) [0] = none ∧ (s.dirtyCount + State.parcelsFor ns1 1) * 8 < s.limitInForce * 7 ∧ (s.freeParcels (State.parcelsFor ns1 1)).length = State.parcelsFor ns1 1) := by
  decide +kernel

/-- The witness of ParcelCommands' clauses on program units. -/
theorem wit_ParcelCommands_units :
    (let s := media fun m => { m with
        parcels := [(4, { state := .filled, slot := 1, iu := 3, first := 4, committed := true, place := some (0, 0) })], nand := { m.nand with sbs := [(7, sb0)] } };
      0 < s.groupCount ∧ s.media.quiesced = false ∧ s.media.flush = .none ∧ (s.parcel 4).place.isSome = true ∧ (s.grp 0).hostWait = false ∧ s.waitsMeta 0 = false ∧ s.mayPlace 0 0 4 = true ∧
      s.iuParcels 4 = [4] ∧ ((s.placeIu 0 (.host 0) 1).2.map fun q => (q.1, q.2.1)) = some (7, 64) ∧ s.sb 7 = some sb0 ∧ sb0.state = .open_ ∧ sb0.cursor / 64 = 1 ∧ sb0.used ≠ 0) ∧
    (let b := { sb0 with state := .closed, units := [(64, { parcels := [4], locs := [0] })] };
     let s := media fun m => { m with nand := { m.nand with sbs := [(7, b), (8, { sb0 with stream := .metadata })] } };
      s.sb 7 = some b ∧ State.stripeFull b 1 = true ∧ 1 ∉ b.passed ∧ State.stripeUnits b 1 ≠ [] ∧ b.stream = .host 0 ∧ ((State.stripeUnits b 1).all fun q => q.2.parcels.all fun p => !s.segWaits (s.parcel p).slot (s.parcel p).iu && !s.lineBad (s.parcel p).slot (s.parcel p).iu) = true ∧
      (s.metaRoom b.group (s.openParityCws b)).2 = some 8) := by
  decide +kernel

theorem wit_JournalAndFailures :
    (let s := media fun m => { m with nand := { m.nand with sbs := [(7, sb0)] } };
      s.sb 7 = some sb0 ∧ 1 < sb0.dies.length ∧ 1 ∉ sb0.passed ∧ (Table.get {} sb0.units (1 * 64 + 1)).failed = false) ∧
    (let s := (trans []).setDie 511 { state := .idle, entry := 1 };
      (s.blockInfo (State.blockNo 511 3 0)).retired = false ∧ (s.die 511).present = true) ∧
    (let s := media fun m => { m with bstopFlush := true };
      s.media.bstopFlush = true ∧ s.dirtyCount = 0 ∧ s.media.openPage = [] ∧ s.media.pages = []) ∧
    (let s := media fun m => { m with openPage := [⟨0, 0, 1, 1, 0⟩], nextSeq := 1 };
      s.media.quiesced = false ∧ s.media.flush = .none ∧ s.media.openPage ≠ []) ∧
    ((media fun m => { m with pages := [⟨[⟨0, 0, 1, 1, 0⟩], [(0, 0)]⟩] }).media.pages = ⟨[⟨0, 0, 1, 1, 0⟩], [(0, 0)]⟩ :: []) ∧
    (let s := media fun m => { m with nand := { m.nand with sbs := [(8, { sb0 with stream := .metadata })] } };
     let s := { s with flash := { s.flash with refDie := some 0, dies := [(0, { entry := 1 + 1023 * 2 ^ 20, state := .idle })] } };
      s.ckptTurn 0 = true ∧ (s.ckptRoom 0).2 = some 8) ∧
    ((media fun m => { m with toLoad := [segOf 1 0] }).media.toLoad = segOf 1 0 :: []) := by
  decide +kernel

/-- A powered channel 0 with die 0 present, every operation of set 0 in the dispatch table, chip enable 0 populated, window places left and the Timetable enabled. -/
def chan (x : Die) : State :=
  let s := ((inMode .standalone).rset (Reg.SB_CH_STAT_POWERED 0) 1).rset Reg.TT_CTRL_ENABLE 1
  { s with flash := { s.flash with
      dies := [(0, x)], dispatch := (List.range 32).map fun o => (o, BitVec.ofNat 16 (0x8000 + o)), boxes := [(0, { cur := { window := 2, slots := 1 } })]
      cal := [(0, { populated := true })] } }
/-- An idle die. -/
def idleDie : Die := { state := .idle, entry := 1 }
/-- A die whose routine is parked. -/
def parkedDie (st : DieState) (r : Option Request) : Die := { state := st, entry := 1, ctx := { active := true, op := 4, parked := true, arg := ⟨0, 0, 0, 0, .goods, 9, .other⟩ }, request := r }

theorem wit_TimetableCommands :
    (State.reset.plat.hold = .none ∧ State.reset.flash.ticking = false) ∧
    (let s := chan { state := .suspProg, entry := 1 };
     let u := { s with flash := { s.flash with ticking := true } };
      u.plat.hold = .none ∧ u.flash.ticking = true ∧ (u.die 0).suspended = true ∧ u.flag Reg.TT_CTRL_ENABLE = true ∧ u.flash.planned = false ∧
      { u.flash with planned := true }.planned = true) ∧
    (let s := inMode .standalone; s.flag Reg.TT_CTRL_LOCK = false ∧ (∀ ch, ch < s.channels → s.layoutBad ch = false) ∧ (s.rset Reg.TT_CTRL_LOCK 1).flag Reg.TT_CTRL_LOCK = true) ∧
    (let s := (chan idleDie).rset (Reg.TT_CH_BUS_SLOT_CYC 0) 2047; s.flag Reg.TT_CTRL_LOCK = false ∧ 0 < s.channels ∧ s.layoutBad 0 = true) ∧ 511 < 512 ∧ 255 < 256 := by
  decide

theorem wit_LoadPort :
    (let s := (inMode .standalone).rset Reg.SB_CS_ADDR_ADDR 8191;
      s.flag Reg.SB_CS_CTRL_LOAD_LOCK = false ∧ s.rget Reg.SB_CS_ADDR_ADDR < 8192 ∧ 15 < s.channels ∧ 0x1C00 ≤ s.rget Reg.SB_CS_ADDR_ADDR) ∧
    (let s := ((inMode .standalone).rset Reg.SB_CS_ADDR_ADDR 0x1BFF).rset Reg.GD_STAT_LEVEL 1; s.rget Reg.SB_CS_ADDR_ADDR < 0x1C00 ∧ s.rget Reg.GD_STAT_LEVEL ≠ 0) ∧
    (511 < 512 ∧ 15 < 16 ∧ 31 < 32 ∧ ((inMode .standalone).rset Reg.SB_CS_CTRL_LOAD_LOCK 1).flag Reg.SB_CS_CTRL_LOAD_LOCK = true) := by
  decide

theorem wit_LegCommands :
    (let s := chan (parkedDie .idle none);
     let u := s.selectCtx 0 9;
      u.boxRuns (chOf 0) = true ∧ u.flag (Reg.SB_SEQ_STAT_IN_LEG (chOf 0)) = false ∧ (u.die 0).ctx.active = true ∧ (u.die 0).ctx.parked = true ∧
      (u.die 0).request = none ∧ (u.die 0).isol = 0 ∧ u.legReady 0 = true) ∧
    (let s := (chan idleDie).rset (Reg.SB_SEQ_STAT_IN_LEG 0) 1;
     let u := { s with flash := { s.flash with store := [(0, BitVec.ofNat 176 (2 ^ 13 + 8191))] } };
      u.boxRuns 0 = true ∧ u.flag (Reg.SB_SEQ_STAT_IN_LEG 0) = true ∧ (u.box 0).holding = false ∧ (u.box 0).rbWait = false ∧ (u.die (u.box 0).die).ctx.armed = false ∧
      Table.get [] u.flash.csErrs (8192 * 0 + u.pcOf 0) = [] ∧ ¬ (8191 = 0x1C00 ∧ u.pcOf 0 = 0x1BFF) ∧ u.storeWord 0 (u.pcOf 0) = BitVec.ofNat 176 (2 ^ 13 + 8191) ∧
      (u.box 0).dist + 1 < 1024 ∧ Table.find u.flash.store (8192 * 0 + u.pcOf 0) = some (BitVec.ofNat 176 (2 ^ 13 + 8191)) ∧ State.csLow 79 = State.csLow 160 ∧
      u.flag (Reg.SB_SEQ_STAT_AT_STATION 0) = false) ∧
    ((chan (parkedDie .prog (some .suspend))).requestReady 0 .suspend = true ∧ ((chan (parkedDie .prog (some .suspend))).die 0).state = .prog ∧
      (chan (parkedDie .prog (some .suspend))).descOf ((chan (parkedDie .prog (some .suspend))).die 0).dispatchSet 7 = some 7) ∧
    ((chan (parkedDie .readL (some .abort))).requestReady 0 .abort = true ∧
      ((chan (parkedDie .readL (some .abort))).descOf ((chan (parkedDie .readL (some .abort))).die 0).dispatchSet 11).isSome = true) ∧
    (15 < (inMode .standalone).channels ∧ ((inMode .standalone).rset (Reg.SB_SEQ_STAT_HALTED 15) 1).flag (Reg.SB_SEQ_STAT_HALTED 15) = true) := by
  decide

theorem wit_ReadDispatch :
    (let a : OpArg := ⟨1, 4095, 2047, 15, .goods, 9, .relocation⟩;
     (chan idleDie).readStart 0 3 a = true ∧ (chan idleDie).descOf ((chan idleDie).die 0).dispatchSet 3 = some 3 ∧ (chan (parkedDie .prog none)).readStart 0 3 a = false) ∧
    (let a : OpArg := ⟨1, 0, 0, 1, .express, 9, .host 5 0 0⟩;
     let x : XRead := { owner := 9, die := 0, block := 0, page := 0, planes := 1, slots := 1, unit := 0, codewords := 1, counted := false, queued := false, start := 0, seq := 0, issue := some 0, xfer := [1], seen := true };
     let s := chan { state := .suspErase, entry := 1 };
     ({ s with flash := { s.flash with xreads := [x] } }).readStart 0 0 a = true) := by
  decide +kernel

/-- Arguments of a program or erase of block 5 in plane 0, in a class. -/
def onBlock (c : TClass) : OpArg := ⟨1, 5, 0, 15, c, 9, .other⟩

theorem wit_ProgramDispatch :
    (let s := (((chan idleDie).rset Reg.TT_BUDGET_EFF_PROG 1).rset Reg.TT_BUDGET_EFF_ERASE 1).rset Reg.TK_STAT_LEVEL 100;
     let z := s.rset Reg.TK_STAT_LEVEL 0;
      s.opStart 0 4 (onBlock .goods) = true ∧ s.opStart 0 5 (onBlock .goods) = true ∧ s.opStart 0 6 (onBlock .stopping) = true ∧ s.descOf (s.die 0).dispatchSet 6 = some 6 ∧
      (s.die 0).tokenPaid = false ∧ z.opFree 0 4 (onBlock .goods) = true ∧ z.opStart 0 4 (onBlock .goods) = false) ∧
    (chan (parkedDie .erase none)).opFree 0 6 (onBlock .stopping) = false := by
  decide +kernel

theorem wit_SuspendResumeAbort :
    ((chan (parkedDie .erase (some .suspend))).requestReady 0 .suspend = true ∧ ((chan (parkedDie .erase (some .suspend))).die 0).state = .erase) ∧
    (let s := chan { parkedDie .suspErase none with resumeAt := some 0 };
      s.resumeReady 0 = true ∧ (s.die 0).state = .suspErase ∧ (chan { parkedDie .suspProg none with resumeAt := some 0 } |>.die 0).state = .suspProg ∧
      s.descOf (s.die 0).dispatchSet 9 = some 9) ∧
    (let s := chan { parkedDie .load (some .abort) with reads := [⟨0, false, 9, 1⟩] };
      s.requestReady 0 .abort = true ∧ (s.die 0).state = .load ∧ 9 ∈ (s.die 0).owners) := by
  decide +kernel

theorem wit_DieStatusCommands :
    (let s := chan { state := .abort, entry := 1, features := [(1, 7)] };
      s.opReady 0 12 = true ∧ s.opReady 0 14 = true ∧ s.opReady 0 15 = true ∧ Table.find (s.die 0).features 1 = some 7 ∧ (s.die 0).state = .abort ∧ (0x40 : Byte) ≠ 0xFF ∧
      (0x40 : Byte).getLsbD 6 = true ∧ s.boxFree 0 = true ∧ s.hasOp 0 13 = true ∧ s.seqPlace 0 = true ∧ s.descOf 0 16 = some 16) ∧
    (let s := chan (parkedDie .prog none); s.boxRuns (chOf 0) = true ∧ (s.die 0).ctx.active = true ∧ (s.die 0).suspended = false ∧ (s.die 0).isol = 0) ∧
    (let s := { chan idleDie with rb := { ints := [(Param.microcodeVendorOpIntervalH, 1)] } };
      s.lowerStart 0 .goods = true ∧ s.descOf (s.die 0).dispatchSet (0x1C + 3) = some 31 ∧ (s.die 0).state = .idle ∧ s.vendorDue 0 3 = true) ∧
    (let s := chan idleDie; 0 < s.channels ∧ s.flag (Reg.SB_CH_STAT_ISOLATED 0) = false ∧ (∀ d ∈ diesOf 0, (s.die d).ctx.active = false ∧ (s.die d).reads = []) ∧
      (s.die 0).state ≠ .absent) := by
  decide +kernel

/-- The channel of `chan` in training at boot, its chip enable at a stage with what it found. -/
def training (n : Nat) (found : Table (Nat × Nat)) : State :=
  let s := (chan idleDie).rset (Reg.SB_CH_CFG_RATE 0) 5
  { s with flash := { s.flash with identified := List.range 16, cal := [(0, { populated := true, stage := n, found := found, retrainSlots := 47 })] } }

theorem wit_CalibrationSteps :
    (let s := chan idleDie;
      (training 0 []).trainStep 0 0 17 1 = true ∧ (training 1 []).trainStep 0 0 19 2 = true ∧ (training 2 []).trainStep 0 0 20 3 = true ∧ (training 3 []).trainStep 0 0 21 4 = true ∧
      (training 4 []).trainStep 0 0 22 5 = true ∧ (training 4 ((List.range 18).map fun i => (i, 128, 255))).marginsOk ((training 4 ((List.range 18).map fun i => (i, 128, 255))).ceCal 0 0).found = true ∧
      (training 4 []).flag (Reg.SB_CH_STAT_TRAINED 0) = false ∧ (true && (training 4 []).marginsOk ((training 4 []).ceCal 0 0).found) = false ∧
      rateCode ((training 4 []).paramN .flashMinRateMts) < (training 4 []).rateNow 0 ∧
      s.calReady 0 0 18 = true ∧ s.calReady 0 0 23 = true ∧ s.calReady 0 0 24 = true ∧ (Table.get (0, 0) ((s.ceCal 0 0).newTrims.getD (s.ceCal 0 0).trims) 17).1 < 255 ∧ (0 : Int) < 1 ∧
      0 < s.paramN .flashDriftMarginMin ∧ (s.ceCal 0 0).populated = true ∧ (s.ceCal 0 0).hold = false ∧ s.ceGone 0 0 = false) ∧
    (let s := (chan idleDie).rset (Reg.SB_CH_STAT_TRAINED 0) 1;
     let u := { s with flash := { s.flash with tick := 4, boxes := [(0, { cur := { window := 2, calSlots := 1 } })], cal := [(0, { populated := true, stage := 4, retrain := true, retrainSlots := 47 })] } };
     let v := { s with flash := { s.flash with tick := 10 ^ 9 } };
      u.trainStep 0 0 22 5 = true ∧ u.flag (Reg.SB_CH_STAT_TRAINED 0) = true ∧ 47 ≤ (u.ceCal 0 0).retrainSlots ∧ (u.ceCal 0 0).retrainFailed = false ∧
      v.paramN .flashCalForcePeriods ≤ v.calWaited (v.ceCal 0 0) 2) := by
  decide +kernel

/-- A codeword's job in a state of decoding. -/
def job (st : JobState) : Job :=
  { owner := .relocation, die := 0, plane := 0, block := 0, page := 0, slot := 0, lba := 3, nsid := 1, cls := .goods, state := st, level := 0, step := 0, tried := [], best := none
    soft2 := true, tracker := 0, eraseCount := 0, band := 0, miscorr := false, erased := false, uncorr := false, record := 0, good := false }
/-- The device with one job. -/
def withJob (st : JobState) : State := let s := chan idleDie; { s with flash := { s.flash with jobs := [(5, job st)], decoders := [(0, [5]), (16, [5])] } }

theorem wit_ChannelBringUp :
    (let s := { (chan idleDie).rset (Reg.SB_CH_STAT_POWERED 0) 0 with plat := { (chan idleDie).plat with linksReleased := true } };
     let a : CeIdent := ⟨true, true, [], 1, ⟨0, 0, false, 0, 0, 0, 0, false, true, false⟩⟩;
      0 < s.channels ∧ 0 ∉ s.flash.identified ∧ s.flag Reg.SB_GLOBAL_LOCK = false ∧ s.plat.linksReleased = true ∧ s.plat.hold = .none ∧ s.flag (Reg.SB_CH_STAT_POWERED 0) = false ∧ s.plat.tokens = [] ∧ (s.rset Reg.TK_STAT_LEVEL 0).rget Reg.TK_STAT_LEVEL < s.rget Reg.TK_WT_CHANNEL ∧
      s.rget Reg.TK_WT_CHANNEL ≤ s.rget Reg.TK_STAT_LEVEL ∧ [a][0]? = some a ∧ a.responds = true) ∧
    (let s := { chan idleDie with flash := { (chan idleDie).flash with identified := List.range 16 } };
     let r := s.paramN .flashRateMts;
      0 < s.channels ∧ (∀ k, k < s.channels → k ∈ s.flash.identified) ∧ s.flag (Reg.SB_CH_STAT_TRAINED 0) = false ∧ s.flag (Reg.SB_CH_STAT_ISOLATED 0) = false ∧ (s.ceCal 0 0).populated = true ∧
      (s.ceCal 0 0).isolated = false ∧ s.ceUntrainable 0 0 = false ∧ r ∈ rates ∧ s.paramN .flashMinRateMts ≤ r ∧ s.cePasses 0 ⟨0, [r], (List.range 18).map fun i => ⟨i, 128, 255⟩⟩ r = true) := by
  decide +kernel

theorem wit_DecodeLadder :
    (let r : DecRes := ⟨65, true, true, 3, 1, 0, 0, 0⟩; (job .hard).isGood r = true ∧ 64 < r.zeroBits ∧ r.iter ≤ (withJob .hard).rget Reg.LD_HARD_CFG_ITER_MAX ∧ r.iter ≤ (withJob .hard).rget Reg.LD_SOFT_CFG_ITER_MAX) ∧
    (let s := withJob .hard;
      Table.find s.flash.jobs 5 = some (job .hard) ∧ s.inDecoder false 5 = true ∧ (job .hard).tracks = false ∧ s.fogNand 1 (job .hard).die = false ∧ (job .hard).failTo ≤ (job .hard).level ∧ (job .hard).level = 0 ∧
      ((job .hard).rows (s.paramN .readRetrySteps)).find? (fun x => !(job .hard).tried.contains x) = some 1) ∧
    (Table.find (withJob .soft).flash.jobs 5 = some (job .soft) ∧ (withJob .soft).fogNand 1 0 = false ∧ (withJob .soft).inDecoder true 5 = true ∧ (job .soft).soft2 = true) ∧
    (let x : Stored := ⟨1, 1, 3, 0, false, false, []⟩;
     let s := withJob .recon;
     let u := (s.modNand fun n => { n with content := [(mkLoc 0 0 0 0 0, x)] }).mapSet 1 3 (mkLoc 0 0 0 0 0);
      Table.find u.flash.jobs 5 = some (job .recon) ∧ (job .recon).owner = .relocation ∧ Table.find u.media.nand.content (u.jobLoc (job .recon)) = some x ∧
      u.mapGet x.slot x.iu = u.jobLoc (job .recon)) ∧
    (let b := { sb0 with closeParity := true, parity := [0], thinned := true, passed := [0], blocks := [[0], [0]] };
     let s := (withJob .recon).modNand fun n => { n with sbs := [(7, b)], blocks := [(0, { serial := some 7 })] };
      Table.find s.flash.jobs 5 = some (job .recon) ∧ s.parityFor (job .recon) = true) := by
  decide +kernel

theorem wit_PatrolAndYard :
    (let s := trans []; s.paramN .patrolDisturbScheme ≠ 1 ∧ s.media.quiesced = false ∧ 0 < 1 ∧ s.media.due = [] ∧ s.media.walkBlocks = []) ∧
    (let s := media fun m => { m with due := [0] }; s.paramN .patrolDisturbScheme ≠ 1 ∧ s.media.quiesced = false ∧ s.media.due ≠ []) ∧
    (let s := { trans [] with rb := { ints := [(Param.patrolDisturbScheme, 1)] } }; s.paramN .patrolDisturbScheme = 1 ∧ s.media.quiesced = false) := by
  decide +kernel

theorem wit_PatrolAndYard_checks :
    (let b := { sb0 with state := .verified, units := [(0, {})] };
     let dev := fun (c : Table (List Nat × SampleWorst)) =>
       let s := media fun m => { m with nand := { m.nand with sbs := [(7, b)], blocks := [(5, { serial := some 7, check := true })] }, checks := c };
       { s with flash := { s.flash with refDie := some 0, dies := [(0, { entry := 1 + 15 * 2 ^ 20, state := .idle })] } };
     let w : SampleWorst := ⟨0, 0, false, false⟩;
     let s := dev [(5, ([0], w))];
      (s.blockInfo (State.blockNo 0 0 5)).check = true ∧ (s.blockInfo (State.blockNo 0 0 5)).serial = some 7 ∧ s.sb 7 = some b ∧ b.state = .verified ∧
      s.checkPages (State.blockNo 0 0 5) b = [0] ∧ Table.get ([], w) s.media.checks (State.blockNo 0 0 5) = ([0], w) ∧ s.refreshSource w = 0 ∧
      (dev [(5, ([0], ⟨0, 1, false, false⟩))]).refreshSource ⟨0, 1, false, false⟩ ≠ 0 ∧
      0 ∈ (dev []).checkPages (State.blockNo 0 0 5) b ∧ 0 ∉ (Table.get ([], w) (dev []).media.checks (State.blockNo 0 0 5)).1) ∧
    (let b := { sb0 with state := .closed };
     let s := media fun m => { m with nand := { m.nand with sbs := [(7, b)], blocks := [(5, { serial := some 7, check := true })] } };
      (s.blockInfo (State.blockNo 0 0 5)).serial = some 7 ∧ s.sb 7 = some b ∧ b.state = .closed) := by
  decide +kernel

/-- Four accepted dies of channel 0 with a charged, measured bank. -/
def bank : State :=
  let s := chan idleDie
  let u := { s with flash := { s.flash with dies := (List.range 4).map fun d => (32 * d, idleDie) } }
  (u.modMedia fun m => { m with bootMeasured := true, cap := 1000000, vinLow := 1000 }).rset Reg.FT_HU_VOLT_BANK_MV 30000

theorem wit_TenderCommands :
    (let s := bank; s.paramN .holdupEnable ≠ 0 ∧ s.flushing = false ∧ s.media.measure = .idle ∧ s.media.bootMeasured = true ∧ s.media.measureCap = none ∧ s.media.repeatRun = false) ∧
    ((bank.modMedia fun m => { m with measureCap := some 4 }).media.measureCap = some 4) ∧
    (State.senseMv 0 (bank.paramN .holdupVinDiv) < bank.paramN .holdupVinFailMv ∧ 0 < 4095 ∧ bank.paramN .holdupVinFailMv ≤ State.senseMv 4094 (bank.paramN .holdupVinDiv)) ∧
    (let s := { bank with rb := { ints := [(Param.holdupRemeasureH, 1)] }, flash := { bank.flash with tick := 2 ^ 40 } };
      s.paramN .holdupRemeasureH ≠ 0 ∧ s.paramN .holdupRemeasureH * 3600000000000 ≤ (s.flash.tick - s.media.measuredAt) * 8192) ∧
    ({ bank with rb := { ints := [(Param.holdupRemeasureH, 0)] } }).paramN .holdupRemeasureH = 0 := by
  decide

set_option maxRecDepth 20000 in
theorem wit_MeasurementCommands_largest : bank.paramN .holdupVMinMv < 30000 ∧ bank.media.cap ≠ 0 ∧ bank.flushGroups ≠ [] := by
  decide

theorem wit_MeasurementCommands :
    (let s := bank.modMedia fun m => { m with measure := .lowering }; s.media.measure = .lowering ∧ s.dirtyCount ≤ s.media.measureCap.getD 0) ∧
    (let s := bank.modMedia fun m => { m with measure := .settling }; s.media.measure = .settling ∧ s.media.bankFull = false) ∧
    ((bank.modMedia fun m => { m with bankFull := true }).media.bankFull = true) ∧
    ((bank.modMedia fun m => { m with measure := .discharging }).media.measure = .discharging ∧ 1000 ≤ 1000 ∧ 2000000 ≤ 2000000 ∧ (999 < 1000 ∨ 2000000 < 999)) := by
  decide

theorem wit_FlushCommands :
    (let s := ((bank.rset Reg.FT_HU_STAT_SAG 1).rset Reg.FT_HU_STAT_CACHE_PRESENT 1).modMedia fun m => { m with sagMs := 1000000 };
      s.flag Reg.FT_HU_STAT_SAG = true ∧ s.cachePresent = true ∧ s.paramN .holdupSagMs ≤ s.media.sagMs ∧ s.media.repeatRun = false) ∧
    (bank.flushing = false ∧ 0 < bank.media.vinLow ∧ bank.paramN .holdupVinFilterUs ≤ (bank.media.vinLow - 1) * 10) ∧
    (let u : FlushUnit := { group := 0, kind := .data, serial := 7, stripe := 0, pos := 0, die := 0, parcels := [4], loaded := true };
     let s := bank.modMedia fun m => { m with flush := .running, flushUnits := [u] };
      s.media.flush = .running ∧ s.media.flushUnits[0]? = some u ∧ u.loaded = true ∧ u.ended = false ∧ s.flushing = true) ∧
    (let s := (bank.modMedia fun m => { m with flush := .running }).rset Reg.FT_HU_VOLT_BANK_MV 0; s.media.flush = .running ∧ s.rget Reg.FT_HU_VOLT_BANK_MV ≤ s.paramN .holdupVMinMv) ∧
    (let s := { (bank.rset Reg.GD_STAT_SIGNED 1).modNand fun n => { n with par := some 864 } with flash := { bank.flash with identified := List.range 16 } };
      s.booting = true ∧ s.plat.ready = false ∧ s.plat.recovered = false ∧ s.needsRecovery = true ∧ s.flag Reg.GD_STAT_SIGNED = true ∧ s.channelsUp = true ∧
      ({ s with plat := { s.plat with recovered := true } }).plat.recovered = true) := by
  decide

/-- A worker or a manager whose Branch port 0 has a link and a session. -/
def linked (m : Mode) (b : BlPort) : State :=
  let s := { ((inMode m).rset Reg.BL_CTRL_ENABLE 1).rset Reg.BL_CTRL_PORT_EN 63 with plat := { (inMode m).plat with ready := true } }
  { s with link := { s.link with ports := [(0, b)] } }
/-- A port with a session that has received two packets. -/
def upBl : BlPort := { lanes := 2, session := true, recvSeq := 2, rxNext := 2, hdr := 64, data := 512 }
/-- The header of the next packet of a type and length. -/
def hdrOf (typ len : Nat) : BlHdr := ⟨2, true, true, 2, typ, len, false⟩
/-- A command on volume 1. -/
def blCmd (o : Nat) : BlCmd := ⟨hdrOf 1 64, 7, o, 1, false, 1, 0, 1, 0, false⟩
/-- A worker with volume 1 of 2^20 blocks. -/
def worker : State :=
  let s := linked .worker upBl
  s.modMedia fun m => { m with nand := { m.nand with ns := [(1, ns1)] } }
/-- A HELLO of a worker that is member 1. -/
def helloOf (typ : Nat) : Hello := ⟨hdrOf typ 644, true, true, true, 9, 2, 1, 2, 63, 0, 0, 77⟩

theorem wit_PacketReception :
    ((linked .manager upBl).packetOk 0 0x0A (hdrOf 0x0A 0) = true) ∧ ((upBl.lanes ≠ 0) ∧ (linked .worker upBl).blInUse 0 = true ∧ upBl.nakSent = false) ∧
    ((hdrOf 1 64).lseq = upBl.recvSeq ∧ (hdrOf 1 64).typ ≠ 0x10 ∧ (hdrOf 1 64).typ ≠ 0x11 ∧ upBl.session = true ∧ 1 < upBl.rxNext ∧ ((linked .worker upBl).bl 0) = upBl) := by
  decide

theorem wit_LinkCommands :
    (let s := linked .worker {}; s.blInUse 0 = true ∧ (s.bl 0).lanes = 0 ∧ (s.bl 0).retraining = false) ∧
    (let k : BlSent := ⟨1, 0, ⟨0x0A, false, 0, [], []⟩⟩;
     let s := linked .worker { upBl with replay := [k], replays := 3 };
      ((s.bl 0).replay.any fun x => x.lseq == 1) = true ∧ (s.bl 0).waiting = [] ∧ (s.bl 0).replay ≠ [] ∧ (s.bl 0).lanes ≠ 0 ∧ 4 ≤ (s.bl 0).replays + 1 ∧ s.blInUse 0 = true) ∧
    (let s := linked .manager { upBl with session := false, rxNext := 0 };
      s.blInUse 0 = true ∧ (s.bl 0).session = false ∧ (s.rset (Reg.BL_STAT_STATE 0) 2).packetOk 0 0x11 (helloOf 0x11).h = true ∧ s.helloRefusal 0 (helloOf 0x11) = 0 ∧
      s.helloRefusal 0 { helloOf 0x11 with member := 0 } ≠ 0) ∧
    (let s := linked .worker { upBl with session := false };
      s.plat.ready = true ∧ s.packetOk 0 0x10 (helloOf 0x10).h = true ∧ State.helloVerifies (helloOf 0x10) false = true ∧
      State.helloVerifies { helloOf 0x10 with sigOk := false } false = false) := by
  decide

theorem wit_WorkerCommands :
    (∀ o ∈ [1, 2, 3, 4, 5, 6], worker.cmdOk (blCmd o) o = true) ∧ worker.freeCtx 1 = some 0 ∧
    (∀ o ∈ [1, 2, 3, 4, 5, 6], worker.packetOk 0 0x01 (blCmd o).h = true ∧ worker.blRefusal { blCmd o with volume := 2 } ≠ 0) ∧
    Table.find worker.link.inTags 7 = none ∧ worker.link.inTags.length < 512 ∧ (worker.rset (Reg.BL_STAT_FROZEN 0) 1).flag (Reg.BL_STAT_FROZEN 0) = true ∧
    (let s := { worker with link := { worker.link with inTags := [(7, { ctx := 0, opcode := 1 })] } };
      s.packetOk 0 0x01 (blCmd 1).h = true ∧ (Table.find s.link.inTags 7).isSome = true) := by
  decide

/-- A worker with a write of two grants outstanding on tag 7. -/
def writing (x : BlIn) (c : Ctx) : State := { worker with link := { worker.link with inTags := [(7, x)] }, adm := { ctxs := [(0, c)], seq := 1 } }
/-- A tag of a WRITE of 65 blocks. -/
def tag7 : BlIn := { ctx := 0, opcode := 2, count := 65 }
/-- Its context, with parcels. -/
def ctx7 : Ctx := { ioCtx 0x01 with ctl := 2, parcels := [4] }

theorem wit_WorkerServices :
    (worker.cmdOk (blCmd 7) 7 = true ∧ worker.cmdOk (blCmd 8) 8 = true ∧ worker.cmdOk (blCmd 9) 9 = true ∧ worker.cmdOk (blCmd 0x0A) 0x0A = true ∧ worker.cmdOk (blCmd 0x0B) 0x0B = true) ∧
    (let s := worker.modNand fun n => { n with tnvmcap := 2 ^ 60 };
      (s.volume 127).isNone = true ∧ State.granulesFor 14 (1 * 4096) ≤ s.freeGranules ∧ 1 * 4096 ≤ s.localFree ∧ (s.volume 1).isSome = true) ∧
    (worker.nsQuiet (fun x => x == 1 % 128) = true) ∧
    (worker.packetOk 0 0x07 (hdrOf 0x07 0) = true ∧ worker.packetOk 0 0x08 (hdrOf 0x08 0) = true ∧ worker.packetOk 0 0x05 (hdrOf 0x05 0) = true ∧
      Table.find worker.link.inTags 7 = none ∧ worker.link.inTags.length < 512 ∧ worker.flag (Reg.BL_STAT_FROZEN 0) = false ∧ 5 ≠ worker.newestErr) ∧
    (let s := writing tag7 ctx7; s.packetOk 0 0x05 (hdrOf 0x05 0) = true ∧ Table.find s.link.inTags 7 = some tag7 ∧ tag7.opcode ≠ 0x0A ∧ s.ctx tag7.ctx = some ctx7 ∧ ctx7.word = .active) := by
  decide +kernel

theorem wit_GrantCommands :
    (let s := writing tag7 ctx7;
      s.mode = .worker ∧ Table.find s.link.inTags 7 = some tag7 ∧ s.ctx 0 = some ctx7 ∧ tag7.grant = none ∧ tag7.granted < tag7.count ∧ ctx7.word = .active ∧ ctx7.inserted = true ∧
      ctx7.status = none ∧ tag7.aborted = false ∧ s.stopRefused ctx7 = false ∧ ctx7.parcels ≠ [] ∧ ctx7.todo = [] ∧ ctx7.jobs = []) ∧
    (let c : BlOut := { owner := .none, opcode := 2 };
     let s := linked .manager { upBl with tags := [(7, c)] };
      s.packetOk 0 0x02 (hdrOf 0x02 0) = true ∧ Table.find (s.bl 0).tags 7 = some c ∧ s.packetOk 0 0x03 (hdrOf 0x03 4096) = true) ∧
    (let x := { tag7 with grant := some (0, 64) };
     let s := writing x ctx7; s.packetOk 0 0x03 (hdrOf 0x03 4096) = true ∧ Table.find s.link.inTags 7 = some x ∧ x.grant = some (0, 64) ∧ 63 < 0 + 64) := by
  decide +kernel

theorem wit_ManagerAnswers :
    (let c : BlOut := { owner := .setTime, opcode := 0x0B };
     let s := linked .manager { upBl with tags := [(7, c)] };
      s.packetOk 0 0x04 (hdrOf 0x04 80) = true ∧ Table.find (s.bl 0).tags 7 = some c ∧ c.owner = .setTime ∧ c.opcode ≠ 8 ∧ c.opcode ≠ 9 ∧ (s.bl 0).queue = [] ∧ Table.find (s.bl 0).tags 8 = none ∧
      s.packetOk 0 0x06 (hdrOf 0x06 0) = true ∧ s.packetOk 0 0x03 (hdrOf 0x03 1) = true ∧ s.packetOk 0 0x09 (hdrOf 0x09 0) = true ∧ s.packetOk 0 0x0A (hdrOf 0x0A 0) = true) ∧
    (let s := linked .manager {}; s.mode = .manager ∧ s.link.window = true ∧ s.plat.hold = .none ∧ ({ s with link := { s.link with assembled := true } }).link.assembled = true) := by
  decide +kernel

/-- Positions of a four-member array. -/
def positions (st : PosState) : List Position := [⟨0, 0, .online, 0⟩, ⟨1, 9, .online, 0⟩, ⟨2, 9, .online, 0⟩, ⟨3, 9, st, 0⟩]
/-- A manager with a single-parity array of four members and one array namespace in slot 1. -/
def array (st : PosState) : State :=
  let s := linked .manager upBl
  let u := (s.rset Reg.AE_CTRL_ENABLE 1).modMedia fun m => { m with nand := { m.nand with ns := [(1, { ns1 with array := true })] } }
  { u with arr := { header := some { ident := 0, layout := 2, positions := positions st } }, link := { u.link with assembled := true } }
/-- The header of that array. -/
def header (st : PosState) : ArrayHeader := { ident := 0, layout := 2, positions := positions st }

theorem wit_ArrayCommands :
    (let p : Parcel := { state := .filled, slot := 129, iu := 0, first := 4, committed := true };
     let s := (array .online).modMedia fun m => { m with parcels := [(4, p)] };
     let x : AJob := { kind := .destage, slot := 1, row := 0, parcels := [4], news := s.destageNews (header .online) { ns1 with array := true } [4] };
      s.arrayAt 1 = some { ns1 with array := true } ∧ s.hdr? = some (header .online) ∧ s.arrayUp = true ∧ ([4].all fun p => s.destagable (header .online) 1 0 { ns1 with array := true } p) = true ∧
      (s.takeLock 1 0 (State.wantsWriter x (header .online))).isSome = true) ∧
    (let s := { array .online with plat := { (array .online).plat with ready := false } };
      s.mode = .manager ∧ s.plat.ready = false ∧ s.posOf 3 = some 3 ∧ s.link.jobs = [] ∧ s.memberPort 3 = none) ∧
    (let s := array .failed;
     let u := { s with link := { s.link with ports := [(0, { upBl with free := 2 ^ 60 })] } };
     let v := u.rset (Reg.BL_STAT_MEMBER 0) 3;
      v.hdr? = some (header .failed) ∧ v.arrayUp = true ∧ ((header .failed).positions.any fun x => x.state == PosState.rebuilding) = false ∧
      v.rebuildTarget (header .failed) ⟨3, 9, .failed, 0⟩ 3 = true ∧ 3 ∉ (header .failed).spares ∧ v.arrayNs ≠ [] ∧ (header .failed).positions.length ≤ 7) ∧
    (let s := array .rebuilding;
      s.flag Reg.AY_CTRL_REBUILD_PAUSE = false ∧ s.flag Reg.AY_STAT_EMAP_FULL = false ∧ s.rebuildRate < s.rebuildLimit (header .rebuilding) ∧
      ((List.range (header .rebuilding).n).find? fun j => ((header .rebuilding).positions[j]?).any fun (x : Position) => x.state == PosState.rebuilding) = some 3 ∧
      ((s.arrayNs.map (·.1)).find? fun v => decide ((header .rebuilding).ckpt.1 ≤ v)) = some 1 ∧ (s.takeLock 1 0 true).isSome = true ∧
      0 < (header .rebuilding).rows ({ ns1 with array := true } : Namespace).blocks4k) ∧
    (let s := { array .online with arr := { (array .online).arr with dirty := [(1, [4])] }, link := { (array .online).link with resyncing := some (1, 4) } };
      4 ∈ Table.get [] s.arr.dirty 1 ∧ s.flag Reg.AY_STAT_RESYNC = false ∧ (s.rset Reg.AY_STAT_RESYNC 1).flag Reg.AY_STAT_RESYNC = true ∧ s.link.resyncing = some (1, 4)) := by
  decide +kernel

/-- The memory controller enabled, the first segment swept. -/
def dram (f : Mem → Mem) : State := State.modMem (((inMode .standalone).rset Reg.MC_CTRL_ENABLE 1).rset Reg.ME_CTRL_SCRUB_EN 1) fun m => f { m with sweepSeg := 1, sweeping := true }
/-- A one-device error. -/
def upset1 : SymErr := ⟨3, 2, 0x0101#16⟩
/-- A merge entry of word 0. -/
def entry0 : MergeEntry := ⟨0, [(5, 0xAA#8)], [2]⟩

set_option maxRecDepth 20000 in
theorem wit_DramAccess :
    (let s := dram id; s.flag Reg.MC_CTRL_ENABLE = true ∧ (List.replicate 128 1#8).length = 128 ∧ 0 * 128 < s.dramBytes ∧ s.segValid (0 * 128 / 2 ^ 21) = true ∧
      (s.mergeOf (s.chanOf (0 * 128))).find? (·.word == 0) = none ∧ s.flag (Reg.ME_FLIP_D_ARM (s.chanOf (0 * 128))) = false ∧ s.flag Reg.MC_STAT_SELF_REFRESH = false) ∧
    (let s := dram id; [1#8] ≠ [] ∧ 126 + [1#8].length ≤ 127 ∧ 0 * 128 < s.dramBytes ∧ s.segValid ((0 * 128 + 126) / 2 ^ 21) = true ∧
      (s.mergeOf (s.chanOf (0 * 128 + 126))).find? (·.word == 0) = none ∧ (s.mergeOf (s.chanOf (0 * 128 + 126))).length < 16 ∧ s.chanOf (0 * 128 + 126) ≤ 1) ∧
    (let s := dram id; [1#8] ≠ [] ∧ 2 ^ 21 < s.dramBytes ∧ s.segValid (2 ^ 21 / 2 ^ 21) = false) ∧
    (let s := dram id; s.flag Reg.MC_CTRL_ENABLE = true ∧ s.dramBytes ≤ 2 ^ 35 ∧ [1#8] ≠ []) ∧
    (let s := dram id; 0 < s.dramBytes ∧ s.segValid (0 / 2 ^ 21) = true ∧ s.errsOf (0 / 128) = []) ∧
    (let s := dram id; addErrs (s.errsOf (0 / 128)) [upset1] ≠ poison ∧ errDevs (addErrs (s.errsOf (0 / 128)) [upset1]) = [3]) ∧
    (let s := dram fun m => { m with errs := [(0, poison)] }; 0 < s.dramBytes ∧ s.segValid (0 / 2 ^ 21) = true ∧ s.errsOf (0 / 128) = poison) ∧
    (let s := (dram id).rset Reg.MC_STAT_SELF_REFRESH 1; s.flag Reg.MC_CTRL_ENABLE = true ∧ s.flag Reg.MC_STAT_SELF_REFRESH = true ∧ 0 < s.dramBytes ∧
      s.segValid (0 / 2 ^ 21) = true ∧ s.errsOf (0 / 128) = [] ∧ s.plat.tokens = [] ∧ 2 * s.rget Reg.TK_WT_DRAM ≤ s.rget Reg.TK_STAT_LEVEL) ∧
    (let s := ((dram id).rset Reg.MC_STAT_SELF_REFRESH 1).rset Reg.TK_STAT_LEVEL 0; s.flag Reg.MC_STAT_SELF_REFRESH = true ∧ s.plat.tokens = [] ∧
      s.rget Reg.TK_STAT_LEVEL < s.rget Reg.TK_WT_DRAM) := by
  decide

theorem wit_MemoryUpkeep :
    (let s := dram fun m => { m with merge0 := [entry0] }; (s.mergeOf 0).find? (·.word == 0) = some entry0 ∧ entry0.word = 0 ∧ entry0.bytes.length < 128 ∧ s.errsOf 0 = [] ∧
      s.flag (Reg.ME_FLIP_D_ARM (s.chanOf (0 * 128))) = false ∧ 0 ≤ 1) ∧
    (let s := dram fun m => { m with merge0 := [entry0], errs := [(0, poison)] }; (s.mergeOf 0).find? (·.word == 0) = some entry0 ∧ s.errsOf 0 = poison ∧
      s.flag (Reg.ME_FLIP_D_ARM (s.chanOf (0 * 128))) = false) ∧
    (let s := dram id; s.mem.sweeping = true ∧ s.mem.prio = [] ∧ s.mem.inval = [] ∧ s.mem.sweepSeg < s.segCount ∧ s.mem.sweepSeg ∉ s.mem.early ∧
      ∀ h ∈ s.mem.held, h.addr / 2 ^ 21 ≠ s.mem.sweepSeg) ∧
    (let s := dram id; 0 < s.segCount ∧ s.segValid 0 = true ∧ (0 ∈ s.mem.early → s.mem.sweepSeg ≤ 0)) ∧
    (let s := dram fun m => { m with early := [9] }; 9 < s.segCount ∧ s.segValid 9 = true ∧ (9 ∈ s.mem.early → s.mem.sweepSeg ≤ 9)) ∧
    (let s := dram id; s.flag Reg.ME_CTRL_SCRUB_EN = true ∧ 0 < s.dramBytes / 128 ∧ s.segValid (0 / 2 ^ 14) = true ∧ s.flag Reg.MC_STAT_SELF_REFRESH = false ∧
      addErrs (s.errsOf 0) [upset1] ≠ poison ∧ errDevs (addErrs (s.errsOf 0) [upset1]) = [3]) ∧
    (dram id).plat.nonOp ≠ some 4 ∧ (9 < 10 ∧ (dram id).rget (Reg.MC_PORT_CFG_TARGET_NS 9) ≤ 65535) ∧ ((dram id).flag Reg.MC_STAT_SELF_REFRESH = false ∧ (∃ x ∈ [(85 : Int), 20], 85 ≤ x) ∧ ∀ x ∈ [(85 : Int), 20], x ≤ 95) ∧
    ((inMode .standalone).gateOpen 4 = true ∧ (1#32).toNat % 2 = 1) ∧ (((inMode .standalone).rset Reg.GD_STAT_LEVEL 1).gateOpen 4 = false) := by
  decide

/-- A valid SRAM word. -/
def sramOne (g w : Nat) (flips : List Nat) : State := (dram id).putSram g w ⟨5#64, flips⟩

theorem wit_MemoryUpkeep_sram :
    (let s := sramOne 7 4095 [3]; s.flag Reg.ME_CTRL_SCRUB_EN = true ∧ s.plat.nonOp ≠ some 4 ∧ s.flag (Reg.ME_FLIP_S_ARM 7) = false ∧
      s.sramWord 7 4095 = some ⟨5#64, [3]⟩ ∧ [3].length ≤ 1) ∧
    (let s := sramOne 6 0 []; s.flag (Reg.ME_FLIP_S_ARM 6) = false ∧ s.sramWord 6 0 = some ⟨5#64, []⟩ ∧ 71 < 72 ∧ 6 ≠ 1 ∧ 6 ≠ 5) ∧
    (let s := sramOne 0 1 []; s.flag (Reg.ME_FLIP_S_ARM 0) = false ∧ s.sramWord 0 1 = some ⟨5#64, []⟩ ∧ 0 < 72 ∧ 71 < 72 ∧ 0 ≠ 71) ∧
    (dram id).sramWord 0 1 = none ∧ 0 < 1 := by
  decide

/-- A sub-word write of an SRAM word that is not valid merges with zeros (R394). -/
theorem test_sram_subword : ((dram id).sramWrite 2 9 ⟨0x1122334455667788#64, 0x81#8⟩).sramWord 2 9 = some ⟨0x1100000000000088#64, []⟩ := by decide

/-- The worked address of R386: channel 0, bank group 5, bank 2, row 18105, column 62. -/
theorem test_dramPlace : State.reset.dramPlace 0x235C97E80 = ⟨0, 5, 2, 18105, 62⟩ := by decide

/-- The cipher engine enabled with its root key, GCM encryption on. -/
def cipher (f : Sec → Sec) : State := State.modSec (((inMode .standalone).rset Reg.CE_CTRL_ENABLE 1).rset Reg.CE_STAT_ROOT_LOADED 1) fun x => f { x with gcmOn := true, mark := 2 ^ 32, opalActive := true }
/-- A job of 4 KiB units. -/
def xts4k : XtsJob := ⟨true, 1, 4096, 0, [[]]⟩
/-- A GCM job of a secret. -/
def gcm1 : GcmJob := ⟨.depot 1, [1#8], 12⟩

theorem wit_CipherJobs :
    (let s := cipher id; s.flag Reg.CE_STAT_ROOT_LOADED = true ∧ s.flag Reg.CE_STAT_ERASED = false ∧ (∀ k ∈ s.sec.keys, State.keyFits ⟨.medk, []⟩ k = false) ∧ s.sec.keys.length < 64 ∧
      s.engineReady = true ∧ State.xtsOk { xts4k with unit := 8 } = false ∧ State.xtsOk { xts4k with unit := 15 } = false ∧ State.xtsOk xts4k = true ∧
      State.xtsOk { xts4k with unit := 16 } = true ∧ (s.requestKey (s.medkReq xts4k.slot)).2 = true ∧
      State.gcmOk { gcm1 with aad := 257 } = false ∧ State.gcmOk gcm1 = true ∧ State.gcmOk { gcm1 with aad := 256 } = true ∧ s.gcmReady = true ∧ (s.requestKey (s.gcmReq gcm1.stream)).2 = true) ∧
    (let s := cipher fun x => { x with nonce := 2 ^ 32 - 1 }; s.gcmReady = true) ∧
    (let s := cipher fun x => { x with nonce := 2 ^ 32 }; s.engineReady = true ∧ s.sec.gcmOn = true ∧ s.sec.mark ≤ s.sec.nonce) ∧
    (let s := (cipher id).rset Reg.CE_STAT_ERASED 1; s.flag Reg.CE_STAT_ERASED = true) ∧
    (let s := cipher fun x => { x with keys := [⟨⟨.medk, [0, 0, 1]⟩, 1, false⟩] }; ∃ k ∈ s.sec.keys, k.req.label = .medk ∧ some 1 = some (k.req.context.getD 2 999)) := by
  decide

theorem wit_MarkAndLocking :
    (let s := cipher fun x => { x with nonce := 2 ^ 31 }; s.markDue = true ∧ s.sec.hwmFails = 0 ∧ s.nsQuiet (s.governs none) = true ∧ s.nsQuiet (s.governs (some 1)) = true ∧
      s.sec.opalActive = true ∧ s.nsQuiet (· == 1) = true ∧ s.nsQuiet (fun _ => true) = true) ∧
    (let s := cipher fun x => { x with gcmOn := false, hwmFails := 1 }; s.markDue = true ∧ s.sec.hwmFails = 1) ∧
    (let s := cipher fun x => { x with gcmOn := false, hwmFails := 2 }; 2 ≤ s.sec.hwmFails) := by
  decide

/-- Standalone with its security state changed. -/
def secOf (f : Sec → Sec) : State := State.modSec (inMode .standalone) f
/-- A program and an erase of the Depot. -/
def dprog : DepotOp := ⟨false, 512000, 5, true, false⟩
def derase : DepotOp := ⟨true, 512000, 0, true, false⟩

set_option maxRecDepth 40000 in
theorem wit_DepotCommands :
    (let s := secOf id; s.plat.hold ≠ .off ∧ s.sec.guardCmd = none ∧ 512000 < 2 ^ 21 ∧ 5 < 2 ^ 64 ∧ s.bankOp (State.bankOf 512000) = none ∧
      s.depotRefusal dprog none = 0 ∧ s.depotRefusal derase none = 0 ∧ s.sec.coreCmd = none ∧ s.flag Reg.DP_STAT_CORE_BUSY = false ∧
      s.depotRefusal (s.coreOp false) (some 0) ≠ 0 ∧ s.depotRefusal (s.coreOp true) (some 0) ≠ 0 ∧ s.depotRefusal (s.coreOp false) none = 0 ∧
      s.bankOp (State.bankOf (s.coreOp false).word) = none) ∧
    (let s := (secOf id).rset Reg.DP_STAT_CORE_BUSY 1; s.plat.hold ≠ .off ∧ s.flag Reg.DP_STAT_CORE_BUSY = true) ∧
    (let s := secOf fun x => { x with op0 := some dprog }; 0 < 2 ∧ s.bankOp 0 = some dprog ∧ dprog.suspended = false ∧ s.sec.guardCmd = none ∧ s.sec.coreCmd = none ∧ dprog.erase = false) ∧
    (let s := secOf fun x => { x with op1 := some derase }; 1 < 2 ∧ s.bankOp 1 = some derase ∧ derase.suspended = false ∧ derase.erase = true) ∧
    (let s := secOf fun x => { x with depot := [(9, 7)] }; 9 < 2 ^ 21 ∧ s.bankOp (State.bankOf 9) = none ∧ s.depotWord 9 ≠ erasedWord) ∧ 4095 < 4096 := by
  decide

/-- A device whose platform state and composite are given. -/
def warm (c : Nat) (f : Plat → Plat) : State :=
  { ((inMode .standalone).rset Reg.TH_CTRL_ENABLE 1).rset Reg.TH_STAT_COMPOSITE c with plat := f { State.reset.plat with ready := true } }
/-- A waiting request. -/
def wait1 : TokenReq := { id := 1, wake := .core 0, prio := 4, weight := 200 }
/-- The composite has stayed above, and below, every threshold for its time. -/
def stayed (p : Plat) : Plat := { p with stays := [(0, ⟨10, 10⟩), (1, ⟨10, 10⟩), (2, ⟨10, 10⟩)], stepUpMs := 500, stepDownMs := 2000 }

set_option maxRecDepth 40000 in
theorem wit_ThermalAndTokens :
    (let s := warm 40 id; s.plat.hold = .none ∧ s.mode ≠ .strapFault ∧ s.tempEnabled 0 = true ∧ (s.tempIn 0).broken = .none ∧ [(⟨25, true, false⟩ : TempReading)][0]? = some ⟨25, true, false⟩ ∧ s.tempEnabled 17 = true ∧ (s.tempIn 17).broken = .none ∧
      (⟨151, false, false⟩ : TempReading).isOpen = false ∧ 150 < (⟨151, false, false⟩ : TempReading).temp ∧ (⟨-41, false, false⟩ : TempReading).temp < -40) ∧
    (let s := warm 40 fun p => { p with inputs := [(3, { broken := .short })] }; (s.tempIn 3).broken ≠ .none) ∧
    (let s := warm 110 stayed; s.flag Reg.TH_CTRL_ENABLE = true ∧ s.crossedNow .warning = true ∧ s.crossedNow .throttle = true ∧
      s.flag Reg.TH_STAT_THROTTLE = false ∧ s.crossedNow .shutdown = true ∧ s.flag Reg.TH_STAT_STOPPING = false ∧ s.flushing = false) ∧
    (let s := warm 20 stayed; s.clearedNow .warning = true ∧ s.clearedNow .throttle = true ∧ s.crossedNow .warning = false) ∧ (warm 110 stayed).clearedNow .throttle = false ∧
    (warm 110 fun p => { p with stays := [(0, ⟨9, 0⟩)] }).crossedNow .warning = false ∧
    (let s := (warm 110 stayed).rset Reg.TH_STAT_THROTTLE 1; 500 ≤ s.plat.stepUpMs ∧ s.flag Reg.TH_STAT_THROTTLE = true ∧ s.threshold .throttle ≤ s.shownComposite ∧ s.rget Reg.TH_STAT_STEP < 4) ∧
    (let s := (warm 20 stayed).rset Reg.TH_STAT_STEP 2; 2000 ≤ s.plat.stepDownMs ∧ s.flag Reg.TH_STAT_THROTTLE = false ∧ 0 < s.rget Reg.TH_STAT_STEP ∧ s.rget Reg.TH_STAT_STEP ≤ 2 ∧ s.flag Reg.TH_STAT_DRAM_HOT = false) ∧
    (let s := ((warm 20 stayed).rset Reg.TH_STAT_STEP 2).rset Reg.TH_STAT_DRAM_HOT 1; s.flag Reg.TH_STAT_DRAM_HOT = true ∧ s.rget Reg.TH_STAT_STEP ≤ 2) ∧
    (let s := { warm 20 id with ctls := [(0, { powerState := 3, apstEnable := true })] }; s.plat.ready = true ∧ s.psInForce = 3 ∧ 3 ≤ 3 ∧ s.idleHosts = true ∧ s.flushing = false ∧
      s.plat.nonOp = none ∧ s.dirtyCount = 0 ∧ s.media.openPage = [] ∧ s.media.pages = []) ∧
    (let s := { warm 20 id with ctls := [(0, { apst := [(3, 100)], apstEnable := true })] }; 0 ∈ s.ctlList ∧ (s.ctl 0).apstEnable = true ∧
      ((s.ctl 0).apst.getD (s.ctl 0).powerState (0, 0)).1 = 3 ∧ (s.ctl 0).powerState < 3 ∧ s.idleHosts = true) ∧
    (let s := warm 20 id; s.plat.tokens = []) ∧
    (let s := warm 20 fun p => { p with tokens := [wait1] }; s.plat.tokens = [wait1] ∧ wait1.got + s.rget Reg.TK_STAT_LEVEL + s.rget Reg.TK_RATE_RATE * 1 < wait1.weight ∧
      s.plat.tokens.find? (fun x => x.id == 1) = some wait1 ∧ s.paramN .tokenMaxWaitUs ≤ 1000000 ∧ wait1.aged = false) := by
  decide

/-- Journey entries up to a stage that passed. -/
def upTo (l : List (Nat × Nat)) : List JEntry := l.map fun q => { stage := q.1, result := q.2, index := 0 }
/-- The header of a package of one component, hot activation allowed. -/
def goodBytes (svn : Nat) : List Byte := toBytes (leBytes 4 0x4B505747 ++ leBytes 2 1 ++ [svn, 2, 82, 49, 46, 48, 32, 32, 32, 32] ++ leBytes 4 1 ++ leBytes 4 1 ++ List.replicate 40 0 ++
  leBytes 4 3 ++ leBytes 4 0x2A0 ++ leBytes 4 1000 ++ leBytes 4 0 ++ leBytes 48 77 ++ List.replicate 544 0)
/-- The package. -/
def goodImage : ImageCheck := ⟨0, goodBytes 3, 4096, true, true, true⟩
/-- A device whose conditions of R494 hold: every channel without a populated chip enable. -/
def almostReady : State :=
  { State.modSec ((inMode .standalone).rset Reg.GD_STAT_SIGNED 1) (fun x => { x with journey := upTo [(8, 0)] }) with
    flash := { State.reset.flash with identified := List.range 16 }, media := { State.reset.media with bootMeasured := true } }
/-- The recovery load answers. -/
def loadingState : State := (secOf fun x => { x with rlBytes := 100 }).rset Reg.GD_STAT_RECOVERY 1

set_option maxRecDepth 40000 in
theorem wit_StartupCommands :
    (let s := State.reset; s.plat.hold = .none ∧ s.mode = .unsampled ∧ s.strapsBad ⟨0, 0, false, false, 0, 0⟩ = false ∧ s.strapsBad ⟨2, 7, false, false, 0, 0⟩ = true ∧
      s.strapsBad ⟨2, 6, false, false, 2, 0⟩ = false ∧ s.strapsBad ⟨0, 0, false, false, 3, 0⟩ = true ∧ s.strapsBad ⟨3, 0, false, false, 0, 0⟩ = true) ∧
    (let s := inMode .standalone; s.plat.hold = .none ∧ s.mode ≠ .unsampled ∧ s.sec.journey = []) ∧
    (let s := secOf fun x => { x with journey := upTo [(1, 0), (5, 0)] }; s.booting = true ∧ s.lastEntry = (5, 0) ∧ s.rulebookImage = none) ∧
    (let s := { secOf (fun x => { x with journey := upTo [(3, 0)] }) with plat := { State.reset.plat with dramOk := [0] } }; s.booting = true ∧ s.lastEntry = (3, 0) ∧ 1 < 2 ∧
      1 ∉ s.plat.dramOk ∧ true ∈ [false, false, true].take 3 ∧ s.plat.dramOk.length = 1 ∧ true ∉ [false, false, false, true].take 3) ∧
    almostReady.readyNow = true ∧ (inMode .standalone).readyNow = false ∧
    (let s := { inMode .standalone with plat := { State.reset.plat with progress := 10 } }; s.plat.hold = .none ∧ s.mode ≠ .unsampled ∧ s.mode ≠ .strapFault ∧
      s.flag Reg.GD_STAT_RECOVERY = false ∧ s.plat.progress = 10) ∧
    (loadingState.loading = true ∧ 0 < 4 ∧ [1#8].length ≤ 1024 ∧ 4 + [1#8].length ≤ 768 * 4096 ∧ 99 ≠ loadingState.sec.rlBytes ∧ loadingState.verifyStatus { goodImage with cls := 0 } = 0) := by
  decide

/-- A ticket of 256 bytes: nonce, scope, seconds. -/
def ticketOf (nonce scope secs : Nat) : Ticket :=
  ⟨toBytes (leBytes 4 0x544B4447 ++ leBytes 2 1 ++ [0, 0] ++ leBytes 8 State.reset.sec.serial ++ leBytes 32 nonce ++ leBytes 4 scope ++ leBytes 4 secs ++ List.replicate 200 0), true, true⟩
/-- A signed record of one entry. -/
def rec1 : JRec := ⟨0, upTo [(1, 0)], 0, 0, 0, 0, 0, 0⟩

set_option maxRecDepth 40000 in
theorem wit_MailboxCommands :
    (let s := secOf fun x => { x with verified := [77], challenge := some 9, gcmOn := true, mark := 2 ^ 32 }; s.mailboxOpen 7 = true ∧ 5 ≤ 5 ∧ s.verifyStatus goodImage = 0 ∧
      s.verifyStatus { goodImage with sigOk := false } ≠ 0 ∧ 78 ∉ s.sec.verified ∧ goodImage.digest ∈ s.sec.verified ∧ s.sec.journey.length < 64 ∧
      s.ticketOk (ticketOf 9 127 86400) = true ∧ s.ticketOk (ticketOf 8 127 86400) = false ∧ s.ticketOk (ticketOf 9 128 86400) = false ∧ s.ticketOk (ticketOf 9 127 86401) = false ∧ s.sec.fuse = false ∧ s.rget Reg.GD_STAT_LEVEL ≠ 2 ∧
      2 ≠ s.rget Reg.GD_STAT_LEVEL ∧ 0x4C564C31#32 ≠ 0x4C564C30#32 ∧ [1#8].length ≤ 4096 ∧ s.gcmReady = true ∧ Table.find s.sec.secrets 3 = none) ∧
    (let s := secOf fun x => { x with verified := [77], journey := List.replicate 64 { stage := 9, result := 0, index := 0 }, fuse := true }; s.mailboxOpen 0 = true ∧
      64 ≤ s.sec.journey.length ∧ s.sec.fuse = true ∧ s.gcmReady = false) := by
  decide +kernel

set_option maxRecDepth 40000 in
theorem wit_SpdmAndClock :
    (let s := { inMode .standalone with ports := [(0, upPort)] }; s.spdmOpen 0 = true ∧ s.spdmState 0 ≠ 1 ∧ s.mailboxOpen 0 = true) ∧
    (let s := { secOf (fun x => { x with spdm := [(0, 1)] }) with ports := [(0, upPort)] }; s.spdmOpen 0 = true ∧ s.spdmState 0 = 1) ∧
    (let s := { secOf (fun x => { x with spdm := [(0, 2)] }) with ports := [(0, upPort)] }; s.spdmOpen 0 = true ∧ s.spdmState 0 = 2) ∧
    (let s := { secOf (fun x => { x with spdm := [(0, 3)] }) with ports := [(0, upPort)] }; s.spdmOpen 0 = true ∧ s.spdmState 0 = 3 ∧ s.signedRecord = none) ∧
    (let s := { State.modSec ((inMode .standalone).rset Reg.GD_STAT_SIGNED 1) (fun x => { x with spdm := [(0, 3)], archive := [(0, rec1)] }) with ports := [(0, upPort)] };
      s.spdmOpen 0 = true ∧ s.spdmState 0 = 3 ∧ s.signedRecord = some rec1 ∧ (upTo [(1, 0)])[1 - 1]? = some { stage := 1, result := 0, index := 0 }) ∧
    2000 < 2001 ∧ (held .off).plat.hold = .off ∧ 1799 < 1800 := by
  decide

/-- A ready context of an opcode that holds parcel 3, filled for IU 0. -/
def running (o : Nat) (f : Ctx → Ctx) (g : Namespace → Namespace) : State :=
  State.modMedia (withNs [(0, f { ioCtx o with word := .active, parcels := [3] })]) fun m => { m with nand := { m.nand with ns := [(1, g ns1)] }, parcels := [(3, { state := .reserved, slot := 1, iu := 0 })] }
/-- Its context and namespace as a command takes them. -/
def takes (o : Nat) (s : State) (P : Ctx → Namespace → Bool) : Bool := match s.mayRun 0 o with | some (c, ns) => P c ns | none => false

set_option maxRecDepth 40000 in
theorem wit_ReadingCommands :
    takes 2 (running 2 id id) (fun _ _ => true) = true ∧ takes 0x0C (running 0x0C id id) (fun _ _ => true) = true ∧ takes 5 (running 5 id id) (fun _ _ => true) = true ∧
    (let s := running 0 id id; ∃ c ∈ s.ctx 0, c.word = .active ∧ c.inserted = true ∧ c.started = false ∧ c.status = none ∧ c.sqe.opcode = 0 ∧ c.sqid ≠ 0 ∧ s.flushing = false) := by
  decide +kernel

set_option maxRecDepth 40000 in
theorem wit_WritingCommands :
    (let s := running 1 id id; takes 1 s (fun c ns => decide (c.ctl < 2) && !s.stopRefused c && s.writeReady 0 c && State.parcelIus ns c == [0] && s.linesWait (State.spaceOf ns) [0] == none) = true) ∧
    (let s := State.modMedia (running 1 id id) fun m => { m with toLoad := [2 ^ 20] }; takes 1 s (fun c ns => decide (c.ctl < 2) && !s.stopRefused c && s.writeReady 0 c &&
      (s.linesWait (State.spaceOf ns) (State.parcelIus ns c)).isSome) = true) ∧
    (let s := running 4 (fun c => { c with sqe := { c.sqe with nlb := 3 } }) id;
      takes 4 s (fun c ns => !s.stopRefused c && !ns.array && c.sqe.slba % ns.bpi == 0 && (c.sqe.slba + c.sqe.nlb + 1) % ns.bpi == 0 &&
        s.linesWait (State.slotOf ns.nsid) (State.wholeIus ns c.sqe.slba (c.sqe.nlb + 1)) == none) = true) ∧
    (let s := running 4 (fun c => { c with sqe := { c.sqe with slba := 1 } }) (fun n => { n with lbaf := 0 }); takes 4 s (fun c ns => !s.stopRefused c && c.sqe.slba % ns.bpi != 0) = true) ∧
    (let s := running 8 (fun c => { c with sqe := { c.sqe with nlb := 3 }, parcels := [] }) id; takes 8 s (fun c ns => !s.stopRefused c && !ns.array && (State.parcelIus ns c).isEmpty &&
      s.linesWait (State.slotOf ns.nsid) (State.wholeIus ns c.sqe.slba (c.sqe.nlb + 1)) == none) = true) ∧
    (let s := running 9 id id; takes 9 s (fun c _ => !c.sqe.ad) = true) ∧
    (let s := running 9 (fun c => { c with sqe := { c.sqe with ad := true, ranges := [(0, 8)] } }) id;
      takes 9 s (fun c ns => c.sqe.ad && !s.stopRefused c && !ns.array && c.sqe.ranges.any (fun r => decide (r.1 ≤ 0 * ns.bpi ∧ (0 + 1) * ns.bpi ≤ r.1 + r.2)) &&
        s.linesWait (State.slotOf ns.nsid) (s.deallocIus (State.slotOf ns.nsid) (State.iuRanges ns c.sqe.ranges)).eraseDups == none) = true) ∧
    (let s := (running 1 id id).rset Reg.FT_WEAR_STAT_BUFFER_STOP 1; takes 1 s (fun c _ => s.stopRefused c && decide (c.ctl < 2)) = true) ∧
    (let s := (running 8 id id).rset Reg.FT_WEAR_STAT_BUFFER_STOP 1; takes 8 s (fun c _ => s.stopRefused c) = true) ∧
    (let s := (running 0x19 id id).rset Reg.FT_WEAR_STAT_BUFFER_STOP 1; takes 0x19 s (fun c _ => s.stopRefused c) = true) := by
  decide +kernel

/-- The device with placement enabled. -/
def placed (s : State) : State := { s with adm := { s.adm with fdp := true } }

set_option maxRecDepth 40000 in
theorem wit_CopyAndReservations :
    (let s := running 0x19 (fun c => { c with sqe := { c.sqe with ranges := [(0, 300)] } }) id; takes 0x19 s (fun c ns => !s.stopRefused c && c.sqe.fmt == 0 && State.copyTooLarge ns c.sqe) = true) ∧
    (let s := running 0x19 (fun c => { c with sqe := { c.sqe with ranges := [(8, 1)] } }) id;
      takes 0x19 s (fun c ns => !State.copyTooLarge ns c.sqe && (State.copySources c.sqe).all (fun l => decide (l < ns.nsze)) &&
        decide (c.sqe.slba + (State.copySources c.sqe).length ≤ ns.nsze) && State.copySources c.sqe != [] && !c.fetched) = true) ∧
    (let s := running 0x19 (fun c => { c with fetched := true, sqe := { c.sqe with ranges := [(8, 1)] } }) id; takes 0x19 s (fun c ns => c.fetched && s.writeReady 0 c && s.linesWait (State.spaceOf ns) (State.parcelIus ns c) == none) = true) ∧
    takes 0x12 (placed (running 0x12 id id)) (fun _ _ => true) = true ∧ takes 0x12 (running 0x12 id id) (fun _ _ => true) = true ∧
    (let s := placed (running 0x1D id fun n => { n with handles := [0] }); takes 0x1D s (fun _ ns => decide (0 < ns.handles.length) && decide (0 < s.groupCount) && decide (ns.handles.length ≤ 4095)) = true) ∧
    takes 0x0D (running 0x0D id id) (fun c ns => State.regKey ns c.ctl == none) = true ∧
    takes 0x0D (running 0x0D id fun n => { n with registrants := [(0, 5)] }) (fun c ns => State.regKey ns c.ctl == some 5) = true ∧
    takes 0x0E (running 0x0E id id) (fun _ _ => true) = true ∧
    takes 0x11 (running 0x11 id fun n => { n with registrants := [(0, 5)] }) (fun c ns => State.regKey ns c.ctl == some 5 && ns.holder == none) = true ∧
    takes 0x11 (running 0x11 id fun n => { n with registrants := [(0, 5)], holder := some 1, rtype := 1 }) (fun c ns => State.regKey ns c.ctl == some 5 && c.ctl != 1 && !State.allReg ns.rtype) = true ∧
    takes 0x15 (running 0x15 id fun n => { n with registrants := [(0, 5)], holder := some 0, rtype := 1 }) (fun c ns => State.regKey ns c.ctl == some 5 && ns.holder == some c.ctl) = true := by
  decide +kernel

/-- An admin command that may run, with the fields of its entry. -/
def adm (o : Nat) (arg : List Nat) : State := withNs [(0, { adminCtx o arg with word := .active })]
/-- What an admin row takes. -/
def runs (o : Nat) (s : State) (P : Ctx → Bool) : Bool := match s.adminRun 0 o with | some c => c.status == none && P c | none => false
/-- What a Set Features row takes. -/
def sets (f : Nat) (s : State) (P : Ctx → Bool) : Bool := match s.setRun 0 f with | some c => c.status == none && c.a 0 == f && s.featureOk f && P c | none => false

set_option maxRecDepth 40000 in
theorem wit_AdminCommands :
    (let s := adm 5 [256, 15, 0, 1, 0, 0]; runs 5 s (fun c => s.createCqStatus c == none) = true) ∧
    (let s := adm 5 [257, 15, 0, 1, 0, 0]; runs 5 s (fun c => s.createCqStatus c == some (stCmd 0x01)) = true) ∧
    (let s := adm 1 [2, 15, 1, 1, 0, 0]; runs 1 s (fun c => s.createSqStatus c == none) = true) ∧
    (let s := adm 1 [2, 0, 1, 1, 0, 0]; runs 1 s (fun c => s.createSqStatus c == some (stCmd 0x02)) = true) ∧
    (let s := adm 0 [1]; runs 0 s (fun c => c.a 0 != 0 && (match Table.find (s.ctl c.ctl).sqs (c.a 0) with | some q => !q.deleting | none => false)) = true) ∧
    (let s := adm 0 [9]; runs 0 s (fun c => (Table.find (s.ctl c.ctl).sqs (c.a 0)).isNone) = true) ∧
    (let s := State.modCtl (adm 4 [1]) 0 (fun x => { x with sqs := Table.del x.sqs 1 }); runs 4 s (fun c => c.a 0 != 0 && (Table.find (s.ctl c.ctl).cqs (c.a 0)).isSome && (s.ctl c.ctl).sqs.all fun q => q.2.cqid != c.a 0) = true) ∧
    (let s := adm 4 [1]; runs 4 s (fun c => (Table.find (s.ctl c.ctl).cqs (c.a 0)).isSome && (s.ctl c.ctl).sqs.any fun q => q.2.cqid == c.a 0) = true) ∧
    (let s := adm 6 [2]; runs 6 s (fun c => match s.identify c.ctl c.sqe.nsid (c.a 0) (c.a 1) with | .ok _ => true | .error _ => false) = true) ∧
    (let s := adm 6 [9]; runs 6 s (fun c => match s.identify c.ctl c.sqe.nsid (c.a 0) (c.a 1) with | .ok _ => false | .error _ => true) = true) ∧
    (let s := adm 2 [4, 0, 16, 0]; runs 2 s (fun c => (s.logPage c.ctl (c.a 0)).isSome) = true) ∧ (let s := adm 2 [0x77, 0, 16, 0]; runs 2 s (fun c => (s.logPage c.ctl (c.a 0)).isNone) = true) ∧
    (let s := adm 8 [1, 5]; runs 8 s (fun c => c.target == none && decide (s.abortsBefore c < 8) && s.abortTarget c == none) = true) ∧
    (let s := withNs [(0, { adminCtx 8 [1, 7] with word := .active }), (3, ioCtx 2)]; runs 8 s (fun c => decide (s.abortsBefore c < 8) && s.abortTarget c == some 3) = true) ∧
    (let s := withNs ((0, { adminCtx 8 [1, 7] with seq := 9 }) :: (List.range 8).map fun i => (i + 1, adminCtx 8 [1, 7])); runs 8 s (fun c => decide (8 ≤ s.abortsBefore c)) = true) ∧
    (let s := adm 0x0C []; runs 0x0C s (fun c => !(s.ctl c.ctl).aers.contains 0 && decide ((s.ctl c.ctl).aers.length < 8) && (s.ctl c.ctl).events == []) = true) ∧
    (let s := State.modCtl (adm 0x0C []) 0 (fun x => { x with events := [(1, 2, 3)] }); runs 0x0C s (fun c => (s.ctl c.ctl).events == [(1, 2, 3)]) = true) ∧
    (let s := State.modCtl (adm 0x0C []) 0 (fun x => { x with aers := [1, 2, 3, 4, 5, 6, 7, 8] }); runs 0x0C s (fun c => !(s.ctl c.ctl).aers.contains 0 && decide (8 ≤ (s.ctl c.ctl).aers.length)) = true) := by
  decide

/-- The device with its write cache. -/
def cached (s : State) : State := (s.rset Reg.FT_HU_STAT_CACHE_PRESENT 1).rset Reg.FT_STAT_VWC 1

set_option maxRecDepth 40000 in
theorem wit_FeatureCommands :
    (let s := adm 0x0A [1, 0, 0]; runs 0x0A s (fun c => s.featureOk (c.a 0) && c.a 0 != 4 && c.a 1 == 0) = true) ∧ (let s := adm 0x0A [4, 1, 0x180000]; runs 0x0A s (fun c => s.featureOk (c.a 0) && State.tmpOk (c.a 2)) = true) ∧
    (let s := adm 0x0A [3, 4, 0]; runs 0x0A s (fun c => !s.featureOk (c.a 0) && decide (3 < c.a 1)) = true) ∧
    sets 1 (adm 9 [1, 0, 0]) (fun c => c.a 1 == 0) = true ∧ sets 2 (adm 9 [2, 0, 4]) (fun c => decide (bits (c.a 2) 0 5 ≤ 4)) = true ∧ sets 2 (adm 9 [2, 0, 5]) (fun c => decide (4 < bits (c.a 2) 0 5)) = true ∧
    sets 4 (adm 9 [4, 0, 0x80000]) (fun c => State.tmpOk (c.a 2) && bits (c.a 2) 20 2 == 0) = true ∧ sets 4 (adm 9 [4, 0, 0x100000]) (fun c => State.tmpOk (c.a 2) && bits (c.a 2) 20 2 == 1) = true ∧
    sets 7 (adm 9 [7, 0, 0]) (fun _ => true) = true ∧ sets 8 (adm 9 [8, 0, 0]) (fun _ => true) = true ∧ sets 9 (adm 9 [9, 0, 256]) (fun c => decide (1 ≤ bits (c.a 2) 0 16 ∧ bits (c.a 2) 0 16 ≤ 256)) = true ∧
    sets 9 (adm 9 [9, 0, 257]) (fun c => decide (256 < bits (c.a 2) 0 16)) = true ∧ sets 0x0A (adm 9 [10, 0, 1]) (fun _ => true) = true ∧ sets 0x0B (adm 9 [11, 0, 1]) (fun _ => true) = true ∧
    sets 0x0C (adm 9 [12, 0, 1]) (fun _ => (State.apstVals [⟨3, 100⟩]).all fun e => e.1 == 3) = true ∧ sets 0x0E (adm 9 [14, 0, 1]) (fun _ => true) = true ∧ sets 0x11 (adm 9 [0x11, 0, 1]) (fun _ => true) = true ∧
    sets 0xC0 (adm 9 [0xC0, 0, 1]) (fun _ => true) = true ∧ (let s := cached (adm 9 [6, 0, 1]); sets 6 s (fun c => c.a 2 % 2 == 1 && s.cachePresent) = true) ∧
    (let s := adm 9 [6, 0, 1]; sets 6 s (fun c => c.a 2 % 2 == 1 && !s.cachePresent) = true) ∧ sets 6 (adm 9 [6, 0, 0]) (fun c => c.a 2 % 2 == 0) = true ∧
    (let s := State.modNand { adm 9 [0x1D, 0, 1, 1] with rb := { Rulebook.ofRecords [] with ints := [(Param.translationFdpEnable, 1)] } } (fun x => { x with ns := [] });
      sets 0x1D s (fun c => s.media.nand.ns == [] && c.a 2 % 65536 == 1 && s.paramN .translationFdpEnable == 1 && bits (c.a 3) 8 8 == 0) = true) ∧
    (let s := adm 9 [0x1D, 0, 1, 1]; sets 0x1D s (fun _ => s.media.nand.ns != []) = true) ∧
    (let s := adm 9 [0x1E, 0, 0, 1]; sets 0x1E s (fun c => decide (bits (c.a 2) 0 16 < s.paramN .translationFdpHandles)) = true) ∧
    (let s := { adm 9 [0x81, 0, 2] with bifur := true }; sets 0x81 s (fun c => s.bifur && s.nsNamed c.sqe.nsid == [1]) = true) ∧
    (let s := { adm 9 [0x82, 0, 1] with bifur := true }; sets 0x82 s (fun c => s.bifur && s.nsNamed c.sqe.nsid == [1] && (Table.find s.media.nand.ns 1).isSome) = true) ∧
    sets 7 (adm 9 [7, 1, 0]) (fun c => !State.saveable 7 && c.a 1 == 1) = true ∧ sets 0x0A (adm 9 [10, 1, 0]) (fun c => !State.saveable 0x0A && c.a 1 == 1) = true := by
  decide

/-- An admin state with namespace data. -/
def nsd : NsData := { nsze := 2 ^ 18, ncap := 2 ^ 18, flbas := 1, iuByte := 12, nmic := 0, handles := [] }
/-- A device formatted with room for namespaces. -/
def roomy (o : Nat) (arg : List Nat) : State := State.modNand (adm o arg) fun x => { x with tnvmcap := 2 ^ 50 }

set_option maxRecDepth 40000 in
theorem wit_NamespaceCommands :
    (let s := roomy 0x0D [0]; runs 0x0D s (fun c => c.a 0 == 0 && !c.fetched && c.members == 0 && s.mode != .manager && s.createStatus nsd == none) = true ∧ ∀ k, 0 ∉ (s.ctl k).aers) ∧
    (let s := roomy 0x0D [0]; runs 0x0D s (fun c => c.a 0 == 0 && s.createStatus { nsd with flbas := 2 } == some stField) = true) ∧
    (let s := adm 0x0D [1]; runs 0x0D s (fun c => c.a 0 == 1 && !c.fetched && c.members == 0 && (s.media.nand.ns.all fun q => !q.2.array) && s.namedNs c.sqe.nsid != [] &&
      s.nsQuiet (fun x => (s.namedNs c.sqe.nsid).any fun q => q.1 == x)) = true) ∧
    (let s := withNs [(0, { adminCtx 0x0D [1] with word := .active, sqe := { (adminCtx 0x0D [1]).sqe with nsid := 9 } })]; runs 0x0D s (fun c => c.a 0 == 1 && c.sqe.nsid != 0xFFFFFFFF && s.namedNs c.sqe.nsid == []) = true) ∧
    (let s := State.modNand (adm 0x15 [0]) (fun x => { x with ns := [(1, { ns1 with attached := 0 })] }); runs 0x15 s (fun c => match s.nsOf c.sqe.nsid with | some x => s.attachStatus x true [1] == none | none => false) = true) ∧
    (let s := adm 0x15 [1]; runs 0x15 s (fun c => match s.nsOf c.sqe.nsid with | some x => s.attachStatus x false [1] == none | none => false) = true) ∧
    (let s := adm 0x15 [0]; runs 0x15 s (fun c => match s.nsOf c.sqe.nsid with | some x => (s.attachStatus x (c.a 0 == 0) [1]).isSome | none => false) = true) ∧
    (let s := adm 0x80 [1, 0, 0]; runs 0x80 s (fun c => !c.fetched && c.members == 0 && s.formatStatus c == none && s.nsQuiet (fun x => (s.formatted c).any fun q => q.1 == x)) = true) ∧
    (let s := adm 0x80 [1, 2, 0]; runs 0x80 s (fun c => c.a 1 == 2 && s.formatStatus c == none && s.nsQuiet (fun x => (s.formatted c).any fun q => q.1 == x)) = true) ∧
    (let s := adm 0x80 [2, 0, 0]; runs 0x80 s (fun c => s.formatStatus c == some (stCmd 0x0A)) = true) := by
  refine ⟨⟨by decide, ?_⟩, by decide⟩
  intro k
  by_cases h : k = 0
  · subst h; decide
  · simp [State.ctl, roomy, adm, withNs, withCtxs, host, inMode, State.modNand, State.rset, Table.get, Table.find, h]

/-- A self-test. -/
def test1 : SelfTest := { extended := true, nsid := 0, ctl := 0 }
/-- A sanitize that runs. -/
def san (a : Nat) (ause run : Bool) : Sanitize := ⟨a, ause, 1, 0#32, false, run, false, false, false⟩
/-- The device with a self-test and a sanitize. -/
def under (o : Nat) (arg : List Nat) (t : Option SelfTest) (z : Option Sanitize) : State := let s := adm o arg; { s with adm := { s.adm with selfTest := t, sanitize := z } }

set_option maxRecDepth 40000 in
theorem wit_TestAndSanitize :
    (let s := under 0x14 [1] none none; runs 0x14 s (fun c => c.a 0 == 1 && (s.nsOf c.sqe.nsid).isSome) = true ∧ s.adm.selfTest = none) ∧
    (let s := State.modMedia (under 0x14 [1] none none) fun m => { m with bootMeasured := true }; s.paramN .holdupEnable ≠ 0 ∧ s.media.measure = .idle ∧ s.media.bootMeasured = true ∧ s.flushing = false) ∧
    (State.modMedia (under 0x14 [1] none none) fun m => { m with measure := .lowering }).media.measure ≠ .idle ∧
    (let s := under 0x14 [2] (some test1) none; runs 0x14 s (fun c => c.a 0 == 2 && (s.nsOf c.sqe.nsid).isSome) = true ∧ s.adm.selfTest = some test1) ∧
    (let s := under 0x14 [15] (some test1) none; runs 0x14 s (fun c => c.a 0 == 15) = true ∧ s.ioInFlight = false) ∧
    (let s := (under 0x14 [15] (some test1) none).rset Reg.FT_DIRTY_MAX_TENDER_MAX 65535; test1.suspended = false ∧ s.plat.hold = .none ∧ s.media.measure = .idle ∧ s.critWarn test1.ctl = 0 ∧
      s.paramN .holdupMinParcels ≤ s.rget Reg.FT_DIRTY_MAX_TENDER_MAX) ∧
    runs 0x84 (under 0x84 [2, 1, 0, 0, 0] none none) (fun c => c.a 0 == 2) = true ∧ runs 0x84 (under 0x84 [3, 1, 16, 0, 0] none none) (fun c => c.a 0 == 3 && decide (1 ≤ c.a 2 ∧ c.a 2 ≤ 16)) = true ∧
    runs 0x84 (under 0x84 [4, 1, 0, 0, 0] none (some (san 2 true true))) (fun c => c.a 0 == 4) = true ∧ (san 2 true true).running = true ∧
    runs 0x84 (under 0x84 [1] none (some (san 2 true false))) (fun c => c.a 0 == 1) = true ∧ (san 2 true false).running = false ∧
    (let s := under 0x84 [] none (some (san 2 true true)); s.sanitizeOut = false ∧ s.plat.hold = .none ∧ (san 2 true true).memberBad = false ∧ (san 2 true true).dieLost = false) := by
  decide

/-- The admin side of a state changed. -/
def admOf (o : Nat) (arg : List Nat) (f : Admin → Admin) : State := let s := adm o arg; { s with adm := f s.adm }

/-- A package header whose one component is a boot stage. -/
def bootBytes1 : List Byte := (goodBytes 3).take 0x40 ++ [2#8] ++ (goodBytes 3).drop 0x41
/-- The package is staged and stands in slot 1, the active one. -/
def staged (a : Admin) : Admin :=
  { a with fwParts := [(0, 4096)], fwBytes := goodBytes 3 ++ List.replicate 3424 0#8, fwSlots := [(1, goodImage)], activeSlot := 1 }

set_option maxRecDepth 40000 in
theorem wit_FirmwareCommands :
    runs 0x11 (adm 0x11 [4096, 0]) (fun c => c.a 0 % 4096 == 0 && decide (0 < c.a 0) && c.a 1 == 0) = true ∧ (List.replicate 4096 1#8).length = 4096 ∧
    (let s := admOf 0x11 [4096, 4096] fun a => { a with fwParts := [(0, 4096)], fwBytes := [] }; runs 0x11 s (fun c => decide (0 < c.a 1) && s.adm.fwParts.all fun q => !State.overlaps (c.a 1, c.a 0) q) = true) ∧
    (let s := admOf 0x11 [4096, 4096] fun a => { a with fwParts := [(0, 8192)] }; runs 0x11 s (fun c => s.adm.fwParts.any fun q => State.overlaps (c.a 1, c.a 0) q) = true) ∧
    runs 0x11 (adm 0x11 [100, 0]) (fun c => c.a 0 % 4096 != 0) = true ∧
    (let s := admOf 0x10 [0, 2] staged; runs 0x10 s (fun c => c.a 0 == 0 && s.adm.activation == none && decide (1 ≤ c.a 1 ∧ c.a 1 ≤ 3) && s.adm.fwParts != [] && s.packageStatus (s.stagedPackage goodImage) == none) = true) ∧
    (let s := admOf 0x10 [1, 3] staged; runs 0x10 s (fun c => c.a 0 == 1 && s.packageStatus (s.stagedPackage goodImage) == none) = true) ∧
    (let s := admOf 0x10 [2, 3] fun a => { a with fwSlots := [(3, goodImage)] }; runs 0x10 s (fun c => c.a 0 == 2 && Table.find s.adm.fwSlots (c.a 1) == some goodImage && s.packageStatus goodImage == none) = true) ∧
    (let s := admOf 0x10 [3, 3] staged; runs 0x10 s (fun c => c.a 0 == 3 && s.packageStatus (s.stagedPackage goodImage) == none &&
      Table.find s.adm.fwSlots s.adm.activeSlot == some goodImage && (s.stagedPackage goodImage).hotOk && !(s.stagedPackage goodImage).changesBoot goodImage &&
      (s.packageStatus (s.stagedPackage { goodImage with sigOk := false })).isSome) = true) ∧
    (let s := admOf 0x10 [3, 3] fun a => { staged a with fwBytes := goodBytes 3 ++ List.replicate 3424 0#8, fwSlots := [(1, { goodImage with bytes := bootBytes1 })] };
      runs 0x10 s (fun c => c.a 0 == 3 && s.packageStatus (s.stagedPackage goodImage) == none && (s.stagedPackage goodImage).changesBoot { goodImage with bytes := bootBytes1 }) = true) ∧
    runs 0x10 (adm 0x10 [1, 3]) (fun c => c.a 0 == 1) = true ∧
    (let s := admOf 0x10 [3, 3] fun a => { staged a with activation := some (0, 1) }; s.adm.activation = some (0, 1) ∧ s.drained 0 = true ∧ s.plat.hold = .none ∧ s.flushing = false ∧
      s.packageStatus (s.slotPackage 1 goodImage) = none ∧ s.sec.journey.length < 64 ∧ (s.packageStatus (s.slotPackage 1 { goodImage with sigOk := false })).isSome = true) := by
  decide +kernel

/-- An admin command of all namespaces. -/
def admAll (o : Nat) (arg : List Nat) : State := withNs [(0, { adminCtx o arg with word := .active, sqe := { (adminCtx o arg).sqe with nsid := 0xFFFFFFFF } })]
/-- A microcode image of no words. -/
def mc1 : MicroImage := ⟨toBytes (leBytes 4 0x4D554258 ++ leBytes 2 1 ++ [5] ++ List.replicate 201 0), true⟩
/-- A Rulebook blob without records: SVN, MIN_SVN, SEQ. -/
def blob0 (svn min seq : Nat) : List Byte :=
  toBytes (leBytes 4 0x4B424C52 ++ leBytes 2 1 ++ [svn, min] ++ leBytes 8 seq ++ leBytes 4 256 ++ List.replicate 236 0)

set_option maxRecDepth 40000 in
theorem wit_VendorCommands :
    (let s := admAll 0x19 [0, 1, 0, 2]; runs 0x19 s (fun c => c.sqe.nsid == 0xFFFFFFFF && c.a 0 == 0 && c.a 1 == 1 && c.a 3 == 2 && (c.a 2 == 1) == s.adm.fdp) = true) ∧
    runs 0x19 (admAll 0x19 [1, 1, 0, 2]) (fun c => c.a 0 != 0) = true ∧ runs 0x1A (admAll 0x1A [0, 1]) (fun c => c.a 0 == 0 && c.a 1 == 1) = true ∧
    (let s := adm 0x81 [1, 1]; runs 0x81 s (fun _ => (s.opalMethod .activate).isSome) = true) ∧ runs 0x82 (adm 0x82 [0, 0]) (fun _ => true) = true ∧
    runs 0xC0 (adm 0xC0 [1, 0, 2]) (fun c => decide (c.a 1 + c.a 0 ≤ 2 ^ 20) && c.a 1 == 0) = true ∧
    (let s := admOf 0xC0 [1, 4, 2] fun a => { a with depotType := 2 }; runs 0xC0 s (fun c => c.a 1 != 0 && s.adm.depotType == c.a 2) = true) ∧
    (let s := adm 0xC0 [1, 4, 1]; runs 0xC0 s (fun c => c.a 1 != 0 && s.adm.depotType != c.a 2) = true) ∧
    (let s := adm 0xC1 [1, 0, 1]; runs 0xC1 s (fun c => c.a 2 == 1 && s.imageCause (c.a 2) true != 0) = true) ∧
    (let s := admOf 0xC1 [1, 0, 1] fun a => { a with depotBytes := blob0 1 1 7, depotType := 1 }; runs 0xC1 s (fun c => c.a 2 == 1 && s.imageCause (c.a 2) true == 0 && s.areaInForce 1 == none) = true) ∧
    (let s := { admOf 0xC1 [1, 0, 2] (fun a => { a with depotBytes := mc1.bytes, depotType := 2 }) with
        rb := { ints := [(Param.microcodeCustomerEnable, 1)], bytes := [(BytesParam.customerKeyDigest, CustomerImage.keyDigest mc1.bytes)] } }; runs 0xC1 s (fun c => c.a 2 == 2 && s.imageCause (c.a 2) true == 0 && s.areaInForce 2 == none) = true) ∧
    runs 0xC2 (adm 0xC2 []) (fun _ => true) = true ∧
    (let s := adm 0xC3 [4096]; runs 0xC3 s (fun c => decide (c.a 0 ≤ 4096) && s.rget Reg.GD_STAT_LEVEL == 0) = true) ∧
    (let s := (State.modSec (adm 0xC3 [8]) fun x => { x with challenge := some 9 }).rset Reg.GD_STAT_LEVEL 1; runs 0xC3 s (fun _ => s.rget Reg.GD_STAT_LEVEL != 0 && s.ticketOk (ticketOf 9 1 60) &&
      !s.ticketOk (ticketOf 8 1 60)) = true) ∧
    (let s := adm 0xC4 [1, 0x4C564C30]; runs 0xC4 s (fun c => !s.sec.fuse && s.rget Reg.GD_STAT_LEVEL == 0 && c.a 0 == 1 && c.a 1 == 0x4C564C30) = true) ∧
    runs 0xC4 (adm 0xC4 [1, 0]) (fun c => c.a 1 != 0x4C564C30) = true ∧
    (let s := { adm 0xC5 [] with rb := { ints := [(Param.holdupEnable, 0)] } }; runs 0xC5 s (fun _ => s.paramN .holdupEnable == 0) = true) ∧
    (let s := State.modMedia (adm 0xC5 []) (fun m => { m with bootMeasured := true }); runs 0xC5 s (fun _ => s.paramN .holdupEnable != 0 && s.media.measure == .idle && s.media.bootMeasured) = true) ∧
    (let s := State.modSec (adm 0xC6 [64, 0, 0]) (fun x => { x with archive := [(0, ⟨0, [], 0, 0, 0, 0, 0, 0⟩)] }); runs 0xC6 s (fun c => (s.archived (c.a 2)).isSome) = true) ∧
    (let s := adm 0xC6 [64, 0, 3]; runs 0xC6 s (fun c => (s.archived (c.a 2)).isNone) = true) ∧ runs 0xC7 (adm 0xC7 [36, 511]) (fun _ => true) = true ∧
    (let s := { inMode .standalone with plat := { State.reset.plat with ticket := some (1, 5) } }; s.plat.ticket = some (1, 5) ∧ s.flash.tick < 5) ∧
    (let s := { inMode .standalone with plat := { State.reset.plat with ticket := some (1, 0) } }; s.plat.ticket = some (1, 0) ∧ 0 ≤ s.flash.tick) := by
  decide +kernel

set_option maxRecDepth 40000 in
/-- A microcode image in force in area 0 (R458): the next one goes to area 1 with the next SEQ, and area 0 is erased; a Rulebook in area 1 is found by its own SEQ. -/
theorem test_depot_areas :
    (let s := State.reset.programArea 2 0 5 mc1.bytes; s.areaInForce 2 = some (0, 5, mc1.bytes) ∧ (s.writeArea 2 mc1.bytes).areaInForce 2 = some (1, 6, mc1.bytes) ∧
      (s.writeArea 2 mc1.bytes).areaImage 2 0 = none) ∧
    (State.reset.programArea 1 1 0 (blob0 1 1 7)).areaInForce 1 = some (1, 7, blob0 1 1 7) := by
  decide +kernel

set_option maxRecDepth 40000 in
theorem wit_FogmanCommands :
    (let s := (inMode .standalone).rset Reg.FG_LANE_SEL_LANE 3; s.gateOpen 2 = true ∧ s.gateOpen 3 = true ∧ s.gateOpen 5 = true ∧ s.gateOpen 6 = true ∧ s.rget Reg.FG_LANE_SEL_LANE < 4) ∧
    (let s := (inMode .standalone).rset Reg.GD_STAT_LEVEL 1; s.gateOpen 2 = false ∧ s.gateOpen 3 = false ∧ s.gateOpen 5 = false ∧ s.gateOpen 6 = false) ∧
    (let s := { (inMode .standalone) with ports := [(0, upPort)] }; (s.port (s.lanePcie (s.rget Reg.FG_LANE_SEL_LANE))).inReset = false) ∧
    (let s := (inMode .standalone).rset Reg.FG_LANE_CTRL_RUN 1; s.flag Reg.FG_LANE_CTRL_RUN = true) := by
  decide

set_option maxRecDepth 40000 in
theorem wit_RegisterCommands :
    (let s := inMode .manager; s.alive = true ∧ s.flag Reg.MC_CTRL_LOCK = false ∧ s.mode = .manager ∧ s.xd6408 = false) ∧
    (let s := (inMode .standalone).rset Reg.MC_CTRL_LOCK 1; s.alive = true ∧ s.flag Reg.MC_CTRL_LOCK = true) ∧ (2#32).toNat / 2 % 2 = 1 ∧ (1#32).toNat / 2 % 2 = 0 := by
  decide

set_option maxRecDepth 40000 in
theorem wit_StepTakesFront : State.reset.pending = [] := by
  decide

set_option maxRecDepth 40000 in
theorem wit_EveryStepKeeps :
    (let s := State.reset; s.mem.wf = true ∧ s.sec.nonce ≤ s.sec.mark ∧ step s = .next s) ∧ (let s := secOf fun x => { x with fuse := true }; s.sec.fuse = true ∧ step s = .next s) := by
  exact ⟨⟨by decide, by decide, rfl⟩, by decide, rfl⟩

/-- A Rulebook with a higher minimum. -/
def rule3 : RulebookImage := ⟨blob0 5 3 1, true⟩
set_option maxRecDepth 40000 in
theorem wit_RulebookMinimum : (let s := State.modSec almostReady fun x => { x with inForce := some rule3 }; s.readyNow = true ∧ s.sec.inForce = some rule3) := by
  decide

set_option maxRecDepth 40000 in
theorem wit_WorkerMemberFault : State.reset.plat.hold = .none ∧ State.reset.mode = .unsampled ∧ (⟨2, 7, true, false, 1, 0⟩ : Straps).mode = 2 ∧ (⟨2, 7, true, false, 1, 0⟩ : Straps).member = 7 := by
  decide

set_option maxRecDepth 40000 in
theorem wit_DepotHiddenReads :
    (let s := secOf fun x => { x with op0 := some dprog }; 512000 < 2 ^ 21 ∧ s.bankOp (State.bankOf 512000) = some dprog ∧ State.bankOf dprog.word = State.bankOf 512000 ∧ dprog.erase = false ∧ dprog.word = 512000) ∧
    (let s := secOf fun x => { x with op0 := some { derase with suspended := true } }; s.bankOp (State.bankOf 512005) = some { derase with suspended := true } ∧
      State.sectorOf derase.word = State.sectorOf 512005) := by
  decide

set_option maxRecDepth 40000 in
theorem wit_DepotWear :
    (let s := secOf fun x => { x with op0 := some derase, erases := [(1000, 10000)] }; 0 < 2 ∧ s.bankOp 0 = some derase ∧ derase.erase = true ∧ derase.suspended = false ∧ s.sec.guardCmd = none ∧
      s.sec.coreCmd = none ∧ 10000 ≤ Table.get 0 s.sec.erases (State.sectorOf derase.word) ∧ s.alive = true) := by
  decide

/-! ## Worked examples of the spec -/

/-- The geometry of the die-table example of chapter 03. -/
def die166 : Geometry := { planes := 2, cell := 2, slcOk := true, blocksM1 := 899, pagesM1 := 2303, pageBytes := 18432, capGbit := 1024, ipr := true, iface := true, needs := false }
/-- Its profile in the Rulebook. -/
def profile3 : State := { State.reset with rb := { ints := [(.flashProfileIpr 3, 1), (.flashProfileDispatchSet 3, 3), (.flashProfileSuspLimit 3, 8), (.flashProfileTRNs 3, 45000),
  (.flashProfileTProgUs 3, 1700), (.flashProfileTBersUs 3, 8000), (.flashProfileTProgSlcUs 3, 180), (.flashProfilePsuspLatNs 3, 4000), (.flashProfileEsuspLatNs 3, 4500),
  (.flashProfileRrstLatNs 3, 3000), (.flashProfileResumeLatNs 3, 1200)] } }

/-- Chapter 03, one die-table entry: words 7 to 0. -/
theorem test_die_table_entry : makeEntry profile3 3 die166 =
    0x0000000000000400_04B00BB8_11940FA0_00B41F40_06A41194_08034800_8FF383AB#256 := by decide +kernel

/-- Chapter 06, encoding one entry. -/
theorem test_map_entry : mkLoc 0xA6 2 0x205 0x44C 3 = 0x0A68815133 ∧ entInbuf 0x1F07 = 0x8000001F07 ∧ entDealloc = 0x2000000000 := by decide

/-- Chapter 02, read during a program: channel 3's maintenance ticks, and the transfer tick of a read issued in tick 1002. -/
theorem test_transfer_tick :
    (let s := State.setDie (inMode .standalone) 96 { state := .prog, entry := 4500 * 2 ^ 64 + 1 }
     s.maintAt 28 3 ∧ s.maintAt 92 3 ∧ s.transferTick 96 1002 = 1008) := by decide +kernel

/-- Chapter 05, a first-attempt read with early warning: the record, and the tracker entry after a retry success at step 3. -/
theorem test_read_record : readRecord 97 1 0 0 0 1 0 2 1 0 7 0 166 2 1 0 = 0x00000CA607608461 := by decide

/-- Offsets of profile 3, whose band 2 base row is the example's. -/
def offsets3 : State := { State.reset with rb := { bytes := [(.offsets 3, List.replicate 126 0#8 ++ [0xFE#8, 0xFC#8, 0xFB#8, 0xFA#8, 0xF8#8, 0xF7#8, 0xF4#8] ++ List.replicate 119 0#8)] } }

/-- Chapter 05, FP of groups 0 and 1 with SHIFT -3. -/
theorem test_offset_groups :
    offsets3.offsetGroup 3 7 2 0 0 (-3) = 0xF7F8F9FB ∧ offsets3.offsetGroup 3 7 2 0 1 (-3) = 0x00F1F4F5 := by decide

/-- Chapter 08, bank sizing: T_FLUSH for the full limit and on each side of the degraded bank's limit, in ns. -/
theorem test_flush_time : State.flushNs 16 31 16 20 180000 1700000 65536 = 42032608 ∧ State.flushNs 16 31 16 20 180000 1700000 57600 = 37322208 ∧
    State.flushNs 16 31 16 20 180000 1700000 57601 = 37510624 := by decide

/-- Chapter 08: 9.0 mF at 12 V last 37.375 ms after the reserve. -/
theorem test_bank_time : (State.modMedia State.reset fun m => { m with cap := 9000 }).availNs 12000 = 37375000 := by decide
/-- Chapter 08: that gives a TENDER_MAX of 57,600 parcels. -/
theorem test_tender_max : State.largestL (fun l => decide (State.flushNs 16 31 16 20 180000 1700000 l ≤ 37375000)) = 57600 := by decide

/-- Chapter 09, a read behind a write: the write's one entry, the read's search key and mask, and that they match. -/
theorem test_il_cover :
    State.coverAll [{ first := 0x2468A8, last := 0x2468B7, nsx := 1, writer := true }] 0 = [(0x00010100002468A0#64, 0x0001FFFFFFFFFFE0#64)] ∧
    State.conflictKey (State.ilUnit0 0x2468AD 0 1 0 false) = (0x00010100002468AD#64, 0x0001FFFFFFFFFFFF#64) ∧
    State.ilUnit1 0x0A31 0 .active = 0x8A31#64 ∧
    unitsMatch [0x00010100002468A0#64] [0x0001FFFFFFFFFFE0#64] [0x00010100002468AD#64] [0x0001FFFFFFFFFFFF#64] = true := by decide

/-- A P+Q array of six members. -/
def pq6 : ArrayHeader := { ident := 1, layout := 3, positions := (List.range 6).map fun m => ⟨m, m, .online, 0⟩ }

/-- Chapter 14, one delta write under P+Q: where LBA 100,003 lies, and the parity positions. -/
theorem test_array_mapping : pq6.k = 4 ∧ pq6.locate 100003 = (1562, 2, 3) ∧ pq6.pPos 1562 = 3 ∧ pq6.qPos 1562 = 4 ∧ (List.range 4).map (pq6.dataPos 1562) = [5, 0, 1, 2] ∧
    pq6.memberBlock 1562 3 = 24995 := by decide +kernel
/-- Chapter 14: the products in the field. -/
theorem test_field_products : gmul 2 0x66 = 0xCC ∧ gmul 2 0xCC = 0x85 ∧ gmul (gpow 2) 0x66 = 0x85 := by decide

/-- Chapter 14: region 97's bit is in byte 20, bit 1, of a journal block. -/
theorem test_journal_bit : (State.journalBlock 1 0 [97])[20]? = some 2#8 := by decide +kernel

/-- Chapter 16, counters across a power loss: boot 40 programs the next mark and encrypts from the stored one; boot 41 starts at the last mark programmed. -/
theorem test_nonce_marks :
    (match execHwmAdvance true (State.modSec State.reset fun x => { x with mark := 0x300000000, nonce := 0x300000000 }) with
     | .next t => decide (t.sec.mark = 0x400000000 ∧ t.sec.nonce = 0x300000000) | _ => false) = true := by decide
/-- Chapter 16: at the mark less 2^31 the Guard programs the next one, before that it does not. -/
theorem test_nonce_mark_due :
    (State.modSec State.reset fun x => { x with gcmOn := true, mark := 0x400000000, nonce := 0x380000000 }).markDue = true ∧
    (State.modSec State.reset fun x => { x with gcmOn := true, mark := 0x400000000, nonce := 0x37FFFFFFF }).markDue = false := by decide

/-- Chapter 23, a two-record Rulebook: the blob byte by byte. -/
def twoRecords : List Byte := toBytes (leBytes 4 0x4B424C52 ++ leBytes 2 1 ++ [1, 0] ++ leBytes 8 9 ++ leBytes 4 316 ++ leBytes 4 2 ++ List.replicate 40 0 ++
  [0x1D, 1, 1, 0] ++ RbRaw.ascii "rb.timetable.express_per_tick" ++ [3, 0, 0] ++ [0x10, 1, 4, 0] ++ RbRaw.ascii "rb.wear.rated_pe" ++ [0x88, 0x13, 0, 0] ++ List.replicate 192 7)

/-- Chapter 23: its length, its records, and that it passes every check; VALUE 0 for the Express limit does not, nor does a blob of a byte less. -/
theorem test_two_records :
    twoRecords.length = 0x13C ∧ (⟨twoRecords, true⟩ : RulebookImage).records = some [.int .timetableExpressPerTick 3, .int .wearRatedPe 5000] ∧
    ((⟨twoRecords, true⟩ : RulebookImage).check 0 0 1 false).result = 0 ∧ ((⟨twoRecords, true⟩ : RulebookImage).check 0 0 2 false).result = 3 ∧
    ((⟨twoRecords, false⟩ : RulebookImage).check 0 0 1 false).result = 1 ∧ ((⟨twoRecords.take 315, true⟩ : RulebookImage).check 0 0 1 false).result = 2 ∧
    ((⟨twoRecords.set 0x61 0#8, true⟩ : RulebookImage).check 0 0 1 false).result = 5 := by decide +kernel

/-- Chapter 06: the journal record of the worked example. -/
theorem test_journal_record : (⟨0x0A68815133, 0x2468AD, 1, 1, 0x12F40⟩ : JRecord).image =
    [0x33#8, 0x51#8, 0x81#8, 0x68#8, 0x0A#8, 0xAD#8, 0x68#8, 0x24#8, 0#8, 0#8, 1#8, 1#8, 0x40#8, 0x2F#8, 1#8, 0#8] := by decide +kernel

/-- Chapter 13: the header and the body of the strip write's CMD, and its nonce. -/
theorem test_strip_write :
    (let h := (inMode .manager).packetHead 2 ⟨0x1234, 0x12C00, ⟨1, false, 0x0A5, [], List.replicate 64 0#8⟩⟩
     h.take 8 = [1#8, 0#8, 0x40#8, 0#8, 0x34#8, 0x12#8, 0xA5#8, 0#8] ∧ (h.drop 8).take 12 = [0#8, 2#8, 0#8, 0#8, 0#8, 0x2C#8, 1#8, 0#8, 0#8, 0#8, 0#8, 0#8] ∧ h.length = 32) ∧
    (State.cmdBody { owner := .none, opcode := 2, cls := 1, count := 16, start := 0x30A40 }).take 16 =
      [2#8, 1#8, 0#8, 0#8, 0x10#8, 0#8, 0#8, 0#8, 0x40#8, 0x0A#8, 3#8, 0#8, 0#8, 0#8, 0#8, 0#8] := by decide +kernel

/-- Chapter 17: the CLOCK entry of one boot's record. -/
theorem test_clock_entry :
    ((State.entryBytes96 { stage := 8, result := 0, index := 7, boot := 1000, clockMs := 1726000000500, clockValid := true, tick := 9000 }).drop 12).take 20 =
      [0xE8, 3, 0, 0, 0xF4, 0xED, 0x9D, 0xDD, 0x91, 1, 0, 0x80, 0x28, 0x23, 0, 0, 0, 0, 0, 0] := by decide +kernel
/-- Chapter 17: of boot 1000, boot 744 is not archived any more. -/
theorem test_archive_window : (State.modSec State.reset fun x => { x with boot := 1000, archive := [(232, ⟨744, [], 0, 0, 0, 0, 0, 0⟩)] }).archived 744 = none := by decide

/-- Chapter 10: Vendor and Device ID of both variants, Revision and Class Code, and BAR0 after a write of ones. -/
theorem test_header : (State.reset.headerWord 0 0 = 0x64161D9A) ∧ ({ State.reset with xd6408 := true }.headerWord 0 0 = 0x64081D9A) ∧ State.reset.headerWord 0 8 = 0x010802A1 ∧
    ({ State.reset with ports := [(0, { bar0 := 0xFFFFFFFFFFFF8000 })] }.headerWord 0 0x10 = 0xFFFF8004) := by decide

/-- The check value of the CRC-32 of IEEE 802.3, of the digits 1 to 9. -/
theorem test_crc32 : crc32 (toBytes [0x31, 0x32, 0x33, 0x34, 0x35, 0x36, 0x37, 0x38, 0x39]) = 0xCBF43926#32 := by decide +kernel
/-- The first example of FIPS 180-4 for SHA-384, the text abc: its first eight bytes. -/
theorem test_sha384 : (Sha384.digest [0x61, 0x62, 0x63]).take 8 = [0xCB, 0, 0x75, 0x3F, 0x45, 0xA3, 0x5E, 0x8B] := by decide +kernel

/-- A well-formed operand of each structured kind. -/
def okHdr : BlHdr := ⟨0, true, true, 1, 0, 0, true⟩
def okCmd : BlCmd := ⟨okHdr, 0, 1, 0, false, 0, 0, 1, 0, false⟩
def okHello : Hello := ⟨okHdr, true, true, true, 1, 2, 1, 0, 0, 0, 0, 0⟩
def okStraps : Straps := ⟨0, 0, false, false, 0, 0⟩
def okXts : XtsJob := ⟨true, 0, 0, 0, []⟩
def okArg : OpArg := ⟨1, 0, 0, 1, .stopping, 0, .other⟩
def okImage : ImageCheck := ⟨0, [], 0, true, true, true⟩
def okTicket : Ticket := ⟨[], true, true⟩
def okIdent : CeIdent := ⟨true, true, [], 1, ⟨0, 2, true, 0, 0, 0, 0, false, true, false⟩⟩

/-- Each check of the structured operands refuses one that breaks it. -/
theorem test_ill_formed_operands :
    [{ okArg with planes := 16 }, { okArg with planes := 0 }].all (fun a : OpArg => !a.wf) = true ∧
    [{ Sqe.empty with opcode := 256 }, { Sqe.empty with cid := 65536 }, { Sqe.empty with nlb := 65536 }, { Sqe.empty with slba := 2 ^ 64 }, { Sqe.empty with nsid := 2 ^ 32 }].all (fun e : Sqe => !e.wf) = true ∧
    [{ okHdr with lseq := 65536 }, { okHdr with typ := 256 }].all (fun h : BlHdr => !h.wf) = true ∧
    [{ okCmd with h := { okHdr with typ := 256 } }, { okCmd with tag := 4096 }, { okCmd with opcode := 256 }].all (fun c : BlCmd => !c.wf) = true ∧
    [{ okHello with h := { okHdr with typ := 256 } }, { okHello with mode := 4 }].all (fun h : Hello => !h.wf) = true ∧
    [{ okStraps with mode := 4 }, { okStraps with member := 8 }, { okStraps with geom := 4 }, { okStraps with test := 4 }].all (fun x : Straps => !x.wf) = true ∧
    [⟨10, 0, 0⟩, ⟨0, 8, 0⟩].all (fun e : SymErr => !e.wf) = true ∧
    [.dram 0 [⟨10, 0, 0⟩], .sram 0 0 [] [72], .store 16 0 [], .store 0 0 [176]].all (fun t : ScrubTarget => !t.wf) = true := by
  decide

set_option maxRecDepth 40000 in
/-- The commands of Startup: with every operand in range each is well formed. -/
theorem test_well_formed_startup : (show List Instr from
    [(.strapSample okStraps), (.dramTraining 0 [] false)]).all Instr.wf = true := by
  decide

set_option maxRecDepth 40000 in
/-- The commands of Startup: each check of WellFormed refuses a command that breaks it. -/
theorem test_ill_formed_startup : (show List Instr from
    [(.strapSample { okStraps with mode := 4 }), (.dramTraining 2 [] false)]).all (fun i => !i.wf) = true := by
  decide

set_option maxRecDepth 40000 in
/-- The commands of Pcie: with every operand in range each is well formed. -/
theorem test_well_formed_pcie : (show List Instr from
    [(.linkTrainingStart 0), (.hotReset 0), (.pcieLinkDown 0), (.l1Entry 0 0), (.l1Exit 0), (.flr 0), (.flrFinish 0 0 0), (.configWrite 0 .initiateFlr),
     (.memWriteTlp 0 0 [] false), (.memReadTlp 0 0 0 false), (.hostReadCompletion 0 0 0 false .ok), (.completionTimeout 0 0), (.tagQuarantineEnd 0 0),
     (.msixTableWrite 0 0 0 0), (.pcieLinkUp 0 0 1 false), (.pcieReplayTimerTimeout 0 false), (.dllpReceived 0 .nak), (.injectionHoldExpire false 0)]).all Instr.wf = true := by
  decide

set_option maxRecDepth 40000 in
/-- The commands of Pcie: each check of WellFormed refuses a command that breaks it. -/
theorem test_ill_formed_pcie : (show List Instr from
    [(.linkTrainingStart 2), (.hotReset 2), (.pcieLinkDown 2), (.l1Entry 2 0), (.l1Entry 0 3), (.l1Exit 2), (.flr 2), (.flrFinish 2 0 0),
     (.configWrite 2 .initiateFlr), (.memWriteTlp 2 0 [] false), (.memReadTlp 2 0 0 false), (.hostReadCompletion 2 0 0 false .ok),
     (.hostReadCompletion 0 1024 0 false .ok), (.completionTimeout 2 0), (.completionTimeout 0 1024), (.tagQuarantineEnd 2 0), (.tagQuarantineEnd 0 1024),
     (.msixTableWrite 2 0 0 0), (.msixTableWrite 0 257 0 0), (.msixTableWrite 0 0 4 0), (.pcieLinkUp 2 0 1 false), (.pcieLinkUp 0 0 3 false),
     (.pcieReplayTimerTimeout 2 false), (.dllpReceived 2 .nak), (.injectionHoldExpire false 6)]).all (fun i => !i.wf) = true := by
  decide

set_option maxRecDepth 40000 in
/-- The commands of Nvme: with every operand in range each is well formed. -/
theorem test_well_formed_nvme : (show List Instr from
    [(.ccEnable 0 0 0 0), (.controllerReset 0), (.normalShutdown 0), (.abruptShutdown 0), (.sqTailDoorbell 0 0 0), (.cqHeadDoorbell 0 0 0), (.intmsWrite 0 0),
     (.intmcWrite 0 0), (.commandFetch 0 Sqe.empty false)]).all Instr.wf = true := by
  decide

set_option maxRecDepth 40000 in
/-- The commands of Nvme: each check of WellFormed refuses a command that breaks it. -/
theorem test_ill_formed_nvme : (show List Instr from
    [(.ccEnable 2 0 0 0), (.ccEnable 0 8 0 0), (.ccEnable 0 0 16 0), (.ccEnable 0 0 0 8), (.controllerReset 2), (.normalShutdown 2), (.abruptShutdown 2),
     (.sqTailDoorbell 2 0 0), (.cqHeadDoorbell 2 0 0), (.intmsWrite 2 0), (.intmcWrite 2 0), (.commandFetch 2 Sqe.empty false),
     (.commandFetch 0 { Sqe.empty with cid := 65536 } false)]).all (fun i => !i.wf) = true := by
  decide

set_option maxRecDepth 40000 in
/-- The commands of Restart: with every operand in range each is well formed. -/
theorem test_well_formed_restart : (show List Instr from
    [(.shutdownComplete 0), (.alarmRaise .tamper 0)]).all Instr.wf = true := by
  decide

set_option maxRecDepth 40000 in
/-- The commands of Restart: each check of WellFormed refuses a command that breaks it. -/
theorem test_ill_formed_restart : (show List Instr from
    [(.shutdownComplete 2), (.alarmRaise .tamper 256)]).all (fun i => !i.wf) = true := by
  decide

set_option maxRecDepth 40000 in
/-- The commands of Post: with every operand in range each is well formed. -/
theorem test_well_formed_post : (show List Instr from
    [(.coalesceTimeout 0 0)]).all Instr.wf = true := by
  decide

set_option maxRecDepth 40000 in
/-- The commands of Post: each check of WellFormed refuses a command that breaks it. -/
theorem test_ill_formed_post : (show List Instr from
    [(.coalesceTimeout 2 0)]).all (fun i => !i.wf) = true := by
  decide

set_option maxRecDepth 40000 in
/-- The commands of Translate: with every operand in range each is well formed. -/
theorem test_well_formed_translate : (show List Instr from
    [(.pcSearchPin 0 0 0 false), (.pcPinAddr 0 0 0 0 false), (.pcRelease 0), (.mapWrite 0 0 0), (.mapCas 0 0 0 0), (.mapLineRebuild 0 0 false),
     (.eraseFail 0 0 0)]).all Instr.wf = true := by
  decide

set_option maxRecDepth 40000 in
/-- The commands of Translate: each check of WellFormed refuses a command that breaks it. -/
theorem test_ill_formed_translate : (show List Instr from
    [(.pcSearchPin 0 0 4 false), (.pcPinAddr 0 0 4 0 false), (.pcPinAddr 0 0 0 65536 false), (.pcRelease 65536), (.mapWrite 256 0 0), (.mapCas 256 0 0 0),
     (.mapLineRebuild 256 0 false), (.eraseFail 512 0 0), (.eraseFail 0 4 0), (.eraseFail 0 0 4096)]).all (fun i => !i.wf) = true := by
  decide

set_option maxRecDepth 40000 in
/-- The commands of Ae: with every operand in range each is well formed. -/
theorem test_well_formed_ae : (show List Instr from
    [(.pcUnpin 0), (.pcInsert 0 0 0 0 none), (.pcClear 0), (.aeSearch 0 0 [] [] [] 0 0), (.aePortRestart 0)]).all Instr.wf = true := by
  decide

set_option maxRecDepth 40000 in
/-- The commands of Ae: each check of WellFormed refuses a command that breaks it. -/
theorem test_ill_formed_ae : (show List Instr from
    [(.pcUnpin 65536), (.pcInsert 65536 0 0 0 none), (.pcInsert 0 0 0 4 none), (.pcClear 65536), (.aeSearch 2 0 [] [] [] 0 0), (.aePortRestart 2)]).all (fun i => !i.wf) = true := by
  decide

set_option maxRecDepth 40000 in
/-- The commands of Ticks: with every operand in range each is well formed. -/
theorem test_well_formed_ticks : (show List Instr from
    [(.legStart 0 0 []), (.holdRelease 0 [])]).all Instr.wf = true := by
  decide

set_option maxRecDepth 40000 in
/-- The commands of Ticks: each check of WellFormed refuses a command that breaks it. -/
theorem test_ill_formed_ticks : (show List Instr from
    [(.legStart 512 0 []), (.holdRelease 16 [])]).all (fun i => !i.wf) = true := by
  decide

set_option maxRecDepth 40000 in
/-- The commands of SignalBox: with every operand in range each is well formed. -/
theorem test_well_formed_signalbox : (show List Instr from
    [(.requestTaken 0 [] []), (.stationWatchdog 0), (.sbRestart 0), (.csWrite false 0), (.csRead 0), (.tableWrite 0)]).all Instr.wf = true := by
  decide

set_option maxRecDepth 40000 in
/-- The commands of SignalBox: each check of WellFormed refuses a command that breaks it. -/
theorem test_ill_formed_signalbox : (show List Instr from
    [(.requestTaken 512 [] []), (.stationWatchdog 16), (.sbRestart 16), (.csWrite false 16), (.csRead 16), (.tableWrite 1024)]).all (fun i => !i.wf) = true := by
  decide

set_option maxRecDepth 40000 in
/-- The commands of FlashOps: with every operand in range each is well formed. -/
theorem test_well_formed_flashops : (show List Instr from
    [(.opTimeout 0 false), (.rbStuck 0), (.opRead 0 okArg), (.opReadSlc 0 okArg), (.opReadRetry 0 okArg), (.opReadSoft 0 okArg), (.opProg 0 okArg),
     (.opProgSlc 0 okArg), (.opErase 0 okArg), (.opSuspendProg 0 [] []), (.opSuspendErase 0 [] []), (.opResumeProg 0 [] []), (.opResumeErase 0 [] []),
     (.opAbort 0 [] []), (.opStatus 0 ⟨0, false, []⟩), (.opResetCe 0 ⟨0, []⟩), (.opSetFeature 0 0 ⟨0, []⟩), (.opGetFeature 0 ⟨0, []⟩),
     (.opIdentify 0 0 ⟨okIdent, []⟩), (.opZqLong 0 ⟨0, []⟩), (.opZqShort 0 ⟨0, []⟩), (.opDcc 0 ⟨0, []⟩), (.opReadTrain 0 0 ⟨[], []⟩),
     (.opWriteTrain 0 0 ⟨[], []⟩), (.opTrainVerify 0 0 ⟨false, []⟩), (.opDrift 0 0 ⟨[], []⟩), (.opWdrift 0 0 ⟨[], []⟩), (.opVendor 0 0), (.calForceHold 0 0)]).all Instr.wf = true := by
  decide

set_option maxRecDepth 40000 in
/-- The commands of FlashOps: each check of WellFormed refuses a command that breaks it. -/
theorem test_ill_formed_flashops : (show List Instr from
    [(.opTimeout 512 false), (.rbStuck 16), (.opRead 512 okArg), (.opRead 0 { okArg with planes := 16 }), (.opReadSlc 512 okArg),
     (.opReadSlc 0 { okArg with planes := 16 }), (.opReadRetry 512 okArg), (.opReadRetry 0 { okArg with planes := 16 }), (.opReadSoft 512 okArg),
     (.opReadSoft 0 { okArg with planes := 16 }), (.opProg 512 okArg), (.opProg 0 { okArg with planes := 16 }), (.opProgSlc 512 okArg),
     (.opProgSlc 0 { okArg with planes := 16 }), (.opErase 512 okArg), (.opErase 0 { okArg with planes := 16 }), (.opSuspendProg 512 [] []),
     (.opSuspendErase 512 [] []), (.opResumeProg 512 [] []), (.opResumeErase 512 [] []), (.opAbort 512 [] []), (.opStatus 512 ⟨0, false, []⟩),
     (.opResetCe 16 ⟨0, []⟩), (.opResetCe 0 ⟨8, []⟩), (.opSetFeature 512 0 ⟨0, []⟩), (.opGetFeature 512 ⟨0, []⟩), (.opIdentify 16 0 ⟨okIdent, []⟩),
     (.opIdentify 0 8 ⟨okIdent, []⟩), (.opZqLong 16 ⟨0, []⟩), (.opZqLong 0 ⟨8, []⟩), (.opZqShort 16 ⟨0, []⟩), (.opZqShort 0 ⟨8, []⟩), (.opDcc 16 ⟨0, []⟩),
     (.opDcc 0 ⟨8, []⟩), (.opReadTrain 16 0 ⟨[], []⟩), (.opReadTrain 0 8 ⟨[], []⟩), (.opWriteTrain 16 0 ⟨[], []⟩), (.opWriteTrain 0 8 ⟨[], []⟩),
     (.opTrainVerify 16 0 ⟨false, []⟩), (.opTrainVerify 0 8 ⟨false, []⟩), (.opDrift 16 0 ⟨[], []⟩), (.opDrift 0 8 ⟨[], []⟩), (.opWdrift 16 0 ⟨[], []⟩),
     (.opWdrift 0 8 ⟨[], []⟩), (.opVendor 512 0), (.calForceHold 16 0), (.calForceHold 0 8)]).all (fun i => !i.wf) = true := by
  decide

set_option maxRecDepth 40000 in
/-- The commands of Channels: with every operand in range each is well formed. -/
theorem test_well_formed_channels : (show List Instr from
    [(.channelIdentify 0 []), (.channelTrain 0 [] 0)]).all Instr.wf = true := by
  decide

set_option maxRecDepth 40000 in
/-- The commands of Channels: each check of WellFormed refuses a command that breaks it. -/
theorem test_ill_formed_channels : (show List Instr from
    [(.channelIdentify 16 []), (.channelIdentify 0 (List.replicate 9 okIdent)), (.channelTrain 16 [] 0)]).all (fun i => !i.wf) = true := by
  decide

set_option maxRecDepth 40000 in
/-- The commands of Yard: with every operand in range each is well formed. -/
theorem test_well_formed_yard : (show List Instr from
    [(.blockCheck 0 0 0 0)]).all Instr.wf = true := by
  decide

set_option maxRecDepth 40000 in
/-- The commands of Yard: each check of WellFormed refuses a command that breaks it. -/
theorem test_ill_formed_yard : (show List Instr from
    [(.blockCheck 16 0 0 0), (.blockCheck 0 32 0 0), (.blockCheck 0 0 4 0), (.blockCheck 0 0 0 4096)]).all (fun i => !i.wf) = true := by
  decide

set_option maxRecDepth 40000 in
/-- The commands of HoldUp: with every operand in range each is well formed. -/
theorem test_well_formed_holdup : (show List Instr from
    [(.tenderSample 0 0)]).all Instr.wf = true := by
  decide

set_option maxRecDepth 40000 in
/-- The commands of HoldUp: each check of WellFormed refuses a command that breaks it. -/
theorem test_ill_formed_holdup : (show List Instr from
    [(.tenderSample 4096 0), (.tenderSample 0 4096)]).all (fun i => !i.wf) = true := by
  decide

set_option maxRecDepth 40000 in
/-- The commands of Branch: with every operand in range each is well formed. -/
theorem test_well_formed_branch : (show List Instr from
    [(.blLinkTrain 0), (.branchLinkDown 0), (.hello okHello), (.helloAck 0 okHello), (.helloRepeat 0), (.blRead okCmd), (.blWrite okCmd), (.writeDelta okCmd),
     (.parityApply okCmd), (.deallocate okCmd), (.blFlush okCmd), (.blIdentify okCmd), (.volumeCreate okCmd 0 0), (.volumeDelete okCmd),
     (.blSanitize okCmd 0 0 0), (.blSetTime okCmd 0), (.xferRdy 0 okHdr 0 0 0), (.data 0 okHdr 0 0 []), (.grantOpen 0), (.resp 0 okHdr 0 0 0 0 [] []),
     (.blAbort okHdr 0), (.abortAck 0 okHdr 0 false), (.logRead okHdr 0 0 0 0 0), (.resume okHdr 0), (.resumeAck 0 okHdr false 0), (.event 0 okHdr 0 0),
     (.ack 0 0), (.nak 0 0), (.credit 0 0 0), (.replayTimeout 0), (.cmdTimeout 0 0), (.blTagQuarantineEnd 0 0), (.branchLinkUp 0 1)]).all Instr.wf = true := by
  decide

set_option maxRecDepth 40000 in
/-- The commands of Branch: each check of WellFormed refuses a command that breaks it. -/
theorem test_ill_formed_branch : (show List Instr from
    [(.blLinkTrain 6), (.branchLinkDown 6), (.hello { okHello with mode := 4 }), (.helloAck 6 okHello), (.helloAck 0 { okHello with mode := 4 }),
     (.helloRepeat 6), (.blRead { okCmd with tag := 4096 }), (.blWrite { okCmd with tag := 4096 }), (.writeDelta { okCmd with tag := 4096 }),
     (.parityApply { okCmd with tag := 4096 }), (.deallocate { okCmd with tag := 4096 }), (.blFlush { okCmd with tag := 4096 }),
     (.blIdentify { okCmd with tag := 4096 }), (.volumeCreate { okCmd with tag := 4096 } 0 0), (.volumeDelete { okCmd with tag := 4096 }),
     (.blSanitize { okCmd with tag := 4096 } 0 0 0), (.blSetTime { okCmd with tag := 4096 } 0), (.xferRdy 6 okHdr 0 0 0),
     (.xferRdy 0 { okHdr with lseq := 65536 } 0 0 0), (.xferRdy 0 okHdr 4096 0 0), (.data 6 okHdr 0 0 []), (.data 0 { okHdr with lseq := 65536 } 0 0 []),
     (.data 0 okHdr 4096 0 []), (.grantOpen 4096), (.resp 6 okHdr 0 0 0 0 [] []), (.resp 0 { okHdr with lseq := 65536 } 0 0 0 0 [] []),
     (.resp 0 okHdr 4096 0 0 0 [] []), (.blAbort { okHdr with lseq := 65536 } 0), (.blAbort okHdr 4096), (.abortAck 6 okHdr 0 false),
     (.abortAck 0 { okHdr with lseq := 65536 } 0 false), (.abortAck 0 okHdr 4096 false), (.logRead { okHdr with lseq := 65536 } 0 0 0 0 0),
     (.logRead okHdr 4096 0 0 0 0), (.resume { okHdr with lseq := 65536 } 0), (.resumeAck 6 okHdr false 0),
     (.resumeAck 0 { okHdr with lseq := 65536 } false 0), (.event 6 okHdr 0 0), (.event 0 { okHdr with lseq := 65536 } 0 0), (.ack 6 0), (.nak 6 0),
     (.credit 6 0 0), (.replayTimeout 6), (.cmdTimeout 6 0), (.cmdTimeout 0 4096), (.blTagQuarantineEnd 6 0), (.blTagQuarantineEnd 0 4096),
     (.branchLinkUp 6 1), (.branchLinkUp 0 0), (.branchLinkUp 0 3)]).all (fun i => !i.wf) = true := by
  decide

set_option maxRecDepth 40000 in
/-- The commands of ArrayRows: with every operand in range each is well formed. -/
theorem test_well_formed_arrayrows : (show List Instr from
    [(.destage 0 0 []), (.slowMember 0), (.rebuildStart 0 0), (.inspectionRow 0 0), (.regionClear 0 0), (.resync 0 0)]).all Instr.wf = true := by
  decide

set_option maxRecDepth 40000 in
/-- The commands of ArrayRows: each check of WellFormed refuses a command that breaks it. -/
theorem test_ill_formed_arrayrows : (show List Instr from
    [(.destage 256 0 []), (.slowMember 7), (.rebuildStart 7 0), (.rebuildStart 0 7), (.inspectionRow 256 0), (.regionClear 256 0), (.resync 256 0)]).all (fun i => !i.wf) = true := by
  decide

set_option maxRecDepth 40000 in
/-- The commands of Memory: with every operand in range each is well formed. -/
theorem test_well_formed_memory : (show List Instr from
    [(.dramRead 0 0 []), (.dramWrite 0 0 []), (.flipMaskArm 0 0), (.mergeRetire 0 0), (.urgencyEscalate 0 1 0), (.mr4Poll 0 [])]).all Instr.wf = true := by
  decide

set_option maxRecDepth 40000 in
/-- The commands of Memory: each check of WellFormed refuses a command that breaks it. -/
theorem test_ill_formed_memory : (show List Instr from
    [(.dramRead 10 0 []), (.dramRead 0 0 [⟨10, 0, 0⟩]), (.dramWrite 10 0 []), (.dramWrite 0 0 (List.replicate 129 0)), (.flipMaskArm 10 0),
     (.mergeRetire 2 0), (.urgencyEscalate 10 1 0), (.urgencyEscalate 0 0 0), (.urgencyEscalate 0 4 0), (.mr4Poll 2 [])]).all (fun i => !i.wf) = true := by
  decide

set_option maxRecDepth 40000 in
/-- The commands of Scrub: with every operand in range each is well formed. -/
theorem test_well_formed_scrub : (show List Instr from
    [(.platelayerRead (.sram 0 0 [] []))]).all Instr.wf = true := by
  decide

set_option maxRecDepth 40000 in
/-- The commands of Scrub: each check of WellFormed refuses a command that breaks it. -/
theorem test_ill_formed_scrub : (show List Instr from
    [(.platelayerRead (.sram 0 0 [] [72]))]).all (fun i => !i.wf) = true := by
  decide

set_option maxRecDepth 40000 in
/-- The commands of Cipher: with every operand in range each is well formed. -/
theorem test_well_formed_cipher : (show List Instr from
    [(.keyCacheInvalidate .medk none), (.xtsJob okXts), (.opalSet none false false false), (.opalGenkey none)]).all Instr.wf = true := by
  decide

set_option maxRecDepth 40000 in
/-- The commands of Cipher: each check of WellFormed refuses a command that breaks it. -/
theorem test_ill_formed_cipher : (show List Instr from
    [(.keyCacheInvalidate .medk (some 128)), (.xtsJob { okXts with slot := 128 }), (.opalSet (some 128) false false false), (.opalGenkey (some 128))]).all (fun i => !i.wf) = true := by
  decide

set_option maxRecDepth 40000 in
/-- The commands of Guard: with every operand in range each is well formed. -/
theorem test_well_formed_guard : (show List Instr from
    [(.status 0), (.verifyImage 0 okImage), (.measure 0 okImage), (.challenge 0), (.ticket 0 okTicket), (.lifecycle 0 0 0), (.mediaKeyAdvance 0 false),
     (.setTime 0 0), (.spdm 0 0 .getVersion), (.helloBuild 0 0), (.helloCheck 0 0 okHello), (.seal 0 0 [] false), (.unseal 0 0), (.stamp 0),
     (.getCertificate 0 0 0 0), (.spdmChallenge 0 0 0)]).all Instr.wf = true := by
  decide

set_option maxRecDepth 40000 in
/-- The commands of Guard: each check of WellFormed refuses a command that breaks it. -/
theorem test_ill_formed_guard : (show List Instr from
    [(.status 8), (.verifyImage 8 okImage), (.measure 8 okImage), (.challenge 8), (.ticket 8 okTicket), (.lifecycle 8 0 0), (.mediaKeyAdvance 8 false),
     (.setTime 8 0), (.spdm 8 0 .getVersion), (.helloBuild 8 0), (.helloBuild 0 6), (.helloCheck 8 0 okHello), (.helloCheck 0 6 okHello),
     (.helloCheck 0 0 { okHello with mode := 4 }), (.seal 8 0 [] false), (.unseal 8 0), (.stamp 8), (.getCertificate 0 8 0 0), (.spdmChallenge 0 8 0)]).all (fun i => !i.wf) = true := by
  decide

set_option maxRecDepth 40000 in
/-- The commands of Depot: with every operand in range each is well formed. -/
theorem test_well_formed_depot : (show List Instr from
    [(.depotProgram false 0 0 none), (.depotErase false 0 none), (.depotProgramDone 0 false), (.depotEraseDone 0 false), (.depotSuspend 0), (.depotResume 0)]).all Instr.wf = true := by
  decide

set_option maxRecDepth 40000 in
/-- The commands of Depot: each check of WellFormed refuses a command that breaks it. -/
theorem test_ill_formed_depot : (show List Instr from
    [(.depotProgram false 0 0 (some 2)), (.depotErase false 0 (some 2)), (.depotProgramDone 2 false), (.depotEraseDone 2 false), (.depotSuspend 2),
     (.depotResume 2)]).all (fun i => !i.wf) = true := by
  decide

set_option maxRecDepth 40000 in
/-- The commands of Thermal: with every operand in range each is well formed. -/
theorem test_well_formed_thermal : (show List Instr from
    [(.apstTimeout 0)]).all Instr.wf = true := by
  decide

set_option maxRecDepth 40000 in
/-- The commands of Thermal: each check of WellFormed refuses a command that breaks it. -/
theorem test_ill_formed_thermal : (show List Instr from
    [(.apstTimeout 2)]).all (fun i => !i.wf) = true := by
  decide

set_option maxRecDepth 40000 in
/-- The commands of AdminMedia: with every operand in range each is well formed. -/
theorem test_well_formed_adminmedia : (show List Instr from
    [(.selfTestComplete none)]).all Instr.wf = true := by
  decide

set_option maxRecDepth 40000 in
/-- The commands of AdminMedia: each check of WellFormed refuses a command that breaks it. -/
theorem test_ill_formed_adminmedia : (show List Instr from
    [(.selfTestComplete (some 8))]).all (fun i => !i.wf) = true := by
  decide

set_option maxRecDepth 40000 in
/-- The commands of FogRows: with every operand in range each is well formed. -/
theorem test_well_formed_fogrows : (show List Instr from
    [(.lcrc 0 0), (.poison 0 0), (.cplDelay 0 0 0), (.drop 0 0), (.corruptCrc 0 0), (.corruptAuth 0 0), (.reorder 0 0), (.delay 0 0 0), (.readFail 0 0)]).all Instr.wf = true := by
  decide

set_option maxRecDepth 40000 in
/-- The commands of FogRows: each check of WellFormed refuses a command that breaks it. -/
theorem test_ill_formed_fogrows : (show List Instr from
    [(.lcrc 2 0), (.poison 2 0), (.cplDelay 2 0 0), (.drop 6 0), (.corruptCrc 6 0), (.corruptAuth 6 0), (.reorder 6 0), (.delay 6 0 0), (.readFail 0 4)]).all (fun i => !i.wf) = true := by
  decide

set_option maxRecDepth 40000 in
/-- The commands of Registers: with every operand in range each is well formed. -/
theorem test_well_formed_registers : (show List Instr from
    [(.readClear 0), (.registerWrite 0 0)]).all Instr.wf = true := by
  decide

set_option maxRecDepth 40000 in
/-- The commands of Registers: each check of WellFormed refuses a command that breaks it. -/
theorem test_ill_formed_registers : (show List Instr from
    [(.readClear 2), (.readClear 0x100000), (.registerWrite 2 0), (.registerWrite 0x100000 0)]).all (fun i => !i.wf) = true := by
  decide

end Sys2Proof.Tests
end

section
/-! PROOFS, scope family: the straps and the state after reset. -/

namespace Sys2Proof.Machine.State

/-- Straps sampled in a boot that has not sampled them (R2 to R4): a bad set gives the strap-fault state, else the mode; DRAM_GEOM is taken either way. -/
theorem strapSample_takes (x : Straps) {s : State} (hold : s.plat.hold = .none) (mode : s.mode = .unsampled) :
    ∃ t, exec (.strapSample x) s = .next t ∧
      t.mode = (if s.strapsBad ⟨x.mode % 4, x.member % 8, x.bifur, x.bootsrc, x.geom % 4, x.test % 4⟩ then .strapFault else modeOf (x.mode % 4)) ∧
      t.rget Reg.MC_CTRL_GEOM = x.geom % 4 ∧ t.media = s.media := by
  show ∃ t, execStrapSample x s = .next t ∧ _
  unfold execStrapSample
  rw [hold, mode]
  exact ⟨_, rfl, rfl, (rget_rset_same _ _ _).trans (Nat.mod_mod _ _), rfl⟩

/-- Straps are sampled once in a boot. -/
theorem strapSample_again (x : Straps) {s : State} (mode : s.mode ≠ .unsampled) : exec (.strapSample x) s = .next s := by
  show execStrapSample x s = _
  simp [execStrapSample, mode]

/-- A worker's MEMBER_ID is 1 to 6 (R4). -/
theorem strapsBad_worker (s : State) {x : Straps} (worker : x.mode = 2) (member : x.member = 0 ∨ x.member = 7) : s.strapsBad x = true := by
  rcases member with h | h <;> simp [strapsBad, worker, h]

end Sys2Proof.Machine.State

namespace Sys2Proof.Proofs

open Sys2Proof.Machine

/-- Settles O55: every value is read off the reset state. -/
theorem resetState : Obligations.ResetState := by
  have noSegment : ∀ seg, State.reset.segValid seg = false := fun seg => by simp [State.segValid, State.reset]
  exact ⟨rfl, rfl, rfl, rfl, rfl, noSegment, by decide⟩

/-- Settles O58: the sampling takes the bad set to the strap-fault state. -/
theorem workerMemberFault : Obligations.WorkerMemberFault := by
  intro x s hold mode worker member
  obtain ⟨t, run, tmode, -, -⟩ := State.strapSample_takes x hold mode
  refine ⟨t, run, tmode.trans (if_pos ?_)⟩
  exact State.strapsBad_worker s (by simp [worker]) (by rcases member with h | h <;> simp [h])

end Sys2Proof.Proofs
end

section
/-! PROOFS, scope family: DRAM bytes, stored errors and merge entries (chapter 15). -/

namespace Sys2Proof.Machine

/-- What is read at an address after a run of bytes has been put. -/
theorem get_foldl_put_zipIdx (bs : List Byte) (t : Table Byte) (a k x : Nat) :
    Table.get 0#8 ((bs.zipIdx k).foldl (fun t q => Table.put 0#8 t (a + q.2) q.1) t) x =
      if a + k ≤ x ∧ x < a + k + bs.length then bs.getD (x - (a + k)) 0#8 else Table.get 0#8 t x := by
  induction bs generalizing t k with
  | nil => rw [if_neg (by simp)]; rfl
  | cons b bs ih =>
    rw [List.zipIdx_cons, List.foldl_cons, ih]
    by_cases first : x = a + k
    · subst first
      rw [if_neg (by omega), if_pos ⟨Nat.le_refl _, by rw [List.length_cons]; omega⟩, Table.get_put_same, Nat.sub_self, List.getD_cons_zero]
    · rw [Table.get_put_other _ _ _ first]
      by_cases later : a + (k + 1) ≤ x ∧ x < a + (k + 1) + bs.length
      · rw [if_pos later, if_pos ⟨by omega, by simp; omega⟩, show x - (a + k) = x - (a + (k + 1)) + 1 by omega, List.getD_cons_succ]
      · rw [if_neg later, if_neg (by simp; omega)]

/-- A store of bytes from an address up sets those bytes and no other. -/
theorem Mem.byte_store (m : Mem) (a x : Nat) (bs : List Byte) :
    (m.store a bs).byte x = if a ≤ x ∧ x < a + bs.length then bs.getD (x - a) 0#8 else m.byte x :=
  get_foldl_put_zipIdx bs m.dram a 0 x

/-- A store of a word's 128 bytes is read back byte by byte. -/
theorem Mem.byte_storeWord (m : Mem) (w : Nat) (f : Nat → Byte) {i : Nat} (h : i < 128) :
    (m.store (w * 128) ((List.range 128).map f)).byte (w * 128 + i) = f i := by
  rw [Mem.byte_store, if_pos (by simp [h])]
  simp [List.getD_eq_getElem?_getD, h]

/-- It leaves the bytes of every other word. -/
theorem Mem.byte_storeWord_other (m : Mem) (w : Nat) (f : Nat → Byte) {a : Nat} (h : a / 128 ≠ w) :
    (m.store (w * 128) ((List.range 128).map f)).byte a = m.byte a := by
  rw [Mem.byte_store, if_neg (by simp; omega)]

theorem decodeErrs_nil (w : Nat) : decodeErrs w [] = .clean := rfl

theorem decodeErrs_poison (w : Nat) : decodeErrs w poison = .poisoned := by
  unfold decodeErrs
  rw [if_neg (by decide), if_pos rfl]

/-- Errors of one device alone are corrected (R391). -/
theorem decodeErrs_oneDevice {w d : Nat} {t : Table (BitVec 16)} (notPoison : t ≠ poison) (one : errDevs t = [d]) : decodeErrs w t = .corrected d := by
  have some : t.isEmpty = false := by
    cases t with
    | nil =>
      have clean : errDevs [] = [] := by decide
      exact absurd (clean.symm.trans one) (List.cons_ne_nil d []).symm
    | cons p t => rfl
  unfold decodeErrs
  simp only [some, notPoison, one, Bool.false_eq_true, if_false]

namespace State

/-! ## Registers -/

/-- A saturating count is a write of the value it reaches. -/
theorem rsat_eq_rset (s : State) (f : Field) (n : Nat) : s.rsat f n = s.rset f (min (s.rget f + n) (2 ^ f.width - 1)) := rfl

/-- The channel of an address depends on the masks of the hash alone. -/
theorem chanOf_rset (s : State) (f : Field) (v pa : Nat) (lo : (Reg.MC_HASH_LO_MASK_LO 0).key ≠ f.key) (hi : (Reg.MC_HASH_HI_MASK_HI 0).key ≠ f.key) :
    (s.rset f v).chanOf pa = s.chanOf pa := by
  simp only [chanOf, hashOut, rget_rset_other _ _ _ _ lo, rget_rset_other _ _ _ _ hi]

/-! ## Stored errors, merge entries, flip masks -/

@[simp] theorem errsOf_setErrs_same (s : State) (w : Nat) (t : Table (BitVec 16)) : (s.setErrs w t).errsOf w = t := by
  simp [errsOf, setErrs, modMem]

@[simp] theorem setErrs_dram (s : State) (w : Nat) (t : Table (BitVec 16)) : (s.setErrs w t).mem.dram = s.mem.dram := rfl

@[simp] theorem setErrs_out (s : State) (w : Nat) (t : Table (BitVec 16)) : (s.setErrs w t).out = s.out := rfl

@[simp] theorem setErrs_ae (s : State) (w : Nat) (t : Table (BitVec 16)) : (s.setErrs w t).ae = s.ae := rfl

@[simp] theorem rget_setErrs (s : State) (w : Nat) (t : Table (BitVec 16)) (f : Field) : (s.setErrs w t).rget f = s.rget f := rfl

@[simp] theorem logIncident_dram (s : State) (cls port addr dev : Nat) (info : List Nat) : (s.logIncident cls port addr dev info).mem.dram = s.mem.dram := rfl

@[simp] theorem errsOf_logIncident (s : State) (cls port addr dev : Nat) (info : List Nat) (w : Nat) :
    (s.logIncident cls port addr dev info).errsOf w = s.errsOf w := rfl

@[simp] theorem errsOf_rset (s : State) (f : Field) (v w : Nat) : (s.rset f v).errsOf w = s.errsOf w := rfl

/-- Writing a merge buffer touches that buffer and its count in ME_MERGE_STAT (R398). -/
theorem setMerge_zero (s : State) (l : List MergeEntry) :
    s.setMerge 0 l = (s.modMem fun m => { m with merge0 := l }).rset Reg.ME_MERGE_STAT_USED_0 l.length := rfl

theorem setMerge_one (s : State) {ch : Nat} (l : List MergeEntry) (h : ch ≠ 0) :
    s.setMerge ch l = (s.modMem fun m => { m with merge1 := l }).rset Reg.ME_MERGE_STAT_USED_1 l.length := by
  simp [setMerge, h]

@[simp] theorem mergeOf_setMerge_same (s : State) (ch : Nat) (l : List MergeEntry) : (s.setMerge ch l).mergeOf ch = l := by
  by_cases h : ch = 0
  · subst h; rfl
  · rw [setMerge_one s l h, mergeOf, if_neg h]; rfl

@[simp] theorem mergeOf_setErrs (s : State) (w : Nat) (t : Table (BitVec 16)) (ch : Nat) : (s.setErrs w t).mergeOf ch = s.mergeOf ch := rfl

@[simp] theorem mergeOf_rsat (s : State) (f : Field) (n ch : Nat) : (s.rsat f n).mergeOf ch = s.mergeOf ch := rfl

@[simp] theorem mergeOf_store (s : State) (a : Nat) (f : Mem → List Byte) (ch : Nat) : (s.modMem fun m => m.store a (f m)).mergeOf ch = s.mergeOf ch := rfl

@[simp] theorem setMerge_dram (s : State) (ch : Nat) (l : List MergeEntry) : (s.setMerge ch l).mem.dram = s.mem.dram := by
  by_cases h : ch = 0
  · subst h; rfl
  · rw [setMerge_one s l h]; rfl

@[simp] theorem setMerge_errs (s : State) (ch : Nat) (l : List MergeEntry) : (s.setMerge ch l).mem.errs = s.mem.errs := by
  by_cases h : ch = 0
  · subst h; rfl
  · rw [setMerge_one s l h]; rfl

@[simp] theorem setMerge_held (s : State) (ch : Nat) (l : List MergeEntry) : (s.setMerge ch l).mem.held = s.mem.held := by
  by_cases h : ch = 0
  · subst h; rfl
  · rw [setMerge_one s l h]; rfl

@[simp] theorem setMerge_out (s : State) (ch : Nat) (l : List MergeEntry) : (s.setMerge ch l).out = s.out := by
  by_cases h : ch = 0
  · subst h; rfl
  · rw [setMerge_one s l h]; rfl

theorem rget_setMerge (s : State) (ch : Nat) (l : List MergeEntry) (f : Field) (h0 : f.key ≠ Reg.ME_MERGE_STAT_USED_0.key) (h1 : f.key ≠ Reg.ME_MERGE_STAT_USED_1.key) :
    (s.setMerge ch l).rget f = s.rget f := by
  by_cases h : ch = 0
  · subst h; rw [setMerge_zero, rget_rset_other _ _ _ _ h0]; rfl
  · rw [setMerge_one s l h, rget_rset_other _ _ _ _ h1]; rfl

@[simp] theorem errsOf_setMerge (s : State) (ch : Nat) (l : List MergeEntry) (w : Nat) : (s.setMerge ch l).errsOf w = s.errsOf w := by
  simp [errsOf]

/-- The next write of a word meets an armed flip mask of its channel (R400). -/
def flipArmed (s : State) (w : Nat) : Bool := s.flag (Reg.ME_FLIP_D_ARM (s.chanOf (w * 128)))

/-- No flip mask armed, a write is as it was asked for. -/
theorem applyFlip_unarmed {s : State} {w : Nat} (h : s.flipArmed w = false) : s.applyFlip w = s := by
  unfold flipArmed at h
  simp [applyFlip, h]

/-- The records and counts of the memory engine stand between the hash masks and the flip masks. -/
theorem flipArmed_rset (s : State) (f : Field) (v w : Nat) (h : 28672 ≤ f.off ∧ f.off < 28736 ∧ f.lo < 32) : (s.rset f v).flipArmed w = s.flipArmed w := by
  have lo : (Reg.MC_HASH_LO_MASK_LO 0).key ≠ f.key := by simp only [Reg.MC_HASH_LO_MASK_LO, Field.key]; omega
  have hi : (Reg.MC_HASH_HI_MASK_HI 0).key ≠ f.key := by simp only [Reg.MC_HASH_HI_MASK_HI, Field.key]; omega
  have arm : ∀ c, (Reg.ME_FLIP_D_ARM c).key ≠ f.key := fun c => by simp only [Reg.ME_FLIP_D_ARM, Field.key]; omega
  simp only [flipArmed, chanOf_rset s f v _ lo hi, flag_eq, rget_rset_other _ _ _ _ (arm _)]

@[simp] theorem flipArmed_modMem (s : State) (f : Mem → Mem) (w : Nat) : (s.modMem f).flipArmed w = s.flipArmed w := rfl

@[simp] theorem flipArmed_setErrs (s : State) (x : Nat) (t : Table (BitVec 16)) (w : Nat) : (s.setErrs x t).flipArmed w = s.flipArmed w := rfl

@[simp] theorem flipArmed_logIncident (s : State) (cls port addr dev : Nat) (info : List Nat) (w : Nat) :
    (s.logIncident cls port addr dev info).flipArmed w = s.flipArmed w := rfl

@[simp] theorem flipArmed_setMerge (s : State) (ch : Nat) (l : List MergeEntry) (w : Nat) : (s.setMerge ch l).flipArmed w = s.flipArmed w := by
  by_cases h : ch = 0
  · subst h; rw [setMerge_zero, flipArmed_rset _ _ _ _ (by decide)]; rfl
  · rw [setMerge_one s l h, flipArmed_rset _ _ _ _ (by decide)]; rfl

/-! ## Retirement of a merge entry (R398, R399) -/

/-- An entry that is retired over a clean word: a read-modify-write sets the bytes it holds and keeps the rest. -/
theorem retire_clean {s : State} {ch : Nat} {e : MergeEntry} (part : e.bytes.length < 128) (clean : s.errsOf e.word = []) (unarmed : s.flipArmed e.word = false) :
    s.retire ch e = (((s.setMerge ch ((s.mergeOf ch).filter fun x => x.word != e.word)).rsat Reg.ME_MERGE_STAT_RMW).modMem fun m =>
      m.store (e.word * 128) (entryBytes e m)).setErrs e.word [] := by
  simp only [retire, Nat.ne_of_lt part, if_false, rsat_eq_rset, errsOf_rset, errsOf_setMerge, clean, decodeErrs_nil, miscorrect, dramOutcome]
  rw [applyFlip_unarmed]
  · rfl
  · simp [flipArmed_rset, unarmed, Reg.ME_MERGE_STAT_RMW]

/-- A poisoned word stays poisoned under a retired entry: zeros but for the entry's bytes, an error response to each of its requesters (R399). -/
theorem retire_poisoned {s : State} {ch : Nat} {e : MergeEntry} (part : e.bytes.length < 128) (bad : s.errsOf e.word = poison) (unarmed : s.flipArmed e.word = false) :
    ∃ u, s.retire ch e = e.ports.foldl (fun s p => s.emit (.dramError p)) u ∧ u.errsOf e.word = poison ∧
      u.mem.dram = (s.mem.store (e.word * 128) ((List.range 128).map fun i => Table.get 0#8 e.bytes i)).dram := by
  simp only [retire, Nat.ne_of_lt part, if_false, rsat_eq_rset, errsOf_rset, errsOf_setMerge, bad, decodeErrs_poison, dramOutcome, errInfo, if_true]
  rw [applyFlip_unarmed]
  · exact ⟨_, rfl, by simp, by simp [Mem.store]⟩
  · simp [flipArmed_rset, unarmed, Reg.ME_MERGE_STAT_RMW, Reg.ME_CNT_DRAM_POISON, Reg.ME_ERR_ADDR_WORD, Reg.ME_ERR_INFO_PORT, Reg.ME_ERR_INFO_KIND, Reg.ME_ERR_INFO_DEVICE]

/-- A step that leaves the writes that wait, and every byte outside a set of addresses. -/
structure KeepsOutside (P : Nat → Prop) (s t : State) : Prop where
  held : t.mem.held = s.mem.held
  bytes : ∀ a, ¬P a → t.mem.byte a = s.mem.byte a

theorem KeepsOutside.of_dram {P : Nat → Prop} {s t : State} (held : t.mem.held = s.mem.held) (dram : t.mem.dram = s.mem.dram) : KeepsOutside P s t :=
  ⟨held, fun a _ => by simp only [Mem.byte, dram]⟩

theorem KeepsOutside.trans {P : Nat → Prop} {s t u : State} (a : KeepsOutside P s t) (b : KeepsOutside P t u) : KeepsOutside P s u :=
  ⟨b.held.trans a.held, fun x h => (b.bytes x h).trans (a.bytes x h)⟩

theorem KeepsOutside.mono {P Q : Nat → Prop} {s t : State} (h : ∀ a, P a → Q a) (k : KeepsOutside P s t) : KeepsOutside Q s t :=
  ⟨k.held, fun x n => k.bytes x fun p => n (h x p)⟩

/-- Steps that each keep what is outside keep it together. -/
theorem KeepsOutside.foldl {P : Nat → Prop} {α : Type} (f : State → α → State) (l : List α) (s : State) (step : ∀ s, ∀ x ∈ l, KeepsOutside P s (f s x)) :
    KeepsOutside P s (l.foldl f s) :=
  List.foldlRecOn l f (.of_dram rfl rfl) fun t k x m => k.trans (step t x m)

theorem keeps_storeWord (s : State) (w : Nat) (f : Mem → Nat → Byte) :
    KeepsOutside (· / 128 = w) s (s.modMem fun m => m.store (w * 128) ((List.range 128).map (f m))) :=
  ⟨rfl, fun _ h => Mem.byte_storeWord_other _ _ _ h⟩

theorem setErrs_keeps {P : Nat → Prop} (s : State) (w : Nat) (t : Table (BitVec 16)) : KeepsOutside P s (s.setErrs w t) := .of_dram rfl rfl

/-- The outcome of a word's read is counted, logged and written back to the stored errors alone. -/
theorem dramOutcome_keeps {P : Nat → Prop} (s : State) (port w : Nat) (o : DramOutcome) (log : Bool) : KeepsOutside P s (s.dramOutcome port w o log) := by
  cases o with
  | clean => exact .of_dram rfl rfl
  | poisoned => cases log <;> exact .of_dram rfl rfl
  | corrected d => exact .of_dram rfl rfl
  | uncorrectable => exact .of_dram rfl rfl

theorem miscorrect_keeps (s : State) (w : Nat) (t : Table (BitVec 16)) (o : DramOutcome) : KeepsOutside (· / 128 = w) s (s.miscorrect w t o) := by
  unfold miscorrect
  extract_lets wrong
  split
  · exact (keeps_storeWord s w fun _ i => Config.rsMiscorrected w t i).trans (setErrs_keeps _ w [])
  · exact .of_dram rfl rfl

theorem applyFlip_keeps {P : Nat → Prop} (s : State) (w : Nat) : KeepsOutside P s (s.applyFlip w) := by
  unfold applyFlip
  simp only
  split <;> exact .of_dram rfl rfl

/-- The last steps of a retirement: the word is stored, its stored errors set, an armed flip mask used. -/
theorem keeps_storeSetFlip (s : State) (w : Nat) (f : Mem → Nat → Byte) (t : Table (BitVec 16)) :
    KeepsOutside (· / 128 = w) s (((s.modMem fun m => m.store (w * 128) ((List.range 128).map (f m))).setErrs w t).applyFlip w) :=
  ((keeps_storeWord s w f).trans (setErrs_keeps _ w t)).trans (applyFlip_keeps _ w)

/-- A retirement changes bytes of its entry's word only. -/
theorem retire_keeps (s : State) (ch : Nat) (e : MergeEntry) : KeepsOutside (· / 128 = e.word) s (s.retire ch e) := by
  have taken : ∀ l, KeepsOutside (· / 128 = e.word) s (s.setMerge ch l) := fun l => .of_dram (by simp) (by simp)
  have merged := fun (u : State) t => keeps_storeSetFlip u e.word (fun m i => Table.get (m.byte (e.word * 128 + i)) e.bytes i) t
  have bare := fun (u : State) t => keeps_storeSetFlip u e.word (fun _ i => Table.get 0#8 e.bytes i) t
  have told : ∀ u : State, KeepsOutside (· / 128 = e.word) u (e.ports.foldl (fun s p => s.emit (.dramError p)) u) :=
    fun u => .foldl _ _ _ fun _ _ _ => .of_dram rfl rfl
  unfold retire
  simp only
  split
  · exact (taken _).trans (merged _ _)
  · generalize hu : (s.setMerge ch ((s.mergeOf ch).filter fun x => x.word != e.word)).rsat Reg.ME_MERGE_STAT_RMW = u
    have start : KeepsOutside (· / 128 = e.word) s u := hu ▸ (taken _).trans (.of_dram rfl rfl)
    have read := fun o => (miscorrect_keeps u e.word (u.errsOf e.word) o).trans (dramOutcome_keeps _ (e.ports.headD 0) e.word o true)
    have lost := fun o => dramOutcome_keeps (P := (· / 128 = e.word)) u (e.ports.headD 0) e.word o true
    split
    · exact (start.trans (read _)).trans (merged _ _)
    · exact (start.trans (read _)).trans (merged _ _)
    · refine ((start.trans (lost (decodeErrs e.word (u.errsOf e.word)))).trans (bare _ poison)).trans (.trans ?_ (told _))
      split <;> exact .of_dram rfl rfl

end State
end Sys2Proof.Machine
end

section
/-! PROOFS, scope family: upkeep of DRAM and SRAM (chapter 15). -/

namespace Sys2Proof.Machine.State

/-! ## MERGE_RETIRE (R398, R399) -/

theorem exec_mergeRetire {ch w : Nat} {e : MergeEntry} {s : State} (found : (s.mergeOf ch).find? (·.word == w) = some e) :
    exec (.mergeRetire ch w) s = .next (s.retire ch e) := by
  show execMergeRetire ch w s = _
  simp only [execMergeRetire, found]

theorem foldl_emit {α : Type} (f : α → Out) (l : List α) (s : State) : l.foldl (fun s x => s.emit (f x)) s = { s with out := s.out ++ l.map f } := by
  induction l generalizing s with
  | nil => simp
  | cons x l ih => rw [List.foldl_cons, ih]; simp [emit]

theorem mergeRetire_clean {ch w : Nat} {e : MergeEntry} {s : State} (found : (s.mergeOf ch).find? (·.word == w) = some e) (word : e.word = w)
    (part : e.bytes.length < 128) (clean : s.errsOf w = []) (unarmed : s.flipArmed w = false) :
    ∃ t, exec (.mergeRetire ch w) s = .next t ∧ (t.mergeOf ch).find? (·.word == w) = none ∧
      (∀ i, i < 128 → t.mem.byte (w * 128 + i) = Table.get (s.mem.byte (w * 128 + i)) e.bytes i) ∧ (∀ a, a / 128 ≠ w → t.mem.byte a = s.mem.byte a) ∧
      t.rget Reg.ME_MERGE_STAT_RMW = min (s.rget Reg.ME_MERGE_STAT_RMW + 1) 65535 ∧ t.out = s.out := by
  subst word
  refine ⟨_, exec_mergeRetire found, ?_, fun i hi => ?_, (retire_keeps s ch e).bytes, ?_, ?_⟩
  all_goals rw [retire_clean part clean unarmed]
  · rw [mergeOf_setErrs, mergeOf_store, mergeOf_rsat, mergeOf_setMerge_same]
    simp
  · have old : ∀ l a, (s.setMerge ch l).mem.byte a = s.mem.byte a := fun l a => by simp only [Mem.byte, setMerge_dram]
    show Mem.byte (Mem.store _ _ _) _ = _
    rw [entryBytes, Mem.byte_storeWord _ _ _ hi]
    exact congrArg (Table.get · e.bytes i) (old _ _)
  · rw [rget_setErrs, modMem_rget, rget_rsat_same, rget_setMerge _ _ _ _ (by decide) (by decide)]
    rfl
  · exact setMerge_out s ch ((s.mergeOf ch).filter fun x => x.word != e.word)

theorem mergeRetire_poisoned {ch w : Nat} {e : MergeEntry} {s : State} (found : (s.mergeOf ch).find? (·.word == w) = some e) (word : e.word = w)
    (part : e.bytes.length < 128) (bad : s.errsOf w = poison) (unarmed : s.flipArmed w = false) :
    ∃ t, exec (.mergeRetire ch w) s = .next t ∧ (∀ i, i < 128 → t.mem.byte (w * 128 + i) = Table.get 0#8 e.bytes i) ∧
      (∀ a, a / 128 ≠ w → t.mem.byte a = s.mem.byte a) ∧ t.errsOf w = poison ∧ (∀ p ∈ e.ports, Out.dramError p ∈ t.out) := by
  subst word
  obtain ⟨u, retired, errs, dram⟩ := retire_poisoned (ch := ch) part bad unarmed
  rw [foldl_emit Out.dramError] at retired
  refine ⟨_, exec_mergeRetire found, fun i hi => ?_, (retire_keeps s ch e).bytes, ?_, fun p hp => ?_⟩
  all_goals rw [retired]
  · have stored := Mem.byte_storeWord s.mem e.word (fun i => Table.get 0#8 e.bytes i) hi
    rwa [Mem.byte, ← dram] at stored
  · exact errs
  · exact List.mem_append_right _ (List.mem_map_of_mem hp)

/-! ## SWEEP_SEGMENT_DONE and SEG_INVAL (R395 to R397) -/

@[simp] theorem sweepStat_mem (s : State) : s.sweepStat.mem = s.mem := rfl

/-- The capacity follows the DRAM_GEOM strap alone (R384). -/
theorem segCount_rset (s : State) (f : Field) (v : Nat) (h : Reg.MC_CTRL_GEOM.key ≠ f.key) : (s.rset f v).segCount = s.segCount := by
  simp only [segCount, dramBytes, rget_rset_other _ _ _ _ h]

/-- SWEEP_DONE: every segment has been swept and none is to be swept again. -/
theorem sweepStat_done (s : State) : s.sweepStat.rget Reg.ME_STAT_SWEEP_DONE = bit (decide (s.segCount ≤ s.mem.sweepSeg) && s.mem.inval.isEmpty) := by
  simp only [sweepStat, rget_rset_same]
  cases (decide (s.segCount ≤ s.mem.sweepSeg) && s.mem.inval.isEmpty) <;> rfl

theorem segCount_sweepStat (s : State) : s.sweepStat.segCount = s.segCount := by
  simp only [sweepStat, segCount_rset _ _ _ (show Reg.MC_CTRL_GEOM.key ≠ Reg.ME_STAT_SWEEP_DONE.key by decide),
    segCount_rset _ _ _ (show Reg.MC_CTRL_GEOM.key ≠ Reg.ME_STAT_SWEEP_SEG.key by decide)]

/-- The priority list follows the writes that wait, and ME_STAT with it; nothing else of the memory side changes. -/
theorem fillPrio_frame (s : State) : (∃ l, s.fillPrio.mem = { s.mem with prio := l }) ∧ s.fillPrio.segCount = s.segCount := by
  have listed : ∃ l, s.mem.held.foldl (fun s h =>
      let seg := h.addr / 2 ^ 21
      if s.mem.prio.contains seg || 16 ≤ s.mem.prio.length then s else s.modMem fun m => { m with prio := m.prio ++ [seg] }) s = s.modMem fun m => { m with prio := l } := by
    refine List.foldlRecOn (motive := fun t => ∃ l, t = s.modMem fun m => { m with prio := l }) s.mem.held _ ⟨s.mem.prio, rfl⟩ ?_
    rintro t ⟨l, rfl⟩ h -
    simp only
    split
    · exact ⟨l, rfl⟩
    · exact ⟨_, rfl⟩
  obtain ⟨l, e⟩ := listed
  rw [fillPrio, e]
  exact ⟨⟨l, rfl⟩, by rw [segCount_sweepStat, segCount_rset _ _ _ (by decide)]; rfl⟩

/-- A segment that no write waits for becomes zero data without errors, and the sweeper goes on (R395). -/
theorem segmentSwept_quiet {s : State} {seg : Nat} {f : Mem → Mem} (keeps : ∀ m, (f m).held = m.held) (quiet : ∀ h ∈ s.mem.held, h.addr / 2 ^ 21 ≠ seg) :
    s.segmentSwept seg f = ((s.modMem fun m => f { m with
      dram := m.dram.filter fun c => c.1 / 2 ^ 21 != seg
      errs := m.errs.filter fun p => p.1 / 2 ^ 14 != seg
      prio := m.prio.filter (· != seg) }).modMem fun m => { m with held := m.held.filter fun h => h.addr / 2 ^ 21 != seg }).fillPrio := by
  have none : s.mem.held.filter (fun h => h.addr / 2 ^ 21 == seg) = [] := List.filter_eq_nil_iff.mpr fun h m => by simpa using quiet h m
  unfold segmentSwept
  simp only [modMem, keeps, none, List.foldl_nil]

/-- The sweeper's place after the segment it has swept in ascending order. -/
def sweptNext (seg : Nat) (m : Mem) : Mem := { m with sweepSeg := seg + 1, early := m.early.filter (· != seg) }

/-- With nothing to be swept first, the next segment in ascending order is the one swept. -/
theorem exec_sweepSegmentDone {s : State} (runs : s.mem.sweeping = true) (prio : s.mem.prio = []) (inval : s.mem.inval = []) (left : s.mem.sweepSeg < s.segCount)
    (fresh : s.mem.sweepSeg ∉ s.mem.early) :
    exec .sweepSegmentDone s = .next (s.segmentSwept s.mem.sweepSeg (sweptNext s.mem.sweepSeg)).sweepStat := by
  show execSweepSegmentDone s = _
  unfold execSweepSegmentDone sweptNext
  simp [runs, prio, inval, Nat.not_le.mpr left, fresh]

theorem sweepSegmentDone_next {s : State} (runs : s.mem.sweeping = true) (prio : s.mem.prio = []) (inval : s.mem.inval = []) (left : s.mem.sweepSeg < s.segCount)
    (fresh : s.mem.sweepSeg ∉ s.mem.early) (quiet : ∀ h ∈ s.mem.held, h.addr / 2 ^ 21 ≠ s.mem.sweepSeg) :
    ∃ t, exec .sweepSegmentDone s = .next t ∧ t.mem.sweepSeg = s.mem.sweepSeg + 1 ∧ t.segValid s.mem.sweepSeg = true ∧
      (∀ a, a / 2 ^ 21 = s.mem.sweepSeg → t.mem.byte a = 0#8) ∧ (∀ a, a / 2 ^ 21 ≠ s.mem.sweepSeg → t.mem.byte a = s.mem.byte a) ∧
      t.rget Reg.ME_STAT_SWEEP_DONE = bit (decide (s.segCount = s.mem.sweepSeg + 1)) := by
  refine ⟨_, exec_sweepSegmentDone runs prio inval left fresh, ?_⟩
  rw [segmentSwept_quiet (f := sweptNext s.mem.sweepSeg) (fun _ => rfl) quiet]
  generalize hu : State.modMem (State.modMem s _) _ = u
  obtain ⟨⟨l, mem⟩, count⟩ := fillPrio_frame u
  have seg : u.mem.sweepSeg = s.mem.sweepSeg + 1 := by rw [← hu]; rfl
  have again : u.mem.inval = [] := by rw [← hu]; exact inval
  have capacity : u.segCount = s.segCount := by rw [← hu]; rfl
  have byte : ∀ a, u.fillPrio.mem.byte a = if a / 2 ^ 21 != s.mem.sweepSeg then s.mem.byte a else 0#8 := fun a => by
    rw [mem, ← hu]
    show Table.get _ (s.mem.dram.filter fun c => c.1 / 2 ^ 21 != s.mem.sweepSeg) a = _
    rw [Table.get, Table.find_filter fun k => k / 2 ^ 21 != s.mem.sweepSeg]
    split <;> rfl
  rw [sweepStat_done, count, capacity]
  simp only [segValid, sweepStat_mem, byte]
  simp only [mem, seg, again]
  refine ⟨trivial, by simp, fun a h => if_neg (by rw [h]; simp), fun a h => if_pos (by simpa using h), ?_⟩
  rw [List.isEmpty_nil, Bool.and_true]
  exact congrArg bit (decide_eq_decide.mpr (by omega))

/-- The merge entries of a segment retire before it is invalidated: nothing outside it changes (R397, R398). -/
theorem retireSegment_keeps (s : State) (seg : Nat) :
    KeepsOutside (· / 2 ^ 21 = seg) s
      ([0, 1].foldl (fun s ch => ((s.mergeOf ch).filter fun e => e.word / 2 ^ 14 == seg).foldl (fun s e => s.retire ch e) s) s) := by
  refine .foldl _ _ s fun t ch _ => .foldl _ _ t fun u e he => (retire_keeps u ch e).mono fun a ha => ?_
  have inSeg : e.word / 2 ^ 14 = seg := by simpa using (List.mem_filter.mp he).2
  omega

theorem exec_segInval {seg : Nat} {s : State} (exists_ : seg < s.segCount) (valid : s.segValid seg = true) :
    ∃ u, KeepsOutside (· / 2 ^ 21 = seg) s u ∧
      exec (.segInval seg) s = .next (u.modMem fun m => { m with early := m.early.filter (· != seg), inval := m.inval ++ [seg] }).sweepStat := by
  refine ⟨_, retireSegment_keeps s seg, ?_⟩
  show execSegInval seg s = _
  unfold execSegInval
  rw [if_neg (by simp [valid]; omega)]

theorem segInval_valid {seg : Nat} {s : State} (exists_ : seg < s.segCount) (valid : s.segValid seg = true) :
    ∃ t, exec (.segInval seg) s = .next t ∧ t.segValid seg = false ∧ (∀ a, a / 2 ^ 21 ≠ seg → t.mem.byte a = s.mem.byte a) ∧ t.mem.held = s.mem.held := by
  obtain ⟨u, keeps, run⟩ := exec_segInval exists_ valid
  refine ⟨_, run, ?_, keeps.bytes, keeps.held⟩
  simp [segValid, modMem]

end Sys2Proof.Machine.State
end

section
/-! PROOFS, scope family: the Platelayer, late requests, refresh, flip masks, SRAM words (chapter 15). -/

namespace Sys2Proof.Machine.State

/-! ## The Platelayer's read of a DRAM word (R401, R402) -/

/-- The Platelayer's walk over DRAM: the word's outcome, then nothing but ME_SCRUB_STAT. -/
theorem exec_platelayerRead_dram {w : Nat} {upset : List SymErr} {s : State} (on : s.flag Reg.ME_CTRL_SCRUB_EN = true) (operational : s.plat.nonOp ≠ some 4)
    (inside : w < s.dramBytes / 128) (valid : s.segValid (w / 2 ^ 14) = true) (awake : s.flag Reg.MC_STAT_SELF_REFRESH = false)
    {e : Table (BitVec 16)} {o : DramOutcome} {u : State} (errs : addErrs (s.errsOf w) upset = e) (decoded : decodeErrs w e = o)
    (read : ((s.setErrs w e).miscorrect w e o).dramOutcome 8 w o (o != .poisoned) = u) :
    ∃ t, exec (.platelayerRead (.dram w upset)) s = .next t ∧ t.mem = u.mem ∧ t.out = u.out ∧ t.ae = u.ae ∧
      ∀ f : Field, f.key ≠ Reg.ME_SCRUB_STAT_DRAM_PCT.key → f.key ≠ Reg.ME_SCRUB_STAT_DRAM_PASS.key → t.rget f = u.rget f := by
  show ∃ t, execPlatelayerRead (.dram w upset) s = .next t ∧ _
  unfold execPlatelayerRead
  rw [if_neg (by simp [on, operational])]
  simp only
  rw [if_neg (by rw [valid, awake]; simp; omega)]
  subst errs decoded read
  refine ⟨_, rfl, ?_⟩
  split
  · refine ⟨rfl, rfl, rfl, fun f pct pass => ?_⟩
    rw [rget_rset_other _ _ _ _ pct, rget_rwrap_other _ _ _ _ pass, rget_rset_other _ _ _ _ pct]
  · exact ⟨rfl, rfl, rfl, fun f pct _ => rget_rset_other _ _ _ _ pct⟩

/-- A word corrected: counted, recorded with the port, the kind and the device, and written back (R391). -/
theorem dramOutcome_corrected (s : State) (port w d : Nat) (log : Bool) :
    (s.dramOutcome port w (.corrected d) log).errsOf w = [] ∧
      (s.dramOutcome port w (.corrected d) log).rget Reg.ME_CNT_DRAM_CE = min (s.rget Reg.ME_CNT_DRAM_CE + 1) 65535 ∧
      (s.dramOutcome port w (.corrected d) log).rget Reg.ME_ERR_INFO_PORT = port % 16 := by
  simp (disch := decide) only [dramOutcome, errInfo, errsOf_setErrs_same, rget_setErrs, rget_rset_other, rget_rset_same, rget_rsat_same, true_and]
  exact ⟨rfl, rfl⟩

theorem dramOutcome_corrected_frame (s : State) (port w d : Nat) (log : Bool) :
    (s.dramOutcome port w (.corrected d) log).mem.dram = s.mem.dram ∧ (s.dramOutcome port w (.corrected d) log).out = s.out ∧
      (s.dramOutcome port w (.corrected d) log).ae = s.ae := by
  simp only [dramOutcome, errInfo, setErrs_dram, setErrs_out, setErrs_ae, rset_mem, rset_out, rset_ae, rsat_mem, rsat_out, rsat_ae, and_self]

theorem platelayerRead_corrected {w d : Nat} {upset : List SymErr} {s : State} (on : s.flag Reg.ME_CTRL_SCRUB_EN = true) (inside : w < s.dramBytes / 128)
    (valid : s.segValid (w / 2 ^ 14) = true) (awake : s.flag Reg.MC_STAT_SELF_REFRESH = false) (operational : s.plat.nonOp ≠ some 4)
    (notPoison : addErrs (s.errsOf w) upset ≠ poison) (one : errDevs (addErrs (s.errsOf w) upset) = [d]) :
    ∃ t, exec (.platelayerRead (.dram w upset)) s = .next t ∧ t.errsOf w = [] ∧ t.rget Reg.ME_CNT_DRAM_CE = min (s.rget Reg.ME_CNT_DRAM_CE + 1) 65535 ∧
      t.rget Reg.ME_ERR_INFO_PORT = 8 ∧ t.mem.dram = s.mem.dram ∧ t.out = s.out ∧ t.ae = s.ae := by
  obtain ⟨t, run, mem, out, ae, regs⟩ := exec_platelayerRead_dram on operational inside valid awake rfl (decodeErrs_oneDevice notPoison one) rfl
  generalize addErrs (s.errsOf w) upset = e at *
  have asIs : (s.setErrs w e).miscorrect w e (.corrected d) = s.setErrs w e := by simp [miscorrect, one]
  rw [asIs] at mem out ae regs
  obtain ⟨errs, count, port⟩ := dramOutcome_corrected (s.setErrs w e) 8 w d (DramOutcome.corrected d != .poisoned)
  obtain ⟨frameDram, frameOut, frameAe⟩ := dramOutcome_corrected_frame (s.setErrs w e) 8 w d (DramOutcome.corrected d != .poisoned)
  rw [rget_setErrs] at count
  refine ⟨t, run, ?_, (regs _ (by decide) (by decide)).trans count, (regs _ (by decide) (by decide)).trans port, ?_, out.trans frameOut, ae.trans frameAe⟩
  · rwa [errsOf, ← mem] at errs
  · rw [mem, frameDram, setErrs_dram]

/-! ## Requests and refresh (R388, R406) -/

theorem urgencyEscalate_late {port latNs : Nat} {s : State} (exists_ : port < 10) (late : s.rget (Reg.MC_PORT_CFG_TARGET_NS port) ≤ latNs) :
    ∃ t, exec (.urgencyEscalate port 3 latNs) s = .next t ∧ t.rget (Reg.MC_PORT_STAT_LATE port) = min (s.rget (Reg.MC_PORT_STAT_LATE port) + 1) 65535 ∧
      t.rget (Reg.MC_PORT_STAT_MAX_LAT port) = max (s.rget (Reg.MC_PORT_STAT_MAX_LAT port)) (min 65535 (latNs / 16)) % 65536 ∧ t.mem = s.mem := by
  show ∃ t, execUrgencyEscalate port 3 latNs s = .next t ∧ _
  have level : s.urgency port latNs = 3 := by
    unfold urgency
    simp only
    rw [if_neg (by omega), if_neg (by omega), if_neg (by omega)]
  have apart : (Reg.MC_PORT_STAT_LATE port).key ≠ (Reg.MC_PORT_STAT_MAX_LAT port).key := by simp [Reg.MC_PORT_STAT_LATE, Reg.MC_PORT_STAT_MAX_LAT, Field.key]
  unfold execUrgencyEscalate
  rw [if_neg (by simp [level]; omega)]
  refine ⟨_, rfl, ?_, ?_, rfl⟩
  · rw [rget_rset_other _ _ _ _ apart]
    exact rget_rsat_same _ _ _
  · rw [rget_rset_same, if_pos rfl, rget_rsat_other _ _ _ _ apart.symm]
    rfl

/-- A step that leaves the memory side and the refresh rate of the channels. -/
structure KeepsRefresh (s t : State) : Prop where
  mem : t.mem = s.mem
  rate : t.rget Reg.MC_STAT_REF2X = s.rget Reg.MC_STAT_REF2X

theorem KeepsRefresh.refl (s : State) : KeepsRefresh s s := ⟨rfl, rfl⟩

theorem KeepsRefresh.trans {s t u : State} (a : KeepsRefresh s t) (b : KeepsRefresh t u) : KeepsRefresh s u := ⟨b.mem.trans a.mem, b.rate.trans a.rate⟩

theorem rset_keepsRefresh (s : State) (f : Field) (v : Nat) (h : Reg.MC_STAT_REF2X.key ≠ f.key) : KeepsRefresh s (s.rset f v) := ⟨rfl, rget_rset_other _ _ _ _ h⟩

theorem countWait_keepsRefresh (s : State) (n : Nat) : KeepsRefresh s (s.countWait n) := by
  unfold countWait
  split
  · exact .refl s
  · exact (rset_keepsRefresh _ _ _ (by decide)).trans (rset_keepsRefresh _ _ _ (by decide))

/-- The end of a served wake: nothing waits on it any more, or the last one ends the non-operational state. -/
theorem KeepsRefresh.ite_nonOp {s t : State} (c : Prop) [Decidable c] (h : KeepsRefresh s t) :
    KeepsRefresh s (if c then { t with plat := { t.plat with nonOp := none } } else t) := by
  split
  · exact h.trans ⟨rfl, rfl⟩
  · exact h

/-- A wake that is served touches its clocks, its die, channel or port, and the self-refresh state. -/
theorem serve_keepsRefresh (s : State) (r : TokenReq) : KeepsRefresh s (s.serve r) := by
  unfold serve
  extract_lets p u
  have ungated : KeepsRefresh s u := ⟨rfl, rfl⟩
  have counted := ungated.trans (countWait_keepsRefresh u r.waited)
  clear_value u
  cases r.wake with
  | flash d => exact ungated.trans ⟨rfl, rfl⟩
  | channel ch =>
    refine (ungated.trans (rset_keepsRefresh _ _ _ ?_)).trans (countWait_keepsRefresh _ _)
    simp only [Reg.MC_STAT_REF2X, Reg.SB_CH_STAT_POWERED, Field.key]
    omega
  | lane p n =>
    refine .ite_nonOp _ (counted.trans ?_)
    simp only
    split
    · exact .refl _
    · exact ⟨rfl, rfl⟩
  | dram ch =>
    refine .ite_nonOp _ (counted.trans ?_)
    simp only
    split
    · exact .refl _
    · exact rset_keepsRefresh _ _ _ (by decide)
  | box ch => exact .ite_nonOp _ counted
  | core n => exact .ite_nonOp _ counted
  | softDec n => exact .ite_nonOp _ counted
  | bank n => exact .ite_nonOp _ counted

theorem serveTokens_keepsRefresh (n : Nat) (s : State) (m : Nat) : KeepsRefresh s (serveTokens n s m).1 := by
  induction n generalizing s m with
  | zero => exact .refl s
  | succ n ih =>
    unfold serveTokens
    split
    · exact .refl s
    · split
      · exact ⟨rfl, rfl⟩
      · extract_lets p u
        have taken : KeepsRefresh s u := ⟨rfl, rfl⟩
        exact (taken.trans (serve_keepsRefresh _ _)).trans (ih _ _)

theorem grant_keepsRefresh (s : State) : KeepsRefresh s s.grant :=
  ((serveTokens_keepsRefresh _ s _).trans (rset_keepsRefresh _ _ _ (by decide))).trans (rset_keepsRefresh _ _ _ (by decide))

theorem askTokens_keepsRefresh (s : State) (ws : List Wake) : KeepsRefresh s (s.askTokens ws) := by
  refine .trans (List.foldlRecOn (motive := KeepsRefresh s) ws _ (.refl s) fun t k w _ => k.trans ?_) (grant_keepsRefresh _)
  split
  · exact .refl t
  · exact ⟨rfl, rfl⟩

/-- The limits of a throttle step and a power state are of the Timetable and the decoders (R479, R484). -/
theorem setBudget_keepsRefresh (s : State) : KeepsRefresh s s.setBudget := by
  have power : KeepsRefresh s s.softPower := by
    unfold softPower
    split
    · exact ⟨rfl, rfl⟩
    · split
      · exact askTokens_keepsRefresh _ _
      · exact .refl s
  unfold setBudget
  simp only
  split
  · exact power
  · exact (power.trans (rset_keepsRefresh _ _ _ (by decide))).trans (rset_keepsRefresh _ _ _ (by decide))

theorem hotStep_keepsRefresh (s : State) : KeepsRefresh s s.hotStep := by
  have shown : KeepsRefresh s (s.rset Reg.TH_STAT_DRAM_HOT (bit !s.mem.hot.isEmpty)) := rset_keepsRefresh _ _ _ (by decide)
  unfold hotStep
  simp only
  split
  · exact ((shown.trans (rset_keepsRefresh _ _ _ (by decide))).trans (rset_keepsRefresh _ _ _ (by decide))).trans (setBudget_keepsRefresh _)
  · exact shown

/-- A device at 85 C or above has its channel refreshed at double rate; none above 95 C, the channel is not hot (R406, R478). -/
theorem mr4Poll_warm {ch : Nat} {temps : List Int} {s : State} (exists_ : ch < 2) (awake : s.flag Reg.MC_STAT_SELF_REFRESH = false)
    (warm : ∃ x ∈ temps, 85 ≤ x) (notHot : ∀ x ∈ temps, x ≤ 95) :
    ∃ t, exec (.mr4Poll ch temps) s = .next t ∧ t.rget Reg.MC_STAT_REF2X / 2 ^ ch % 2 = 1 ∧ ch ∉ t.mem.hot ∧ t.mem.dram = s.mem.dram := by
  show ∃ t, execMr4Poll ch temps s = .next t ∧ _
  have any : (temps.any fun t => decide (85 ≤ t)) = true := by simpa using warm
  have none : temps.zipIdx.filter (fun q => decide (95 < q.1)) = [] := List.filter_eq_nil_iff.mpr fun q m => by
    simpa using notHot q.1 (List.fst_mem_of_mem_zipIdx m)
  unfold execMr4Poll
  rw [if_neg (by rw [awake]; simp; omega)]
  simp only [any, none, List.foldl_nil, List.isEmpty_nil, if_true]
  refine ⟨_, rfl, ?_, ?_, ?_⟩
  · rw [(hotStep_keepsRefresh _).rate, modMem_rget]
    split
    · simp_all
    · rename_i single
      rw [rget_rset_same]
      obtain rfl | rfl : ch = 0 ∨ ch = 1 := by omega
      all_goals
        simp [Reg.MC_STAT_REF2X] at single ⊢
        omega
  · rw [(hotStep_keepsRefresh _).mem]
    simp [modMem]
  · rw [(hotStep_keepsRefresh _).mem]
    split <;> rfl

/-! ## Flip masks (R400) -/

theorem flipMaskArm_denied {g : Nat} {v : Word} {s : State} (closed : s.gateOpen 4 = false) (arm : v.toNat % 2 = 1) :
    exec (.flipMaskArm g v) s = .next (s.rset Reg.FG_STAT_DENIED 1) := by
  show execFlipMaskArm g v s = _
  simp [execFlipMaskArm, closed, arm]

theorem flipMaskArm_dram {ch : Nat} {v : Word} {s : State} (exists_ : ch < 2) (open_ : s.gateOpen 4 = true) (arm : v.toNat % 2 = 1) :
    ∃ t, exec (.flipMaskArm ch v) s = .next t ∧ t.flag (Reg.ME_FLIP_D_ARM ch) = true ∧ t.rget (Reg.ME_FLIP_D_DEV_A ch) = v.toNat / 4 % 16 ∧
      t.rget (Reg.ME_FLIP_D_PATTERN ch) = v.toNat / 2 ^ 16 % 2 ^ 16 ∧ t.mem = s.mem := by
  have run : ∃ t, exec (.flipMaskArm ch v) s = .next t ∧ t = ((((((s.rset (Reg.ME_FLIP_D_ARM ch) v.toNat).rset (Reg.ME_FLIP_D_TWO ch) (v.toNat / 2)).rset
      (Reg.ME_FLIP_D_DEV_A ch) (v.toNat / 4)).rset (Reg.ME_FLIP_D_DEV_B ch) (v.toNat / 2 ^ 6)).rset (Reg.ME_FLIP_D_SYM ch) (v.toNat / 2 ^ 10)).rset
      (Reg.ME_FLIP_D_PATTERN ch) (v.toNat / 2 ^ 16)) := by
    refine ⟨_, ?_, rfl⟩
    show execFlipMaskArm ch v s = _
    simp [execFlipMaskArm, open_, exists_]
  obtain ⟨t, run, rfl⟩ := run
  obtain rfl | rfl : ch = 0 ∨ ch = 1 := by omega
  all_goals
    refine ⟨_, run, ?_, ?_, ?_, rfl⟩
    · simp (disch := decide) only [flag_eq, rget_rset_other, rget_rset_same]
      simp [Reg.ME_FLIP_D_ARM, arm]
    · simp (disch := decide) only [rget_rset_other, rget_rset_same]
      rfl
    · exact rget_rset_same _ _ _

/-! ## SRAM words (R393, R394, R401 to R403) -/

@[simp] theorem sramWord_putSram_same (s : State) (g w : Nat) (x : SramWord) : (s.putSram g w x).sramWord g w = some x := by
  simp [sramWord, putSram, modMem, Table.find_ins_same]

@[simp] theorem rget_putSram (s : State) (g w : Nat) (x : SramWord) (f : Field) : (s.putSram g w x).rget f = s.rget f := rfl

@[simp] theorem putSram_dram (s : State) (g w : Nat) (x : SramWord) : (s.putSram g w x).mem.dram = s.mem.dram := rfl

@[simp] theorem putSram_incidents (s : State) (g w : Nat) (x : SramWord) : (s.putSram g w x).mem.nextIncident = s.mem.nextIncident := rfl

@[simp] theorem putSram_out (s : State) (g w : Nat) (x : SramWord) : (s.putSram g w x).out = s.out := rfl

@[simp] theorem sramWord_rsat (s : State) (f : Field) (n g w : Nat) : (s.rsat f n).sramWord g w = s.sramWord g w := rfl

@[simp] theorem sramWord_logIncident (s : State) (cls port addr dev : Nat) (info : List Nat) (g w : Nat) :
    (s.logIncident cls port addr dev info).sramWord g w = s.sramWord g w := rfl

@[simp] theorem logIncident_next (s : State) (cls port addr dev : Nat) (info : List Nat) :
    (s.logIncident cls port addr dev info).mem.nextIncident = (s.mem.nextIncident + 1) % 2 ^ 32 := rfl

@[simp] theorem sramWord_rset (s : State) (f : Field) (v g w : Nat) : (s.rset f v).sramWord g w = s.sramWord g w := rfl

/-- A word written where no flip mask is armed and at most one of its bits was wrong: the bytes enabled, over the old data or zeros. -/
theorem sramWrite_sound {s : State} {g w : Nat} {x : SramWrite} (unarmed : s.flag (Reg.ME_FLIP_S_ARM g) = false)
    (sound : ∀ o, s.sramWord g w = some o → o.flips.length ≤ 1) :
    s.sramWrite g w x = s.putSram g w ⟨mergeBytes (((s.sramWord g w).map (·.data)).getD 0#64) x.data x.bytes, []⟩ := by
  unfold sramWrite
  simp only [unarmed, Bool.false_eq_true, if_false]
  congr 2
  split
  · rfl
  · cases old : s.sramWord g w with
    | none => rfl
    | some o => exact if_neg (by have := sound o old; omega)

/-- The place of the Platelayer's SRAM walk before it reads a word: word 0 of group 0 ends a pass in which others were read. -/
def sramWalk (s : State) (first : Bool) : State :=
  (if first && s.mem.sramPart then s.rwrap Reg.ME_SCRUB_STAT_SRAM_PASS else s).modMem fun m => { m with sramPart := !first }

theorem exec_platelayerRead_sram {g w : Nat} (writes : List SramWrite) (upset : List Nat) {s : State} (on : s.flag Reg.ME_CTRL_SCRUB_EN = true)
    (operational : s.plat.nonOp ≠ some 4) (exists_ : g < 8) :
    exec (.platelayerRead (.sram g w writes upset)) s =
      .next ((writes.foldl (fun s x => sramWrite s g w x) (s.sramWalk (decide (g = 0) && decide (w = 0)))).scrubSram g w upset) := by
  show execPlatelayerRead (.sram g w writes upset) s = _
  unfold execPlatelayerRead
  rw [if_neg (by simp [on, operational])]
  simp only
  rw [if_neg (by omega)]
  rfl

theorem sramWalk_mem (s : State) (first : Bool) : (s.sramWalk first).mem = { s.mem with sramPart := !first } := by
  unfold sramWalk
  split <;> rfl

@[simp] theorem sramWalk_out (s : State) (first : Bool) : (s.sramWalk first).out = s.out := by
  unfold sramWalk
  split <;> rfl

@[simp] theorem sramWord_sramWalk (s : State) (first : Bool) (g w : Nat) : (s.sramWalk first).sramWord g w = s.sramWord g w := by
  simp only [sramWord, sramWalk_mem]

theorem rget_sramWalk (s : State) (first : Bool) (f : Field) (h : f.key ≠ Reg.ME_SCRUB_STAT_SRAM_PASS.key) : (s.sramWalk first).rget f = s.rget f := by
  unfold sramWalk
  split
  · exact rget_rwrap_other _ _ _ _ h
  · rfl

theorem sramArm_key (g : Nat) : (Reg.ME_FLIP_S_ARM g).key ≠ Reg.ME_SCRUB_STAT_SRAM_PASS.key := by
  simp only [Reg.ME_FLIP_S_ARM, Reg.ME_SCRUB_STAT_SRAM_PASS, Field.key]
  omega

/-- A word without a wrong bit is found so (R393). -/
theorem scrubSram_clean {s : State} {g w : Nat} {d : BitVec 64} (h : s.sramWord g w = some ⟨d, []⟩) : s.scrubSram g w [] = s.putSram g w ⟨d, []⟩ := by
  simp [scrubSram, h, csMerge, sramCheck]

/-- A word that is not valid is not checked (R394). -/
theorem scrubSram_invalid {s : State} {g w : Nat} (upset : List Nat) (h : s.sramWord g w = none) : s.scrubSram g w upset = s := by
  simp [scrubSram, h]

/-- One wrong bit is corrected, counted and recorded (R393, R402). -/
theorem scrubSram_oneBit {s : State} {g w b : Nat} {d : BitVec 64} (h : s.sramWord g w = some ⟨d, []⟩) (bit : b < 72) (ae : g ≠ 1) (pcie : g ≠ 5) :
    s.scrubSram g w [b] = (((s.putSram g w ⟨d, []⟩).rsat Reg.ME_CNT_SRAM_CE).errInfo w 8 4 0).rset Reg.ME_ERR_INFO_GROUP g := by
  have upset : csMerge [] ([b].filter fun b => decide (b < 72)) = [b] := by
    have : b < 176 := by omega
    simp [csMerge, bit, this, List.eraseDups_cons]
  simp only [scrubSram, h, upset, sramCheck, sramCorrected]

/-- Two wrong bits are uncorrectable: counted, recorded, logged; a word of group 0 is loaded again by its owner (R393, R403). -/
theorem scrubSram_twoBits {s : State} {w a b : Nat} {d : BitVec 64} (h : s.sramWord 0 w = some ⟨d, []⟩) (ha : a < 72) (hb : b < 72) (two : a ≠ b) :
    s.scrubSram 0 w [a, b] = ((((((s.putSram 0 w ⟨d, [a, b]⟩).rsat Reg.ME_CNT_SRAM_UE).errInfo w 8 5 0).rset Reg.ME_ERR_INFO_GROUP 0).logIncident 0x03 0x10 w 0xFF []).putSram 0 w ⟨d, []⟩) := by
  have upset : csMerge [] ([a, b].filter fun b => decide (b < 72)) = [a, b] := by
    have : a < 176 := by omega
    have : b < 176 := by omega
    simp [csMerge, *, List.eraseDups_cons, two.symm]
  simp only [scrubSram, h, upset, sramCheck, sramOwner, errInfo, sramWord_logIncident, sramWord_rset, sramWord_rsat, sramWord_putSram_same, Option.map_some, Option.getD_some, Nat.add_zero]

section
variable {g w : Nat} {s : State} (on : s.flag Reg.ME_CTRL_SCRUB_EN = true) (operational : s.plat.nonOp ≠ some 4) (exists_ : g < 8)
include on operational exists_

theorem platelayerRead_written (x : SramWrite) (unarmed : s.flag (Reg.ME_FLIP_S_ARM g) = false) (sound : ∀ o, s.sramWord g w = some o → o.flips.length ≤ 1) :
    ∃ t, exec (.platelayerRead (.sram g w [x] [])) s = .next t ∧
      t.sramWord g w = some ⟨mergeBytes (((s.sramWord g w).map (·.data)).getD 0#64) x.data x.bytes, []⟩ ∧
      t.mem.dram = s.mem.dram ∧ t.rget Reg.ME_CNT_SRAM_UE = s.rget Reg.ME_CNT_SRAM_UE ∧ t.out = s.out := by
  refine ⟨_, exec_platelayerRead_sram [x] [] on operational exists_, ?_⟩
  rw [List.foldl_cons, List.foldl_nil, sramWrite_sound (by rw [flag_eq, rget_sramWalk _ _ _ (sramArm_key g)]; exact unarmed) (by simpa using sound),
    scrubSram_clean (sramWord_putSram_same _ _ _ _), sramWord_sramWalk]
  simp (disch := decide) only [sramWord_putSram_same, putSram_dram, sramWalk_mem, rget_putSram, rget_sramWalk, putSram_out, sramWalk_out, and_self]

theorem platelayerRead_oneBit {d : BitVec 64} {b : Nat} (valid : s.sramWord g w = some ⟨d, []⟩) (bit : b < 72) (ae : g ≠ 1) (pcie : g ≠ 5) :
    ∃ t, exec (.platelayerRead (.sram g w [] [b])) s = .next t ∧ t.sramWord g w = some ⟨d, []⟩ ∧ t.rget Reg.ME_CNT_SRAM_CE = min (s.rget Reg.ME_CNT_SRAM_CE + 1) 65535 ∧
      t.rget Reg.ME_ERR_INFO_GROUP = g ∧ t.rget Reg.ME_ERR_INFO_KIND = 4 ∧ t.out = s.out := by
  refine ⟨_, exec_platelayerRead_sram [] [b] on operational exists_, ?_⟩
  rw [List.foldl_nil, scrubSram_oneBit (by simpa using valid) bit ae pcie]
  simp (disch := decide) only [errInfo, sramWord_rset, sramWord_rsat, sramWord_putSram_same, rget_rset_other, rget_rset_same, rget_rsat_same,
    rget_putSram, rget_sramWalk, rset_out, rsat_out, putSram_out, sramWalk_out, true_and, and_true]
  exact ⟨rfl, Nat.mod_eq_of_lt exists_, rfl⟩

theorem platelayerRead_twoBits {d : BitVec 64} {a b : Nat} (valid : s.sramWord g w = some ⟨d, []⟩) (ha : a < 72) (hb : b < 72) (two : a ≠ b) (group : g = 0) :
    ∃ t, exec (.platelayerRead (.sram g w [] [a, b])) s = .next t ∧ t.sramWord 0 w = some ⟨d, []⟩ ∧ t.rget Reg.ME_CNT_SRAM_UE = min (s.rget Reg.ME_CNT_SRAM_UE + 1) 65535 ∧
      t.rget Reg.ME_ERR_INFO_GROUP = 0 ∧ t.rget Reg.ME_ERR_INFO_KIND = 5 ∧ t.mem.nextIncident = (s.mem.nextIncident + 1) % 2 ^ 32 := by
  subst group
  refine ⟨_, exec_platelayerRead_sram [] [a, b] on operational exists_, ?_⟩
  rw [List.foldl_nil, scrubSram_twoBits (by simpa using valid) ha hb two]
  simp (disch := decide) only [errInfo, sramWord_putSram_same, rget_rset_other, rget_rset_same, rget_rsat_same, rget_putSram, logIncident_rget,
    rget_sramWalk, putSram_incidents, logIncident_next, rset_mem, rsat_mem, sramWalk_mem, true_and, and_true]
  exact ⟨rfl, rfl, rfl⟩

theorem platelayerRead_invalid (upset : List Nat) (invalid : s.sramWord g w = none) (other : 0 < w) :
    exec (.platelayerRead (.sram g w [] upset)) s = .next { s with mem := { s.mem with sramPart := true } } := by
  rw [exec_platelayerRead_sram [] upset on operational exists_, List.foldl_nil, scrubSram_invalid upset (by simpa using invalid)]
  simp [sramWalk, modMem, Nat.ne_of_gt other]

end

end Sys2Proof.Machine.State

namespace Sys2Proof.Proofs

open Sys2Proof.Machine Sys2Proof.Machine.State

/-- Settles O34, clause by clause from the rules of the operations above. -/
theorem memoryUpkeep : Obligations.MemoryUpkeep := by
  unfold Obligations.MemoryUpkeep
  refine ⟨?_, ?_, ?_, ?_, ?_, ?_, ?_, ?_, ?_, ?_⟩
  · exact fun ch w e s found word part clean unarmed _ => mergeRetire_clean found word part clean unarmed
  · exact fun ch w e s found word part bad unarmed _ => mergeRetire_poisoned found word part bad unarmed
  · exact fun s runs prio inval left fresh quiet => sweepSegmentDone_next runs prio inval left fresh quiet
  · exact fun seg s exists_ valid _ => segInval_valid exists_ valid
  · exact fun w d upset s on inside valid awake operational notPoison one => platelayerRead_corrected on inside valid awake operational notPoison one
  · exact fun port latNs s exists_ late => urgencyEscalate_late exists_ late
  · exact fun ch temps s exists_ awake warm notHot => mr4Poll_warm exists_ awake warm notHot
  · exact fun ch v s exists_ open_ arm => flipMaskArm_dram exists_ open_ arm
  · exact fun g w x s on operational exists_ unarmed =>
      ⟨platelayerRead_written on operational exists_ x unarmed,
       fun d b valid bit ae pcie => platelayerRead_oneBit on operational exists_ valid bit ae pcie,
       fun d a b valid ha hb two group => platelayerRead_twoBits on operational exists_ valid ha hb two group,
       fun upset invalid other => platelayerRead_invalid on operational exists_ upset invalid other⟩
  · exact fun g v s closed arm => flipMaskArm_denied closed arm

end Sys2Proof.Proofs
end

section
/-! PROOFS, scope family: the start of the device (chapters 17, 18 and 20). -/

namespace Sys2Proof.Machine.State

/-! ## What the steps of a start leave alone -/

/-- A step that leaves the map, the Guard and the cipher engine, the platform side and the Rulebook in force. -/
structure KeepsStart (s t : State) : Prop where
  map : t.media.map = s.media.map
  sec : t.sec = s.sec
  plat : t.plat = s.plat
  rb : t.rb = s.rb

theorem KeepsStart.refl (s : State) : KeepsStart s s := ⟨rfl, rfl, rfl, rfl⟩

theorem KeepsStart.trans {s t u : State} (a : KeepsStart s t) (b : KeepsStart t u) : KeepsStart s u :=
  ⟨b.map.trans a.map, b.sec.trans a.sec, b.plat.trans a.plat, b.rb.trans a.rb⟩

theorem KeepsStart.foldl {α : Type} {f : State → α → State} (step : ∀ s x, KeepsStart s (f s x)) (l : List α) (s : State) : KeepsStart s (l.foldl f s) :=
  List.foldlRecOn l f (.refl s) fun t k x _ => k.trans (step t x)

/-- A step taken only under a condition. -/
theorem KeepsStart.ite {s t u : State} {c : Prop} [Decidable c] (a : KeepsStart s t) (b : KeepsStart s u) : KeepsStart s (if c then t else u) := by
  split
  · exact a
  · exact b

theorem KeepsStart.rset {s t : State} (k : KeepsStart s t) (f : Field) (v : Nat) : KeepsStart s (t.rset f v) := k.trans ⟨rfl, rfl, rfl, rfl⟩

theorem KeepsStart.modNand {s t : State} (k : KeepsStart s t) (f : Nand → Nand) : KeepsStart s (t.modNand f) := k.trans ⟨rfl, rfl, rfl, rfl⟩

theorem KeepsStart.modMedia {s t : State} (k : KeepsStart s t) (f : Media → Media) (h : (f t.media).map = t.media.map) : KeepsStart s (t.modMedia f) :=
  k.trans ⟨h, rfl, rfl, rfl⟩

theorem KeepsStart.modCtl {s t : State} (k : KeepsStart s t) (n : Nat) (f : Controller → Controller) : KeepsStart s (t.modCtl n f) := k.trans ⟨rfl, rfl, rfl, rfl⟩

theorem KeepsStart.modCtxN {s t : State} (k : KeepsStart s t) (n : Nat) (f : Ctx → Ctx) : KeepsStart s (t.modCtxN n f) := k.trans ⟨rfl, rfl, rfl, rfl⟩

theorem KeepsStart.modPort {s t : State} (k : KeepsStart s t) (p : Nat) (f : Port → Port) : KeepsStart s (t.modPort p f) := k.trans ⟨rfl, rfl, rfl, rfl⟩

/-! ### The journal and the erase of a block -/

theorem jrnlNew_keepsStart (s : State) (d : Nat) : KeepsStart s (s.jrnlNew d).1 := by
  unfold jrnlNew
  split
  · dsimp only
    exact (KeepsStart.refl s).modNand _
  · exact .refl s

theorem jrnlPlace_keepsStart (s : State) (d : Nat) (old : Option (Nat × Nat)) : KeepsStart s (s.jrnlPlace d old).1 := by
  unfold jrnlPlace
  split
  · split
    · exact .refl s
    · exact jrnlNew_keepsStart s d
  · exact jrnlNew_keepsStart s d

theorem jrnlPlaces_keepsStart (s : State) : KeepsStart s s.jrnlPlaces.1 := by
  unfold jrnlPlaces
  extract_lets old r
  suffices k : KeepsStart s r.1 by
    dsimp only
    exact k.modNand _
  refine List.foldlRecOn (motive := fun a : State × List (Nat × Nat) => KeepsStart s a.1) _ _ (.refl s) fun a k q _ => ?_
  have placed := k.trans (jrnlPlace_keepsStart a.1 q.1 old[q.2]?)
  split <;> rename_i e <;> rwa [e] at placed

theorem jrnlStat_keepsStart (s : State) : KeepsStart s s.jrnlStat := (((KeepsStart.refl s).rset _ _).rset _ _).rset _ _

theorem commitPage_keepsStart (s : State) : KeepsStart s s.commitPage := by
  unfold commitPage
  extract_lets m r
  refine .ite (.refl s) (.trans ?_ (jrnlStat_keepsStart _))
  exact (jrnlPlaces_keepsStart s).modMedia _ rfl

theorem journal1_keepsStart (s : State) (entry index nsx type : Nat) : KeepsStart s (s.journal1 entry index nsx type) := by
  unfold journal1
  extract_lets u
  have added : KeepsStart s u := (KeepsStart.refl s).modMedia _ rfl
  exact .ite (added.trans (commitPage_keepsStart u)) added

theorem forgetBlock_keepsStart (s : State) (bn : Nat) : KeepsStart s (s.forgetBlock bn) := (KeepsStart.refl s).modMedia _ rfl

theorem eraseBlock_keepsStart (s : State) (bn : Nat) : KeepsStart s (s.eraseBlock bn) := by
  unfold eraseBlock
  extract_lets c p u
  have counted : KeepsStart s u := ⟨rfl, rfl, rfl, rfl⟩
  exact ((counted.modNand _).trans (forgetBlock_keepsStart _ bn)).trans (journal1_keepsStart _ _ _ _ _)

/-! ### Superblocks, capacity, patrol, wear -/

theorem openNew_keepsStart (s : State) (g : Nat) (st : Stream) : KeepsStart s (s.openNew g st) := by
  unfold openNew
  refine .ite (.refl s) ?_
  extract_lets n dies blocks b c u v
  have listed : KeepsStart s u := (KeepsStart.refl s).modNand _
  refine (listed.trans (.foldl (fun w q => .foldl (fun x r => ?_) _ w) _ u)).modMedia _ rfl
  exact (KeepsStart.ite (eraseBlock_keepsStart x _) (.refl x)).modNand _

theorem freshHoldup_keepsStart (s : State) : KeepsStart s s.freshHoldup :=
  .foldl (fun t g => .ite (.refl t) (openNew_keepsStart t g .holdup)) _ s

theorem fixCapacity_keepsStart (s : State) : KeepsStart s s.fixCapacity := by
  unfold fixCapacity
  exact ((KeepsStart.refl s).modNand _).trans (.foldl (fun t g => .ite ((KeepsStart.refl t).modMedia _ rfl) ((KeepsStart.refl t).modMedia _ rfl)) _ _)

theorem firstFormat_keepsStart (s : State) : KeepsStart s s.firstFormat := by
  unfold firstFormat
  split
  · exact .refl s
  · exact ((KeepsStart.refl s).modNand _).trans (fixCapacity_keepsStart _)

theorem ageByClock_keepsStart (s : State) : KeepsStart s s.ageByClock := by
  unfold ageByClock
  extract_lets since days u
  have aged : KeepsStart s u := ⟨rfl, rfl, rfl, rfl⟩
  exact .ite (((aged.modMedia _ rfl).rset _ _).rset _ _) aged

theorem postEvent_keepsStart (s : State) (k ty info page : Nat) : KeepsStart s (s.postEvent k ty info page) := by
  unfold postEvent
  extract_lets c u
  have masked : KeepsStart s u := (KeepsStart.refl s).modCtl k _
  refine .ite (.refl s) ?_
  split
  · exact (masked.modCtl k _).modCtxN _ _
  · exact masked.modCtl k _

theorem postVendor_keepsStart (s : State) (n : Nat) : KeepsStart s (s.postVendor n) := by
  unfold postVendor
  extract_lets p u
  have pending : KeepsStart s u := ⟨rfl, rfl, rfl, rfl⟩
  exact pending.trans (.foldl (fun t k => .ite (postEvent_keepsStart t k _ _ _) (.refl t)) _ u)

theorem wearStat_keepsStart (s : State) : KeepsStart s s.wearStat := by
  have shown : ∀ mean top pct beyond, KeepsStart s ((((s.rset Reg.FT_WEAR_PE_MEAN_PE mean).rset Reg.FT_WEAR_PE_MAX_PE top).rset Reg.FT_WEAR_STAT_PCT_USED pct).rset
    Reg.FT_WEAR_STAT_PCT_USED_100 beyond) := fun _ _ _ _ => ((((KeepsStart.refl s).rset _ _).rset _ _).rset _ _).rset _ _
  unfold wearStat
  exact .ite ((shown _ _ _ _).trans (postVendor_keepsStart _ 4)) (shown _ _ _ _)

theorem execTtEnable_keepsStart (s : State) : KeepsStart s (leaves (execTtEnable s) s) := by
  unfold execTtEnable
  extract_lets bad
  split
  · exact .refl s
  · split
    · exact ((KeepsStart.refl s).rset _ _).rset _ _
    · exact .foldl (fun t ch => (KeepsStart.refl t).rset _ _) _ s

end Sys2Proof.Machine.State
end

section
/-! PROOFS, scope family: the boot chain, DRAM training, ready, the recovery load and the status block (chapters 17 and 20). -/

namespace Sys2Proof.Machine.State

/-! ## The boot chain (R438, R439) -/

/-- One entry more in the boot's record; of the registers only GD_STAT can differ. -/
structure Appended (s t : State) (j : JEntry) : Prop where
  journey : t.sec.journey = s.sec.journey ++ [j]
  boot : t.sec.boot = s.sec.boot
  media : t.media = s.media
  regs : ∀ f : Field, f.key ≠ Reg.GD_STAT_ENTRIES.key → f.key ≠ Reg.GD_STAT_SIGNED.key → t.rget f = s.rget f

theorem append_appended (s : State) (e : JEntry) : ∃ j : JEntry, j.stage = e.stage ∧ j.result = e.result ∧ Appended s (s.append e) j := by
  unfold append
  extract_lets j u v
  have added : Appended s v j := ⟨rfl, rfl, rfl, fun f entries _ => rget_rset_other _ _ _ _ entries⟩
  refine ⟨j, rfl, rfl, ?_⟩
  split
  · exact ⟨added.journey, added.boot, added.media, fun f entries signed => (rget_rset_other _ _ _ _ signed).trans (added.regs f entries signed)⟩
  · exact added

theorem lastEntry_of_journey {s : State} {l : List JEntry} {j : JEntry} (h : s.sec.journey = l ++ [j]) : s.lastEntry = (j.stage, j.result) := by
  simp [lastEntry, h]

/-- CONFIG counts the boot, loads the root key and makes the first entry. -/
theorem bootConfig_starts {s : State} (first : s.sec.journey = []) :
    ∃ e, s.bootConfig.sec.boot = s.sec.boot + 1 ∧ s.bootConfig.sec.journey = [e] ∧ e.stage = 1 ∧ e.result = 0 ∧ s.bootConfig.flag Reg.CE_STAT_ROOT_LOADED = true ∧
      s.bootConfig.rget Reg.GD_BOOT_CNT_COUNT = (s.sec.boot + 1) % 2 ^ 32 ∧ s.bootConfig.media = s.media := by
  unfold bootConfig
  extract_lets prev unsignedPrev u v info
  obtain ⟨j, stage, result, added⟩ := append_appended v { stage := 1, result := 0, index := 0, info := info }
  refine ⟨j, added.boot, ?_, stage, result, ?_, ?_, added.media⟩
  · rw [added.journey]
    exact congrArg (· ++ [j]) first
  · rw [flag_eq, added.regs _ (by decide) (by decide)]
    simp (disch := decide) only [v, rget_rset_other, rget_rset_same]
    rfl
  · rw [added.regs _ (by decide) (by decide)]
    simp (disch := decide) only [v, rget_rset_other, rget_rset_same]
    rfl

theorem bootStage_config {s : State} (hold : s.plat.hold = .none) (sampled : s.mode ≠ .unsampled) (first : s.sec.journey = []) :
    ∃ t e, exec (.bootChainStage .config) s = .next t ∧ t.sec.boot = s.sec.boot + 1 ∧ t.sec.journey = [e] ∧ e.stage = 1 ∧ e.result = 0 ∧
      t.flag Reg.CE_STAT_ROOT_LOADED = true ∧ t.rget Reg.GD_BOOT_CNT_COUNT = (s.sec.boot + 1) % 2 ^ 32 ∧ t.media = s.media := by
  have run : exec (.bootChainStage .config) s = .next s.bootConfig := by
    show execBootChainStage .config s = _
    simp [execBootChainStage, hold, sampled, first]
  obtain ⟨e, starts⟩ := bootConfig_starts first
  exact ⟨_, e, run, starts⟩

theorem applyParams_keepsStart (s : State) : KeepsStart s s.applyParams := by
  unfold applyParams
  extract_lets p l s1 edges s2 hashes s3 s4 s5 s6
  have k1 : KeepsStart s s1 := .foldl (fun t q => (KeepsStart.refl t).rset _ _) l s
  have k2 : KeepsStart s1 s2 := .foldl (fun t q => (KeepsStart.refl t).rset _ _) edges s1
  have k3 : KeepsStart s2 s3 := .foldl (fun t q => ((KeepsStart.refl t).rset _ _).rset _ _) hashes s2
  have k4 : KeepsStart s3 s4 := .foldl (fun t k => (KeepsStart.refl t).rset _ _) (List.range 10) s3
  have k5 : KeepsStart s4 s5 := .foldl (fun t ch => (((((KeepsStart.refl t).rset _ _).rset _ _).rset _ _).rset _ _).rset _ _) (List.range s4.channels) s4
  exact ((((k1.trans k2).trans k3).trans k4).trans k5).rset _ _ |>.rset _ _

theorem enableBlocks_keepsStart (s : State) : KeepsStart s s.enableBlocks := by
  unfold enableBlocks
  extract_lets s1 s2 s3
  have k1 : KeepsStart s s1 := .foldl (fun t f => (KeepsStart.refl t).rset f 1) _ s
  have k2 : KeepsStart s1 s2 := .ite (.refl s1) ((KeepsStart.refl s1).rset _ _)
  have k3 : KeepsStart s2 s3 := .ite ((KeepsStart.refl s2).rset _ _) (.refl s2)
  exact ((k1.trans k2).trans k3).rset _ _

theorem releaseLinks_keepsStart (s : State) : KeepsStart s s.releaseLinks := by
  unfold releaseLinks
  exact .ite (.refl s) (.foldl (fun t p => (KeepsStart.refl t).modPort p _) _ s)

theorem startBootMeasure_keepsStart (s : State) : KeepsStart s s.startBootMeasure := by
  unfold startBootMeasure
  exact .ite ((KeepsStart.refl s).modMedia _ rfl) (((KeepsStart.refl s).modMedia _ rfl).rset _ _)

/-- The end of the RULEBOOK stage releases the links and keeps what its entry and its Rulebook have set. -/
theorem released_keepsStart {u w : State} (applied : KeepsStart u w) :
    KeepsStart { u with plat := { u.plat with linksReleased := true } } ({ w with plat := { w.plat with linksReleased := true } } : State).releaseLinks.startBootMeasure := by
  have links : KeepsStart { u with plat := { u.plat with linksReleased := true } } { w with plat := { w.plat with linksReleased := true } } :=
    ⟨applied.map, applied.sec, congrArg (fun p : Plat => { p with linksReleased := true }) applied.plat, applied.rb⟩
  exact (links.trans (releaseLinks_keepsStart _)).trans (startBootMeasure_keepsStart _)

/-- Without a Rulebook the defaults are in force and the links are released (R27, R438, R496). -/
theorem bootStage_rulebook_none {s : State} (boots : s.booting = true) (place : s.lastEntry = (5, 0)) (none : s.rulebookImage = none) :
    ∃ t, exec (.bootChainStage .rulebook) s = .next t ∧ t.rb = {} ∧ t.lastEntry = (6, 4) ∧ t.plat.linksReleased = true := by
  have run : exec (.bootChainStage .rulebook) s = .next s.bootRulebook := by
    show execBootChainStage .rulebook s = _
    simp [execBootChainStage, boots, place]
  obtain ⟨j, stage, result, added⟩ := append_appended s { stage := 6, result := 4, index := 0 }
  refine ⟨_, run, ?_⟩
  unfold bootRulebook
  simp only [none, Option.map_none]
  generalize hu : State.modSec _ _ = u
  have entry : u.sec.journey = s.sec.journey ++ [j] := by rw [← hu]; exact added.journey
  have defaults : u.rb = {} := by rw [← hu]; rfl
  have params := (applyParams_keepsStart u).trans (enableBlocks_keepsStart _)
  generalize u.applyParams.enableBlocks = w at *
  have applied := released_keepsStart params
  refine ⟨applied.rb.trans defaults, ?_, congrArg Plat.linksReleased applied.plat⟩
  rw [lastEntry_of_journey ((congrArg Sec.journey applied.sec).trans entry), stage, result]

/-! ## DRAM training (R497) -/

theorem exec_dramTraining {ch : Nat} {attempts : List Bool} {density : Bool} {s : State} (boots : s.booting = true) (place : s.lastEntry = (3, 0)) (exists_ : ch < 2)
    (untrained : ch ∉ s.plat.dramOk) : exec (.dramTraining ch attempts density) s = 
      if (attempts.take 3).contains true && density then
        let s := { s with plat := { s.plat with dramOk := ch :: s.plat.dramOk } }
        if s.plat.dramOk.length = 2 then .next ((s.rset Reg.MC_STAT_TRAINED 1).modMem fun m => { m with sweeping := true }) else .next s
      else .next (({ s with plat := { s.plat with detail := ch } } : State).setProgress 9) := by
  show execDramTraining ch attempts density s = _
  unfold execDramTraining
  rw [if_neg (by simp [boots, place, untrained]; omega)]

/-- The second channel to train starts the sweeper. -/
theorem dramTraining_last {ch : Nat} {attempts : List Bool} {density : Bool} {s : State} (boots : s.booting = true) (place : s.lastEntry = (3, 0)) (exists_ : ch < 2)
    (untrained : ch ∉ s.plat.dramOk) (passed : true ∈ attempts.take 3) (dense : density = true) (other : s.plat.dramOk.length = 1) :
    ∃ t, exec (.dramTraining ch attempts density) s = .next t ∧ t.flag Reg.MC_STAT_TRAINED = true ∧ t.mem.sweeping = true ∧ t.mem.dram = s.mem.dram := by
  rw [exec_dramTraining boots place exists_ untrained, if_pos (by simp [passed, dense])]
  simp only [List.length_cons, other, if_true]
  exact ⟨_, rfl, by rw [modMem_flag, flag_eq, rget_rset_same]; rfl, rfl, rfl⟩

/-- A channel that cannot be trained stops the boot. -/
theorem dramTraining_fails {ch : Nat} {attempts : List Bool} {density : Bool} {s : State} (boots : s.booting = true) (place : s.lastEntry = (3, 0)) (exists_ : ch < 2)
    (untrained : ch ∉ s.plat.dramOk) (failed : true ∉ attempts.take 3 ∨ density = false) :
    ∃ t, exec (.dramTraining ch attempts density) s = .next t ∧ t.plat.progress = 9 ∧ t.plat.detail = ch ∧ t.mem = s.mem := by
  have no : ¬((attempts.take 3).contains true && density) = true := by
    rcases failed with h | h <;> simp [h]
  rw [exec_dramTraining boots place exists_ untrained, if_neg no]
  exact ⟨_, rfl, rfl, rfl, rfl⟩

/-! ## Ready (R494) -/

theorem exec_controllerReady (s : State) : exec .controllerReady s = if s.readyNow then .next s.becomeReady else .next s := rfl

theorem foldl_modCtl (f : Nat → Controller → Controller) (l : List Nat) (s : State) : ∃ c, l.foldl (fun s k => s.modCtl k (f k)) s = { s with ctls := c } := by
  refine List.foldlRecOn (motive := fun t : State => ∃ c, t = { s with ctls := c }) l _ ⟨s.ctls, rfl⟩ ?_
  rintro t ⟨c, rfl⟩ k -
  exact ⟨_, rfl⟩

/-- The SVN minima never fall (R437, R528). -/
theorem raiseMinima_le (s : State) : s.sec.minSvn ≤ s.raiseMinima.sec.minSvn ∧ s.sec.rbMinSvn ≤ s.raiseMinima.sec.rbMinSvn := by
  simp only [raiseMinima, rset_sec, modSec, Nat.le_max_left, and_self]

/-- Every block is locked. -/
theorem lockBlocks_flags (s : State) : s.lockBlocks.flag Reg.MC_CTRL_LOCK = true ∧ s.lockBlocks.flag Reg.FT_CTRL_LOCK = true ∧ s.lockBlocks.flag Reg.TT_CTRL_LOCK = true := by
  refine ⟨?_, ?_, ?_⟩
  all_goals
    simp (disch := decide) only [lockBlocks, List.foldl_cons, List.foldl_nil, flag_eq, rget_rset_other, rget_rset_same]
    rfl

theorem lockBlocks_keepsStart (s : State) : KeepsStart s s.lockBlocks := .foldl (fun t f => (KeepsStart.refl t).rset f 1) _ s

theorem flag_congr {s t : State} (h : t.regs = s.regs) (f : Field) : t.flag f = s.flag f := by
  simp only [flag, h]

theorem raiseMinima_media (s : State) : s.raiseMinima.media = s.media := rfl

/-- What a ready device shows of the map, the Guard's minima and the locks, against its state before. -/
structure ReadyAfter (s t : State) : Prop where
  ready : t.plat.ready = true
  lockMc : t.flag Reg.MC_CTRL_LOCK = true
  lockFt : t.flag Reg.FT_CTRL_LOCK = true
  lockTt : t.flag Reg.TT_CTRL_LOCK = true
  minSvn : s.sec.minSvn ≤ t.sec.minSvn
  rbMinSvn : s.sec.rbMinSvn ≤ t.sec.rbMinSvn
  map : t.media.map = s.media.map

/-- The last steps raise the minima, lock the blocks and say that the device is ready. -/
theorem ReadyAfter.of_locked {s u v t : State} (keeps : KeepsStart s u) (end_ : v = u.raiseMinima.lockBlocks) (regs : t.regs = v.regs) (sec : t.sec = v.sec)
    (media : t.media = v.media) (ready : t.plat.ready = true) : ReadyAfter s t := by
  subst end_
  have locked := lockBlocks_keepsStart u.raiseMinima
  obtain ⟨mc, ft, tt⟩ := lockBlocks_flags u.raiseMinima
  obtain ⟨package, rulebook⟩ := raiseMinima_le u
  rw [keeps.sec] at package rulebook
  rw [← locked.sec, ← sec] at package rulebook
  refine ⟨ready, (flag_congr regs _).trans mc, (flag_congr regs _).trans ft, (flag_congr regs _).trans tt, package, rulebook, ?_⟩
  rw [media, locked.map, raiseMinima_media, keeps.map]

theorem becomeReady_after (s : State) : ReadyAfter s s.becomeReady := by
  unfold becomeReady
  extract_lets s1 s2 cache s3 segs s4 s5 s6 s7 s8 p s9 s10
  have aged : KeepsStart s s1 := .ite (.refl s) (ageByClock_keepsStart s)
  have formatted : KeepsStart s1 s2 := ((firstFormat_keepsStart s1).trans (freshHoldup_keepsStart _)).trans (wearStat_keepsStart _)
  clear_value s2
  have loading : KeepsStart s2 s6 := ((((((KeepsStart.refl s2).rset _ _).rset _ _).modMedia _ rfl).rset _ _).rset _ _).modNand _
  have ticking : KeepsStart s6 s7 := .ite (.refl s6) (execTtEnable_keepsStart s6)
  have keeps := ((aged.trans formatted).trans loading).trans ticking
  have end_ : s8 = s7.raiseMinima.lockBlocks := rfl
  clear_value s7 s8
  have controllers : ∃ c, s10 = { s9 with ctls := c } := foldl_modCtl _ _ s9
  clear_value s10
  obtain ⟨c, rfl⟩ := controllers
  exact .of_locked keeps end_ rfl rfl rfl rfl

theorem controllerReady_ready {s : State} (now : s.readyNow = true) :
    ∃ t, exec .controllerReady s = .next t ∧ t.plat.ready = true ∧ t.flag Reg.MC_CTRL_LOCK = true ∧ t.flag Reg.FT_CTRL_LOCK = true ∧ t.flag Reg.TT_CTRL_LOCK = true ∧
      s.sec.minSvn ≤ t.sec.minSvn ∧ s.sec.rbMinSvn ≤ t.sec.rbMinSvn ∧ t.media.map = s.media.map := by
  obtain ⟨ready, mc, ft, tt, package, rulebook, map⟩ := becomeReady_after s
  exact ⟨_, by rw [exec_controllerReady, if_pos now], ready, mc, ft, tt, package, rulebook, map⟩

theorem controllerReady_not {s : State} (not : s.readyNow = false) : exec .controllerReady s = .next s := by
  rw [exec_controllerReady, not]
  rfl

end Sys2Proof.Machine.State
end

section
/-! PROOFS, scope family: the recovery load and the status block (chapter 20). -/

namespace Sys2Proof.Machine.State

/-! ## Recovery load (R501) -/

/-- With every slot rejected the device waits for an image on the management interface. -/
theorem recoveryLoad_failed {s : State} (hold : s.plat.hold = .none) (sampled : s.mode ≠ .unsampled) (sound : s.mode ≠ .strapFault)
    (idle : s.flag Reg.GD_STAT_RECOVERY = false) (failed : s.plat.progress = 10) :
    ∃ t, exec .recoveryLoad s = .next t ∧ t.flag Reg.GD_STAT_RECOVERY = true ∧ t.plat.progress = 8 ∧ t.sec.rlBytes = 0 ∧ t.media = s.media := by
  show ∃ t, execRecoveryLoad s = .next t ∧ _
  unfold execRecoveryLoad
  simp only [failed]
  rw [if_neg (by simp [hold, sampled, sound, idle])]
  refine ⟨_, rfl, ?_, rfl, rfl, rfl⟩
  rw [setProgress_flag, flag_eq, rget_rset_same]
  rfl

section
variable {s : State} (loads : s.loading = true)
include loads

theorem rlStatus_answers : exec .rlStatus s = .next (s.emit (.mctp ([s.shownProgress] ++ leBytes 4 s.sec.rlBytes ++ [s.sec.rlResult]))) := by
  show execRlStatus s = _
  rw [execRlStatus, if_pos loads]

/-- A later part of the image is counted. -/
theorem rlWrite_later {off : Nat} {bytes : List Byte} (later : 0 < off) (part : bytes.length ≤ 1024) (fits : off + bytes.length ≤ 768 * 4096) :
    ∃ t, exec (.rlWrite off bytes) s = .next t ∧ t.sec.rlBytes = s.sec.rlBytes + bytes.length ∧ t.adm = s.adm ∧ t.out = s.out ++ [.mctp [0]] := by
  show ∃ t, execRlWrite off bytes s = .next t ∧ _
  unfold execRlWrite
  rw [if_neg (by simp [loads]; omega)]
  simp only [Nat.ne_of_gt later, if_false]
  exact ⟨_, rfl, rfl, rfl, rfl⟩

/-- The first part empties slot 1. -/
theorem rlWrite_first {bytes : List Byte} (part : bytes.length ≤ 1024) :
    ∃ t, exec (.rlWrite 0 bytes) s = .next t ∧ t.sec.rlBytes = bytes.length ∧ Table.find t.adm.fwSlots 1 = none ∧ t.out = s.out ++ [.mctp [0]] := by
  show ∃ t, execRlWrite 0 bytes s = .next t ∧ _
  unfold execRlWrite
  rw [if_neg (by simp [loads]; omega)]
  exact ⟨_, rfl, rfl, Table.find_del_same _ _, rfl⟩

/-- A commit whose length is not that received is refused. -/
theorem rlCommit_wrongLength {len : Nat} (i : ImageCheck) (ok : Bool) (wrong : len ≠ s.sec.rlBytes) :
    ∃ t, exec (.rlCommit len i ok) s = .next t ∧ t.sec.rlResult = 3 ∧ t.adm = s.adm ∧ t.out = s.out ++ [.mctp [3]] := by
  show ∃ t, execRlCommit len i ok s = .next t ∧ _
  unfold execRlCommit
  simp [loads, wrong, modSec, emit]

end

/-- A Turntable record is programmed, and a full sector erased, in the Depot alone (R468). -/
theorem turnTo_frame (s : State) (first : Nat) : ∃ x, s.turnTo first = { s with sec := x } := by
  have put : ∀ w v, ∃ x, s.putDepot w v = { s with sec := x } := fun _ _ => ⟨_, rfl⟩
  have wiped : ∀ w v xs, ∃ x, (s.putDepot w v).wipeSectors xs = { s with sec := x } := fun _ _ _ => ⟨_, rfl⟩
  unfold turnTo
  cases s.turnBest
  all_goals
    simp only
    split
    · exact put _ _
    · exact wiped _ _ _

theorem blank_adm (s : State) (h : Hold) : (s.blank h).mode = .unsampled ∧ (s.blank h).adm = blankAdmin s.adm := by
  obtain ⟨d, w, e, n, cut⟩ := cutBoth_frame s
  unfold blank
  rw [cut]
  exact ⟨rfl, rfl⟩

theorem foldl_rset_zero (l : List Field) (s : State) : ∃ r, l.foldl (fun s f => s.rset f 0) s = { s with regs := r } := by
  refine List.foldlRecOn (motive := fun t : State => ∃ r, t = { s with regs := r }) l _ ⟨s.regs, rfl⟩ ?_
  rintro t ⟨r, rfl⟩ f -
  exact ⟨_, rfl⟩

/-- The Guard's part of a full reset: of the administration it touches the activation alone (R321). -/
theorem guardReset_adm (s : State) :
    s.guardReset.mode = s.mode ∧ s.guardReset.adm = { s.adm with activeSlot := s.adm.pendingSlot.getD s.adm.activeSlot, pendingSlot := none } := by
  unfold guardReset
  extract_lets level pend u a v w x y
  obtain ⟨r, cleared⟩ : ∃ r, w = { v with regs := r } := foldl_rset_zero _ v
  clear_value w
  subst cleared
  exact ⟨rfl, rfl⟩

/-- A full reset leaves the straps to be sampled, the firmware slots as they are, and the slot of an activation active (R321, R491). -/
theorem fullReset_adm (s : State) : s.fullReset.mode = .unsampled ∧ s.fullReset.adm.fwSlots = s.adm.fwSlots ∧
    s.fullReset.adm.activeSlot = s.adm.pendingSlot.getD s.adm.activeSlot := by
  obtain ⟨mode, adm⟩ := blank_adm s .none
  unfold fullReset
  generalize s.blank .none = b at *
  obtain ⟨guardMode, guardAdm⟩ := guardReset_adm (b.lockOnReset [1])
  have locked : (b.lockOnReset [1]).mode = b.mode ∧ (b.lockOnReset [1]).adm = b.adm := ⟨rfl, rfl⟩
  rw [guardMode, guardAdm, locked.1, locked.2, mode, adm]
  exact ⟨rfl, rfl, rfl⟩

/-- An image that is accepted fills slot 1, which becomes active, and a full reset follows. -/
theorem rlCommit_accepted {s : State} (loads : s.loading = true) {i : ImageCheck} (passed : s.verifyStatus { i with cls := 0 } = 0) :
    ∃ t, exec (.rlCommit s.sec.rlBytes i true) s = .next t ∧ Table.find t.adm.fwSlots 1 = some { i with cls := 0 } ∧ t.adm.activeSlot = 1 ∧ t.mode = .unsampled := by
  show ∃ t, execRlCommit s.sec.rlBytes i true s = .next t ∧ _
  unfold execRlCommit
  simp only [loads, passed, bne_self_eq_false, Bool.not_true, Bool.false_eq_true, if_false, if_true]
  generalize hu : State.turnTo _ 0 = u
  obtain ⟨x, frame⟩ := turnTo_frame _ 0
  rw [hu] at frame
  obtain ⟨mode, slots, active⟩ := fullReset_adm u
  refine ⟨_, rfl, ?_, ?_, mode⟩
  · rw [slots, frame]
    exact Table.find_ins_same _ _ _
  · rw [active, frame]
    rfl

/-! ## The status block (R502) -/

theorem startupStatusRead_answers {ms : Nat} {s : State} (powered : s.plat.hold ≠ .off) (later : 2 ≤ ms) :
    exec (.startupStatusRead ms) s = .next (s.emit (.mctp (s.statusBlock ms))) := by
  show execStartupStatusRead ms s = _
  rw [execStartupStatusRead, if_neg (by simp [powered]; omega)]

end Sys2Proof.Machine.State

namespace Sys2Proof.Proofs

open Sys2Proof.Machine Sys2Proof.Machine.State

/-- Settles O39, clause by clause from what each step of the start does. -/
theorem startupCommands : Obligations.StartupCommands := by
  unfold Obligations.StartupCommands
  refine ⟨?_, ?_, ?_, ?_, ?_, ?_, ?_, ?_, ?_, ?_⟩
  · intro x s hold mode hmode hmember hgeom htest
    obtain ⟨t, run, tmode, geom, media⟩ := strapSample_takes x hold mode
    rw [Nat.mod_eq_of_lt hmode, Nat.mod_eq_of_lt hmember, Nat.mod_eq_of_lt hgeom, Nat.mod_eq_of_lt htest] at tmode
    exact ⟨fun good => ⟨t, run, tmode.trans (if_neg (by simp [good])), geom.trans (Nat.mod_eq_of_lt hgeom), media⟩, fun bad => ⟨t, run, tmode.trans (if_pos bad), media⟩⟩
  · exact fun x s mode => strapSample_again x mode
  · exact fun s hold sampled first => bootStage_config hold sampled first
  · exact fun s boots place none => bootStage_rulebook_none boots place none
  · exact fun ch attempts density s boots place exists_ untrained =>
      ⟨fun passed dense other => dramTraining_last boots place exists_ untrained passed dense other, fun failed => dramTraining_fails boots place exists_ untrained failed⟩
  · exact fun s now => controllerReady_ready now
  · exact fun s not => controllerReady_not not
  · exact fun s hold sampled sound idle failed => recoveryLoad_failed hold sampled sound idle failed
  · exact fun s loads => ⟨rlStatus_answers loads, fun off bytes later part fits => rlWrite_later loads later part fits, fun bytes part => rlWrite_first loads part,
      fun len i ok wrong => rlCommit_wrongLength loads i ok wrong, fun i passed => rlCommit_accepted loads passed⟩
  · exact fun ms s powered later => startupStatusRead_answers powered later

end Sys2Proof.Proofs
end

section
/-! PROOFS, architecture family: what a worker does with a CMD packet (chapter 13). -/

namespace Sys2Proof.Machine

/-- A port has a packet to send, or keeps it until its acknowledgement (R331, R333). -/
def BlPort.holds (b : BlPort) (k : BlPacket) : Prop := k ∈ b.waiting ∨ ∃ x ∈ b.replay, x.packet = k

namespace State

theorem queuedOrSent_iff (s : State) (p : Nat) (k : BlPacket) : s.queuedOrSent p k ↔ (s.bl p).holds k := .rfl

/-! ## What sending leaves alone -/

/-- A step of the sending side of the Branch Link: it touches its ports, outputs and some registers; no packet on its way is lost, and no queue freezes or thaws. -/
structure KeepsLink (s t : State) : Prop where
  media : t.media = s.media
  adm : t.adm = s.adm
  mem : t.mem = s.mem
  inTags : t.link.inTags = s.link.inTags
  errors : t.link.errors = s.link.errors
  frozen : ∀ p, t.flag (Reg.BL_STAT_FROZEN p) = s.flag (Reg.BL_STAT_FROZEN p)
  packets : ∀ p k, s.queuedOrSent p k → t.queuedOrSent p k

namespace KeepsLink

theorem refl (s : State) : KeepsLink s s := ⟨rfl, rfl, rfl, rfl, rfl, fun _ => rfl, fun _ _ h => h⟩

theorem trans {s t u : State} (a : KeepsLink s t) (b : KeepsLink t u) : KeepsLink s u where
  media := b.media.trans a.media
  adm := b.adm.trans a.adm
  mem := b.mem.trans a.mem
  inTags := b.inTags.trans a.inTags
  errors := b.errors.trans a.errors
  frozen p := (b.frozen p).trans (a.frozen p)
  packets p k h := b.packets p k (a.packets p k h)

theorem ite {s t u : State} {c : Prop} [Decidable c] (a : KeepsLink s t) (b : KeepsLink s u) : KeepsLink s (if c then t else u) := by
  split
  · exact a
  · exact b

theorem emit (s : State) (o : Out) : KeepsLink s (s.emit o) := ⟨rfl, rfl, rfl, rfl, rfl, fun _ => rfl, fun _ _ h => h⟩

/-- A write of a register other than FROZEN of a port. -/
theorem rset (s : State) {f : Field} (v : Nat) (other : ∀ p, (Reg.BL_STAT_FROZEN p).key ≠ f.key) : KeepsLink s (s.rset f v) :=
  ⟨rfl, rfl, rfl, rfl, rfl, fun p => by rw [flag_eq, flag_eq, rget_rset_other _ _ _ _ (other p)], fun _ _ h => h⟩

/-- A change of a port that loses no packet. -/
theorem modBl {s : State} {p : Nat} {f : BlPort → BlPort} (held : ∀ k, (s.bl p).holds k → (f (s.bl p)).holds k) : KeepsLink s (s.modBl p f) := by
  refine ⟨rfl, rfl, rfl, rfl, rfl, fun _ => rfl, fun q k h => ?_⟩
  rw [queuedOrSent_iff] at h ⊢
  by_cases same : q = p
  · subst same
    rw [bl_modBl_same]
    exact held k h
  · rwa [bl_modBl_other _ _ _ _ same]

end KeepsLink

/-- FROZEN of a port has a key of its own (R351). -/
theorem frozen_key (p : Nat) : ∀ f ∈ [Reg.CE_STAT_GCM_HOLD, Reg.FG_BL_KIND, Reg.FG_BL_COUNT, Reg.FG_CNT_INJECTED, Reg.BL_GSTAT_UP, Reg.BL_GSTAT_FROZEN_ANY],
    (Reg.BL_STAT_FROZEN p).key ≠ f.key := by
  simp only [List.forall_mem_cons, Reg.BL_STAT_FROZEN, Field.key, Reg.CE_STAT_GCM_HOLD, Reg.FG_BL_KIND, Reg.FG_BL_COUNT, Reg.FG_CNT_INJECTED, Reg.BL_GSTAT_UP,
    Reg.BL_GSTAT_FROZEN_ANY]
  refine ⟨?_, ?_, ?_, ?_, ?_, ?_, by simp⟩ <;> omega

/-- No count of a port lies in the place of a FROZEN (R351). -/
theorem frozen_key_counts (p q : Nat) :
    (Reg.BL_STAT_FROZEN p).key ≠ (Reg.BL_CNT_OUTSTANDING q).key ∧ (Reg.BL_STAT_FROZEN p).key ≠ (Reg.BL_CNT_QUARANTINED q).key ∧
      (Reg.BL_STAT_FROZEN p).key ≠ (Reg.BL_ERRCNT_FROZEN_CMDS q).key := by
  simp only [Reg.BL_STAT_FROZEN, Reg.BL_CNT_OUTSTANDING, Reg.BL_CNT_QUARANTINED, Reg.BL_ERRCNT_FROZEN_CMDS, Field.key]
  omega

theorem usedBl_keepsLink (s : State) : KeepsLink s s.usedBl := by
  unfold usedBl injected
  extract_lets c u
  have counted : KeepsLink s u := (KeepsLink.rset s _ fun p => frozen_key p _ (by simp)).trans (.rset _ _ fun p => frozen_key p Reg.FG_CNT_INJECTED (by simp))
  exact .ite (counted.trans (.rset u _ fun p => frozen_key p _ (by simp))) counted

/-- Whatever the Fogman does to a packet on the lanes, the port keeps it for a replay (R331, R507). -/
theorem emitPacket_keepsLink (s : State) (p : Nat) (k : BlSent) : KeepsLink s (s.emitPacket p k) := by
  have port : ∀ {u : State} {f : BlPort → BlPort}, (f (u.bl p)).waiting = (u.bl p).waiting → (f (u.bl p)).replay = (u.bl p).replay → KeepsLink u (u.modBl p f) :=
    fun w r => .modBl fun _ h => by rwa [BlPort.holds, w, r]
  unfold emitPacket
  split
  · exact (((port rfl rfl).trans (.emit _ _)).trans (.emit _ _)).trans (usedBl_keepsLink _)
  · refine .ite (usedBl_keepsLink s) (.ite ((KeepsLink.emit s _).trans (usedBl_keepsLink _)) (.ite ((KeepsLink.emit s _).trans (usedBl_keepsLink _)) ?_))
    exact .ite (port rfl rfl) (.ite ((port rfl rfl).trans (usedBl_keepsLink _)) (.emit s _))

theorem takeNonce_keepsLink (s : State) : KeepsLink s s.takeNonce := by
  unfold takeNonce
  extract_lets sec u
  have counted : KeepsLink s u := ⟨rfl, rfl, rfl, rfl, rfl, fun _ => rfl, fun _ _ h => h⟩
  exact .ite counted (counted.trans (.rset u _ fun p => frozen_key p _ (by simp)))

@[simp] theorem takeNonce_bl (s : State) (p : Nat) : s.takeNonce.bl p = s.bl p := by
  unfold takeNonce
  extract_lets sec u
  split <;> rfl

/-- A packet that is sent goes from the waiting ones to the replay buffer (R331, R333). -/
theorem pump_keepsLink (p n : Nat) (s : State) : KeepsLink s (pump p n s) := by
  induction n generalizing s with
  | zero => exact .refl s
  | succ n ih =>
    unfold pump
    extract_lets b
    split
    · exact .refl s
    · rename_i k rest first
      extract_lets x u v
      have nonce : KeepsLink s u := .ite (takeNonce_keepsLink s) (.refl s)
      have waits : (u.bl p).waiting = k :: rest := by
        refine Eq.trans ?_ first
        show (bl (if _ then s.takeNonce else s) p).waiting = _
        split
        · rw [takeNonce_bl]
        · rfl
      have moved : KeepsLink u v := .modBl fun j h => by
        rw [BlPort.holds, waits, List.mem_cons] at h
        rcases h with (rfl | later) | ⟨y, sent, rfl⟩
        · exact .inr ⟨x, List.mem_append_right _ (List.mem_singleton.2 rfl), rfl⟩
        · exact .inl later
        · exact .inr ⟨y, List.mem_append_left _ sent, rfl⟩
      have sent := ((nonce.trans moved).trans (emitPacket_keepsLink v p x)).trans (ih _)
      exact .ite (.refl s) (.ite (.refl s) (.ite (.rset s _ fun p => frozen_key p _ (by simp)) sent))

theorem blQueued_keepsLink (s : State) (p : Nat) (k : BlPacket) : KeepsLink s (s.modBl p fun b => { b with waiting := b.waiting ++ [k] }) :=
  .modBl fun _ h => h.imp (List.mem_append_left _) id

theorem blSend_keepsLink (s : State) (p : Nat) (k : BlPacket) : KeepsLink s (s.blSend p k) :=
  (blQueued_keepsLink s p k).trans (pump_keepsLink p _ _)

theorem blSend_queuedOrSent (s : State) (p : Nat) (k : BlPacket) : (s.blSend p k).queuedOrSent p k := by
  refine (pump_keepsLink p _ _).packets p k (.inl ?_)
  rw [bl_modBl_same]
  exact List.mem_append_right _ (List.mem_singleton.2 rfl)

theorem blStat_keepsLink (s : State) (p : Nat) : KeepsLink s (s.blStat p) := by
  have shown : ∀ u f n, KeepsLink s (((s.rset Reg.BL_GSTAT_UP u).rset Reg.BL_GSTAT_FROZEN_ANY f).rset (Reg.BL_CNT_OUTSTANDING p) n) := fun u f n =>
    ((KeepsLink.rset s _ fun q => frozen_key q _ (by simp)).trans (.rset _ _ fun q => frozen_key q _ (by simp))).trans (.rset _ _ fun q => (frozen_key_counts q p).1)
  exact (shown _ _ _).trans (.rset _ _ fun q => (frozen_key_counts q p).2.1)

/-! ## The error log (R345 to R347) -/

/-- A freezing error at a worker: the queue is frozen, the error is the newest of the log. -/
theorem blError_freezes {s : State} (worker : s.mode = .worker) (p code tag : Nat) (h : Option BlHdr) :
    (s.blError p code tag h true).flag (Reg.BL_STAT_FROZEN p) = true ∧ (s.blError p code tag h true).link.errors.head?.map (·.code) = some code ∧
      (s.blError p code tag h true).adm = s.adm ∧ (s.blError p code tag h true).media = s.media := by
  unfold blError
  extract_lets was secs typ nonce bytes e link logged v held w
  have told : KeepsLink v w := by
    have notManager : ¬(v.mode == .manager) = true := by
      show ¬(s.mode == .manager) = true
      simp [worker]
    show KeepsLink v (if v.mode == .manager then _ else _)
    rw [if_neg notManager]
    exact .ite (.refl v) (blSend_keepsLink v p _)
  have shown := told.trans (blStat_keepsLink w p)
  have frozen : v.flag (Reg.BL_STAT_FROZEN p) = true := by
    rw [flag_eq, rget_rset_same]
    rfl
  rw [if_neg (by decide)]
  exact ⟨(shown.frozen p).trans frozen, by rw [shown.errors]; rfl, shown.adm, shown.media⟩

/-! ## A packet that passes every check (R331, R335, R345) -/

/-- The state a good packet leaves: its number expected no more, its ACK and its credits sent, its nonce counter used. -/
def received (s : State) (p : Nat) (h : BlHdr) : State :=
  let s := s.modBl p fun b => { b with recvSeq := (b.recvSeq + 1) % 65536, nakSent := false }
  let s := (s.sendControl p 0x40 h.lseq 0).sendControl p 0x42 1 (ceilDiv h.len 256)
  if h.typ == 0x10 || h.typ == 0x11 then s else s.modBl p fun b => { b with rxNext := h.counter + 1 }

theorem received_frame (s : State) (p : Nat) (h : BlHdr) : ∃ ports out, s.received p h = { s with link := { s.link with ports := ports }, out := out } := by
  unfold received
  split <;> exact ⟨_, _, rfl⟩

theorem received_keepsLink (s : State) (p : Nat) (h : BlHdr) : KeepsLink s (s.received p h) := by
  unfold received sendControl
  extract_lets u v
  have answered : KeepsLink s v := ((KeepsLink.modBl fun _ h => h).trans (.emit u _)).trans (.emit _ _)
  exact .ite answered (answered.trans (.modBl fun _ h => h))

theorem received_mode (s : State) (p : Nat) (h : BlHdr) : (s.received p h).mode = s.mode := by
  obtain ⟨ports, out, frame⟩ := s.received_frame p h
  rw [frame]

theorem blRecv_packetOk {s : State} {p typ : Nat} {h : BlHdr} (ok : s.packetOk p typ h = true) (tag : Nat) : s.blRecv p typ tag h = (s.received p h, true) := by
  obtain ⟨ports, out, frame⟩ := s.received_frame p h
  simp only [packetOk, Bool.and_eq_true, Bool.or_eq_true, bne_iff_ne, beq_iff_eq, decide_eq_true_eq] at ok
  obtain ⟨⟨⟨⟨⟨⟨⟨lanes, inUse⟩, crc⟩, seq⟩, session⟩, rfl⟩, dir⟩, len⟩ := ok
  have behind : ((s.bl p).recvSeq + 65536 - h.lseq) % 65536 = 0 := by omega
  have dirAfter : (s.received p h).dirOk h.typ = true := by rwa [frame]
  unfold blRecv
  extract_lets b beh last u v hello w
  have same : w = s.received p h := rfl
  clear_value w
  subst same
  have expected : (beh != 0) = false := by rw [show beh = 0 from behind]; rfl
  have signed : hello = false → b.session = true ∧ h.authOk = true ∧ b.rxNext ≤ h.counter := by
    intro no
    simp only [hello, Bool.or_eq_false_iff, beq_eq_false_iff_ne] at no
    rcases session with (is | is) | ⟨⟨up, auth⟩, fresh⟩
    · exact absurd is no.1
    · exact absurd is no.2
    · exact ⟨up, auth, fresh⟩
  clear_value hello
  cases hello
  · obtain ⟨up, auth, fresh⟩ := signed rfl
    simp [b, lanes, inUse, crc, expected, up, auth, Nat.not_lt.2 fresh, dirAfter, len]
  · simp [b, lanes, inUse, crc, expected, dirAfter, len]

/-! ## CMD packets (R336 to R338, R342, R346) -/

theorem packetOk_worker {s : State} {p : Nat} {h : BlHdr} (ok : s.packetOk p 0x01 h = true) : s.mode = .worker := by
  simp only [packetOk, Bool.and_eq_true] at ok
  simpa [dirOk] using ok.1.2

section
variable {s : State} {c : BlCmd} (ok : s.packetOk 0 0x01 c.h = true)
include ok

/-- A command that repeats an outstanding tag freezes the queue with error 5. -/
theorem blAccept_repeated (outstanding : (Table.find s.link.inTags c.tag).isSome = true) :
    s.blAccept c = ((s.received 0 c.h).blError 0 5 c.tag (some c.h) true, false) := by
  obtain ⟨ports, out, frame⟩ := s.received_frame 0 c.h
  rw [blAccept, blRecv_packetOk ok, frame]
  simp [outstanding]

variable (new : Table.find s.link.inTags c.tag = none) (room : s.link.inTags.length < 512)
include new room

theorem blAccept_frozen (frozen : s.flag (Reg.BL_STAT_FROZEN 0) = true) :
    s.blAccept c = (((s.received 0 c.h).rsat (Reg.BL_ERRCNT_FROZEN_CMDS 0)).blResp c.tag 8 0 0 [] [], false) := by
  obtain ⟨ports, out, frame⟩ := s.received_frame 0 c.h
  rw [blAccept, blRecv_packetOk ok, frame]
  rw [flag] at frozen
  simp [new, Nat.not_le.2 room, flag, frozen]

/-- A command that comes to a running queue is taken up, or answered with the status it is refused with. -/
theorem blAccept_running (running : s.flag (Reg.BL_STAT_FROZEN 0) = false) :
    s.blAccept c = if s.blRefusal c = 0 then (s.received 0 c.h, true) else ((s.received 0 c.h).blResp c.tag (s.blRefusal c) 0 0 [] [], false) := by
  obtain ⟨ports, out, frame⟩ := s.received_frame 0 c.h
  have refusal : (s.received 0 c.h).blRefusal c = s.blRefusal c := by
    rw [frame]
    rfl
  rw [blAccept, blRecv_packetOk ok]
  simp only [refusal]
  rw [frame]
  rw [flag] at running
  simp [new, Nat.not_le.2 room, flag, running]

end

/-- A RESP for a tag that is not outstanding is a packet alone (R338, R339). -/
theorem blResp_new {s : State} {tag : Nat} (new : Table.find s.link.inTags tag = none) (status detail count : Nat) (unrec zeros : List Nat) :
    s.blResp tag status detail count unrec zeros = s.blSend 0 ⟨0x04, false, tag, [], respBody status detail count unrec zeros⟩ := by
  unfold blResp
  extract_lets u
  rw [(blSend_keepsLink s 0 _).inTags, new]

theorem blCommand_accepted {s t : State} {c : BlCmd} (h : s.blAccept c = (t, true)) : s.blCommand c.opcode c = t.blStart c := by
  simp [blCommand, blRow, h]

theorem blCommand_answered {s t : State} {c : BlCmd} (h : s.blAccept c = (t, false)) : s.blCommand c.opcode c = t := by
  simp [blCommand, blRow, h]

/-- A command that is answered at once takes no context and holds no tag. -/
theorem blResp_refuses {s t : State} {tag : Nat} (keeps : KeepsLink s t) (new : Table.find s.link.inTags tag = none) (status : Nat) :
    (t.blResp tag status 0 0 [] []).queuedOrSent 0 ⟨0x04, false, tag, [], respBody status 0 0 [] []⟩ ∧
      Table.find (t.blResp tag status 0 0 [] []).link.inTags tag = none ∧ (t.blResp tag status 0 0 [] []).adm.ctxs = s.adm.ctxs ∧
      (t.blResp tag status 0 0 [] []).media = s.media := by
  rw [← keeps.inTags] at new
  rw [blResp_new new]
  have sent := blSend_keepsLink t 0 ⟨0x04, false, tag, [], respBody status 0 0 [] []⟩
  have all := keeps.trans sent
  exact ⟨blSend_queuedOrSent t 0 _, by rw [sent.inTags, new], by rw [all.adm], all.media⟩

/-- A command that is taken up has a context in arrival order and holds its tag (R25, R342). -/
theorem blStart_takes {s : State} {c : BlCmd} {n : Nat} (free : s.freeCtx 1 = some n) :
    ∃ x, (s.blStart c).ctx n = some x ∧ x.sqe = blSqe c ∧ x.seq = s.adm.seq ∧ (s.blStart c).adm.seq = s.adm.seq + 1 ∧
      (Table.find (s.blStart c).link.inTags c.tag).map (·.ctx) = some n ∧ (s.blStart c).media = s.media ∧ (s.blStart c).mem = s.mem := by
  unfold blStart
  rw [free]
  exact ⟨_, Table.find_ins_same _ _ _, rfl, rfl, rfl, congrArg _ (Table.find_ins_same _ _ _), rfl, rfl⟩

end State

/-- The six rows of commands that use the media run the one command of their opcode (R337). -/
theorem exec_blMedia (c : BlCmd) (s : State) : ∀ i ∈ [(Instr.blRead c, 1), (.blWrite c, 2), (.writeDelta c, 3), (.parityApply c, 4), (.deallocate c, 5), (.blFlush c, 6)],
    exec i.1 s = .next (s.blCommand i.2 c) := by
  simp only [List.forall_mem_cons]
  exact ⟨rfl, rfl, rfl, rfl, rfl, rfl, by simp⟩

end Sys2Proof.Machine

namespace Sys2Proof.Proofs

open Sys2Proof.Machine Sys2Proof.Machine.State

/-- Settles O28: the four ways a CMD packet goes, one clause each. -/
theorem workerCommands : Obligations.WorkerCommands := by
  intro c s i row
  rw [exec_blMedia c s i row]
  have keeps : KeepsLink s (s.received 0 c.h) := received_keepsLink s 0 c.h
  refine ⟨?_, ?_, ?_, ?_⟩
  · intro n accepted free
    simp only [cmdOk, Bool.and_eq_true, Bool.not_eq_true', beq_iff_eq, decide_eq_true_eq, Option.isNone_iff_eq_none] at accepted
    obtain ⟨⟨⟨⟨⟨ok, new⟩, room⟩, running⟩, unrefused⟩, opcode⟩ := accepted
    obtain ⟨x, ctx, sqe, seq, next, tag, media, mem⟩ := blStart_takes (s := s.received 0 c.h) (c := c) (n := n) (by rw [freeCtx, keeps.adm]; exact free)
    rw [keeps.adm] at seq next
    rw [keeps.media] at media
    rw [keeps.mem] at mem
    rw [← opcode, blCommand_accepted ((blAccept_running ok new room running).trans (if_pos unrefused))]
    exact ⟨_, x, rfl, ctx, sqe, seq, next, tag, media, mem⟩
  · intro opcode ok new room running refused
    rw [← opcode, blCommand_answered ((blAccept_running ok new room running).trans (if_neg refused))]
    exact ⟨_, rfl, blResp_refuses keeps new _⟩
  · intro opcode ok new room frozen
    obtain ⟨sent, -, ctxs, media⟩ := blResp_refuses (keeps.trans (.rset _ _ fun q => (frozen_key_counts q 0).2.2)) new 8
    rw [← opcode, blCommand_answered (blAccept_frozen ok new room frozen)]
    exact ⟨_, rfl, sent, ctxs, media⟩
  · intro opcode ok outstanding
    have worker : (s.received 0 c.h).mode = .worker := by rw [received_mode, packetOk_worker ok]
    obtain ⟨frozen, code, adm, media⟩ := blError_freezes worker 0 5 c.tag (some c.h)
    rw [← opcode, blCommand_answered (blAccept_repeated ok outstanding)]
    exact ⟨_, rfl, frozen, code, by rw [adm, keeps.adm], by rw [media, keeps.media]⟩

end Sys2Proof.Proofs
end

section
/-! PROOFS, architecture family: the reading commands and Flush (chapter 11). -/

namespace Sys2Proof.Table

/-- What is found is listed. -/
theorem mem_of_find {α : Type} {t : Table α} {k : Nat} {v : α} (h : find t k = some v) : (k, v) ∈ t := by
  induction t with
  | nil => simp at h
  | cons p t ih =>
    obtain ⟨j, w⟩ := p
    rw [find] at h
    split at h
    · rename_i same
      rw [same, Option.some.inj h]
      exact List.mem_cons_self
    · exact List.mem_cons_of_mem _ (ih h)

end Sys2Proof.Table

namespace Sys2Proof.Machine.State

/-! ## Read, Verify, Compare (R284, R287) -/

theorem mayRun_ctx {s : State} {n op : Nat} {c : Ctx} {ns : Namespace} (h : s.mayRun n op = some (c, ns)) : s.ctx n = some c := by
  unfold mayRun at h
  split at h
  · cases h
  · rename_i x found
    split at h
    · cases h
    · split at h
      · cases h
        exact found
      · cases h

theorem exec_read {s : State} {n : Nat} {c : Ctx} {ns : Namespace} (runs : s.mayRun n 0x02 = some (c, ns)) :
    exec (.read n) s = .next ((s.modMedia fun m => { m with hourHost := m.hourHost + 1 }).beginRead n ns c) := by
  show execRead n s = _
  rw [execRead, runs]

theorem exec_verify {s : State} {n : Nat} {c : Ctx} {ns : Namespace} (runs : s.mayRun n 0x0C = some (c, ns)) : exec (.verify n) s = .next (s.beginRead n ns c) := by
  show execVerify n s = _
  rw [execVerify, runs]

theorem exec_compare {s : State} {n : Nat} {c : Ctx} {ns : Namespace} (data : List Block) (runs : s.mayRun n 0x05 = some (c, ns)) :
    exec (.compare n data) s = .next (((s.beginRead n ns c).modCtxN n fun x => { x with cmp := data }).askHost n ((c.sqe.nlb + 1) * ns.lbaBytes)) := by
  show execCompare n data s = _
  rw [execCompare, runs]

theorem ctx_beginRead_same {s : State} {n : Nat} {c : Ctx} (found : s.ctx n = some c) (ns : Namespace) :
    (s.beginRead n ns c).ctx n = some { c with started := true, todo := rangeTodo ns c.sqe.slba c.sqe.nlb } := by
  rw [beginRead, ctx_modCtxN_same, found]
  rfl

theorem ctx_beginRead_other (s : State) {n m : Nat} (c : Ctx) (ns : Namespace) (h : m ≠ n) : (s.beginRead n ns c).ctx m = s.ctx m := ctx_modCtxN_other _ _ _ _ h

theorem injected_frame (s : State) (kind count : Field) : ∃ r, s.injected kind count = { s with regs := r } := by
  unfold injected
  extract_lets k u
  split <;> exact ⟨_, rfl⟩

theorem sendTlp_frame (s : State) (p : Nat) : ∃ r x, s.sendTlp p = { s with regs := r, ports := x } := by
  unfold sendTlp
  split
  · obtain ⟨r, frame⟩ := s.injected_frame Reg.FG_PCIE_KIND Reg.FG_PCIE_COUNT
    rw [usedPcie, frame]
    exact ⟨r, _, rfl⟩
  · exact ⟨_, _, rfl⟩

/-- Asking the host for data leaves what flash holds and the dies; of the context it changes the bytes still wanted (R259). -/
structure AsksHost (n : Nat) (s t : State) : Prop where
  ctx : ∀ c, s.ctx n = some c → ∃ k, t.ctx n = some { c with hostWant := k }
  media : t.media = s.media
  flash : t.flash = s.flash

namespace AsksHost

theorem refl (n : Nat) (s : State) : AsksHost n s s := ⟨fun _ found => ⟨_, found⟩, rfl, rfl⟩

theorem trans {n : Nat} {s t u : State} (a : AsksHost n s t) (b : AsksHost n t u) : AsksHost n s u where
  ctx c found := by
    obtain ⟨k, wants⟩ := a.ctx c found
    obtain ⟨j, later⟩ := b.ctx _ wants
    exact ⟨j, later⟩
  media := b.media.trans a.media
  flash := b.flash.trans a.flash

theorem sendTlp (n : Nat) (s : State) (p : Nat) : AsksHost n s (s.sendTlp p) := by
  obtain ⟨r, x, frame⟩ := s.sendTlp_frame p
  rw [frame]
  exact ⟨fun _ found => ⟨_, found⟩, rfl, rfl⟩

theorem usedPcie (n : Nat) (s : State) : AsksHost n s s.usedPcie := by
  obtain ⟨r, frame⟩ := s.injected_frame Reg.FG_PCIE_KIND Reg.FG_PCIE_COUNT
  rw [State.usedPcie, frame]
  exact ⟨fun _ found => ⟨_, found⟩, rfl, rfl⟩

theorem modPort (n : Nat) (s : State) (p : Nat) (f : Port → Port) : AsksHost n s (s.modPort p f) := ⟨fun _ found => ⟨_, found⟩, rfl, rfl⟩

/-- The context's bytes still wanted are set. -/
theorem setCtx {n : Nat} {s t : State} {c : Ctx} (keeps : AsksHost n s t) (found : s.ctx n = some c) (k : Nat) : AsksHost n s (t.setCtx n { c with hostWant := k }) where
  ctx x same := by
    rw [found] at same
    obtain rfl := Option.some.inj same
    exact ⟨k, ctx_setCtx_same _ _ _⟩
  media := keeps.media
  flash := keeps.flash

end AsksHost

theorem issueReads_asksHost (p n f : Nat) (s : State) : AsksHost n s (issueReads p n f s) := by
  induction f generalizing s with
  | zero => exact .refl n s
  | succ f ih =>
    unfold issueReads
    cases found : s.ctx n with
    | none => exact .refl n s
    | some c =>
      dsimp only
      split
      · exact .refl n s
      · split
        · exact .refl n s
        · refine .trans (.setCtx ?_ found _) (ih _)
          refine .trans ?_ (.modPort n _ p _)
          refine .trans ?_ (.sendTlp n _ p)
          split
          · exact .usedPcie n s
          · exact .refl n s

theorem askHost_asksHost (s : State) (n bytes : Nat) : AsksHost n s (s.askHost n bytes) := by
  unfold askHost
  cases found : s.ctx n with
  | none => exact .refl n s
  | some c =>
    dsimp only
    split
    · exact .refl n s
    · exact (AsksHost.setCtx (.refl n s) found bytes).trans (issueReads_asksHost c.ctl n 4096 _)

/-! ## The journal page that a Flush commits (R159) -/

theorem jrnlNew_frame (s : State) (d : Nat) : ∃ b, (s.jrnlNew d).1 = s.modNand fun x => { x with blocks := b } := by
  unfold jrnlNew
  split <;> exact ⟨_, rfl⟩

theorem jrnlPlace_frame (s : State) (d : Nat) (old : Option (Nat × Nat)) : ∃ b, (s.jrnlPlace d old).1 = s.modNand fun x => { x with blocks := b } := by
  unfold jrnlPlace
  split
  · split
    · exact ⟨_, rfl⟩
    · exact jrnlNew_frame s d
  · exact jrnlNew_frame s d

theorem jrnlPlaces_frame (s : State) : ∃ b j, s.jrnlPlaces.1 = s.modNand fun x => { x with blocks := b, jopen := j } := by
  unfold jrnlPlaces
  extract_lets old r
  suffices placed : ∃ b, r.1 = s.modNand fun x => { x with blocks := b } by
    obtain ⟨b, placed⟩ := placed
    dsimp only
    rw [placed]
    exact ⟨b, _, rfl⟩
  refine List.foldlRecOn (motive := fun a : State × List (Nat × Nat) => ∃ b, a.1 = s.modNand fun x => { x with blocks := b }) _ _ ⟨_, rfl⟩ ?_
  rintro ⟨t, ps⟩ ⟨b, rfl⟩ q -
  obtain ⟨b', placed⟩ := jrnlPlace_frame (s.modNand fun x => { x with blocks := b }) q.1 old[q.2]?
  split <;> rename_i e <;> rw [e] at placed <;> exact ⟨b', placed⟩

/-- A commit empties the open page; beside it, it changes the journal's pages, sequence and blocks. -/
theorem commitPage_frame (s : State) : ∃ r b j ps q, s.commitPage = { s with
    regs := r
    media := { s.media with pages := ps, nextSeq := q, openPage := [], nand := { s.media.nand with blocks := b, jopen := j } } } := by
  unfold commitPage
  extract_lets m r
  split
  · rename_i empty
    exact ⟨s.regs, s.media.nand.blocks, s.media.nand.jopen, s.media.pages, s.media.nextSeq, by rw [← List.isEmpty_iff.1 empty]⟩
  · obtain ⟨b, j, places⟩ := s.jrnlPlaces_frame
    rw [show r.1 = _ from places]
    exact ⟨_, b, j, _, _, rfl⟩

/-! ## The pads of a Flush (R146) -/

/-- Padding changes superblocks and registers. -/
def PadsOnly (s t : State) : Prop := ∃ r b, t = { s with regs := r, media := { s.media with nand := { s.media.nand with sbs := b } } }

theorem PadsOnly.refl (s : State) : PadsOnly s s := ⟨_, _, rfl⟩

theorem PadsOnly.trans {s t u : State} (a : PadsOnly s t) (b : PadsOnly t u) : PadsOnly s u := by
  obtain ⟨_, _, rfl⟩ := a
  obtain ⟨r, b, rfl⟩ := b
  exact ⟨r, b, rfl⟩

theorem PadsOnly.foldl {α : Type} {f : State → α → State} (step : ∀ s x, PadsOnly s (f s x)) (l : List α) (s : State) : PadsOnly s (l.foldl f s) :=
  List.foldlRecOn l f (.refl s) fun t k x _ => k.trans (step t x)

theorem padUnit_padsOnly (s : State) (n : Nat) : PadsOnly s (s.padUnit n) := by
  unfold padUnit
  split
  · exact .refl s
  · extract_lets u c v
    split <;> exact ⟨_, _, rfl⟩

theorem padStripe_padsOnly (s : State) (n : Nat) : PadsOnly s (s.padStripe n) := by
  unfold padStripe
  split
  · exact .refl s
  · refine .foldl (fun t _ => ?_) _ s
    split
    · split
      · exact padUnit_padsOnly t n
      · exact .refl t
    · exact .refl t

theorem flushPads_padsOnly (s : State) : PadsOnly s s.flushPads :=
  .foldl (fun t _ => .foldl padStripe_padsOnly _ t) _ s

/-- What the pads and the commit of a Flush leave alone. -/
theorem commitPads_keeps {s t : State} (h : t = s.flushPads.commitPage) :
    t.media.openPage = [] ∧ t.media.parcels = s.media.parcels ∧ t.media.map = s.media.map ∧ t.media.nand.content = s.media.nand.content ∧
      t.media.nand.ns = s.media.nand.ns ∧ t.flash = s.flash ∧ t.adm = s.adm := by
  obtain ⟨_, _, pads⟩ := flushPads_padsOnly s
  obtain ⟨_, _, _, _, _, commit⟩ := commitPage_frame s.flushPads
  rw [commit, pads] at h
  subst h
  exact ⟨rfl, rfl, rfl, rfl, rfl, rfl, rfl⟩

/-! ## Flush (R20, R296) -/

/-- Changing the parcels of a list, some of them more than once by a change that is done at once. -/
theorem parcel_foldl_modParcel {f : Parcel → Parcel} (once : ∀ x, f (f x) = f x) (l : Table Parcel) (s : State) (p : Nat) :
    (l.foldl (fun s q => s.modParcel q.1 f) s).parcel p = if p ∈ Table.keys l then f (s.parcel p) else s.parcel p := by
  induction l generalizing s with
  | nil => rfl
  | cons q l ih =>
    have keys : Table.keys (q :: l) = q.1 :: Table.keys l := rfl
    simp only [List.foldl_cons, ih, keys, List.mem_cons]
    by_cases here : p = q.1
    · subst here
      rw [modParcel, parcel_setParcel_same, once]
      simp
    · rw [modParcel, parcel_setParcel_other _ _ _ _ here]
      simp only [here, false_or]

theorem foldl_modParcel_frame (f : Parcel → Parcel) (l : Table Parcel) (s : State) :
    ∃ r ps, l.foldl (fun s q => s.modParcel q.1 f) s = { s with regs := r, media := { s.media with parcels := ps } } := by
  refine List.foldlRecOn (motive := fun t : State => ∃ r ps, t = { s with regs := r, media := { s.media with parcels := ps } }) l _ ⟨_, _, rfl⟩ ?_
  rintro _ ⟨r, ps, rfl⟩ q -
  exact ⟨_, _, rfl⟩

/-- The parcels a Flush covers (R20): written by a command that passed its completion point before the Flush was fetched, of the namespaces it names, not yet programmed. -/
def flushCovers (c : Ctx) (x : Parcel) : Bool :=
  decide (x.cpSeq < c.seq) && x.committed && (x.state == .filled || x.state == .placed || x.state == .stripeWait) &&
    (c.sqe.nsid == 0xFFFFFFFF || x.slot % 128 == slotOf c.sqe.nsid)

/-- The listed parcels a Flush covers. -/
def flushParcels (s : State) (c : Ctx) : Table Parcel := s.media.parcels.filter fun q => flushCovers c q.2

/-- The state with the parcels a Flush covers at the front. -/
def hurried (s : State) (c : Ctx) : State := (s.flushParcels c).foldl (fun s q => s.modParcel q.1 fun x => { x with urgent := true }) s

/-- The written IUs a Flush waits for. -/
def flushToks (s : State) (c : Ctx) : List Nat := ((s.flushParcels c).filter fun q => q.2.first == q.1).map fun q => iuTokOf q.2

theorem exec_flush {s : State} {n : Nat} {c : Ctx} (found : s.ctx n = some c) (active : c.word = .active) (inserted : c.inserted = true) (fresh : c.started = false)
    (running : c.status = none) (opcode : c.sqe.opcode = 0) (io : c.sqid ≠ 0 ∨ 2 ≤ c.ctl) (powered : s.flushing = false) :
    exec (.flush n) s = .next (((s.hurried c).modCtxN n fun x =>
      { x with started := true, waitIus := s.flushToks c, needDurable := some (s.hurried c).media.nextSeq }).flushPads.commitPage) := by
  have notAdmin : (c.sqid == 0 && decide (c.ctl < 2)) = false := by
    simpa only [Bool.and_eq_false_iff, beq_eq_false_iff_ne, decide_eq_false_iff_not, Nat.not_lt] using io
  show execFlush n s = _
  unfold execFlush
  simp only [found, active, inserted, fresh, running, opcode, notAdmin, powered]
  rfl

theorem hurried_parcel (s : State) (c : Ctx) (p : Nat) :
    (s.hurried c).parcel p = if p ∈ Table.keys (s.flushParcels c) then { s.parcel p with urgent := true } else s.parcel p :=
  parcel_foldl_modParcel (f := fun x => { x with urgent := true }) (fun _ => rfl) (s.flushParcels c) s p

/-- A covered parcel is listed, since one that is not is FREE. -/
theorem mem_flushParcels {s : State} {c : Ctx} {p : Nat} (covered : flushCovers c (s.parcel p) = true) : p ∈ Table.keys (s.flushParcels c) := by
  unfold parcel Table.get at covered
  cases found : Table.find s.media.parcels p with
  | none =>
    rw [found] at covered
    simp [flushCovers] at covered
  | some x =>
    rw [found] at covered
    exact List.mem_map.2 ⟨(p, x), List.mem_filter.2 ⟨Table.mem_of_find found, covered⟩, rfl⟩

theorem flushCovers_of {c : Ctx} {x : Parcel} (before : x.cpSeq < c.seq) (committed : x.committed = true) (state : x.state = .filled ∨ x.state = .placed ∨ x.state = .stripeWait)
    (named : c.sqe.nsid = 0xFFFFFFFF ∨ x.slot % 128 = slotOf c.sqe.nsid) : flushCovers c x = true := by
  simp [flushCovers, before, committed, state, named, or_assoc]

end Sys2Proof.Machine.State

namespace Sys2Proof.Proofs

open Sys2Proof.Machine Sys2Proof.Machine.State

/-- Settles O42: the lookups begun, the host's data asked for, the parcels hurried and the page committed, and what each leaves alone. -/
theorem readingCommands : Obligations.ReadingCommands := by
  refine ⟨?_, ?_, ?_, ?_⟩
  · intro n c ns s runs
    exact ⟨_, exec_read runs, ctx_beginRead_same (mayRun_ctx runs) ns, fun m h => ctx_beginRead_other _ c ns h, rfl, rfl, rfl⟩
  · intro n c ns s runs
    exact ⟨_, exec_verify runs, ctx_beginRead_same (mayRun_ctx runs) ns, fun m h => ctx_beginRead_other s c ns h, rfl, rfl, rfl⟩
  · intro n data c ns s runs
    have asking := (ctx_modCtxN_same (s.beginRead n ns c) n fun x => { x with cmp := data }).trans (congrArg _ (ctx_beginRead_same (mayRun_ctx runs) ns))
    have asks := askHost_asksHost ((s.beginRead n ns c).modCtxN n fun x => { x with cmp := data }) n ((c.sqe.nlb + 1) * ns.lbaBytes)
    obtain ⟨k, ctx⟩ := asks.ctx _ asking
    exact ⟨_, _, exec_compare data runs, ctx, rfl, rfl, rfl, rfl, asks.media, asks.flash⟩
  · intro n c s found active inserted fresh running opcode io powered
    have run := exec_flush found active inserted fresh running opcode io powered
    generalize done : commitPage _ = t at run
    obtain ⟨page, kept, map, content, spaces, flash, adm⟩ := commitPads_keeps done.symm
    obtain ⟨_, _, hurried⟩ : ∃ r ps, s.hurried c = { s with regs := r, media := { s.media with parcels := ps } } := foldl_modParcel_frame _ _ s
    have parcels : ∀ p, t.parcel p = if p ∈ Table.keys (s.flushParcels c) then { s.parcel p with urgent := true } else s.parcel p := fun p => by
      rw [← hurried_parcel, parcel, kept]
      rfl
    have ctx : t.ctx n = some { c with started := true, waitIus := s.flushToks c, needDurable := some (s.hurried c).media.nextSeq } := by
      rw [ctx, adm]
      refine (ctx_modCtxN_same (s.hurried c) n _).trans ?_
      rw [show (s.hurried c).ctx n = some c by rw [hurried]; exact found]
      rfl
    refine ⟨t, _, run, ctx, rfl, by rw [hurried], page, ?_, ?_, ?_, ?_, ?_, ?_⟩
    · intro p before committed state named
      rw [parcels, if_pos (mem_flushParcels (flushCovers_of before committed state named))]
    · intro p
      rw [parcels]
      split <;> exact ⟨rfl, rfl⟩
    · rw [map, modCtxN_media, hurried]
    · rw [content, modCtxN_media, hurried]
    · rw [spaces, modCtxN_media, hurried]
    · rw [flash, modCtxN_flash, hurried]

end Sys2Proof.Proofs
end

section
/-! PROOFS, read-integrity family: what the owner of a finished codeword leaves alone (chapters 05 to 07). -/

namespace Sys2Proof.Table

/-- A table whose values are changed key by key. -/
theorem find_map {α : Type} {g : Nat × α → Nat × α} (keys : ∀ p, (g p).1 = p.1) (t : Table α) (k : Nat) :
    find (t.map g) k = (find t k).map fun v => (g (k, v)).2 := by
  induction t with
  | nil => rfl
  | cons p t ih =>
    obtain ⟨i, v⟩ := p
    have head : g (i, v) = (i, (g (i, v)).2) := Prod.ext (keys _) rfl
    rw [List.map_cons, head, find, find, ih]
    by_cases same : k = i
    · subst same
      simp
    · simp [same]

end Sys2Proof.Table

namespace Sys2Proof.Machine.State

/-- The two counts of level 3 (R153). -/
def reconCounts : List Field := [Reg.FT_PARITY_CNT_RECON_OK, Reg.FT_PARITY_CNT_RECON_FAIL]

/-- A step that registers no codeword and leaves the map, the stored data, DRAM, the hour's reads and the counts of level 3. -/
structure KeepsReads (s t : State) : Prop where
  map : t.media.map = s.media.map
  content : t.media.nand.content = s.media.nand.content
  hourReads : t.media.hourReads = s.media.hourReads
  mem : t.mem = s.mem
  recon : ∀ f ∈ reconCounts, t.rget f = s.rget f
  ended : ∀ n, Table.find s.flash.jobs n = none → Table.find t.flash.jobs n = none

namespace KeepsReads

theorem refl (s : State) : KeepsReads s s := ⟨rfl, rfl, rfl, rfl, fun _ _ => rfl, fun _ h => h⟩

theorem trans {s t u : State} (a : KeepsReads s t) (b : KeepsReads t u) : KeepsReads s u where
  map := b.map.trans a.map
  content := b.content.trans a.content
  hourReads := b.hourReads.trans a.hourReads
  mem := b.mem.trans a.mem
  recon f h := (b.recon f h).trans (a.recon f h)
  ended n h := b.ended n (a.ended n h)

theorem foldl {α : Type} {f : State → α → State} (step : ∀ s x, KeepsReads s (f s x)) (l : List α) (s : State) : KeepsReads s (l.foldl f s) :=
  List.foldlRecOn l f (.refl s) fun t k x _ => k.trans (step t x)

theorem ite {s t u : State} {c : Prop} [Decidable c] (a : KeepsReads s t) (b : KeepsReads s u) : KeepsReads s (if c then t else u) := by
  split
  · exact a
  · exact b

theorem rset {s t : State} (k : KeepsReads s t) (f : Field) (v : Nat) (other : ∀ g ∈ reconCounts, g.key ≠ f.key := by decide) : KeepsReads s (t.rset f v) :=
  k.trans ⟨rfl, rfl, rfl, rfl, fun g h => rget_rset_other t f g v (other g h), fun _ h => h⟩

theorem rsat {s t : State} (k : KeepsReads s t) (f : Field) (n : Nat := 1) (other : ∀ g ∈ reconCounts, g.key ≠ f.key := by decide) : KeepsReads s (t.rsat f n) :=
  k.trans ⟨rfl, rfl, rfl, rfl, fun g h => rget_rsat_other t f g n (other g h), fun _ h => h⟩

theorem modMedia {s t : State} (k : KeepsReads s t) (f : Media → Media) (map : (f t.media).map = t.media.map := by rfl)
    (content : (f t.media).nand.content = t.media.nand.content := by rfl) (hourReads : (f t.media).hourReads = t.media.hourReads := by rfl) :
    KeepsReads s (t.modMedia f) :=
  k.trans ⟨map, content, hourReads, rfl, fun _ _ => rfl, fun _ h => h⟩

theorem modNand {s t : State} (k : KeepsReads s t) (f : Nand → Nand) (content : (f t.media.nand).content = t.media.nand.content := by rfl) : KeepsReads s (t.modNand f) :=
  k.trans ⟨rfl, content, rfl, rfl, fun _ _ => rfl, fun _ h => h⟩

theorem modSb {s t : State} (k : KeepsReads s t) (n : Nat) (f : Superblock → Superblock) : KeepsReads s (t.modSb n f) := k.modNand _

theorem modBlock {s t : State} (k : KeepsReads s t) (b : Nat) (f : BlockInfo → BlockInfo) : KeepsReads s (t.modBlock b f) := k.modNand _

theorem modGrp {s t : State} (k : KeepsReads s t) (g : Nat) (f : Group → Group) : KeepsReads s (t.modGrp g f) := k.modMedia _

theorem modCtxN {s t : State} (k : KeepsReads s t) (n : Nat) (f : Ctx → Ctx) : KeepsReads s (t.modCtxN n f) :=
  k.trans ⟨rfl, rfl, rfl, rfl, fun _ _ => rfl, fun _ h => h⟩

theorem modAdm {s t : State} (k : KeepsReads s t) (a : Admin) : KeepsReads s { t with adm := a } := k.trans ⟨rfl, rfl, rfl, rfl, fun _ _ => rfl, fun _ h => h⟩

theorem setTracker {s t : State} (k : KeepsReads s t) (b v : Nat) : KeepsReads s (t.setTracker b v) := k.trans ⟨rfl, rfl, rfl, rfl, fun _ _ => rfl, fun _ h => h⟩

end KeepsReads

/-! ### The journal (R158, R159, R214) -/

theorem commitPage_keepsReads (s : State) : KeepsReads s s.commitPage := by
  unfold commitPage
  extract_lets m r
  obtain ⟨b, j, places⟩ := s.jrnlPlaces_frame
  have placed : KeepsReads s r.1 := by
    rw [show r.1 = _ from places]
    exact (KeepsReads.refl s).modNand _
  exact .ite (.refl s) ((((placed.modMedia _).rset _ _).rset _ _).rset _ _)

theorem journal1_keepsReads (s : State) (entry index nsx type : Nat) : KeepsReads s (s.journal1 entry index nsx type) := by
  unfold journal1
  extract_lets u
  have added : KeepsReads s u := (KeepsReads.refl s).modMedia _
  exact .ite (added.trans (commitPage_keepsReads u)) added

theorem journalUnit_keepsReads (s : State) (rs : List Pending) : KeepsReads s (s.journalUnit rs) := by
  have written : KeepsReads s (s.journalGroup (rs.map (·.record))) :=
    .trans (.ite (commitPage_keepsReads s) (.refl s)) (.foldl (fun t r => journal1_keepsReads t _ _ _ _) _ _)
  refine written.trans (.foldl (fun t r => ?_) rs _)
  have invalid : ∀ l q, KeepsReads t (t.invalidateLoc l q) := fun l q => by
    unfold invalidateLoc
    split
    · exact (KeepsReads.refl t).modNand _
    · exact .refl t
  split
  · exact (invalid _ _).modAdm _
  · exact (KeepsReads.refl t).modAdm _

/-! ### Superblocks queued and freed (R152, R155, R160, R169) -/

theorem selectVictim_keepsReads (s : State) (g : Nat) : KeepsReads s (s.selectVictim g) := by
  unfold selectVictim
  extract_lets x busy u urgent stop pool better best
  have counted : KeepsReads s u := .ite ((KeepsReads.refl s).rsat _) (.refl s)
  refine .ite (.refl s) ?_
  clear_value best
  cases best with
  | none => exact counted.modGrp _ _
  | some q => exact counted.modGrp _ _

theorem condemn_keepsReads (s : State) (n src : Nat) : KeepsReads s (s.condemn n src) := by
  have queued : KeepsReads s (s.queueVictim n src) := by
    unfold queueVictim
    split
    · exact .refl s
    · extract_lets x old
      refine .ite (.refl s) ?_
      cases old with
      | none => exact (KeepsReads.refl s).modGrp _ _
      | some q => exact .ite ((KeepsReads.refl s).modGrp _ _) (.refl s)
  unfold condemn
  extract_lets u
  split
  · exact .ite (queued.trans (selectVictim_keepsReads u _)) queued
  · exact queued

theorem queueRefresh_keepsReads (s : State) (n src : Nat) : KeepsReads s (s.queueRefresh n src) := by
  have condemned := condemn_keepsReads s n src
  unfold queueRefresh
  extract_lets t
  split
  · exact .refl s
  · refine .ite ?_ condemned
    split <;> exact condemned.rsat _

theorem dropParity_keepsReads (s : State) (n : Nat) : KeepsReads s (s.dropParity n) := by
  unfold dropParity
  split
  · exact .refl s
  · rename_i b _
    have dropped : KeepsReads s (b.parityIn.foldl (fun s q => s.dropMeta q.1 q.2) s) := .foldl (fun t q => (KeepsReads.refl t).modSb _ _) _ s
    exact dropped.modSb _ _

theorem retireBlock_keepsReads (s : State) (b : Nat) : KeepsReads s (s.retireBlock b) := by
  unfold retireBlock
  exact .ite (.refl s) ((((KeepsReads.refl s).modNand _).trans (journal1_keepsReads _ _ _ _ _)).rsat _)

theorem freeSb_keepsReads (s : State) (n : Nat) : KeepsReads s (s.freeSb n) := by
  unfold freeSb
  split
  · exact .refl s
  · refine .ite (.refl s) (KeepsReads.modMedia (.modMedia (.modNand (.trans ?_ (dropParity_keepsReads _ n)) _) _) _)
    exact .foldl (fun t q => .foldl (fun u r => .ite (retireBlock_keepsReads u _) (((KeepsReads.refl u).modNand _).modMedia _)) _ t) _ s

theorem settleVictims_keepsReads (s : State) : KeepsReads s s.settleVictims := by
  have freed : KeepsReads s s.freeAll := .foldl freeSb_keepsReads _ s
  have marked : ∀ t g, KeepsReads t (startMark t g) := fun t g => .ite (.refl t) ((KeepsReads.refl t).modMedia _)
  have urged : ∀ t, KeepsReads t t.urgentMark := fun t => .ite ((KeepsReads.refl t).rset _ _) (.ite ((KeepsReads.refl t).rset _ _) (.refl t))
  exact ((freed.trans (.foldl marked _ _)).trans (.foldl selectVictim_keepsReads _ _)).trans (urged _)

/-! ### Samples (R154, R178, R179, R182) -/

theorem verifyEnds_keepsReads (s : State) (n : Nat) : KeepsReads s (s.verifyEnds n) := by
  have thinned : ∀ t, KeepsReads t (t.thin n) := fun t => by
    unfold thin
    split
    · exact .refl t
    · exact ((journal1_keepsReads t _ _ _ _).trans (dropParity_keepsReads _ n)).modNand _
  unfold verifyEnds
  split
  · exact .refl s
  · refine .ite ?_ ?_
    · exact ((((KeepsReads.refl s).modNand _).rsat _).trans (thinned _)).trans (settleVictims_keepsReads _)
    · refine .trans (.rsat (.modSb (.foldl (fun t bn => ?_) _ s) n _) _) (condemn_keepsReads _ n 2)
      exact (KeepsReads.refl t).modBlock bn _

theorem verifySample_keepsReads (s : State) (j : Job) (good : Bool) : KeepsReads s (s.verifySample j good) := by
  unfold verifySample
  extract_lets bn
  split
  · exact .refl s
  · split
    · exact .refl s
    · extract_lets u
      have counted : KeepsReads s u := (KeepsReads.refl s).modSb _ _
      exact .ite (.refl s) (.ite counted (counted.trans (verifyEnds_keepsReads u _)))

theorem patrolSample_keepsReads (s : State) (j : Job) : KeepsReads s (s.patrolSample j) := by
  unfold patrolSample
  extract_lets bn l w q x done u v r y src
  have taken : KeepsReads s u := (KeepsReads.refl s).modMedia _
  have shown : KeepsReads s r := (KeepsReads.ite (taken.rsat _) taken).rset _ _
  refine .ite (.refl s) ?_
  split
  · exact shown
  · split
    · exact shown
    · have walked : KeepsReads s y := shown.modMedia _
      exact .ite shown (.ite walked (walked.trans (queueRefresh_keepsReads y _ _)))

theorem checkSample_keepsReads (s : State) (j : Job) : KeepsReads s (s.checkSample j) :=
  .ite (.refl s) ((KeepsReads.refl s).modMedia _)

theorem trackSense_keepsReads (s : State) (j : Job) (k : Int) (cb : Nat) (good : Bool) : KeepsReads s (s.trackSense j k cb good) := by
  unfold trackSense
  extract_lets bn l u
  have sensed : KeepsReads s u := (KeepsReads.refl s).modMedia _
  refine .ite (.refl s) (.ite ((KeepsReads.refl s).modMedia _) (.ite sensed ?_))
  split
  · split
    · exact sensed.trans (queueRefresh_keepsReads _ _ _)
    · exact sensed
  · exact sensed.setTracker _ _

/-! ### Host reads (R127, R128, R135, R284) -/

/-- Handing a command to firmware changes of its codewords the class alone (R16). -/
theorem handOff_jobs (s : State) (n k : Nat) :
    ∃ c : Job → TClass, Table.find (s.handOff n).flash.jobs k = (Table.find s.flash.jobs k).map fun j => { j with cls := c j } := by
  unfold handOff
  extract_lets u js
  refine ⟨fun j => if js.contains k then .stopping else j.cls, ?_⟩
  refine (Table.find_map (fun p => ?_) s.flash.jobs k).trans (congrArg (Option.map · _) (funext fun j => ?_))
  · split <;> rfl
  · dsimp only
    split <;> rfl

theorem handOff_keepsReads (s : State) (n : Nat) : KeepsReads s (s.handOff n) := by
  refine ⟨rfl, rfl, rfl, rfl, fun _ _ => rfl, fun k none => ?_⟩
  obtain ⟨c, jobs⟩ := handOff_jobs s n k
  rw [jobs, none, Option.map_none]

/-- Leaving the first-attempt class changes of the codewords the class alone, of the media one of the hour's figures (R127, R189). -/
theorem leaveClass_frame (s : State) (n k : Nat) :
    (∃ c : Job → TClass, Table.find (s.leaveClass n).flash.jobs k = (Table.find s.flash.jobs k).map fun j => { j with cls := c j }) ∧
      (s.leaveClass n).media.nand = s.media.nand ∧ KeepsReads s (s.leaveClass n) := by
  have same : ∃ c : Job → TClass, Table.find s.flash.jobs k = (Table.find s.flash.jobs k).map fun j => { j with cls := c j } := ⟨(·.cls), by simp⟩
  unfold leaveClass
  split
  · exact ⟨same, rfl, .refl s⟩
  · split
    · exact ⟨same, rfl, .refl s⟩
    · extract_lets u v
      have counted : KeepsReads s { v with adm := { v.adm with leftClassTotal := v.adm.leftClassTotal + 1 } } :=
        ((((KeepsReads.refl s).rsat _).modCtxN n _).modMedia _).modAdm _
      exact ⟨handOff_jobs _ n k, rfl, counted.trans (handOff_keepsReads _ n)⟩

theorem leaveClass_keepsReads (s : State) (n : Nat) : KeepsReads s (s.leaveClass n) := (leaveClass_frame s n 0).2.2

theorem deliver_keepsReads (s : State) (n : Nat) (ns : Namespace) (iu p : Nat) (cs : List Cipher) : KeepsReads s (s.deliver n ns iu p cs) := by
  unfold deliver
  split
  · exact .refl s
  · exact .ite ((KeepsReads.refl s).modCtxN n _) ((KeepsReads.refl s).modCtxN n _)

/-! ### The owner's part (R14, R130, R154) -/

/-- A finished codeword taken off the list and counted (R189). -/
def jobEnded (s : State) (n : Nat) (j : Job) : State := ({ s with flash := { s.flash with jobs := Table.del s.flash.jobs n } } : State).countHour j

theorem earlyWarning_keepsReads (s : State) (j : Job) : KeepsReads s (s.earlyWarning j) :=
  .ite ((KeepsReads.refl s).modBlock _ _) (.refl s)

/-- Whoever owns a codeword that was read, taking it leaves the map and DRAM. -/
theorem ownerTakes_good {j : Job} (good : j.good = true) (s : State) (n lba nsid : Nat) : KeepsReads (s.jobEnded n j) (s.ownerTakes n j lba nsid) := by
  unfold ownerTakes
  extract_lets flash u v level cb l
  have warned : KeepsReads (s.jobEnded n j) v := earlyWarning_keepsReads (s.jobEnded n j) j
  cases j.owner with
  | host c iu part =>
    dsimp -zeta only
    extract_lets w x
    have told : KeepsReads (s.jobEnded n j) w := warned.modCtxN c _
    have classed : KeepsReads (s.jobEnded n j) x := .ite told (told.trans (leaveClass_keepsReads w c))
    rw [if_pos good]
    split
    · split
      · exact classed.trans (deliver_keepsReads x _ _ _ _ _)
      · exact classed
    · exact classed
  | patrol =>
    dsimp only
    rw [if_pos good]
    exact warned.trans (patrolSample_keepsReads v j)
  | verify => exact warned.trans (verifySample_keepsReads v j _)
  | tracking k => exact warned.trans (trackSense_keepsReads v j k cb _)
  | relocation =>
    dsimp only
    rw [if_pos good]
    exact warned.modMedia _
  | check =>
    dsimp only
    rw [if_pos good]
    exact warned.trans (checkSample_keepsReads v j)
  | selfTest => exact warned
  | other => exact warned

end Sys2Proof.Machine.State
end

section
/-! PROOFS, read-integrity family: the decode ladder (chapter 05). -/

namespace Sys2Proof.Machine

/-- The job as its ladder leaves it for its owner. -/
def Job.ended (j : Job) (record : Nat) (good : Bool) : Job := { j with state := .done, record := record, good := good, uncorr := !good || j.level == 3 }

namespace State

/-! ## The end of a ladder (R129) -/

/-- A step that counts in registers other than the counts of level 3. -/
def CountsOnly (s t : State) : Prop := ∃ r, t = { s with regs := r } ∧ ∀ f ∈ reconCounts, r.get f = s.rget f

theorem CountsOnly.refl (s : State) : CountsOnly s s := ⟨_, rfl, fun _ _ => rfl⟩

theorem CountsOnly.rsatIf {s t : State} (k : CountsOnly s t) (c : Prop) [Decidable c] (f : Field) (other : ∀ g ∈ reconCounts, g.key ≠ f.key := by decide) :
    CountsOnly s (if c then t.rsat f else t) := by
  obtain ⟨r, rfl, kept⟩ := k
  split
  · exact ⟨_, rfl, fun g h => (rget_rsat_other { s with regs := r } f g 1 (other g h)).trans (kept g h)⟩
  · exact ⟨r, rfl, kept⟩

theorem endJob_frame (s : State) (n : Nat) (j : Job) (r : DecRes) (good tag : Bool) (decoder : Nat) :
    ∃ t record, s.endJob n j r good tag decoder = t.setJob n (j.ended record good) ∧ CountsOnly s t :=
  ⟨_, _, rfl, ((((((CountsOnly.refl s).rsatIf _ _).rsatIf _ _).rsatIf _ _).rsatIf _ _).rsatIf _ _).rsatIf _ _⟩

/-- What the codec does to a decode in progress stays in registers and on the flash side. -/
def DecoderOnly (s t : State) : Prop := ∃ r f, t = { s with regs := r, flash := f }

theorem DecoderOnly.refl (s : State) : DecoderOnly s s := ⟨_, _, rfl⟩

theorem DecoderOnly.trans {s t u : State} (a : DecoderOnly s t) (b : DecoderOnly t u) : DecoderOnly s u := by
  obtain ⟨_, _, rfl⟩ := a
  obtain ⟨r, f, rfl⟩ := b
  exact ⟨r, f, rfl⟩

theorem DecoderOnly.foldl {α : Type} {f : State → α → State} (step : ∀ s x, DecoderOnly s (f s x)) (l : List α) (s : State) : DecoderOnly s (l.foldl f s) :=
  List.foldlRecOn l f (.refl s) fun t k x _ => k.trans (step t x)

theorem DecoderOnly.paramN {s t : State} (k : DecoderOnly s t) (p : Param) : t.paramN p = s.paramN p := by
  obtain ⟨_, _, rfl⟩ := k
  rfl

theorem CountsOnly.media {s t : State} (k : CountsOnly s t) : t.media = s.media := by
  obtain ⟨r, rfl, -⟩ := k
  rfl

theorem CountsOnly.keepsReads {s t : State} (k : CountsOnly s t) : KeepsReads s t := by
  obtain ⟨r, rfl, kept⟩ := k
  exact ⟨rfl, rfl, rfl, rfl, kept, fun _ h => h⟩

theorem CountsOnly.decoderOnly {s t : State} (k : CountsOnly s t) : DecoderOnly s t := by
  obtain ⟨r, rfl, -⟩ := k
  exact ⟨r, _, rfl⟩

/-- A job leaves its decoder and the decoders show it (R126). -/
def leftDecoder (s : State) (n : Nat) : State := (s.dequeue n).allDecStat

theorem leftDecoder_decoderOnly (s : State) (n : Nat) : DecoderOnly s (s.leftDecoder n) := by
  have shown : DecoderOnly (s.dequeue n) ((List.range 16).foldl (fun s n => s.decStat n) (s.dequeue n)) := .foldl (fun t m => ⟨_, _, rfl⟩) _ _
  exact (DecoderOnly.trans ⟨_, _, rfl⟩ shown).trans (.foldl (fun t i => ⟨_, _, rfl⟩) _ _)

/-! ## The decode that ends (R125, R507) -/

/-- A result after READ_FAIL: a level below the injected one has not converged (R507). -/
def readFail (j : Job) (r : DecRes) : DecRes := if j.level < j.failTo then { r with converged := false } else r

theorem readFail_cases (j : Job) (r : DecRes) : readFail j r = r ∨ readFail j r = { r with converged := false } := by
  unfold readFail
  split
  · exact .inr rfl
  · exact .inl rfl

theorem readFail_tags (j : Job) (r : DecRes) : (readFail j r).lba = r.lba ∧ (readFail j r).nsid = r.nsid := by
  rcases readFail_cases j r with h | h <;> rw [h] <;> exact ⟨rfl, rfl⟩

/-- The result as the ladder takes it: a decode past its limit has not converged either (R125). -/
def taken (s : State) (soft : Bool) (j : Job) (r : DecRes) : DecRes := s.boundIter soft (readFail j r)

/-- The ladder takes the result as it is, or as one that has not converged. -/
theorem taken_cases (s : State) (soft : Bool) (j : Job) (r : DecRes) :
    s.taken soft j r = r ∨ ∃ i, s.taken soft j r = { r with converged := false, iter := i } := by
  have bound : ∀ x, s.boundIter soft x = x ∨ ∃ i, s.boundIter soft x = { x with converged := false, iter := i } := fun x => by
    unfold boundIter
    extract_lets lim
    split
    · exact .inr ⟨lim, rfl⟩
    · exact .inl rfl
  unfold taken
  rcases bound (readFail j r) with same | ⟨i, cut⟩
  · rw [same]
    exact (readFail_cases j r).imp_right fun h => ⟨_, h⟩
  · rw [cut]
    rcases readFail_cases j r with h | h <;> exact .inr ⟨i, by rw [h]⟩

theorem taken_zeroBits (s : State) (soft : Bool) (j : Job) (r : DecRes) : (s.taken soft j r).zeroBits = r.zeroBits := by
  rcases s.taken_cases soft j r with h | ⟨i, h⟩ <;> rw [h]

theorem taken_failed {r : DecRes} (failed : r.converged = false) (s : State) (soft : Bool) (j : Job) : (s.taken soft j r).converged = false := by
  rcases s.taken_cases soft j r with h | ⟨i, h⟩ <;> rw [h]
  exact failed

/-- With no injection pending and within the limit of iterations the result stands. -/
theorem taken_eq {s : State} {soft : Bool} {j : Job} {r : DecRes} (free : j.failTo ≤ j.level)
    (within : r.iter ≤ s.rget (if soft then Reg.LD_SOFT_CFG_ITER_MAX else Reg.LD_HARD_CFG_ITER_MAX)) : s.taken soft j r = r := by
  rw [taken, readFail, if_neg (Nat.not_lt.2 free)]
  exact if_neg (Nat.not_lt.2 within)

theorem injectRead_unarmed {s : State} {n : Nat} {j : Job} (found : Table.find s.flash.jobs n = some j) (unarmed : s.fogNand 1 j.die = false) (r : DecRes) :
    s.injectRead n r = (s, readFail j r) := by
  simp [injectRead, readFail, found, unarmed]

theorem exec_hardDecodeDone {s : State} {n : Nat} {j : Job} (found : Table.find s.flash.jobs n = some j) (unarmed : s.fogNand 1 j.die = false) (hard : j.state = .hard)
    (decoding : s.inDecoder false n = true) (r : DecRes) :
    exec (.hardDecodeDone n r) s = .next (((s.leftDecoder n).hardDone n j (s.taken false j r)).afterAttempt n r.lba r.nsid) := by
  show execHardDecodeDone n r s = _
  obtain ⟨lba, nsid⟩ := readFail_tags j r
  rw [execHardDecodeDone, if_neg (by simp [decoding]), injectRead_unarmed found unarmed]
  simp only [decodeDone, found, hard, decoding, lba, nsid]
  rfl

theorem exec_softDecodeDone {s : State} {n : Nat} {j : Job} (found : Table.find s.flash.jobs n = some j) (unarmed : s.fogNand 1 j.die = false) (soft : j.state = .soft)
    (decoding : s.inDecoder true n = true) (r : DecRes) :
    exec (.softDecodeDone n r) s = .next (((s.leftDecoder n).softDone n j (s.taken true j r)).afterAttempt n r.lba r.nsid) := by
  show execSoftDecodeDone n r s = _
  obtain ⟨lba, nsid⟩ := readFail_tags j r
  rw [execSoftDecodeDone, if_neg (by simp [decoding]), injectRead_unarmed found unarmed]
  simp only [decodeDone, found, soft, decoding, lba, nsid]
  rfl

/-! ## The rungs (R116, R122 to R124) -/

theorem hardDone_good {j : Job} {r : DecRes} (good : j.isGood r = true) (enough : 64 < r.zeroBits) (s : State) (n : Nat) :
    ∃ t record, s.hardDone n j r = t.setJob n (j.ended record true) ∧ DecoderOnly s t := by
  unfold hardDone
  extract_lets mis tracked
  rw [if_neg (Nat.not_le.2 enough), if_pos good]
  obtain ⟨t, record, done, counts⟩ := endJob_frame tracked n j r true false 0
  refine ⟨t, record, done, .trans ?_ counts.decoderOnly⟩
  show DecoderOnly s (if _ then _ else s)
  split
  · unfold trackRetry
    split
    · exact ⟨_, _, rfl⟩
    · exact .refl s
  · exact .refl s

theorem trackSoft_decoderOnly (s : State) (j : Job) : DecoderOnly s (s.trackSoft j) := by
  unfold trackSoft
  split
  · exact ⟨_, _, rfl⟩
  · exact .refl s

theorem softDone_good {j : Job} {r : DecRes} (good : j.isGood r = true) (enough : 64 < r.zeroBits) (s : State) (n : Nat) :
    ∃ t record, s.softDone n j r = t.setJob n (j.ended record true) ∧ DecoderOnly s t := by
  unfold softDone
  extract_lets mis dec tracked
  rw [if_neg (Nat.not_le.2 enough), if_pos good]
  obtain ⟨t, record, done, counts⟩ := endJob_frame tracked n j r true false dec
  exact ⟨t, record, done, (trackSoft_decoderOnly s j).trans counts.decoderOnly⟩

theorem isGood_of_failed {r : DecRes} (failed : r.converged = false) (j : Job) : j.isGood r = false := by simp [Job.isGood, failed]

/-- A first attempt that fails takes the first row not yet tried (R123). -/
theorem hardDone_rises {j : Job} {r : DecRes} {row : Nat} {s : State} (failed : r.converged = false) (enough : 64 < r.zeroBits) (ladder : j.tracks = false)
    (level : j.level = 0) (next : (j.rows (s.paramN .readRetrySteps)).find? (fun x => !j.tried.contains x) = some row) (n : Nat) :
    s.hardDone n j r = s.setJob n { j with level := 1, step := row, tried := j.tried ++ [row], cls := riseClass j, state := .sensing } := by
  unfold hardDone
  extract_lets mis tracked t k
  have noMis : mis = false := by simp [mis, failed]
  have same : k = j := by simp [k, noMis]
  rw [if_neg (Nat.not_le.2 enough), if_neg (by simp [isGood_of_failed failed]), if_neg (by simp [failed]), same, if_neg (by simp [ladder])]
  show riseHard (if mis = true then _ else s) n j r = _
  rw [if_neg (by simp [noMis]), riseHard, if_pos level]
  simp only [next]

theorem hardDone_erased {j : Job} {r : DecRes} (few : r.zeroBits ≤ 64) (ladder : j.tracks = false) (s : State) (n : Nat) :
    s.hardDone n j r = s.toRecon n { j with erased := true } := by
  simp [hardDone, few, ladder]

/-- The last soft attempt fails: level 3 (R123). -/
theorem softDone_fails {j : Job} {r : DecRes} (failed : r.converged = false) (last : j.soft2 = true) (s : State) (n : Nat) :
    ∃ t k, s.softDone n j r = t.toRecon n k ∧ DecoderOnly s t := by
  unfold softDone
  extract_lets mis dec tracked t k
  split
  · exact ⟨s, _, rfl, .refl s⟩
  · rw [if_neg (by simp [isGood_of_failed failed]), if_neg (by simp [failed]), if_neg (by simp [k, last])]
    refine ⟨t, k, rfl, (trackSoft_decoderOnly s j).trans ?_⟩
    show DecoderOnly tracked (if mis = true then _ else tracked)
    rw [if_neg (by simp [mis, failed])]
    exact .refl _

/-! ## After the attempt (R127, R128) -/

theorem pruneXReads_keepsReads (s : State) : KeepsReads s s.pruneXReads := ⟨rfl, rfl, rfl, rfl, fun _ _ => rfl, fun _ h => h⟩

theorem afterAttempt_done {s : State} {n : Nat} {j : Job} (found : Table.find s.flash.jobs n = some j) (done : j.state = .done) (lba nsid : Nat) :
    s.afterAttempt n lba nsid = (s.ownerTakes n j lba nsid).pruneXReads := by
  simp [afterAttempt, found, done]

/-- A codeword that goes on keeps its place in the ladder; of the media one of the hour's figures may grow. -/
theorem afterAttempt_waits {s : State} {n : Nat} {j : Job} (found : Table.find s.flash.jobs n = some j) (waits : j.state ≠ .done) (lba nsid : Nat) :
    ∃ c, Table.find (s.afterAttempt n lba nsid).flash.jobs n = some { j with cls := c } ∧ (s.afterAttempt n lba nsid).media.nand = s.media.nand ∧
      KeepsReads s (s.afterAttempt n lba nsid) := by
  unfold afterAttempt
  rw [found]
  dsimp only
  rw [if_neg waits]
  split
  · rename_i m _ _ _
    obtain ⟨⟨c, job⟩, nand, reads⟩ := leaveClass_frame s m n
    exact ⟨c j, job.trans (congrArg _ found), nand, reads.trans (pruneXReads_keepsReads _)⟩
  · exact ⟨j.cls, found, rfl, pruneXReads_keepsReads s⟩

/-- A codeword that was read goes to its owner and is gone (R189). -/
theorem afterAttempt_good {s : State} {n : Nat} {j : Job} (found : Table.find s.flash.jobs n = some j) (done : j.state = .done) (good : j.good = true) (lba nsid : Nat) :
    KeepsReads (s.jobEnded n j) (s.afterAttempt n lba nsid) := by
  rw [afterAttempt_done found done]
  exact (ownerTakes_good good s n lba nsid).trans (pruneXReads_keepsReads _)

@[simp] theorem find_setJob_same (s : State) (n : Nat) (j : Job) : Table.find (s.setJob n j).flash.jobs n = some j := Table.find_ins_same _ _ _

@[simp] theorem find_jobEnded_same (s : State) (n : Nat) (j : Job) : Table.find (s.jobEnded n j).flash.jobs n = none := Table.find_del_same _ _

/-- A good decode ends the codeword's job: one more read of the hour, DRAM as it was. -/
theorem afterAttempt_setJob_good {s t : State} (decoder : DecoderOnly s t) (n : Nat) (j : Job) (record lba nsid : Nat) :
    Table.find ((t.setJob n (j.ended record true)).afterAttempt n lba nsid).flash.jobs n = none ∧
      ((t.setJob n (j.ended record true)).afterAttempt n lba nsid).media.hourReads = s.media.hourReads + 1 ∧
      ((t.setJob n (j.ended record true)).afterAttempt n lba nsid).mem = s.mem := by
  have kept := afterAttempt_good (find_setJob_same t n (j.ended record true)) rfl rfl lba nsid
  obtain ⟨r, f, rfl⟩ := decoder
  exact ⟨kept.ended n (find_jobEnded_same _ n _), kept.hourReads, kept.mem⟩

/-- A codeword that goes on: the job as the ladder left it but for its class, the map, what flash holds and DRAM as they were. -/
theorem afterAttempt_setJob_waits {s t : State} (decoder : DecoderOnly s t) (n : Nat) {j : Job} (waits : j.state ≠ .done) (lba nsid : Nat) :
    ∃ c, Table.find ((t.setJob n j).afterAttempt n lba nsid).flash.jobs n = some { j with cls := c } ∧
      ((t.setJob n j).afterAttempt n lba nsid).media.map = s.media.map ∧ ((t.setJob n j).afterAttempt n lba nsid).media.nand = s.media.nand ∧
      ((t.setJob n j).afterAttempt n lba nsid).mem = s.mem := by
  obtain ⟨c, job, nand, reads⟩ := afterAttempt_waits (find_setJob_same t n j) waits lba nsid
  obtain ⟨r, f, rfl⟩ := decoder
  exact ⟨c, job, reads.map, nand, reads.mem⟩

/-- A codeword that goes to level 3 waits there (R123). -/
theorem toRecon_afterAttempt {s t : State} (decoder : DecoderOnly s t) (n : Nat) (j : Job) (lba nsid : Nat) :
    ∃ k, Table.find ((t.toRecon n j).afterAttempt n lba nsid).flash.jobs n = some k ∧ k.state = .recon ∧ k.level = 3 ∧ k.erased = j.erased ∧
      ((t.toRecon n j).afterAttempt n lba nsid).media.map = s.media.map ∧ ((t.toRecon n j).afterAttempt n lba nsid).mem = s.mem := by
  have counted : DecoderOnly s (t.rsat Reg.LD_CNT_LEVEL_RECON) := decoder.trans ⟨_, _, rfl⟩
  obtain ⟨c, job, map, -, mem⟩ := afterAttempt_setJob_waits counted n (j := { j with state := .recon, level := 3, uncorr := true }) nofun lba nsid
  exact ⟨_, job, rfl, rfl, rfl, map, mem⟩

end State
end Sys2Proof.Machine
end

section
/-! PROOFS, read-integrity family: level 3 (R124, R142, R153), and the decode ladder's statement. -/

namespace Sys2Proof.Machine.State

/-! ## An IU that is lost (R142) -/

theorem KeepsReads.mapGet {s t : State} (k : KeepsReads s t) (slot iu : Nat) : t.mapGet slot iu = s.mapGet slot iu := by
  rw [State.mapGet, State.mapGet, k.map]

theorem KeepsReads.jobLoc {s t : State} (k : KeepsReads s t) (j : Job) : t.jobLoc j = s.jobLoc j := by
  rw [State.jobLoc, State.jobLoc, k.content]

/-- A step after which one IU is unrecoverable in the map, with every other entry, the stored data and the counts of level 3 as they were. -/
structure LosesIu (slot iu : Nat) (s t : State) : Prop where
  unrec : t.mapGet slot iu = entUnrec
  others : ∀ k, k ≠ mapKey slot iu → Table.get entDealloc t.media.map k = Table.get entDealloc s.media.map k
  content : t.media.nand.content = s.media.nand.content
  recon : ∀ f ∈ reconCounts, t.rget f = s.rget f
  ended : ∀ n, Table.find s.flash.jobs n = none → Table.find t.flash.jobs n = none

theorem LosesIu.after {slot iu : Nat} {s t u : State} (a : KeepsReads s t) (b : LosesIu slot iu t u) : LosesIu slot iu s u where
  unrec := b.unrec
  others k h := (b.others k h).trans (congrArg (Table.get entDealloc · k) a.map)
  content := b.content.trans a.content
  recon f h := (b.recon f h).trans (a.recon f h)
  ended n h := b.ended n (a.ended n h)

theorem LosesIu.before {slot iu : Nat} {s t u : State} (a : LosesIu slot iu s t) (b : KeepsReads t u) : LosesIu slot iu s u where
  unrec := (b.mapGet slot iu).trans a.unrec
  others k h := (congrArg (Table.get entDealloc · k) b.map).trans (a.others k h)
  content := b.content.trans a.content
  recon f h := (b.recon f h).trans (a.recon f h)
  ended n h := b.ended n (a.ended n h)

theorem mapSet_losesIu (s : State) (slot iu : Nat) : LosesIu slot iu s (s.mapSet slot iu entUnrec) where
  unrec := by
    show Table.get entDealloc (Table.put entDealloc s.media.map (mapKey slot iu) (entUnrec % 2 ^ 40)) (mapKey slot iu) = entUnrec
    rw [Table.get_put_same]
    rfl
  others k h := by
    show Table.get entDealloc (Table.put entDealloc s.media.map (mapKey slot iu) (entUnrec % 2 ^ 40)) k = _
    rw [Table.get_put_other _ _ _ h]
  content := rfl
  recon := ((KeepsReads.refl _).rset Reg.FT_CKPT_STAT_SEG_DIRTY _).recon
  ended _ h := h

theorem mapRecords_losesIu (s : State) (slot iu : Nat) : LosesIu slot iu s (s.mapRecords slot [(iu, entUnrec, 4)]) :=
  (mapSet_losesIu s slot iu).before (.ite (.refl _) (journalUnit_keepsReads _ _))

/-- The IU of a codeword that could not be read becomes unrecoverable while the map names its place (R142, R153). -/
theorem loseIu_losesIu {s : State} {j : Job} {x : Stored} (found : Table.find s.media.nand.content (s.jobLoc j) = some x)
    (named : s.mapGet x.slot x.iu = s.jobLoc j) (lba nsid : Nat) : LosesIu x.slot x.iu s (s.loseIu j lba nsid) := by
  have unrec : ∀ t : State, t.media = s.media → t.unrecJob j = t.mapRecords x.slot [(x.iu, entUnrec, 4)] := fun t media => by
    have loc : t.jobLoc j = s.jobLoc j := by rw [jobLoc, jobLoc, media]
    unfold unrecJob
    dsimp only
    rw [loc, media, found]
    exact if_pos (by rw [mapGet, media]; exact named)
  unfold loseIu
  extract_lets t
  obtain ⟨media, flash, recon⟩ : t.media = s.media ∧ t.flash = s.flash ∧ ∀ f ∈ reconCounts, t.rget f = s.rget f := by
    dsimp only [t]
    split
    · exact ⟨rfl, rfl, ((KeepsReads.refl s).rsat Reg.FT_MAP_CNT_TAG_UNREC).recon⟩
    · exact ⟨rfl, rfl, fun _ _ => rfl⟩
  rw [unrec t media]
  have lost := mapRecords_losesIu t x.slot x.iu
  refine ⟨lost.unrec, fun k h => (lost.others k h).trans (congrArg (Table.get entDealloc ·.map k) media), lost.content.trans (congrArg (·.nand.content) media),
    fun f h => (lost.recon f h).trans (recon f h), ?_⟩
  rw [← flash]
  exact lost.ended

/-- The owner of a codeword that could not be rebuilt loses its IU. -/
theorem ownerTakes_lost {s : State} {j : Job} {x : Stored} (bad : j.good = false) (owner : j.owner = .relocation ∨ j.owner = .check)
    (found : Table.find s.media.nand.content (s.jobLoc j) = some x) (named : s.mapGet x.slot x.iu = s.jobLoc j) (n lba nsid : Nat) :
    LosesIu x.slot x.iu (s.jobEnded n j) (s.ownerTakes n j lba nsid) := by
  unfold ownerTakes
  extract_lets flash u v level cb l
  have warned : KeepsReads (s.jobEnded n j) v := earlyWarning_keepsReads (s.jobEnded n j) j
  have lost : LosesIu x.slot x.iu (s.jobEnded n j) (v.loseIu j lba nsid) := by
    have loc : v.jobLoc j = s.jobLoc j := warned.jobLoc j
    refine .after warned (loseIu_losesIu ?_ ?_ lba nsid)
    · rw [warned.content, loc]
      exact found
    · rw [warned.mapGet, loc]
      exact named
  rcases owner with owner | owner <;> rw [owner] <;> dsimp only <;> rw [if_neg (by simp [bad])]
  · exact lost
  · exact lost.before (checkSample_keepsReads _ j)

/-! ## RECONSTRUCTION (R124, R153) -/

/-- Level 3 ends: counted, the record written, and on to the codeword's owner. -/
theorem exec_reconstruction {s : State} {n : Nat} {j : Job} (found : Table.find s.flash.jobs n = some j) (recon : j.state = .recon) (ok : Bool) (lba nsid : Nat) :
    ∃ t record good, exec (.reconstruction n ok lba nsid) s = .next ((t.setJob n (j.ended record good)).afterAttempt n lba nsid) ∧
      good = (ok && s.parityFor j && lba == j.lba && nsid == j.nsid) ∧
      CountsOnly (s.rsat (if good then Reg.FT_PARITY_CNT_RECON_OK else Reg.FT_PARITY_CNT_RECON_FAIL)) t := by
  generalize attempt : (ok && s.parityFor j) = ok'
  obtain ⟨t, record, done, counts⟩ := endJob_frame (s.rsat (if ok' && lba == j.lba && nsid == j.nsid then Reg.FT_PARITY_CNT_RECON_OK else Reg.FT_PARITY_CNT_RECON_FAIL)) n j
    ⟨4096, false, ok', lba, nsid, 0, 0, 0⟩ (ok' && lba == j.lba && nsid == j.nsid) (ok' && !(ok' && lba == j.lba && nsid == j.nsid)) 3
  refine ⟨t, record, _, ?_, rfl, counts⟩
  have waiting : ¬(j.state != .recon) = true := by simp [recon]
  show execReconstruction n ok lba nsid s = _
  unfold execReconstruction
  rw [found]
  dsimp only
  rw [if_neg waiting, attempt, ← done]
  unfold reconDone
  rw [rsat_flash, found]
  dsimp only
  rw [if_neg waiting]

/-- A rebuilt codeword is counted and gone. -/
theorem reconstruction_ok {s : State} {n : Nat} {j : Job} (found : Table.find s.flash.jobs n = some j) (recon : j.state = .recon) (parity : s.parityFor j = true) :
    ∃ t, exec (.reconstruction n true j.lba j.nsid) s = .next t ∧ Table.find t.flash.jobs n = none ∧
      t.rget Reg.FT_PARITY_CNT_RECON_OK = min (s.rget Reg.FT_PARITY_CNT_RECON_OK + 1) (2 ^ Reg.FT_PARITY_CNT_RECON_OK.width - 1) ∧
      t.media.map = s.media.map ∧ t.mem = s.mem := by
  obtain ⟨t, record, good, run, rebuilt, counts⟩ := exec_reconstruction found recon true j.lba j.nsid
  obtain rfl : good = true := by simp [rebuilt, parity]
  have kept := afterAttempt_good (find_setJob_same t n (j.ended record true)) rfl rfl j.lba j.nsid
  refine ⟨_, run, kept.ended n (find_jobEnded_same _ n _), ?_, kept.map.trans counts.keepsReads.map, kept.mem.trans counts.keepsReads.mem⟩
  calc rget _ Reg.FT_PARITY_CNT_RECON_OK = t.rget Reg.FT_PARITY_CNT_RECON_OK := kept.recon _ (by simp [reconCounts])
    _ = (s.rsat Reg.FT_PARITY_CNT_RECON_OK).rget Reg.FT_PARITY_CNT_RECON_OK := counts.keepsReads.recon _ (by simp [reconCounts])
    _ = _ := rget_rsat_same _ _ _

/-- A codeword that cannot be rebuilt is counted and gone, and its IU lost. -/
theorem reconstruction_fails {s : State} {n : Nat} {j : Job} {x : Stored} (found : Table.find s.flash.jobs n = some j) (recon : j.state = .recon)
    (owner : j.owner = .relocation ∨ j.owner = .check) (stored : Table.find s.media.nand.content (s.jobLoc j) = some x)
    (named : s.mapGet x.slot x.iu = s.jobLoc j) (lba nsid : Nat) :
    ∃ t, exec (.reconstruction n false lba nsid) s = .next t ∧ Table.find t.flash.jobs n = none ∧ t.mapGet x.slot x.iu = entUnrec ∧
      (∀ k, k ≠ mapKey x.slot x.iu → Table.get entDealloc t.media.map k = Table.get entDealloc s.media.map k) ∧
      t.rget Reg.FT_PARITY_CNT_RECON_FAIL = min (s.rget Reg.FT_PARITY_CNT_RECON_FAIL + 1) (2 ^ Reg.FT_PARITY_CNT_RECON_FAIL.width - 1) ∧
      t.media.nand.content = s.media.nand.content := by
  obtain ⟨t, record, good, run, failed, counts⟩ := exec_reconstruction found recon false lba nsid
  obtain rfl : good = false := by simp [failed]
  have media : (t.setJob n (j.ended record false)).media = s.media := counts.media
  have loc : (t.setJob n (j.ended record false)).jobLoc (j.ended record false) = s.jobLoc j := by
    rw [jobLoc, jobLoc, media]
    rfl
  rw [afterAttempt_done (find_setJob_same _ n (j.ended record false)) rfl] at run
  have lost := (ownerTakes_lost (s := t.setJob n (j.ended record false)) (j := j.ended record false) (x := x) rfl owner (by rwa [loc, media])
    (by rwa [loc, mapGet, media]) n lba nsid).before (pruneXReads_keepsReads _)
  refine ⟨_, run, lost.ended n (find_jobEnded_same _ n _), lost.unrec, ?_, ?_, lost.content.trans (congrArg (·.nand.content) media)⟩
  · exact fun k h => (lost.others k h).trans (congrArg (Table.get entDealloc ·.map k) media)
  · calc rget _ Reg.FT_PARITY_CNT_RECON_FAIL = t.rget Reg.FT_PARITY_CNT_RECON_FAIL := lost.recon _ (by simp [reconCounts])
      _ = (s.rsat Reg.FT_PARITY_CNT_RECON_FAIL).rget Reg.FT_PARITY_CNT_RECON_FAIL := counts.keepsReads.recon _ (by simp [reconCounts])
      _ = _ := rget_rsat_same _ _ _

end Sys2Proof.Machine.State

namespace Sys2Proof.Proofs

open Sys2Proof.Machine Sys2Proof.Machine.State

/-- Settles O21: the two good decodes, the rises to level 1 and to level 3, and the two ends of level 3, one clause each. -/
theorem decodeLadder : Obligations.DecodeLadder := by
  refine ⟨?_, ?_, ?_, ?_, fun n j s => reconstruction_ok, fun n lba nsid j x s found recon owner stored named => reconstruction_fails found recon owner stored named lba nsid⟩
  · intro n r j s found unarmed free good
    refine ⟨fun hard decoding within enough => ⟨_, exec_hardDecodeDone found unarmed hard decoding r, ?_⟩,
      fun soft decoding within enough => ⟨_, exec_softDecodeDone found unarmed soft decoding r, ?_⟩⟩
    · obtain ⟨t, record, done, decoder⟩ := hardDone_good good enough (s.leftDecoder n) n
      rw [taken_eq (soft := false) free within, done]
      exact afterAttempt_setJob_good ((leftDecoder_decoderOnly s n).trans decoder) n j record _ _
    · obtain ⟨t, record, done, decoder⟩ := softDone_good good enough (s.leftDecoder n) n
      rw [taken_eq (soft := true) free within, done]
      exact afterAttempt_setJob_good ((leftDecoder_decoderOnly s n).trans decoder) n j record _ _
  · intro n row r j s found unarmed hard decoding ladder level failed enough next
    have left := leftDecoder_decoderOnly s n
    have run := exec_hardDecodeDone found unarmed hard decoding r
    rw [hardDone_rises (taken_failed failed s false j) (by rwa [taken_zeroBits]) ladder level (by rwa [left.paramN]) n] at run
    obtain ⟨c, job, map, nand, mem⟩ := afterAttempt_setJob_waits left n (j := { j with
      level := 1, step := row, tried := j.tried ++ [row], cls := riseClass j, state := .sensing }) nofun r.lba r.nsid
    exact ⟨_, _, run, job, rfl, rfl, rfl, rfl, map, nand, mem⟩
  · intro n r j s found unarmed hard decoding ladder few
    have run := exec_hardDecodeDone found unarmed hard decoding r
    rw [hardDone_erased (by rwa [taken_zeroBits]) ladder] at run
    obtain ⟨k, job, state, level, erased, map, mem⟩ := toRecon_afterAttempt (leftDecoder_decoderOnly s n) n { j with erased := true } r.lba r.nsid
    exact ⟨_, k, run, job, state, level, erased, map, mem⟩
  · intro n r j s found unarmed soft decoding last failed
    have run := exec_softDecodeDone found unarmed soft decoding r
    obtain ⟨t, i, rises, decoder⟩ := softDone_fails (taken_failed failed s true j) last (s.leftDecoder n) n
    rw [rises] at run
    obtain ⟨k, job, state, level, -, map, mem⟩ := toRecon_afterAttempt ((leftDecoder_decoderOnly s n).trans decoder) n i r.lba r.nsid
    exact ⟨_, k, run, job, state, level, map, mem⟩

end Sys2Proof.Proofs
end

section
/-! PROOFS, patrol and wear family: the walk of a patrol pass and the ageing of the trackers (chapter 07). -/

namespace Sys2Proof.Machine.State

/-! ## The Lengthman (R177, R179, R184) -/

/-- The walk never registers more samples than were asked for. -/
theorem nextSamples_length_le (s : State) (fuel k : Nat) (bs : List Nat) (pos : Nat) : (s.nextSamples fuel k bs pos).1.length ≤ k := by
  fun_induction nextSamples s fuel k bs pos with
  | case1 => exact Nat.zero_le _
  | case2 => exact Nat.zero_le _
  | case3 => exact Nat.zero_le _
  | case4 fuel k b bs pos within r ih => exact Nat.succ_le_succ ih
  | case5 fuel k b bs pos past ih => exact ih

/-- Registering samples touches the walk alone. -/
theorem registerSamples_frame (s : State) (k : Nat) : ∃ l w p, l.length ≤ k ∧ s.registerSamples k = s.modMedia fun m => { m with
    due := m.due ++ l, walkBlocks := w, walkPos := p, samplesLeft := m.samplesLeft - k } :=
  ⟨_, _, _, s.nextSamples_length_le (k + s.media.walkBlocks.length) k s.media.walkBlocks s.media.walkPos, rfl⟩

section
variable {s : State} (scheme : s.paramN .patrolDisturbScheme ≠ 1) (runs : s.media.quiesced = false)
include scheme runs

theorem exec_patrolPeriod_share {k : Nat} (left : 0 < k) :
    exec (.patrolPeriod k) s = .next (s.registerSamples (ceilDiv s.media.samplesLeft k)) := by
  show execPatrolPeriod k s = _
  rw [execPatrolPeriod, if_neg (by simp [runs]), if_neg scheme, if_pos left]

theorem exec_patrolPeriod_late (outstanding : s.media.due ≠ [] ∨ s.media.walkBlocks ≠ []) :
    exec (.patrolPeriod 0) s = .next ((s.rset Reg.FT_PATROL_STAT_LATE 1).registerSamples s.media.samplesLeft) := by
  show execPatrolPeriod 0 s = _
  rw [execPatrolPeriod, if_neg (by simp [runs]), if_neg scheme, if_neg (Nat.lt_irrefl 0), if_pos (by simpa using outstanding)]

theorem exec_patrolPeriod_newPass (due : s.media.due = []) (walked : s.media.walkBlocks = []) : exec (.patrolPeriod 0) s = .next s.newPass := by
  show execPatrolPeriod 0 s = _
  rw [execPatrolPeriod, if_neg (by simp [runs]), if_neg scheme, if_neg (Nat.lt_irrefl 0), if_neg (by simp [due, walked])]

end

theorem exec_patrolPeriod_countersOnly {s : State} (scheme : s.paramN .patrolDisturbScheme = 1) (runs : s.media.quiesced = false) :
    exec (.patrolPeriod 0) s = .next s.newTrackPass := by
  show execPatrolPeriod 0 s = _
  rw [execPatrolPeriod, if_neg (by simp [runs]), if_pos scheme, if_pos rfl]

/-- The counters-only scheme reads one page number in every block. -/
theorem newTrackPass_page (s : State) {q : Nat × Nat} (due : q ∈ s.newTrackPass.media.trackDue) : q.2 = 127 * (s.media.pass + 1) % max 1 s.pagesPer := by
  obtain ⟨p, -, listed⟩ := List.mem_flatMap.1 due
  obtain ⟨b, -, rfl⟩ := List.mem_map.1 listed
  rfl

/-! ## Tracker entries (R179, R180) -/

/-- A tracker entry some days on: AGE alone grows, and stops at 255. -/
def olderEntry (days v : Nat) : Nat := v - bits v 16 8 * 2 ^ 16 + min 255 (bits v 16 8 + days) * 2 ^ 16

theorem olderEntry_age (days v : Nat) : bits (olderEntry days v) 16 8 = min 255 (bits v 16 8 + days) := by
  unfold olderEntry bits
  omega

theorem olderEntry_shift (days v : Nat) : bits (olderEntry days v) 0 16 = bits v 0 16 := by
  unfold olderEntry bits
  omega

theorem olderEntry_top (days v : Nat) : bits (olderEntry days v) 24 8 = bits v 24 8 := by
  unfold olderEntry bits
  omega

/-- An unlisted entry, which is AGE alone, ages as a listed one does. -/
theorem trackDflt_ageTrackers (s : State) (days : Nat) : (s.ageTrackers days).trackDflt = olderEntry days s.trackDflt := by
  show min 255 (s.flash.trackAge + days) * 2 ^ 16 = olderEntry days (min 255 s.flash.trackAge * 2 ^ 16)
  unfold olderEntry bits
  omega

theorem trackers_ageTrackers (s : State) (days : Nat) :
    (s.ageTrackers days).flash.trackers = s.flash.trackers.map fun p => (p.1, olderEntry days p.2) := rfl

/-- Listed or not, every entry ages. -/
theorem tracker_ageTrackers (s : State) (days b : Nat) : (s.ageTrackers days).tracker b = olderEntry days (s.tracker b) := by
  have keys : ∀ p : Nat × Nat, (p.1, olderEntry days p.2).1 = p.1 := fun _ => rfl
  rw [tracker, Table.get, trackers_ageTrackers, Table.find_map keys, trackDflt_ageTrackers]
  exact Option.getD_map _ _ _

end Sys2Proof.Machine.State
end

section
/-! PROOFS, patrol and wear family: superblocks queued for relocation, block checks and static relocation (chapter 07). -/

namespace Sys2Proof.Machine.State

/-! ## What queueing a superblock leaves alone (R169, R170, R178) -/

/-- The counts of victims and of superblocks queued for refresh (R195). -/
def queueCounts : List Field := [Reg.FT_GC_CNT_VICTIMS, Reg.FT_PATROL_CNT_URGENT, Reg.FT_PATROL_CNT_REFRESH]

/-- A step that changes the groups' queues and victims, but not what they queued today, and counts. -/
def QueuesOnly (s t : State) : Prop := ∃ r g, t = { s with regs := r, media := { s.media with groupsSt := g } } ∧
  (∀ f, (∀ c ∈ queueCounts, f.key ≠ c.key) → r.get f = s.rget f) ∧ ∀ k, (Table.get {} g k).staticToday = (s.grp k).staticToday

namespace QueuesOnly

theorem refl (s : State) : QueuesOnly s s := ⟨_, _, rfl, fun _ _ => rfl, fun _ => rfl⟩

theorem trans {s t u : State} (a : QueuesOnly s t) (b : QueuesOnly t u) : QueuesOnly s u := by
  obtain ⟨_, _, rfl, shown, today⟩ := a
  obtain ⟨r, g, rfl, shown', today'⟩ := b
  exact ⟨r, g, rfl, fun f h => (shown' f h).trans (shown f h), fun k => (today' k).trans (today k)⟩

theorem foldl {α : Type} {f : State → α → State} (step : ∀ s x, QueuesOnly s (f s x)) (l : List α) (s : State) : QueuesOnly s (l.foldl f s) :=
  List.foldlRecOn l f (.refl s) fun t k x _ => k.trans (step t x)

theorem ite {s t u : State} {c : Prop} [Decidable c] (a : QueuesOnly s t) (b : QueuesOnly s u) : QueuesOnly s (if c then t else u) := by
  split
  · exact a
  · exact b

theorem rsat {s t : State} (k : QueuesOnly s t) {c : Field} (count : c ∈ queueCounts) : QueuesOnly s (t.rsat c) :=
  k.trans ⟨_, _, rfl, fun f other => rget_rsat_other t c f 1 (other c count), fun _ => rfl⟩

theorem modGrp {s t : State} (k : QueuesOnly s t) (g : Nat) (f : Group → Group) (today : ∀ x, (f x).staticToday = x.staticToday) : QueuesOnly s (t.modGrp g f) := by
  refine k.trans ⟨_, _, rfl, fun _ _ => rfl, fun i => ?_⟩
  by_cases same : i = g
  · subst same
    rw [Table.get_put_same]
    exact today _
  · rw [Table.get_put_other _ _ _ same]
    rfl

theorem rget {s t : State} (k : QueuesOnly s t) {f : Field} (other : ∀ c ∈ queueCounts, f.key ≠ c.key := by decide) : t.rget f = s.rget f := by
  obtain ⟨r, g, rfl, shown, -⟩ := k
  exact shown f other

theorem staticToday {s t : State} (k : QueuesOnly s t) (g : Nat) : (t.grp g).staticToday = (s.grp g).staticToday := by
  obtain ⟨r, g', rfl, -, today⟩ := k
  exact today g

theorem nand {s t : State} (k : QueuesOnly s t) : t.media.nand = s.media.nand := by
  obtain ⟨r, g, rfl, -⟩ := k
  rfl

theorem blockInfo {s t : State} (k : QueuesOnly s t) (bn : Nat) : t.blockInfo bn = s.blockInfo bn := by
  obtain ⟨r, g, rfl, -⟩ := k
  rfl

theorem map {s t : State} (k : QueuesOnly s t) : t.media.map = s.media.map := by
  obtain ⟨r, g, rfl, -⟩ := k
  rfl

end QueuesOnly

theorem queueVictim_queuesOnly (s : State) (n src : Nat) : QueuesOnly s (s.queueVictim n src) := by
  unfold queueVictim
  split
  · exact .refl s
  · extract_lets x old
    refine .ite (.refl s) ?_
    cases old with
    | none => exact (QueuesOnly.refl s).modGrp _ _ fun _ => rfl
    | some q => exact .ite ((QueuesOnly.refl s).modGrp _ _ fun _ => rfl) (.refl s)

theorem selectVictim_queuesOnly (s : State) (g : Nat) : QueuesOnly s (s.selectVictim g) := by
  unfold selectVictim
  extract_lets x busy u urgent stop pool better best
  have counted : QueuesOnly s u := .ite ((QueuesOnly.refl s).rsat (by simp [queueCounts])) (.refl s)
  refine .ite (.refl s) ?_
  clear_value best
  cases best with
  | none => exact counted.modGrp _ _ fun _ => rfl
  | some q => exact counted.modGrp _ _ fun _ => rfl

theorem condemn_queuesOnly (s : State) (n src : Nat) : QueuesOnly s (s.condemn n src) := by
  have queued := queueVictim_queuesOnly s n src
  unfold condemn
  extract_lets u
  split
  · exact .ite (queued.trans (selectVictim_queuesOnly u _)) queued
  · exact queued

theorem queueRefresh_queuesOnly (s : State) (n src : Nat) : QueuesOnly s (s.queueRefresh n src) := by
  have condemned := condemn_queuesOnly s n src
  unfold queueRefresh
  extract_lets t
  split
  · exact .refl s
  · refine .ite (condemned.rsat ?_) condemned
    split <;> simp [queueCounts]

/-! ## Block checks (R178, R182, R183) -/

/-- A block's check is over: neither it nor its samples are kept. -/
def checkEnded (s : State) (bn : Nat) : State :=
  (s.modBlock bn fun i => { i with check := false, checkPage := none }).modMedia fun m => { m with checks := Table.del m.checks bn }

@[simp] theorem blockInfo_modBlock_same (s : State) (bn : Nat) (f : BlockInfo → BlockInfo) : (s.modBlock bn f).blockInfo bn = f (s.blockInfo bn) := by
  simp [blockInfo, modBlock, modNand]

@[simp] theorem blockInfo_checkEnded_same (s : State) (bn : Nat) : (s.checkEnded bn).blockInfo bn = { s.blockInfo bn with check := false, checkPage := none } :=
  blockInfo_modBlock_same s bn fun i => { i with check := false, checkPage := none }

section
variable {s : State} {ch l plane block n bn : Nat} {b : Superblock} (place : State.blockNo (32 * ch + l) plane block = bn)
  (holds : (s.blockInfo bn).serial = some n) (found : s.sb n = some b)
include place holds found

/-- A superblock that is not yet verified has its checks wait. -/
theorem exec_blockCheck_unverified (closed : b.state = .closed) : exec (.blockCheck ch l plane block) s = .next s := by
  show execBlockCheck ch l plane block s = _
  simp only [execBlockCheck, place, holds, found, closed]
  split <;> rfl

/-- A check with a page still to read waits. -/
theorem exec_blockCheck_unread {p : Nat} (verified : b.state = .verified) (page : p ∈ s.checkPages bn b)
    (unread : p ∉ (Table.get ([], ⟨0, 0, false, false⟩) s.media.checks bn).1) : exec (.blockCheck ch l plane block) s = .next s := by
  have waits : ((s.checkPages bn b).any fun p => !(Table.get ([], ⟨0, 0, false, false⟩) s.media.checks bn).1.contains p) = true :=
    List.any_eq_true.2 ⟨p, page, by simpa using unread⟩
  show execBlockCheck ch l plane block s = _
  simp only [execBlockCheck, place, holds, found, verified, waits]
  split <;> rfl

variable {x : List Nat × SampleWorst} (asked : (s.blockInfo bn).check = true) (verified : b.state = .verified)
  (samples : Table.get ([], ⟨0, 0, false, false⟩) s.media.checks bn = x) (read : ∀ p ∈ s.checkPages bn b, p ∈ x.1)
include asked verified samples read

/-- With every page read the worst sample decides: the counter goes to half its limit, or the superblock is queued. -/
theorem exec_blockCheck_read : exec (.blockCheck ch l plane block) s = .next (if s.refreshSource x.2 = 0 then
      ((s.checkEnded bn).modBlock bn fun i => { i with milepost := s.paramN .patrolMilepostLimit / 2 }).rsat Reg.FT_MILEPOST_CNT_CHECK_CLEAN
    else ((s.checkEnded bn).queueRefresh n (s.refreshSource x.2)).rsat Reg.FT_MILEPOST_CNT_CHECK_REFRESH) := by
  have done : ((s.checkPages bn b).any fun p => !x.1.contains p) = false := by simpa using read
  show execBlockCheck ch l plane block s = _
  simp only [execBlockCheck, place, holds, found, asked, verified, samples, done]
  cases s.refreshSource x.2 <;> rfl

theorem blockCheck_clean (clean : s.refreshSource x.2 = 0) :
    ∃ t, exec (.blockCheck ch l plane block) s = .next t ∧ (t.blockInfo bn).milepost = s.paramN .patrolMilepostLimit / 2 ∧ (t.blockInfo bn).check = false ∧
      t.rget Reg.FT_MILEPOST_CNT_CHECK_CLEAN = min (s.rget Reg.FT_MILEPOST_CNT_CHECK_CLEAN + 1) (2 ^ Reg.FT_MILEPOST_CNT_CHECK_CLEAN.width - 1) ∧
      t.media.map = s.media.map ∧ t.media.nand.content = s.media.nand.content := by
  have run := exec_blockCheck_read place holds found asked verified samples read
  rw [if_pos clean] at run
  have info := blockInfo_modBlock_same (s.checkEnded bn) bn fun i => { i with milepost := s.paramN .patrolMilepostLimit / 2 }
  rw [blockInfo_checkEnded_same] at info
  exact ⟨_, run, congrArg BlockInfo.milepost info, congrArg BlockInfo.check info, rget_rsat_same _ _ _, rfl, rfl⟩

theorem blockCheck_bad (bad : s.refreshSource x.2 ≠ 0) :
    ∃ t, exec (.blockCheck ch l plane block) s = .next t ∧ (t.blockInfo bn).check = false ∧
      t.rget Reg.FT_MILEPOST_CNT_CHECK_REFRESH = min (s.rget Reg.FT_MILEPOST_CNT_CHECK_REFRESH + 1) (2 ^ Reg.FT_MILEPOST_CNT_CHECK_REFRESH.width - 1) ∧
      t.media.map = s.media.map ∧ t.media.nand.content = s.media.nand.content := by
  have run := exec_blockCheck_read place holds found asked verified samples read
  rw [if_neg bad] at run
  have queues := queueRefresh_queuesOnly (s.checkEnded bn) n (s.refreshSource x.2)
  have info := (queues.blockInfo bn).trans (blockInfo_checkEnded_same s bn)
  refine ⟨_, run, congrArg BlockInfo.check info, ?_, queues.map, congrArg (·.content) queues.nand⟩
  rw [rget_rsat_same, queues.rget]
  rfl

end

/-! ## Static relocation (R185) -/

/-- A group's superblocks that lag the device mean, each with its lag. -/
def lagging (s : State) (g : Nat) : List (Nat × Nat) :=
  (s.media.nand.sbs.filter fun p => p.2.group == g && p.2.state == .verified && decide (0 < s.lag p.2)).map fun p => (s.lag p.2, p.1)

/-- The scan of one group: those that lag most, at most `limit` of them, are queued as source 6. -/
def relocateGroup (limit : Nat) (s : State) (g : Nat) : State :=
  let worst := ((s.lagging g).foldl (fun l x => byLag x l) []).take limit
  worst.foldl (fun s x => s.condemn x.2 6) (s.modGrp g fun x => { x with staticToday := worst.length })

theorem exec_staticRelocationScan (s : State) :
    exec .staticRelocationScan s = .next ((List.range s.wearStat.groupCount).foldl (relocateGroup (s.wearStat.paramN .wearStaticPerDay)) s.wearStat) := rfl

theorem relocateGroup_frame (limit : Nat) (s : State) (g : Nat) :
    ∃ k, k ≤ limit ∧ QueuesOnly (s.modGrp g fun x => { x with staticToday := k }) (relocateGroup limit s g) :=
  ⟨_, List.length_take_le _ _, .foldl (fun t (x : Nat × Nat) => condemn_queuesOnly t x.2 6) _ _⟩

/-- The scan of a group bounds its own count and leaves those of the others. -/
theorem staticToday_relocateGroup (limit : Nat) (s : State) (g h : Nat) :
    ((relocateGroup limit s g).grp h).staticToday ≤ limit ∨ h ≠ g ∧ ((relocateGroup limit s g).grp h).staticToday = (s.grp h).staticToday := by
  obtain ⟨k, bound, queues⟩ := relocateGroup_frame limit s g
  rw [queues.staticToday]
  by_cases own : h = g
  · subst own
    exact .inl (by simpa [grp, modGrp, modMedia] using bound)
  · exact .inr ⟨own, congrArg Group.staticToday (Table.get_put_other _ _ _ own)⟩

/-- Every group scanned has queued at most `limit` superblocks. -/
theorem staticToday_scan (limit : Nat) {g : Nat} (l : List Nat) (s : State) (scanned : g ∈ l ∨ (s.grp g).staticToday ≤ limit) :
    ((l.foldl (relocateGroup limit) s).grp g).staticToday ≤ limit := by
  induction l generalizing s with
  | nil => exact scanned.resolve_left List.not_mem_nil
  | cons h l ih =>
    refine ih _ ?_
    obtain bound | ⟨other, same⟩ := staticToday_relocateGroup limit s h g
    · exact .inr bound
    · rw [same]
      exact scanned.imp_left fun listed => (List.mem_cons.1 listed).resolve_left other

/-- A scan changes of the media the groups' states alone. -/
theorem scan_frame (limit : Nat) (l : List Nat) (s : State) :
    ∃ r g, l.foldl (relocateGroup limit) s = { s with regs := r, media := { s.media with groupsSt := g } } := by
  induction l generalizing s with
  | nil => exact ⟨_, _, rfl⟩
  | cons g l ih =>
    obtain ⟨k, -, r, gs, scanned, -⟩ := relocateGroup_frame limit s g
    obtain ⟨r', gs', rest⟩ := ih (relocateGroup limit s g)
    exact ⟨r', gs', by rw [List.foldl_cons, rest, scanned]; rfl⟩

end Sys2Proof.Machine.State
end

section
/-! PROOFS, patrol and wear family: the wear figures and the hourly indicators (chapter 07), and the statement of patrol and Yard. -/

namespace Sys2Proof.Machine.State

/-! ## Events and wear figures (R187 to R191, R310) -/

/-- A step that stays in registers, commands, controllers and the Buffer stop flush, and keeps these register fields. -/
def ShowsOnly (kept : List Field) (s t : State) : Prop := ∃ r a c b,
  t = { s with regs := r, adm := a, ctls := c, media := { s.media with bstopFlush := b } } ∧ ∀ f ∈ kept, r.get f = s.rget f

namespace ShowsOnly

variable {kept : List Field} {s t u : State}

theorem refl (kept : List Field) (s : State) : ShowsOnly kept s s := ⟨_, _, _, _, rfl, fun _ _ => rfl⟩

theorem trans (a : ShowsOnly kept s t) (b : ShowsOnly kept t u) : ShowsOnly kept s u := by
  obtain ⟨_, _, _, _, rfl, shown⟩ := a
  obtain ⟨r, a, c, b, rfl, shown'⟩ := b
  exact ⟨r, a, c, b, rfl, fun f h => (shown' f h).trans (shown f h)⟩

theorem foldl {α : Type} {f : State → α → State} (step : ∀ s x, ShowsOnly kept s (f s x)) (l : List α) (s : State) : ShowsOnly kept s (l.foldl f s) :=
  List.foldlRecOn l f (.refl kept s) fun t k x _ => k.trans (step t x)

theorem ite {c : Prop} [Decidable c] (a : ShowsOnly kept s t) (b : ShowsOnly kept s u) : ShowsOnly kept s (if c then t else u) := by
  split
  · exact a
  · exact b

theorem rset (k : ShowsOnly kept s t) (f : Field) (v : Nat) (other : ∀ g ∈ kept, g.key ≠ f.key := by decide) : ShowsOnly kept s (t.rset f v) :=
  k.trans ⟨_, _, _, _, rfl, fun g h => rget_rset_other t f g v (other g h)⟩

theorem rget (k : ShowsOnly kept s t) {f : Field} (h : f ∈ kept) : t.rget f = s.rget f := by
  obtain ⟨r, a, c, b, rfl, shown⟩ := k
  exact shown f h

theorem modCtl (k : ShowsOnly kept s t) (n : Nat) (f : Controller → Controller) : ShowsOnly kept s (t.modCtl n f) :=
  k.trans ⟨_, _, _, _, rfl, fun _ _ => rfl⟩

theorem modCtxN (k : ShowsOnly kept s t) (n : Nat) (f : Ctx → Ctx) : ShowsOnly kept s (t.modCtxN n f) :=
  k.trans ⟨_, _, _, _, rfl, fun _ _ => rfl⟩

theorem media (k : ShowsOnly kept s t) : ∃ b, t.media = { s.media with bstopFlush := b } := by
  obtain ⟨r, a, c, b, rfl, -⟩ := k
  exact ⟨b, rfl⟩

theorem map (k : ShowsOnly kept s t) : t.media.map = s.media.map := by
  obtain ⟨r, a, c, b, rfl, -⟩ := k
  rfl

theorem nand (k : ShowsOnly kept s t) : t.media.nand = s.media.nand := by
  obtain ⟨r, a, c, b, rfl, -⟩ := k
  rfl

theorem flash (k : ShowsOnly kept s t) : t.flash = s.flash := by
  obtain ⟨r, a, c, b, rfl, -⟩ := k
  rfl

theorem groupCount (k : ShowsOnly kept s t) : t.groupCount = s.groupCount := by
  obtain ⟨r, a, c, b, rfl, -⟩ := k
  rfl

theorem paramN (k : ShowsOnly kept s t) (p : Param) : t.paramN p = s.paramN p := by
  obtain ⟨r, a, c, b, rfl, -⟩ := k
  rfl

end ShowsOnly

theorem postEvent_showsOnly (kept : List Field) (s : State) (k ty info page : Nat) : ShowsOnly kept s (s.postEvent k ty info page) := by
  unfold postEvent
  extract_lets c u
  have masked : ShowsOnly kept s u := (ShowsOnly.refl kept s).modCtl k _
  refine .ite (.refl kept s) ?_
  split
  · exact (masked.modCtl k _).modCtxN _ _
  · exact masked.modCtl k _

theorem postSmart_showsOnly (kept : List Field) (s : State) (b info : Nat) : ShowsOnly kept s (s.postSmart b info) :=
  .foldl (fun t k => .ite (postEvent_showsOnly kept t k _ _ _) (.refl kept t)) _ s

theorem postVendor_showsOnly (kept : List Field) (s : State) (n : Nat) : ShowsOnly kept s (s.postVendor n) := by
  unfold postVendor
  extract_lets a u
  have pending : ShowsOnly kept s u := ⟨_, _, _, _, rfl, fun _ _ => rfl⟩
  exact pending.trans (.foldl (fun t k => .ite (postEvent_showsOnly kept t k _ _ _) (.refl kept t)) _ u)

/-- The indicators of the last hour (R189). -/
def hourFields : List Field := [Reg.FT_WEAR_STAT_EW_RATE, Reg.FT_WEAR_STAT_RETRY_RATE, Reg.FT_WEAR_STAT_CLASS_LOSS]

theorem wearStat_showsOnly (s : State) : ShowsOnly hourFields s s.wearStat := by
  have shown : ∀ mean top pct beyond, ShowsOnly hourFields s ((((s.rset Reg.FT_WEAR_PE_MEAN_PE mean).rset Reg.FT_WEAR_PE_MAX_PE top).rset Reg.FT_WEAR_STAT_PCT_USED pct).rset
    Reg.FT_WEAR_STAT_PCT_USED_100 beyond) := fun _ _ _ _ => ((((ShowsOnly.refl hourFields s).rset _ _).rset _ _).rset _ _).rset _ _
  unfold wearStat
  exact .ite ((shown _ _ _ _).trans (postVendor_showsOnly hourFields _ 4)) (shown _ _ _ _)

theorem enterBufferStop_showsOnly (s : State) : ShowsOnly hourFields s s.enterBufferStop := by
  unfold enterBufferStop
  extract_lets u a v
  have stopped : ShowsOnly hourFields (s.rset Reg.FT_WEAR_STAT_BUFFER_STOP 1) v := ⟨_, _, _, _, rfl, fun _ _ => rfl⟩
  exact .ite (.refl _ s) ((((ShowsOnly.refl hourFields s).rset _ _).trans stopped).trans (postSmart_showsOnly _ v 3 0))

theorem spareCheck_showsOnly (s : State) : ShowsOnly hourFields s s.spareCheck := by
  unfold spareCheck
  extract_lets a low was u v
  have shown : ShowsOnly hourFields s u := ((ShowsOnly.refl hourFields s).rset _ _).rset _ _
  have warned : ShowsOnly hourFields s v := .ite (shown.trans (postSmart_showsOnly _ u 0 2)) shown
  exact .ite (warned.trans (enterBufferStop_showsOnly v)) warned

/-! ## The hourly indicators (R189) -/

/-- Setting an indicator keeps the fields that are neither it nor the sticky bits. -/
theorem indicator_showsOnly {kept : List Field} (s : State) (k : Nat) (f : Field) (on : Bool) (other : ∀ g ∈ kept, g.key ≠ f.key := by decide)
    (notSticky : ∀ g ∈ kept, g.key ≠ Reg.FT_WEAR_STAT_STICKY.key := by decide) : ShowsOnly kept s (s.indicator k f on) := by
  unfold indicator
  extract_lets u st
  have shown : ShowsOnly kept s u := (ShowsOnly.refl kept s).rset f _ other
  exact .ite ((shown.rset _ _ notSticky).trans (postVendor_showsOnly kept _ k)) shown

/-- The indicator itself shows what it was set to. -/
theorem rget_indicator_same (s : State) (k : Nat) {f : Field} (on : Bool) (oneBit : f.width = 1 := by rfl) (notSticky : f.key ≠ Reg.FT_WEAR_STAT_STICKY.key := by decide) :
    (s.indicator k f on).rget f = bit on := by
  have own : (s.rset f (bit on)).rget f = bit on := by
    rw [rget_rset_same, oneBit]
    cases on <;> rfl
  unfold indicator
  extract_lets u st
  split
  · have kept : ShowsOnly [f] u ((u.rset Reg.FT_WEAR_STAT_STICKY (if st / 2 ^ (k - 1) % 2 = 1 then st else st + 2 ^ (k - 1))).postVendor k) :=
      ((ShowsOnly.refl [f] u).rset _ _ (by simpa using notSticky)).trans (postVendor_showsOnly [f] _ k)
    exact (kept.rget (List.mem_singleton_self f)).trans own
  · exact own

/-- A rate is above its limit, in parts per million. -/
def abovePpm (count total limit : Nat) : Bool := decide (limit * total < count * 1000000)

/-- The three indicators as the last hour's figures set them. -/
def hourIndicators (s : State) : State :=
  let t := s.indicator 1 Reg.FT_WEAR_STAT_EW_RATE (abovePpm s.media.hourEw s.media.hourReads (s.paramN .wearEwRatePpm))
  let u := t.indicator 2 Reg.FT_WEAR_STAT_RETRY_RATE (abovePpm s.media.hourRetry s.media.hourReads (t.paramN .wearRetryRatePpm))
  u.indicator 3 Reg.FT_WEAR_STAT_CLASS_LOSS (abovePpm s.media.hourLoss s.media.hourHost (u.paramN .wearClassLossPpm))

theorem hourIndicators_showsOnly (s : State) : ShowsOnly [] s s.hourIndicators :=
  ((indicator_showsOnly s _ _ _).trans (indicator_showsOnly _ _ _ _)).trans (indicator_showsOnly _ _ _ _)

/-- Each indicator shows its rate: the later ones leave it, and none changes a limit. -/
theorem rget_hourIndicators (s : State) :
    s.hourIndicators.rget Reg.FT_WEAR_STAT_EW_RATE = bit (abovePpm s.media.hourEw s.media.hourReads (s.paramN .wearEwRatePpm)) ∧
      s.hourIndicators.rget Reg.FT_WEAR_STAT_RETRY_RATE = bit (abovePpm s.media.hourRetry s.media.hourReads (s.paramN .wearRetryRatePpm)) ∧
      s.hourIndicators.rget Reg.FT_WEAR_STAT_CLASS_LOSS = bit (abovePpm s.media.hourLoss s.media.hourHost (s.paramN .wearClassLossPpm)) := by
  unfold hourIndicators
  extract_lets t u
  have first : ShowsOnly [] s t := indicator_showsOnly s _ _ _
  have second : ShowsOnly [Reg.FT_WEAR_STAT_EW_RATE] t u := indicator_showsOnly t _ _ _
  have third : ∀ on, ShowsOnly [Reg.FT_WEAR_STAT_EW_RATE, Reg.FT_WEAR_STAT_RETRY_RATE] u (u.indicator 3 Reg.FT_WEAR_STAT_CLASS_LOSS on) := fun on => indicator_showsOnly u _ _ _
  refine ⟨?_, ?_, ?_⟩
  · rw [(third _).rget (by simp), second.rget (by simp)]
    exact rget_indicator_same s 1 _
  · rw [(third _).rget (by simp), ← first.paramN]
    exact rget_indicator_same t 2 _
  · rw [← first.paramN, ← second.paramN]
    exact rget_indicator_same u 3 _

/-- The hour's figures start again. -/
def newHour (s : State) (l : List Nat) : State :=
  s.modMedia fun m => { m with rates := l, hourReads := 0, hourEw := 0, hourRetry := 0, hourHost := 0, hourLoss := 0 }

@[simp] theorem rget_newHour (s : State) (l : List Nat) (f : Field) : (s.newHour l).rget f = s.rget f := rfl

@[simp] theorem flash_newHour (s : State) (l : List Nat) : (s.newHour l).flash = s.flash := rfl

@[simp] theorem map_newHour (s : State) (l : List Nat) : (s.newHour l).media.map = s.media.map := rfl

@[simp] theorem nand_newHour (s : State) (l : List Nat) : (s.newHour l).media.nand = s.media.nand := rfl

/-- The indicators set, the hour's figures started again, then the wear and spare figures. -/
theorem exec_indicatorUpdate (s : State) : ∃ l, exec .indicatorUpdate s = .next (s.hourIndicators.newHour l).wearStat.spareCheck := ⟨_, rfl⟩

end Sys2Proof.Machine.State

namespace Sys2Proof.Proofs

open Sys2Proof.Machine Sys2Proof.Machine.State

/-- Settles O22: the three ends of a patrol period, the counters-only pass, a day of ageing, the four ends of a block check, the scan and the hour, one clause each. -/
theorem patrolAndYard : Obligations.PatrolAndYard := by
  refine ⟨?_, ?_, ?_, ?_, ?_, ?_, ?_, ?_, ?_, ?_, ?_⟩
  · intro k s scheme runs left
    obtain ⟨l, w, p, bound, taken⟩ := s.registerSamples_frame (ceilDiv s.media.samplesLeft k)
    have run := exec_patrolPeriod_share scheme runs left
    rw [taken] at run
    exact ⟨_, l, run, rfl, rfl, bound, rfl, rfl, rfl, rfl⟩
  · intro s scheme runs outstanding
    obtain ⟨l, w, p, -, taken⟩ := (s.rset Reg.FT_PATROL_STAT_LATE 1).registerSamples_frame s.media.samplesLeft
    have run := exec_patrolPeriod_late scheme runs outstanding
    rw [taken] at run
    exact ⟨_, l, run, rget_rset_same s Reg.FT_PATROL_STAT_LATE 1, Nat.sub_self _, rfl, rfl, rfl, rfl, rfl⟩
  · intro s scheme runs due walked
    exact ⟨_, exec_patrolPeriod_newPass scheme runs due walked, rfl, rfl, rfl, rfl, rfl, rget_rset_same _ _ _, rfl, rfl⟩
  · intro s scheme runs
    exact ⟨_, exec_patrolPeriod_countersOnly scheme runs, rfl, fun q => s.newTrackPass_page, rfl, rfl, rfl⟩
  · intro s
    refine ⟨s.ageTrackers 1, rfl, fun b => ?_, rfl, rfl, rfl⟩
    rw [tracker_ageTrackers]
    exact ⟨olderEntry_age _ _, olderEntry_shift _ _, olderEntry_top _ _⟩
  · intro ch l plane block n x b s asked holds found verified samples read
    exact blockCheck_clean rfl holds found asked verified samples read
  · intro ch l plane block n x b s asked holds found verified samples read
    exact blockCheck_bad rfl holds found asked verified samples read
  · intro ch l plane block n p b s holds found verified
    exact exec_blockCheck_unread rfl holds found verified
  · intro ch l plane block n b s holds found
    exact exec_blockCheck_unverified rfl holds found
  · intro s
    have worn := wearStat_showsOnly s
    obtain ⟨r, gs, scanned⟩ := scan_frame (s.wearStat.paramN .wearStaticPerDay) (List.range s.wearStat.groupCount) s.wearStat
    refine ⟨_, exec_staticRelocationScan s, fun g group => ?_, ?_⟩
    · rw [← worn.paramN]
      exact staticToday_scan _ _ _ (.inl (List.mem_range.2 (worn.groupCount ▸ group)))
    · rw [scanned]
      exact ⟨worn.map, congrArg (·.content) worn.nand, worn.flash⟩
  · intro s
    obtain ⟨l, run⟩ := exec_indicatorUpdate s
    obtain ⟨ew, retry, loss⟩ := rget_hourIndicators s
    have indicators := hourIndicators_showsOnly s
    have figures : ShowsOnly hourFields (s.hourIndicators.newHour l) _ := (wearStat_showsOnly _).trans (spareCheck_showsOnly _)
    have shown : ∀ f ∈ hourFields, rget _ f = s.hourIndicators.rget f := fun f h => (figures.rget h).trans (rget_newHour _ l f)
    obtain ⟨_, media⟩ := figures.media
    refine ⟨_, run, (shown _ (by simp [hourFields])).trans ew, (shown _ (by simp [hourFields])).trans retry, (shown _ (by simp [hourFields])).trans loss, ?_⟩
    rw [figures.map, figures.nand, figures.flash, map_newHour, nand_newHour, flash_newHour, indicators.map, indicators.nand, indicators.flash, media]
    exact ⟨rfl, rfl, rfl, rfl, rfl, rfl, rfl, rfl⟩

end Sys2Proof.Proofs
end
